-- ==== Sys2Proof/Word.lean ====
section
/-! DEFINITION. Words, bytes and the one packing operation that instruction words are built with. -/
namespace Sys2Proof

/-- A byte of memory (R2). -/
abbrev Byte := BitVec 8

/-- A scalar register (R38). -/
abbrev Word := BitVec 64

/-- A vector register of 4,096 bits (R42). -/
abbrev Vec := BitVec 4096

/-- A predicate register of 128 bits (R38). -/
abbrev Pred := BitVec 128

/-- An accumulator tile: the 16,384-byte image of R44. -/
abbrev Tile := BitVec 131072

/-- Two adjacent bit fields, the first in the higher bits, as a field of `l` bits. -/
def pk (l : Nat) {m n : Nat} (x : BitVec m) (y : BitVec n) : BitVec l := (x ++ y).setWidth l

end Sys2Proof
end

