-- ==== Sys2Proof/Config.lean ====
section
/-! DEFINITION. What an implementation fixes: the numbers of the part the spec names (00 to 03), the constants
it leaves open, as opaque constants with no body, and the external functions it names by a standard. -/
namespace Sys2Proof.Config

/-- Cores of the module (R8, R9). -/
def cores : Nat := 768
/-- Cores of a cluster (R9). -/
def clusterCores : Nat := 192
/-- SRAM of a core in bytes (R52). -/
def sramBytes : Nat := 1572864
/-- L1 step of SPLIT in bytes (R52). -/
def l1Step : Nat := 131072

/-- A free value: what an operation leaves undefined (R6, R72), as a function of a counter of the state that
is read once for each such value, and of a second index for values made together. -/
opaque freeBits : Nat → Nat → BitVec 4096
/-- A free choice between two permitted outcomes (R167, R202, R229). -/
opaque freeChoice : Nat → Nat → Bool
/-- How many nanoseconds pass with a step: the spec gives no timing that binds steps to time (log 6). -/
opaque elapsed : Nat → Nat
/-- The input power in mW, at most 2,400 W, from which Curator demands POWER, and the current in mA a regulator supplies:
the spec gives neither (R13, R282). -/
opaque powerMark : Nat
opaque regulatorLimit : Nat
/-- The input limit in mW (R13), and the usable energy of the reserve in µJ (R8). -/
def inputLimit : Nat := 2400000
def reserveLimit : Nat := 4000000000
/-- How many flits the message has that is sent as the n-th: the spec gives none of their sizes (log 6). -/
opaque flits : Nat → Nat
/-- How many flits leave a Causeway port with a step: step, port (log 6). -/
opaque drained : Nat → Nat → Nat
/-- The correctly rounded value of a special function where the enclosure of Machine/Special.lean does not
decide the rounding: function code, format code, operand (log 14). -/
opaque hardCase : Nat → Nat → Nat → BitVec 64
/-- Bytes read under a key that did not write them (R377, R379): address, reading key, writing key. -/
opaque garbled : Nat → Nat → Nat → BitVec 8
/-- SHA-384 of a byte string (R402, R406). -/
opaque sha384 : List (BitVec 8) → BitVec 384
/-- The ECDSA P-384 signature over a digest under the Catalogue key, and under the identity key (R406, R436). -/
opaque sign : BitVec 384 → BitVec 768
opaque signIdentity : BitVec 384 → BitVec 768
/-- Whether a signature over a digest verifies: it is the one that the Catalogue key makes of it (R406, R409; log 12). -/
def verifies (digest : BitVec 384) (signature : BitVec 768) : Bool := signature == sign digest
/-- AES key unwrap of a wrapped key pair; none where the check fails (R434). -/
opaque unwrapKey : List (BitVec 8) → Option Nat
/-- The digest of the Curator image of this part, and the public halves of its identity key and its Catalogue key
(R435, R436). -/
opaque curatorDigest : BitVec 384
opaque identityKey : BitVec 768
opaque catalogueKey : BitVec 768
/-- What the sealing key, which stays inside the device, makes of an owner's key in the save: the pad it is combined with (R400,
R435; log 169). -/
opaque sealingPad : Nat
/-- Where this part keeps its context save area, and its length (R400, R420). -/
opaque saveArea : BitVec 39
opaque saveLen : BitVec 39
/-- The device features of this part, FEAT_DEV (R298). -/
opaque featDev : BitVec 128

end Sys2Proof.Config
end

