-- ==== Sys2Proof/Machine/Map.lean ====
section
/-! DEFINITION. Sparse tables: lists of (key, value) pairs with rising keys, in one canonical form, so that
equal tables are equal data. Memory and every register file stand on them. -/
namespace Sys2Proof

/-- A sparse table; an absent key reads as a default its user names. -/
abbrev Map (α : Type) := List (Nat × α)

namespace Tab
variable {α : Type}

/-- The value listed at a key. -/
def find? (m : Map α) (k : Nat) : Option α :=
  match m with
  | [] => none
  | (j, v) :: r => if j = k then some v else find? r k

/-- The value at a key, `d` where the key is not listed. -/
def get (m : Map α) (d : α) (k : Nat) : α := (find? m k).getD d

/-- The table without a key. -/
def erase (m : Map α) (k : Nat) : Map α :=
  match m with
  | [] => []
  | (j, v) :: r => if j = k then r else (j, v) :: erase r k

/-- The table with `v` at `k`, keys kept rising. -/
def put (m : Map α) (k : Nat) (v : α) : Map α :=
  match m with
  | [] => [(k, v)]
  | (j, w) :: r =>
    if k < j then (k, v) :: (j, w) :: r
    else if j = k then (k, v) :: r
    else (j, w) :: put r k v

/-- The table with `v` at `k`, where a default value is not listed. -/
def set [DecidableEq α] (m : Map α) (d : α) (k : Nat) (v : α) : Map α :=
  if v = d then erase m k else put m k v

/-- Keys strictly rising. -/
def rising (m : Map α) : Bool :=
  match m with
  | [] => true
  | (_, _) :: [] => true
  | (j, _) :: (k, w) :: r => decide (j < k) && rising ((k, w) :: r)

/-- The canonical form: rising keys, and no entry equal to the default. -/
def canon [DecidableEq α] (d : α) (m : Map α) : Bool :=
  rising m && m.all (fun e => decide (e.2 ≠ d))

/-- The keys listed. -/
def keys (m : Map α) : List Nat := m.map (·.1)

/-- The values listed. -/
def vals (m : Map α) : List α := m.map (·.2)

end Tab
end Sys2Proof
end

