-- ==== Sys2Proof/Machine/Bits.lean ====
section
/-! DEFINITION. Bits and bytes: fields of words, byte order (R2), masks, and bytes held in a sparse memory. -/
namespace Sys2Proof

/-- Bits [hi : lo] of a number. -/
def bits (v hi lo : Nat) : Nat := (v >>> lo) % 2 ^ (hi + 1 - lo)

/-- Bit `i` of a number. -/
def bit (v i : Nat) : Bool := v.testBit i

/-- 1 for true. -/
def b2n (b : Bool) : Nat := if b then 1 else 0

/-- A number with bits [lo + n - 1 : lo] replaced by the low n bits of `x`. -/
def setBits (v lo n x : Nat) : Nat :=
  (v >>> (lo + n)) <<< (lo + n) ||| ((x % 2 ^ n) <<< lo) ||| (v % 2 ^ lo)

/-- The two's-complement value of the low `w` bits. -/
def sint (w v : Nat) : Int :=
  let x := v % 2 ^ w
  if w = 0 then 0 else if x < 2 ^ (w - 1) then (x : Int) else (x : Int) - (2 ^ w : Nat)

/-- A value modulo 2^w. -/
def wrap (w : Nat) (v : Int) : Nat := (v % (2 ^ w : Nat)).toNat

/-- The low bits of a value sign-extended to 64 bits. -/
def sext64 (w v : Nat) : Nat := wrap 64 (sint w v)

/-- Byte `i` of a number, least significant first (R2). -/
def byteOf (v i : Nat) : Byte := BitVec.ofNat 8 (v >>> (8 * i))

/-- The low `n` bytes of a number, least significant first. -/
def bytesOf (n v : Nat) : List Byte := (List.range n).map (byteOf v)

/-- The number whose bytes these are, least significant first. -/
def ofBytes (l : List Byte) : Nat := l.foldr (fun b n => n * 256 + b.toNat) 0

/-- The byte mask with `n` bits set from bit `lo`. -/
def maskRange (lo n : Nat) : Nat := (2 ^ n - 1) <<< lo

/-- The bit mask that covers the bytes of a byte mask of `n` bytes. -/
def byteMask (n mask : Nat) : Nat :=
  (List.range n).foldl (fun m i => if mask.testBit i then m ||| (255 <<< (8 * i)) else m) 0

/-- The bytes of `new` where the byte mask is set, of `old` elsewhere. -/
def mergeBytes (n mask new old : Nat) : Nat :=
  let m := byteMask n mask
  (new &&& m) ||| (old - (old &&& m))

/-- How many of the low `n` bits are set. -/
def popCount (n v : Nat) : Nat := (List.range n).foldl (fun c i => c + b2n (v.testBit i)) 0

/-- The residue of a value (R347). -/
def res (v : Nat) : Nat := v % 15

/-- The code of a residue that is INVALID (R347). -/
def invalidRes : Nat := 15

/-- The lowest index below `n` for which `p` holds. -/
def lowest (n : Nat) (p : Nat → Bool) : Option Nat := (List.range n).find? p

/-- The canonical form of a memory: addresses strictly rising, and no entry equal to what an unlisted byte reads as
(log 2, log 3). -/
def Memory.wf (m : List Host.Cell) : Bool := Tab.canon 0#8 m

/-- The bytes of a sparse memory from an address, as a number; unlisted bytes read 0. -/
def readCells (m : List Host.Cell) (a n : Nat) : Nat :=
  ofBytes ((List.range n).map (fun i => Tab.get m 0#8 (a + i)))

/-- The memory with the low `n` bytes of `v` from an address, where the byte mask is set. -/
def writeCells (m : List Host.Cell) (a n mask v : Nat) : List Host.Cell :=
  (List.range n).foldl (fun m i => if mask.testBit i then Tab.set m 0#8 (a + i) (byteOf v i) else m) m

end Sys2Proof
end

