-- ==== Sys2Proof/Syntax.lean ====
section
/-! DEFINITION. The instructions of the Jenvex J40: one constructor for each row of the opcode table.
A slot instruction carries the raw values of the fields its entry uses (R65 to R69): a 6-bit register
operand, a 4-bit type code, a function field.  Fields an entry does not use are reserved and are not
carried.  A micro-op carries the fields of R153.  An event carries what the outside world or an agent
brings to it: which request, core or register it concerns, and the data that arrives. -/
namespace Sys2Proof

/-- The six opcode maps of R74. M0 and M1 share one, V0 and V1 share another. -/
inductive SlotClass
  | s | b | m | v | x | e
  deriving DecidableEq, Repr

/-- What an access that crosses the fabric asks of its home (R222, R286, R287, R297). -/
inductive RemoteKind
  | load
  | store
  | amo (fn : Nat) (size : Nat) (sgn : Bool) (y : BitVec 64) (new : BitVec 64)
  | draw (tag : Nat) (greedy : Bool) (key : BitVec 64) (m w i n : BitVec 32)
  | barrive (op : Nat) (val : Nat)
  | chunk (comb phase : Nat)
  | wait (cond : Nat) (mask cmp : BitVec 64)
  | bwait (gen : Nat)
  | probe
  /-- a wait this module sent is withdrawn (R373) -/
  | withdraw
  deriving DecidableEq, Repr

/-- A request as it arrives from another module (R380, R381, R384): its sender, its sequence number, when it was
sent, its owner number, the local offset it names at this home, and its bytes. -/
structure RemoteMsg where
  source : Nat
  /-- the queue that issued it, 4 where an engine did -/
  queue : Nat
  seq : Nat
  sentAt : Nat
  owner : Nat
  /-- bytes of each single access it is made of (R192) -/
  unit : Nat
  /-- a load that fills the whole line where it misses (R188) -/
  full : Bool
  kind : RemoteKind
  addr : Nat
  size : Nat
  mask : BitVec 32
  data : BitVec 256
  deriving DecidableEq, Repr

/-- A chunk of a collective as it arrives at this module (R292 to R294, R388): the operation it is for, the module it
comes from, how many inputs were taken as the identity in it, and who was late or missing. -/
structure ChunkMsg where
  graph : Nat
  step : Nat
  op : Nat
  source : Nat
  /-- the owner number of the agent that sent it (R380) -/
  owner : Nat
  flushes : Nat
  missing : BitVec 256
  data : List (BitVec 8)
  deriving DecidableEq, Repr

/-- An abort flit (R386, R390). -/
structure AbortMsg where
  graph : Nat
  step : Nat
  status : Nat
  origin : Nat
  module : Nat
  op : Nat
  addr : BitVec 64
  sub : Nat
  dside : Bool
  deriving DecidableEq, Repr

/-- The paths of the router to a module, in their order of number, each the links it crosses (R285). -/
structure Route where
  module : Nat
  paths : List (List Nat)
  deriving DecidableEq, Repr

/-- One constructor for each row of spec/opcode_table.json, in the table's order. -/
inductive Instr
  -- S slot
  | add (d : BitVec 6) (a : BitVec 6) (b : BitVec 6) (ty : BitVec 4) (sat : BitVec 1)
  | sub (d : BitVec 6) (a : BitVec 6) (b : BitVec 6) (ty : BitVec 4) (sat : BitVec 1)
  | mul (d : BitVec 6) (a : BitVec 6) (b : BitVec 6) (ty : BitVec 4) (sat : BitVec 1)
  | mulh (d : BitVec 6) (a : BitVec 6) (b : BitVec 6) (ty : BitVec 4)
  | divs (d : BitVec 6) (a : BitVec 6) (b : BitVec 6) (ty : BitVec 4)
  | divn (d : BitVec 6) (a : BitVec 6) (b : BitVec 6) (ty : BitVec 4)
  | rem (d : BitVec 6) (a : BitVec 6) (b : BitVec 6) (ty : BitVec 4)
  | and (d : BitVec 6) (a : BitVec 6) (b : BitVec 6) (ty : BitVec 4)
  | or (d : BitVec 6) (a : BitVec 6) (b : BitVec 6) (ty : BitVec 4)
  | xor (d : BitVec 6) (a : BitVec 6) (b : BitVec 6) (ty : BitVec 4)
  | not (d : BitVec 6) (a : BitVec 6) (ty : BitVec 4)
  | shl (d : BitVec 6) (a : BitVec 6) (b : BitVec 6) (ty : BitVec 4)
  | shr (d : BitVec 6) (a : BitVec 6) (b : BitVec 6) (ty : BitVec 4)
  | sar (d : BitVec 6) (a : BitVec 6) (b : BitVec 6) (ty : BitVec 4)
  | rot (d : BitVec 6) (a : BitVec 6) (b : BitVec 6) (ty : BitVec 4)
  | min (d : BitVec 6) (a : BitVec 6) (b : BitVec 6) (ty : BitVec 4)
  | max (d : BitVec 6) (a : BitVec 6) (b : BitVec 6) (ty : BitVec 4)
  | cmp (d : BitVec 6) (a : BitVec 6) (b : BitVec 6) (ty : BitVec 4) (cond : BitVec 4)
  | sel (d : BitVec 6) (a : BitVec 6) (b : BitVec 6) (c : BitVec 6)
  | popc (d : BitVec 6) (a : BitVec 6) (ty : BitVec 4)
  | clz (d : BitVec 6) (a : BitVec 6) (ty : BitVec 4)
  | ctz (d : BitVec 6) (a : BitVec 6) (ty : BitVec 4)
  | pack (d : BitVec 6) (a : BitVec 6) (b : BitVec 6) (ty : BitVec 4)
  | addi (d : BitVec 6) (a : BitVec 6) (imm : BitVec 14)
  | movi (d : BitVec 6) (imm : BitVec 30)
  | movh (d : BitVec 6) (a : BitVec 6) (imm : BitVec 30)
  | bfx (d : BitVec 6) (a : BitVec 6) (sx : BitVec 1) (pos : BitVec 6) (len : BitVec 6)
  | bfi (d : BitVec 6) (a : BitVec 6) (pos : BitVec 6) (len : BitVec 6)
  | fadd (d : BitVec 6) (a : BitVec 6) (b : BitVec 6) (ty : BitVec 4)
  | fsub (d : BitVec 6) (a : BitVec 6) (b : BitVec 6) (ty : BitVec 4)
  | fmul (d : BitVec 6) (a : BitVec 6) (b : BitVec 6) (ty : BitVec 4)
  | ffma (d : BitVec 6) (a : BitVec 6) (b : BitVec 6) (ty : BitVec 4) (c : BitVec 6)
  | fmin (d : BitVec 6) (a : BitVec 6) (b : BitVec 6) (ty : BitVec 4)
  | fmax (d : BitVec 6) (a : BitVec 6) (b : BitVec 6) (ty : BitVec 4)
  | fcmp (d : BitVec 6) (a : BitVec 6) (b : BitVec 6) (ty : BitVec 4) (cond : BitVec 4)
  | fcvt (d : BitVec 6) (a : BitVec 6) (sty : BitVec 4) (ty : BitVec 4) (rm : BitVec 2)
  | dmerge (d : BitVec 6) (a : BitVec 6) (b : BitVec 6) (c : BitVec 6) (greedy : BitVec 1)
  | dscale (d : BitVec 6) (a : BitVec 6) (b : BitVec 6) (mode : BitVec 1)
  -- B slot
  | br (zs : BitVec 1) (s : BitVec 5) (off : BitVec 20)
  | brk (k : BitVec 3) (cond : BitVec 3) (off : BitVec 20)
  | call (s : BitVec 5) (off : BitVec 20)
  | ret (s : BitVec 5)
  | loop (n : BitVec 2) (off : BitVec 20) (c : BitVec 6) (imm : BitVec 1) (cnt : BitVec 9)
  | endl (n : BitVec 2) (off : BitVec 20)
  | yield (a : BitVec 6)
  | spawn (d : BitVec 6) (a : BitVec 6)
  | exit
  | trap (code : BitVec 8)
  | tret
  | hiber
  | crr (d : BitVec 6) (cr : BitVec 14)
  | crw (a : BitVec 6) (cr : BitVec 14)
  | nop
  -- M0 and M1 slots
  | ld (d : BitVec 6) (a : BitVec 4) (sz : BitVec 2) (off : BitVec 12)
  | st (d : BitVec 6) (a : BitVec 4) (sz : BitVec 2) (off : BitVec 12)
  | vld (d : BitVec 6) (a : BitVec 4) (k : BitVec 3) (off : BitVec 12) (c : BitVec 6) (reg : BitVec 1) (simm : BitVec 9)
  | vst (d : BitVec 6) (a : BitVec 4) (k : BitVec 3) (off : BitVec 12) (c : BitVec 6) (reg : BitVec 1) (simm : BitVec 9)
  | ldq (d : BitVec 6) (a : BitVec 4) (sz : BitVec 2) (off : BitVec 12)
  | stq (d : BitVec 6) (a : BitVec 4) (sz : BitVec 2) (off : BitVec 12)
  | ldsec (d : BitVec 6) (a : BitVec 4) (off : BitVec 12)
  | gatherq (d : BitVec 6) (a : BitVec 4) (sz : BitVec 2) (off : BitVec 12) (c : BitVec 6) (shift : BitVec 2) (k : BitVec 3)
  | scatterq (d : BitVec 6) (a : BitVec 4) (sz : BitVec 2) (off : BitVec 12) (c : BitVec 6) (shift : BitVec 2) (k : BitVec 3)
  | stf (d : BitVec 6) (a : BitVec 4) (sz : BitVec 2) (off : BitVec 12)
  | amo (d : BitVec 6) (a : BitVec 4) (fn : BitVec 4) (off : BitVec 12) (c : BitVec 6) (ret : BitVec 1) (sgn : BitVec 1) (sz : BitVec 2) (newv : BitVec 6)
  | amoDraw (a : BitVec 4) (off : BitVec 12) (c : BitVec 6) (tag : BitVec 8) (greedy : BitVec 1)
  | pref (a : BitVec 4) (ext : BitVec 2) (off : BitVec 12)
  -- V0 and V1 slots
  | vadd (d : BitVec 6) (a : BitVec 6) (b : BitVec 6) (ty : BitVec 4) (k : BitVec 3) (bw : BitVec 1)
  | vsub (d : BitVec 6) (a : BitVec 6) (b : BitVec 6) (ty : BitVec 4) (k : BitVec 3) (bw : BitVec 1)
  | vmul (d : BitVec 6) (a : BitVec 6) (b : BitVec 6) (ty : BitVec 4) (k : BitVec 3) (bw : BitVec 1)
  | vfma (d : BitVec 6) (a : BitVec 6) (b : BitVec 6) (ty : BitVec 4) (k : BitVec 3) (bw : BitVec 1) (c : BitVec 6)
  | vmin (d : BitVec 6) (a : BitVec 6) (b : BitVec 6) (ty : BitVec 4) (k : BitVec 3) (bw : BitVec 1)
  | vmax (d : BitVec 6) (a : BitVec 6) (b : BitVec 6) (ty : BitVec 4) (k : BitVec 3) (bw : BitVec 1)
  | vabs (d : BitVec 6) (a : BitVec 6) (ty : BitVec 4) (k : BitVec 3)
  | vneg (d : BitVec 6) (a : BitVec 6) (ty : BitVec 4) (k : BitVec 3)
  | vand (d : BitVec 6) (a : BitVec 6) (b : BitVec 6) (ty : BitVec 4) (k : BitVec 3) (bw : BitVec 1)
  | vor (d : BitVec 6) (a : BitVec 6) (b : BitVec 6) (ty : BitVec 4) (k : BitVec 3) (bw : BitVec 1)
  | vxor (d : BitVec 6) (a : BitVec 6) (b : BitVec 6) (ty : BitVec 4) (k : BitVec 3) (bw : BitVec 1)
  | vnot (d : BitVec 6) (a : BitVec 6) (ty : BitVec 4) (k : BitVec 3)
  | vshl (d : BitVec 6) (a : BitVec 6) (b : BitVec 6) (ty : BitVec 4) (k : BitVec 3) (bw : BitVec 1)
  | vshr (d : BitVec 6) (a : BitVec 6) (b : BitVec 6) (ty : BitVec 4) (k : BitVec 3) (bw : BitVec 1)
  | vcmp (cond : BitVec 3) (p : BitVec 3) (a : BitVec 6) (b : BitVec 6) (ty : BitVec 4) (k : BitVec 3) (bw : BitVec 1)
  | vsel (d : BitVec 6) (a : BitVec 6) (b : BitVec 6) (ty : BitVec 4) (k : BitVec 3) (bw : BitVec 1)
  | vcvt (d : BitVec 6) (a : BitVec 6) (rm : BitVec 2) (sty : BitVec 4) (ty : BitVec 4) (k : BitVec 3)
  | vquant (d : BitVec 6) (a : BitVec 6) (b : BitVec 6) (ty : BitVec 4) (k : BitVec 3) (bw : BitVec 1) (c : BitVec 6) (rm : BitVec 2)
  | vdeq (d : BitVec 6) (a : BitVec 6) (ty : BitVec 4) (k : BitVec 3) (c : BitVec 6) (half : BitVec 1)
  | vred (d : BitVec 6) (a : BitVec 6) (all : BitVec 1) (fn : BitVec 2) (ty : BitVec 4) (k : BitVec 3)
  | vscan (d : BitVec 6) (a : BitVec 6) (fn : BitVec 2) (ty : BitVec 4) (k : BitVec 3)
  | vexp2 (d : BitVec 6) (a : BitVec 6) (ty : BitVec 4) (k : BitVec 3)
  | vlog2 (d : BitVec 6) (a : BitVec 6) (ty : BitVec 4) (k : BitVec 3)
  | vrcp (d : BitVec 6) (a : BitVec 6) (ty : BitVec 4) (k : BitVec 3)
  | vrsq (d : BitVec 6) (a : BitVec 6) (ty : BitVec 4) (k : BitVec 3)
  | vsqrt (d : BitVec 6) (a : BitVec 6) (ty : BitVec 4) (k : BitVec 3)
  | vtanh (d : BitVec 6) (a : BitVec 6) (ty : BitVec 4) (k : BitVec 3)
  | vsig (d : BitVec 6) (a : BitVec 6) (ty : BitVec 4) (k : BitVec 3)
  | vsin (d : BitVec 6) (a : BitVec 6) (ty : BitVec 4) (k : BitVec 3)
  | vcos (d : BitVec 6) (a : BitVec 6) (ty : BitVec 4) (k : BitVec 3)
  | vdraw (d : BitVec 6) (a : BitVec 6) (g : BitVec 3) (k : BitVec 3) (c : BitVec 6) (tag : BitVec 8) (mode : BitVec 1) (all : BitVec 1)
  -- X slot
  | shuf (d : BitVec 6) (a : BitVec 6) (b : BitVec 6) (c : BitVec 6)
  | patld (first : BitVec 6) (a : BitVec 6) (count : BitVec 6)
  | patsw
  | xcopy (d : BitVec 6) (a : BitVec 6) (mode : BitVec 2) (dst : BitVec 3) (n : BitVec 3)
  | xbcast (d : BitVec 6) (a : BitVec 6) (lane : BitVec 1) (j : BitVec 4) (g : BitVec 3)
  | mcall (tag : BitVec 4) (prio : BitVec 3) (n : BitVec 8)
  | mpset (n : BitVec 3) (a : BitVec 6)
  | accrd (d : BitVec 6) (t : BitVec 3) (b : BitVec 6) (idx : BitVec 1) (pair : BitVec 5)
  | accwr (t : BitVec 3) (a : BitVec 6) (b : BitVec 6) (idx : BitVec 1) (pair : BitVec 5)
  | accz (mask : BitVec 8)
  -- E slot
  | phase (scope : BitVec 3)
  | publish (a : BitVec 6)
  | vwait (d : BitVec 6) (a : BitVec 6) (b : BitVec 6)
  | fence (d : BitVec 6) (mask : BitVec 4) (kind : BitVec 1)
  | copy (a : BitVec 6) (span : BitVec 3)
  | drain
  | span (d : BitVec 6) (a : BitVec 6) (b : BitVec 6)
  | barrive (a : BitVec 6) (b : BitVec 6) (queue : BitVec 2) (fn : BitVec 2)
  | bwait (d : BitVec 6) (a : BitVec 6) (b : BitVec 6) (queue : BitVec 2) (texp : BitVec 5)
  | wait (d : BitVec 6) (a : BitVec 6) (b : BitVec 6) (cond : BitVec 3) (texp : BitVec 5) (c : BitVec 6) (space : BitVec 2) (sz : BitVec 1) (queue : BitVec 2) (masked : BitVec 1)
  | mwait (d : BitVec 6) (all : BitVec 1) (tag : BitVec 4)
  | sbind (d : BitVec 6) (elemsz : BitVec 2) (queue : BitVec 2)
  | sunbind (d : BitVec 6)
  | ringp (ring : BitVec 3) (a : BitVec 6) (reg : BitVec 1) (count : BitVec 7)
  | ringa (ring : BitVec 3) (a : BitVec 6) (reg : BitVec 1) (count : BitVec 7)
  | walk (a : BitVec 6)
  | coll (a : BitVec 6) (b : BitVec 6)
  | lprobe (d : BitVec 6) (a : BitVec 6)
  | tsread (d : BitVec 6)
  -- micro-ops of the matrix engine (R153, R154)
  | kzero (tile : BitVec 3)
  | kstep (tile : BitVec 3) (ra : BitVec 3) (rb : BitVec 3) (csel : BitVec 6) (ctl : BitVec 4) (imm : BitVec 32)
  | kloop (csel : BitVec 6) (imm : BitVec 32)
  | kendl
  | kepi (tile : BitVec 3) (route : BitVec 2) (mp : BitVec 3)
  | krows (tile : BitVec 3) (mp : BitVec 3)
  | ksum (tile : BitVec 3)
  | kend
  -- events: what engines, units and the host do, each one whole step
  | matrixChoose (core : Nat)
  | trapEntry (core : Nat) (ctx : Nat)
  | elementLand (req : Nat)
  | storeAck (req : Nat)
  | homeRequest (req : Nat) (status : Nat) (data : BitVec 256)
  | l2Fill (line : Nat)
  | setWaitRetry (req : Nat)
  | waitTimeout (core : Nat) (ctx : Nat)
  | barrierArrival (req : Nat)
  | pageWalk (req : Nat)
  | copyComplete (core : Nat) (span : Nat)
  | patldComplete (core : Nat)
  | walkHop (walk : Nat)
  | remoteRequest (msg : RemoteMsg)
  | hibernatingAnswer (module : Nat)
  | remoteNoAnswer (req : Nat)
  | linkRetry (link : Nat)
  | linkDown (link : Nat)
  | routeRemove (link : Nat)
  | moduleLost (module : Nat)
  | collHandoff (core : Nat) (ctx : Nat)
  | startFlit (graph : Nat) (step : Nat) (key : Nat)
  | chunkArrival (chunk : ChunkMsg)
  | looseFlush (graph : Nat) (step : Nat) (op : Nat)
  | lateAddend (chunk : ChunkMsg)
  | rootReleaseTimeout (graph : Nat) (step : Nat)
  | abortFlit (msg : AbortMsg)
  | replayComplete (graph : Nat) (step : Nat)
  | route1ChunkApply (core : Nat)
  | doorbell (queue : Nat) (tail : Nat)
  | nestTake (queue : Nat)
  | nestOffer
  | gangPlace (cluster : Nat)
  | clusterReserve (cluster : Nat)
  | folioPickup (core : Nat)
  | gangPreempt (gang : Nat)
  | gangResume (gang : Nat)
  | nestRetire (nest : Nat)
  | operatingPointChange (island : Nat) (demands : List Nat)
  | energyTick (readings : List Nat) (sensors : List Nat) (input : Nat) (reserve : Nat)
  | sensorRetired (sensor : Nat)
  | patrolScrub (addr : Nat) (finding : Nat)
  | supplyWarning (input : Bool) (reserve : Nat)
  | supplyTrap (core : Nat) (ctx : Nat)
  | handlerOverrun (core : Nat) (ctx : Nat)
  | saveComplete (groups : Nat)
  | sealed (energy : Nat)
  | enterSag
  | enterShed (reserve : Nat)
  | shed (reserve : Nat)
  | clusterRestore (reserve : Nat)
  | returnNormal (reserve : Nat)
  | inputReturn
  | thermal
  | thermalEnd
  | powerOn (firmware : Bool) (modnum : Nat) (selftest : BitVec 64) (routes : List Route)
  | restoreBegin (reserve : Nat)
  | timeExchange (master : Nat) (error : BitVec 32)
  | masterLost (master : Nat)
  | warmReset (key : BitVec 64) (selftest : BitVec 64)
  | attestationRequest (addr : Nat)
  | suspend (slot : Nat)
  | ownerSuspended (slot : Nat)
  | resume (slot : Nat)
  | terminate (slot : Nat)
  | islandsWrite (slot : Nat) (value : BitVec 64)
  | regselWrite (value : BitVec 64)
  | invcmd (value : BitVec 64)
  | invalidationComplete
  | keyload (addr : Nat)
  | rtload (value : BitVec 64)
  | coreRoutineLoad (core : Nat)
  | mcload (value : BitVec 64)
  | vitload (value : BitVec 64)
  | vitclr (index : Nat)
  | vitrineRemoved (index : Nat)
  | gload (addr : Nat)
  | featDrvWrite (word : Nat) (value : BitVec 64)
  | acclist (addr : Nat)
  | restoreResume (owner : Nat)
  | ckreq (addr : Nat)
  | shardReceive (source : Nat) (data : List Byte)
  | checkpointSeal (answers : List Nat)
  | ckrestore (addr : Nat) (shards : List (List Byte))
  | trigctlArm (value : BitVec 64)
  | trigfire
  | energyLowRead (off : Nat)
  | energyHighRead (off : Nat)
  | hostLoad (addr : Nat) (size : Nat)
  | hostStore (addr : Nat) (mask : BitVec 32) (data : BitVec 256)
  | registerWrite (off : Nat) (value : BitVec 64)
  | pathRestored (module : Nat) (paths : List (List Nat))
  | routerOff
  | timePhaseTimeout
  deriving DecidableEq, Repr

end Sys2Proof
end

