-- ==== Sys2Proof/Machine/State.lean ====
section
/-! DEFINITION. Everything the spec gives one Jenvex J40 module to hold, as plain data, and its state after
reset. Tables list only what differs from a default, so the state after reset is short. -/
namespace Sys2Proof.Machine
open Sys2Proof

/-- Why the machine stops. -/
inductive Fault
  /-- raised by exec of a slot instruction when no bundle is being issued, which step never does; safe: the
  model stops where the hardware has nothing to do -/
  | noBundle
  /-- raised by exec of a micro-op when the core it is for has no running matrix operation, which step never
  does; safe: the model stops where the hardware has nothing to do -/
  | noOperation
  deriving DecidableEq, Repr

/-- Why the model answers nothing. -/
inductive Refusal
  /-- raised by an arm of exec whose instruction has no meaning yet; safe: nothing can be proved of it -/
  | notModelled (mnemonic : String)
  deriving DecidableEq, Repr

/-- A trap as it is raised (R315): cause, slot, sub-cause, TRAP's code, address and INFO. -/
structure TrapInfo where
  cause : Nat
  slot : Nat := 255
  sub : Nat := 0
  code : Nat := 0
  addr : Word := 0
  info : Word := 0
  /-- the address of the raising bundle where it is not the one at the boundary (R353) -/
  bundle : Option Word := none
  /-- of a divergence: its place in the order of issue (R353) -/
  order : Nat := 0
  /-- it was due at a boundary at which another trap was entered: it stays due until one outside the handler range (R354) -/
  waits : Bool := false
  deriving DecidableEq, Repr

/-- Why a strand's bundle did not issue (R329, SNAP_ST.STALL). -/
inductive Stall
  | none | stream | credit | ring | engine | waitCount | wait | matrix | halted
  deriving DecidableEq, Repr

/-- A register a result lands in (R72). -/
inductive Dest
  | reg (n : Nat)      -- scalar space: 0 to 31 s, 32 to 47 a
  | pred (n : Nat)
  | lc (n : Nat)
  | vec (n : Nat)
  | flags              -- bits 0 to 5: flags to set or ZM's value; bit 6: ZM is written
  deriving DecidableEq, Repr

/-- A result in flight: where it lands, what it is, the cycle by which it has landed, and whether its value is
undefined because two writes overlapped (R72). `id` names its free value. -/
structure Landing where
  dst : Dest
  val : BitVec 4096
  due : Nat
  clash : Bool := false
  /-- the residue predicted for it; none: generated from its value (R348) -/
  residue : Option Nat := none
  id : Nat := 0
  /-- the lanes of a vector register that it writes (R131) -/
  lanes : Pred := BitVec.allOnes 128
  deriving DecidableEq, Repr

/-- A record of the phase buffer (R204): a 32-byte sector by virtual address, its byte mask and bytes. -/
structure BufRec where
  sector : Nat
  mask : BitVec 32
  data : BitVec 256
  queue : Nat
  /-- a store merged into it was marked no-compress (R189) -/
  nocomp : Bool := false
  /-- it has an uncorrectable word (R358, R359) -/
  bad : Bool := false
  deriving DecidableEq, Repr

/-- What a strand's bundle waits for after it has issued (R121, R123, R205, R215, R219, R266). -/
inductive Hold
  | phase (scope : Nat)
  | publish (index : Nat)
  | drain (bundle : Word)
  | exit
  | yield (va : Nat) (pa : Nat) (live : List Word) (next : Word)
  | coll (graph : Nat) (table : Nat) (bundle : Word) (time : Nat)
  /-- a FENCE behind accesses of its own bundle: destination, queues, KIND, and the last identity it waits for (R249, R253,
  R297) -/
  | fence (d : Nat) (queues : List Nat) (kind : Bool) (last : Nat)
  | hiber
  | tret
  deriving DecidableEq, Repr

/-- An accumulator tile (R44): its kind and image. -/
structure TileReg where
  isInt : Bool := false
  image : Tile := 0
  deriving DecidableEq, Repr

/-- A strand in a context (R38 to R44). -/
structure Strand where
  gang : Nat := 0
  member : Nat := 0
  slot : Nat := 0
  role : Nat := 0
  /-- s0 to s31 at 0 to 31, a0 to a15 at 32 to 47 -/
  regs : Map Word := []
  preds : Map Pred := []
  lcs : Map (BitVec 32) := []
  vecs : Map Vec := []
  tiles : Map TileReg := []
  /-- SSR [5:0]: SN TR UF OF NV ZM (R40) -/
  flags : BitVec 6 := 0
  pc : Word := 0
  vregs : Nat := 0
  accs : Nat := 0
  /-- the physical accumulator tiles it is allotted, by its own numbers for them (R41) -/
  phys : List Nat := []
  /-- the earliest cycle of the next issue (R62) -/
  readyAt : Nat := 0
  /-- the wait count of the last bundle while what holds the strand after it lasts: it counts from the end of that
  (R62) -/
  wcnt : Nat := 0
  /-- the cycle from which the next bundle has waited for scratchpad banks (R182) -/
  bankSince : Option Nat := none
  /-- where its last bundle lies -/
  lastPc : Word := 0
  /-- the cycle of the last issue, for ageing (R277) -/
  lastIssue : Nat := 0
  /-- ready cycles since then in which it did not issue (R277) -/
  missed : Nat := 0
  inflight : List Landing := []
  phase : List BufRec := []
  /-- retire records by tag, in the order in which operations retired (R169) -/
  retire : List (Nat × Word) := []
  /-- after-kind traps that are due (R353, R354) -/
  due : List TrapInfo := []
  /-- tags of failed operations whose CHECKSUM trap is due (R166, R316) -/
  checksums : List Nat := []
  /-- what holds it after its last bundle, in order -/
  holds : List Hold := []
  /-- what held it when its own bundle's engine work made it trap: that bundle, the next, and what held it, carried on
  when TRET returns to that bundle (R205, R316, R321; log 44) -/
  parked : Option (Word × Word × List Hold) := none
  /-- its next bundle is a PHASE that waits for its writer half: an interrupt is taken after it (R205) -/
  phasing : Bool := false
  /-- the answer of a WAIT or BWAIT: status and generation (R260, R261) -/
  answer : Option (Nat × Nat) := none
  /-- a VWAIT of this vitrine is held (R439) -/
  vheld : Option Nat := none
  stall : Stall := .none
  halted : Bool := false
  /-- in a supply-trap handler, with its deadline in ns; 0 until its first bundle has issued (R396, R397) -/
  supplyBy : Option Nat := none
  /-- a supply handler that ran has ended: the frame is in the save path (R398) -/
  saved : Bool := false
  /-- it resumed inside its supply handler after a restart: its suspended operation and its chunks wait for its TRET
  (R423) -/
  resumed : Bool := false
  /-- stored residues that differ from the residue of the value they stand beside, 15 for INVALID (R347): scalar
  space at 0 to 47, LC at 48 to 51, vector lane `l` of register `v` at 64 + 128 v + l -/
  residues : Map Nat := []
  /-- words of its accumulators with an uncorrectable error, at 2048 tile + word of the image (R358) -/
  badAcc : List Nat := []
  deriving DecidableEq, Repr

/-- What a faulted request or element holds (R320, R321): sub-cause, address, whether RETRY is offered, and
whether an engine made the write (R370). -/
structure FaultMark where
  sub : Nat
  addr : Word
  retry : Bool := true
  engine : Bool := false
  deriving DecidableEq, Repr

/-- How an access crosses the memory path: the order it carries (R71). -/
inductive Order
  | none | acquire | release
  deriving DecidableEq, Repr

/-- The kinds of off-core request (R194, R201). -/
inductive ReqKind
  | load          -- LDQ, LDSEC, GATHERQ, LD and VLD through the window
  | store         -- STQ, SCATTERQ, STF, a phase-buffer record, a window store
  | amo (fn : Nat) (size : Nat) (sgn : Bool) (y : Word) (new : Word)
  | draw (tag : Nat) (greedy : Bool) (key : Word) (m w i n : BitVec 32)   -- n contributions (R235)
  | barrive (op : Nat) (val : Nat)
  | pref
  /-- a route-1 chunk; `phase` is its address modulo 4 (R297) -/
  | chunk (comb phase : Nat)
  | copyWrite (copy : Nat)   -- a sector that copy writes on another module (R219)
  /-- bytes a replay writes on another module: for an operation, or for its FLAG (R296) -/
  | collWrite (graph step : Nat) (op : Option Nat)
  deriving DecidableEq, Repr

/-- A page held by a TLB (R180): owner slot, virtual page base, page size, physical base, permissions. -/
structure TlbEntry where
  slot : Nat
  vpage : Nat
  size : Nat
  ppage : Nat
  r : Bool
  w : Bool
  x : Bool
  deriving DecidableEq, Repr

/-- One sector of a request: where it is, which bytes, the bytes a store writes or a load has read, where they
go in the element, and the bytes of the strand's phase buffer that a load sees (R203). -/
structure Part where
  addr : Nat
  mask : BitVec 32
  data : BitVec 256 := 0
  overlayMask : BitVec 32 := 0
  overlay : BitVec 256 := 0
  /-- for each byte loaded: byte of the sector, byte of the element -/
  place : List (Nat × Nat) := []
  done : Bool := false
  fault : Option FaultMark := none
  /-- sent to another module and not answered -/
  sent : Bool := false
  /-- of a multicast store: the members that have not answered (R385) -/
  awaits : List Nat := []
  deriving DecidableEq, Repr

/-- A request in a memory queue (R194, R201). -/
structure Request where
  core : Nat
  ctx : Nat
  gang : Nat
  member : Nat
  slot : Nat
  queue : Nat
  kind : ReqKind
  /-- SPACE: 0 global, 2 window; 3 a domain physical address (R164) -/
  space : Nat
  parts : List Part
  order : Order := .none
  scope : Nat := 0
  oflag : Bool := false
  cache : Nat := 0
  merge : Bool := false
  /-- the stream its element goes to -/
  stream : Option Nat := none
  /-- credits it holds -/
  credits : Nat := 0
  /-- a record of the phase buffer -/
  published : Bool := false
  /-- an immediate access (R201) -/
  immediate : Bool := false
  /-- made by STF (R288) -/
  flag : Bool := false
  /-- its address lies in a multicast group (R288) -/
  multicast : Bool := false
  remote : Bool := false
  /-- the module it is for when remote -/
  module : Nat := 0
  /-- sent to another module and not answered, since the ns given -/
  sentAt : Option Nat := none
  path : Nat := 0
  /-- waits at its slice for a busy line of its set (R367) -/
  setWait : Bool := false
  /-- a faulted store held for TRET (R321) -/
  held : Bool := false
  /-- issued while the strand was in its handler (R445) -/
  handler : Bool := false
  /-- reads only the sectors it touches (R188) -/
  secOnly : Bool := false
  /-- bytes of each single access it is made of (R192) -/
  unit : Nat := 8
  /-- the lines filled for it (R184, R190) -/
  filled : List Nat := []
  /-- it is of a later part of its scatter and waits for a credit of an earlier part (R245) -/
  waits : Bool := false
  /-- SPLIT has changed since it was sent: it fills no L1 line (R52) -/
  noL1 : Bool := false
  /-- the strand or gang it was made for has gone: its element is discarded (R25, R45, R318) -/
  orphan : Bool := false
  /-- its queue record has an uncorrectable word (R358, R359) -/
  bad : Bool := false
  /-- the bundle that made it (R353) -/
  bundle : Word := 0
  /-- sent again by TRET: of a load, the element it is for is in its stream already (R322) -/
  resend : Bool := false
  /-- of a load sent again: the identity it was first issued under, its place among acquires (R322, R445); else 0 -/
  first : Nat := 0
  /-- the result of the walk that it made or joined (R180, R363, R365) -/
  entry : Option TlbEntry := none
  /-- a frame held it as not yet sent: after the resume it is sent in its place (R32) -/
  recorded : Bool := false
  /-- the owner slot whose translation and key it uses -/
  slotOwner : Nat := 32
  deriving DecidableEq, Repr

/-- An element landed in a stream (R53, R320): its request, its data, and its fault mark. -/
structure Element where
  req : Nat
  data : BitVec 4096
  fault : Option FaultMark
  /-- the faulted request has been sent again as `req` and has not landed (R322) -/
  pending : Bool := false
  /-- the request that first delivered it -/
  origin : Nat := 0
  /-- the request that delivered it, kept so that a faulted element can be asked for again (R322) -/
  again : Option Request := none
  /-- member and slot of the strand whose load it answers (R25) -/
  maker : Option (Nat × Nat) := none
  deriving DecidableEq, Repr

/-- A stream-bound register (R53). -/
structure Stream where
  queue : Nat
  elemSz : Nat
  elems : List Element
  deriving DecidableEq, Repr

/-- A ring (R54). -/
structure Ring where
  base : Nat := 0
  size : Nat := 0
  head : Nat := 0
  tail : Nat := 0
  deriving DecidableEq, Repr

/-- A span (R55). -/
structure Span where
  start : Word := 0
  live : Bool := false
  len : Nat := 0
  deriving DecidableEq, Repr

/-- The gang share (R45). -/
structure Share where
  mp : Map Word := []
  streams : Map Stream := []
  /-- pattern entry e of bank b at 64 b + e -/
  pats : Map (BitVec 128) := []
  spans : Map Span := []
  rings : Map Ring := []
  mdef : Word := 0
  qcfg : Word := 0
  dseed : Word := 0
  fsel : Word := 0
  patsel : Word := 0
  split : Word := 0
  fmts : Map Word := []
  /-- registers with an uncorrectable word (R358, R359), numbered as `Bun.shareReads` names them -/
  bad : List Nat := []
  deriving DecidableEq, Repr

/-- A line of the L1 (R184): its physical line address, valid sectors, bytes, and order of use. -/
structure L1Line where
  line : Nat
  valid : BitVec 4
  data : BitVec 1024
  used : Nat
  /-- its 64-bit words with an uncorrectable error (R358) -/
  bad : BitVec 16 := 0
  deriving DecidableEq, Repr

/-- The exact sums a KSUM tests for one row (R166): e and M as integers times 2^exp, and whether a NaN or an
infinity of the row or of a column was read. -/
structure RowSum where
  e : Int := 0
  m : Nat := 0
  special : Bool := false
  saturated : Bool := false
  deriving DecidableEq, Repr

/-- An operation of the matrix queue (R160). -/
structure MatrixOp where
  id : Nat
  routine : Nat
  tag : Nat
  prio : Nat
  mp : Map Word
  fmt : Word
  /-- the issuing strand: context while resident, gang, member and slot always -/
  ctx : Nat
  gang : Nat
  member : Nat
  slot : Nat
  tiles : Nat
  rings : Nat
  words : List (BitVec 64)
  reserved : Nat
  started : Bool := false
  running : Bool := false
  /-- cycle of the MCALL or of the last suspension -/
  since : Nat := 0
  /-- effective priority when it last started -/
  eff : Nat := 0
  /-- the effective priority a frame saved: it counts on from there until the operation starts (R168) -/
  saved : Option Nat := none
  at_ : Nat := 0
  /-- k-steps of the current KSTEP already made -/
  stepDone : Nat := 0
  /-- open loops, innermost first: word after the KLOOP, passes still to make -/
  loops : List (Nat × Nat) := []
  cursors : Map Nat := []
  kpos : Map Nat := []
  zeroed : List Nat := []
  /-- the tiles it names as it found them when it started (R167) -/
  before : Map Tile := []
  /-- KSUM's row sums of tile t at 64 t + row -/
  sums : Map RowSum := []
  flags : BitVec 6 := 0
  excl : Nat := 0
  status : Nat := 0
  /-- its strand has ended while it runs to retire: the strand's tiles, its owner and its owner slot (R318) -/
  orphan : Option (Map TileReg × Nat × Nat) := none
  /-- the uncorrectable words of those tiles (R318, R358) -/
  orphanBad : List Nat := []
  /-- it was suspended when a save was made and has been restored: it stands first among equals until it runs again, and waits
  for the TRET of a strand that resumed inside its supply handler (R400, R423) -/
  kept : Bool := false
  deriving DecidableEq, Repr

/-- A chunk a route-1 epilogue left in the collective queue (R164). -/
structure CollChunk where
  id : Nat
  gang : Nat
  member : Nat
  slot : Nat
  slotOwner : Nat
  ctx : Nat
  comb : Nat
  addr : Nat
  data : List Byte
  reservedBy : Nat
  deriving DecidableEq, Repr

/-- A copy under way (R254, R255). -/
structure CopyOp where
  id : Nat
  gang : Nat
  member : Nat
  slot : Nat
  span : Nat
  sspace : Nat
  src : Nat
  dspace : Nat
  dst : Nat
  run : Nat
  /-- levels 1 to 5: count, source stride, destination stride; span 8 names none: the gang share of its strand has been
  released (R45) -/
  levels : List (Nat × Int × Int)
  /-- the vitrine indices its destination lay in at issue (R215) -/
  into : List Nat
  /-- where the last of their shadows ended, the first address that the copy may not write (R439) -/
  limit : Option Nat := none
  /-- runs written whole, destination sectors written of the next, and the address of a write to another module that is
  unanswered (R219, R369) -/
  made : Nat := 0
  sectors : Nat := 0
  asked : Option Nat := none
  /-- the source sectors read, by address / 32, and their bytes, from bit 256 on the uncorrectable words: each is read once
  (R218, R359) -/
  source : Map Nat := []
  /-- its last source sector has been read, and its span released (R55, R255) -/
  freed : Bool := false
  slotOwner : Nat := 32
  deriving DecidableEq, Repr

/-- A copy fault kept for DRAIN (R255, R369). -/
structure CopyFault where
  id : Nat
  gang : Nat
  member : Nat
  slot : Nat
  sub : Nat
  addr : Word
  runs : Nat
  dside : Bool
  span : Nat
  deriving DecidableEq, Repr

/-- A pattern load under way (R147): it completes by the cycle `due`. -/
structure PatLoad where
  gang : Nat
  due : Nat
  bank : Nat
  first : Nat
  offset : Nat
  count : Nat
  deriving DecidableEq, Repr

/-- The window record of a core (R275). -/
structure WindowRec where
  window : Nat
  member : Nat
  owner : Nat
  /-- the gang that set it: gangs are numbered in their order of placement -/
  last : Nat
  deriving DecidableEq, Repr

/-- A core (R37 to R57). -/
structure Core where
  /-- the gang resident on the core -/
  gang : Option Nat := none
  ctxs : Map Strand := []
  share : Share := {}
  age : Word := 64
  role : Word := 0x1B
  spad : List Host.Cell := []
  l1 : List L1Line := []
  mq : List MatrixOp := []
  collq : List CollChunk := []
  copies : List CopyOp := []
  copyFaults : List CopyFault := []
  /-- lines that copies have written since their strand's last DRAIN: gang, member, slot, lines (R219) -/
  copied : List (Nat × Nat × Nat × List Nat) := []
  patlds : List PatLoad := []
  /-- routine table and micro-words, with CQN (R152, R155) -/
  routines : Map (Nat × List (BitVec 64)) := []
  window : Option WindowRec := none
  /-- the owner number of the last gang resident here (R376) -/
  lastOwner : Option Nat := none
  utlb : List TlbEntry := []
  /-- faulted store requests held, by queue, oldest first (R321, R366) -/
  frozen : Map (List Nat) := []
  /-- stores acknowledged through path p of queue q, at 4 q + p (R253) -/
  paths : Map Nat := []
  /-- for format pair 16 AFMT + BFMT, operations Curator ran since its last log entry, and that entry's ns + 1 (R357) -/
  emulated : Map (Nat × Nat) := []
  cycle : Nat := 0
  /-- routines whose micro-words in the store have an uncorrectable one (R358) -/
  tornWords : List Nat := []
  /-- a routine image set waits to be loaded (R437) -/
  reload : Bool := false
  /-- full frames in the context save area, by context: length and bytes (R31, R57) -/
  frames : Map (Nat × Nat) := []
  deriving DecidableEq, Repr

/-- A WAIT or BWAIT held at its home (R260, R261). -/
structure Waiter where
  core : Nat
  ctx : Nat
  queue : Nat
  /-- none: a word of global memory at physical `addr`; some c: byte `addr` of core c's scratchpad -/
  spad : Option Nat
  addr : Nat
  size : Nat
  cond : Nat
  mask : Word
  cmp : Word
  /-- some g: a BWAIT for generation g -/
  barrier : Option Nat
  /-- ns at which it times out -/
  deadline : Option Nat
  /-- it has reached its home: a home that is full or a frozen queue keeps it from being sent (R374) -/
  sent : Bool := true
  /-- the module its home is on, where that is another -/
  module : Option Nat := none
  /-- the owner slot whose key reads the word -/
  slotOwner : Nat := 32
  /-- it travels in its queue: every one but a WAIT in own scratchpad space (R261) -/
  queued : Bool := true
  /-- the last identity given before it: earlier requests of its queue come before it (R194) -/
  id : Nat := 0
  /-- held for another module: that module and its request (R260, R261) -/
  asker : Option (Nat × Nat) := none
  /-- the sequence number it was sent to another module under (R373, R381) -/
  seq : Nat := 0
  deriving DecidableEq, Repr

/-- A line of the L2 (R185): key, valid sectors and their bytes (all 128 when full), CODE, order of use. -/
structure L2Line where
  line : Nat
  valid : BitVec 4
  data : BitVec 1024
  code : Nat
  dirty : Bool
  nocomp : Bool
  used : Int
  key : Nat
  deriving DecidableEq, Repr

/-- A fill outstanding from HBM4 (R188, R190). -/
structure Fill where
  line : Nat
  sectors : BitVec 4
  streaming : Bool
  nocomp : Bool
  key : Nat
  deriving DecidableEq, Repr

/-- A log entry (R326). -/
structure LogEntry where
  time : Nat
  source : Nat
  cls : Nat
  code : Nat
  owner : Nat
  addr : Word
  detail : Word
  /-- of a TRAP entry: the SUB it carries beside the words of Table 7 (R317) -/
  sub : Nat := 0
  deriving DecidableEq, Repr

/-- A compute die and its cluster (R9, R33, R180, R185, R192, R325). -/
structure Cluster where
  lines : List L2Line := []
  /-- event counters COMPRESS DECOMPRESS EXPAND EXP_EVICT at 0 to 3 (R192) -/
  counters : Map (BitVec 64) := []
  fills : List Fill := []
  /-- order of use, counted up by each access -/
  clock : Int := 0
  tlb : List TlbEntry := []
  log : List LogEntry := []
  /-- entries made and not yet readable, by TIME and SOURCE (R327) -/
  logged : List LogEntry := []
  /-- resumption queue: folio address, gang, member, slot (R28) -/
  folios : List (Nat × Nat × Nat × Nat) := []
  /-- the nest whose gang has reserved the cluster (R276) -/
  reservation : Option Nat := none
  shed : Bool := false
  /-- the last 64 corrected errors: sector, ns (R360) -/
  eccAddrs : List (Nat × Nat) := []
  deriving DecidableEq, Repr

/-- A nest record as taken (R17). -/
structure NestRec where
  hdr : Word
  shape : Word
  levels : List Word
  codeBase : Word
  entry : Word
  comp : Word
  rbase : Word
  /-- RD0 to RD3 and WR0 to WR3 as (START, LENGTH) -/
  reads : List (Nat × Nat)
  writes : List (Nat × Nat)
  deriving DecidableEq, Repr

/-- A nest waiting at a source (R269, R270): when it became head, whether it has been offered. -/
structure Waiting where
  rec_ : NestRec
  owner : Nat
  since : Nat
  deriving DecidableEq, Repr

/-- A nest in flight (R21, R26). -/
structure Nest where
  rec_ : NestRec
  owner : Nat
  source : Nat
  placed : Nat := 0
  ended : Nat := 0
  status : Nat := 0
  /-- no further gang is placed (R318, R432) -/
  stopped : Bool := false
  tStart : Option Nat := none
  /-- when its last gang was placed, or it was admitted (R273) -/
  since : Nat := 0
  /-- in nJ -/
  energy : Nat := 0
  mhzSum : Nat := 0
  mhzCycles : Nat := 0
  throttle : Map Nat := []
  /-- FEAT_ACT at its admission (R301) -/
  feats : Word := 1#64
  deriving DecidableEq, Repr

/-- What has become of a gang (R23, R30, R318, R432). -/
inductive GangMode
  | active | preempting | preempted | ending
  deriving DecidableEq, Repr

/-- A gang (R23). -/
structure Gang where
  nest : Nat
  iter : Nat
  cluster : Nat
  cores : List Nat
  /-- strands that have not ended -/
  alive : Nat
  mode : GangMode := .active
  /-- why it is halted: 0 the power limit, 1 suspension, 2 shedding (R279) -/
  why : Nat := 0
  deriving DecidableEq, Repr

/-- A walk at a pier engine (R196 to R199). -/
structure Walk where
  core : Nat
  ctx : Nat
  gang : Nat
  member : Nat
  slot : Nat
  key : Word
  start : Nat
  hops : Nat
  logit : Bool
  toRing : Bool
  tag : Nat
  rowptr : Nat
  colidx : Nat
  weight : Nat
  temp : BitVec 32
  walkid : Nat
  queue : Nat
  target : Nat
  stack : Nat
  /-- where its descriptor lies in the scratchpad (R329) -/
  desc : Nat := 0
  hop : Nat := 0
  /-- the gang share it delivers into has been released: its records go nowhere (R45) -/
  lost : Bool := false
  vertex : Nat := 0
  flags : BitVec 6 := 0
  unit : List Word := []
  finished : Bool := false
  deriving DecidableEq, Repr

/-- A vitrine table entry (R214, R439). -/
structure Vitrine where
  front : Nat
  shadow : Nat
  length : Nat
  gen : BitVec 32 := 0
  owner : Nat
  removing : Bool := false
  /-- it has an uncorrectable word (R358) -/
  bad : Bool := false
  deriving DecidableEq, Repr

/-- An operation record of a collective graph (R290). -/
structure CollOp where
  kind : Nat
  peer : Nat
  opx : Nat
  len : Nat
  dep : Nat
  sbase : Nat
  soff : Nat
  dbase : Nat
  doff : Nat
  ma : Nat
  mb : Nat
  succs : List Nat
  deriving DecidableEq, Repr

/-- A loaded collective graph (R289). -/
structure Graph where
  loose : Bool
  texp : Nat
  comb : Nat
  dim : Nat
  root : Nat
  tag : Nat
  vit : Option Nat
  flag : Nat
  comp : Nat
  log2n : Nat
  ops : List CollOp
  deriving DecidableEq, Repr

/-- A replay held by the collective engine (R266, R293 to R296, R386 to R390). -/
structure Replay where
  graph : Nat
  step : Nat
  owner : Nat
  ownerNum : Nat
  key : Option Word := none
  bases : List Word
  counts : Map Nat
  /-- it may run with missing inputs: its graph is LOOSE, and its nest was admitted under that feature (R295, R301) -/
  loose : Bool := false
  /-- it has completed, and its FLAG is stored (R296) -/
  closing : Bool := false
  /-- inputs that have arrived, at 2 op + side, with their flush counts -/
  inputs : Map (List Byte × Nat) := []
  /-- whose contributions its inputs lack, at 2 op + side -/
  missing : Map (BitVec 256) := []
  ran : List Nat := []
  /-- the operation that has begun and goes on, which a warning stops at one of its units (R399; log 171) -/
  running : Option Nat := none
  /-- ns at which an operation's local predecessors had completed -/
  since : Map Nat := []
  /-- operations that ran with a missing input -/
  flushed : List Nat := []
  flushCount : Nat := 0
  /-- on ROOT, the inputs that its own REDUCEs took as identities into what stays there, and the counts that came with chunks
  and late addends: each flushed input once (R388) -/
  rootFlushes : Nat := 0
  added : Nat := 0
  discarded : Nat := 0
  contrib : BitVec 256 := 0
  /-- ns at which the root REDUCE's inputs became present, while its successors are held -/
  rootHeld : Option (Nat × Nat) := none
  /-- the core and context whose COLL started it -/
  strand : Nat × Nat := (0, 0)
  tStart : Nat
  status : Nat := 0
  origin : Nat := 0
  module : Nat := 0
  opIndex : Nat := 0
  addr : Word := 0
  sub : Nat := 0
  dside : Bool := false
  deriving DecidableEq, Repr

/-- The module's collective engine (R289, R294). -/
structure CollEngine where
  graphs : Map Graph := []
  steps : Map Nat := []
  replays : List Replay := []
  held : List ChunkMsg := []
  /-- start flits that came before their replay: graph, step, key -/
  starts : List (Nat × Nat × Word) := []
  /-- graphs with an uncorrectable word (R358) -/
  bad : List Nat := []
  /-- aborts that came before their replay -/
  aborts : List AbortMsg := []
  /-- REDUCEs that flushed: graph, step, operation (R387, R388) -/
  flushed : List (Nat × Nat × Nat) := []
  /-- late addends that came before the root REDUCE had run (R388) -/
  lates : List ChunkMsg := []
  /-- replays whose abort has been passed on: graph, step (R386) -/
  forwarded : List (Nat × Nat) := []
  deriving DecidableEq, Repr

/-- A router's state of a destination module (R383). -/
inductive ModuleState
  | reachable | hibernating | lost
  deriving DecidableEq, Repr

/-- The Causeway router (R285, R286, R381 to R383). -/
structure Router where
  /-- state of each module; LOST where not listed -/
  modules : Map ModuleState := []
  /-- for each destination, its paths by number, each the links it crosses -/
  paths : Map (Map (List Nat)) := []
  linksDown : List Nat := []
  /-- modules without a path, since the ns given -/
  pathless : Map Nat := []
  /-- how many replays of a link have failed in a row (R382) -/
  failed : Map Nat := []
  /-- requests of other modules already performed with their answers: source, queue, sequence, status, data (R381) -/
  seen : List (Nat × Nat × Nat × Nat × BitVec 256) := []
  off : Bool := false
  /-- flits waiting at each of the 36 Causeway ports (R286, R329) -/
  waiting : Map Nat := []
  deriving DecidableEq, Repr

/-- What the module sends out (R222, R293, R296, R300). -/
inductive OutMsg
  /-- a request of a queue, 4 where an engine makes it, of single accesses of `unit` bytes; `full`: a load that fills the
  whole line where it misses (R188, R192, R381) -/
  | request (module path queue seq sentAt : Nat) (kind : ReqKind) (part : Part) (unit : Nat) (full : Bool) (owner : Nat)
  /-- a 64-byte completion record, written whole (R26, R296) -/
  | record (module seq off : Nat) (data : BitVec 512) (owner : Nat)
  /-- a read of host memory (R270) -/
  | fetch (addr n : Nat)
  | answer (module seq : Nat) (status : Nat) (data : BitVec 256)
  | chunk (module : Nat) (group : Bool) (msg : ChunkMsg)
  | start (module graph step : Nat) (key : Word)
  | abort (module : Nat) (msg : AbortMsg)
  | late (module : Nat) (msg : ChunkMsg)
  | hold (module seq addr size cond : Nat) (mask cmp : Word) (barrier : Option Nat) (owner : Nat)
  /-- a wait withdrawn from its home, by the number it was sent under (R373) -/
  | withdraw (module seq : Nat)
  | probe (module seq addr owner : Nat)
  | interrupt (vector : Nat)
  | time (module : Nat)
  | shard (module : Nat) (data : List Byte) (owner : Nat)
  deriving DecidableEq, Repr

/-- The launch path (R26, R33, R269 to R276). -/
structure Launch where
  /-- nests waiting at each source, the head first -/
  sources : Map (List Waiting) := []
  nests : Map Nest := []
  gangs : Map Gang := []
  seq : Nat := 0
  gangSeq : Nat := 0
  /-- records of each completion ring, by owner and address (R26) -/
  rings : List ((Nat × Nat) × Nat) := []
  /-- the gang first in the placement order, by nest and index, and since when it is (R276) -/
  first : Option (Nat × Nat × Nat) := none
  /-- gangs that were first when a gang of their nest was pre-empted, with their times: they keep their places (R279) -/
  kept : List (Nat × Nat × Nat) := []
  /-- gangs in the order they were pre-empted (R279) -/
  preempted : List Nat := []
  /-- gangs that a supply warning or a thermal emergency has halted, in the order in which they halted (R411) -/
  halts : List Nat := []
  /-- FEAT_ACT as the latest nest was admitted under it (R301) -/
  feats : Word := 1#64
  deriving DecidableEq, Repr

/-- A power island (R280 to R284, R431). -/
structure Island where
  point : Nat := 7
  /-- the points that THERMAL, CURRENT, POWER and SENSOR_DEGRADED demand, at 0 to 3 (R282) -/
  caps : Map Nat := []
  /-- the regulator it runs on: REGSEL's choice takes effect at its next change of point -/
  regulator : Option Nat := none
  /-- nJ metered and not yet counted as µJ: of the island, of its idle share -/
  rest : Nat := 0
  idleRest : Nat := 0
  /-- a change of point under way: the point before it, and the ns at which it is over (R281, R283) -/
  changing : Option (Nat × Nat) := none
  deriving DecidableEq, Repr

/-- An owner slot's key material and marks beside its registers (R429 to R434). -/
structure Owner where
  key : Option Nat := none
  /-- the routine image set last registered: routine number, then what the core's table holds of it -/
  routines : Map (Nat × List (BitVec 64)) := []
  deriving DecidableEq, Repr

/-- A region of a Catalogue (R405, Table 5). -/
structure Region where
  id : Nat := 0
  owner : Nat := 0
  base : Nat
  length : Nat
  done : Nat := 0
  status : Nat := 0
  scmOff : Nat := 0
  scmLen : Nat := 0
  digest : BitVec 384 := 0
  uncorr : Nat := 0
  /-- its image in SCM, as it reads under the key it was encrypted under: groups of lines (R402) -/
  image : List Byte := []
  /-- that key: 1 + slot key, 0 the device key -/
  key : Nat := 0
  /-- a block of its image cannot be corrected (R358) -/
  torn : Bool := false
  deriving DecidableEq, Repr

/-- What region 0 keeps (R400, Table 2). -/
structure Saved where
  cores : Map Core
  reqs : Map Request
  walks : Map Walk
  vitrines : Map Vitrine
  groups : Map (List Nat)
  coll : CollEngine
  launch : Launch
  folios : List (List (Nat × Nat × Nat × Nat))
  owners : Map Owner
  host : Map Word
  dirty : List Nat
  /-- trap frames of strands in their handler: core, context, bytes -/
  frames : List (Nat × Nat × Nat)
  /-- the clusters' reservations (R276) -/
  reservations : List (Option Nat)
  deriving DecidableEq, Repr

/-- A shard entry of a checkpoint's Catalogue (R419). -/
structure Shard where
  module : Nat
  parity : Bool
  index : Nat
  addr : Nat
  digest : BitVec 384
  deriving DecidableEq, Repr

/-- A Catalogue (R405, Tables 4 and 5). -/
structure Catalogue where
  kind : Nat
  slot : Nat
  seq : Nat
  tWarn : Nat
  tSeal : Nat
  prev : BitVec 384 := 0
  selftest : Word := 0
  feat : Word := 0
  energy : Nat := 0
  regions : List Region
  /-- graph-step table: INFLIGHT and STEP of each graph -/
  steps : List (Bool × Nat)
  shards : List Shard := []
  signature : BitVec 768 := 0
  save : Option Saved := none
  /-- where a checkpoint's own copy lies -/
  addr : Nat := 0
  deriving DecidableEq, Repr

/-- A checkpoint under way (R417 to R419): its members, the own index, whether it is differential, and the shards of
its stream with the member each goes to. -/
structure Checkpoint where
  members : List Nat
  own : Nat
  diff : Bool
  t : Nat
  regions : List Region
  shards : List (Nat × Bool × Nat × List Byte)
  deriving DecidableEq, Repr

/-- Supply, checkpoints, sensors and time (R393 to R419, R443). -/
structure Power where
  /-- the Catalogue in each slot of SCM -/
  catalogues : Map Catalogue := []
  /-- the accession list in force: owner, base, ID, granules (R401) -/
  list : List (Nat × Nat × Nat × Nat) := []
  /-- what the drain has written -/
  regions : List Region := []
  /-- µJ charged in budget mode -/
  charge : Nat := 0
  warnedAt : Nat := 0
  /-- the input returned after a warning -/
  inputBack : Bool := false
  /-- since when the input has held (R409) -/
  inputSince : Option Nat := none
  /-- since when the reserve has been discharging, and whether it is charging, as of the last measurement (R393, R407) -/
  dropSince : Option Nat := none
  charging : Bool := false
  /-- when bring-up phase 5 began (R427) -/
  phaseSince : Nat := 0
  /-- its current phase was entered in this step, and shows at least to the next -/
  phaseFresh : Bool := false
  sagSince : Nat := 0
  /-- when the last cluster was shed -/
  shedAt : Nat := 0
  /-- clusters shed, the last one first -/
  shedOrder : List Nat := []
  /-- since when every sensor has read below 95 °C -/
  coolSince : Option Nat := none
  /-- trap frames to be written back when their strand's owner resumes: core, context, bytes (R399, R400) -/
  frames : List (Nat × Nat × Nat) := []
  /-- owners restored from region 0 and not resumed (R411) -/
  unresumed : List Nat := []
  /-- a thermal emergency's Catalogue is sealed: power is off until it ends -/
  off : Bool := false
  /-- input energy in nJ not yet counted as µJ (R442) -/
  inputRest : Nat := 0
  /-- input energy in nJ of the current 1 ms, and its ticks (R442) -/
  inputSum : Nat := 0
  inputTicks : Nat := 0
  /-- latched high halves of energy accumulators, by register (R415) -/
  latched : Map (BitVec 32) := []
  /-- sensors retired, and what each thermal sensor and current monitor last read (R414) -/
  retired : List Nat := []
  /-- for each sensor: its reading, since when it has read so, the island's point and residents then, and whether they
  have changed since -/
  steady : Map (Nat × Nat × Nat × Nat × Bool) := []
  /-- the last time the master answered, and the master (R443) -/
  master : Option (Nat × Nat) := none
  /-- ns that the counter still has to gain, or to lose, and the ns of the µs begun (R443) -/
  slew : Int := 0
  slewRest : Nat := 0
  checkpoint : Option Checkpoint := none
  chain : List Catalogue := []
  /-- bytes appended to the own checkpoint area -/
  areaUsed : Nat := 0
  /-- what the last host load or register read answered -/
  answer : Nat := 0
  deriving DecidableEq, Repr

/-- A physical upset, an input from outside (R346, R358; log 13). -/
inductive Upset
  /-- bits of a register flipped; its stored residue stays (R348) -/
  | register (core ctx : Nat) (d : Dest) (flip : BitVec 4096)
  /-- bits flipped in one lane of the next result of a shadowed unit of a core: of its main result or its shadow -/
  | result (core unit lane : Nat) (flip : Word) (shadow : Bool)
  | spad (core word : Nat)
  | accumulator (core ctx tile word : Nat)
  /-- a 64-bit word of an L2 line, by its address / 8 -/
  | l2Data (word : Nat)
  /-- the set of the line -/
  | l2Tag (line : Nat)
  /-- a 64-bit word of HBM4, by its address / 8 -/
  | hbm (word : Nat)
  /-- a tag of the L1 -/
  | l1Line (core line : Nat)
  /-- a 64-bit word of an L1 line -/
  | l1Data (core line word : Nat)
  /-- an error of a die, corrected where it is read: the log source of the structure, and the sector (R360) -/
  | corrected (die source sector : Nat)
  | microTlb (core entry : Nat)
  | dieTlb (cluster entry : Nat)
  | microprogram (core routine : Nat)
  | gangShare (core reg : Nat)
  | phaseRecord (core ctx sector : Nat)
  | queueRecord (id : Nat)
  | element (core stream index : Nat)
  | collective (graph : Nat)
  | vitrine (index : Nat)
  | scm (slot id : Nat)
  deriving DecidableEq, Repr

/-- A turn of the agenda: which agent moves at the next step (log 5). -/
inductive Turn
  | issue (core : Nat)
  | micro (core : Nat)
  | event (i : Instr)
  | upset (u : Upset)
  | read (off : Nat)
  deriving DecidableEq, Repr

/-- What a gang-share register becomes after a bundle (R45, R46). -/
inductive ShareWrite
  | crw (cr : Nat) (v : Word)
  | mp (n : Nat) (v : Word)
  | bind (n queue elemSz : Nat)
  | unbind (n : Nat)
  | push (ring n : Nat)
  | pop (ring n : Nat)
  | patsw
  deriving DecidableEq, Repr

/-- What stalls a bundle may start before it issues: the writer half of PHASE at a scope (R34, R208), the oldest
records of the phase buffer (R204), or a request held at a home (R260, R261). -/
inductive StallAct
  | nothing
  | oldest (n : Nat)
  | sectors (l : List Nat)
  | vwait (index : Nat)
  | publish (scope : Nat)
  /-- a PHASE waits for its writer half (R205) -/
  | phase (scope : Nat)
  /-- the bundle waits for scratchpad banks (R182) -/
  | banks
  | wait (w : Waiter)
  /-- a line of another module probed for an owner (R267) -/
  | probe (module off owner : Nat)
  deriving DecidableEq, Repr

/-- The verdict on the bundle so far (R62, R316). -/
inductive Verdict
  | go
  | trap (t : TrapInfo)
  | stall (why : Stall) (act : StallAct)
  deriving DecidableEq, Repr

/-- What a bundle does besides writing registers. -/
inductive Flow
  | next
  | jump (pc : Word)
  deriving DecidableEq, Repr

/-- A load of the own scratchpad in the bundle being issued (R202, R242, R243). -/
structure SpadLoad where
  slot : Nat
  dst : Dest
  old : BitVec 4096
  /-- byte of the result, scratchpad byte -/
  bytes : List (Nat × Nat)
  deriving DecidableEq, Repr

/-- The bundle being issued (R59, R62, R63): where it stands, the slot being examined with its parcel's defect,
and what the slots so far have done.  The model's own. -/
structure Cursor where
  core : Nat
  ctx : Nat
  pc : Word
  len : Nat
  slot : Nat := 0
  wcnt : Nat := 0
  /-- the last identity given before it: requests and operations above it are its own -/
  begun : Nat := 0
  /-- the strand's phase buffer held records before it -/
  unsent : Bool := false
  /-- the modifier prefix of the slot being examined (R71) -/
  pfx : Option (BitVec 32) := none
  /-- a defect the decoder found in the slot's word (R330) -/
  defect : Option TrapInfo := none
  verdict : Verdict := .go
  writes : List Landing := []
  shares : List ShareWrite := []
  /-- streams popped (R53) -/
  pops : List Nat := []
  flow : Flow := .next
  /-- traps it raises after itself -/
  dues : List TrapInfo := []
  /-- what holds the strand after it -/
  holds : List Hold := []
  /-- destinations named so far with the slot and field value that named them (R63, R331) -/
  dests : List (Nat × Nat × Nat) := []
  /-- loads of the own scratchpad: slot, destination, its old value, and the scratchpad byte each byte of the
  result comes from (R202) -/
  loads : List SpadLoad := []
  /-- stores to the own scratchpad: slot, byte offset, byte, in order (R202) -/
  stores : List (Nat × Nat × Byte) := []
  deriving DecidableEq, Repr

/-- One Jenvex J40 module. -/
structure State where
  cores : Map Core := []
  clusters : Map Cluster := []
  /-- HBM4 bytes by local offset; a byte not listed reads 0 (log 2) -/
  mem : List Host.Cell := []
  /-- owner key each written sector is encrypted under, by sector address / 32: 1 + slot key, 0 the device key;
  an unlisted sector was never written -/
  keys : Map Nat := []
  /-- 16-byte barrier objects whose TAG is 1, by address / 16 (R258) -/
  barriers : List Nat := []
  /-- 64-bit words of HBM4 with an uncorrectable error, by address / 8 (R358, R359) -/
  bad : List Nat := []
  /-- words held in an L2 slice with an uncorrectable error, by address / 8 (R358, R359) -/
  badL2 : List Nat := []
  /-- scratchpad words with an uncorrectable error: core, offset / 8 -/
  badSpad : List (Nat × Nat) := []
  /-- strikes on the next result of a shadowed unit: core, unit, lane, bits flipped, whether of the shadow (R351) -/
  strikes : List (Nat × Nat × Nat × Word × Bool) := []
  /-- dirty 32 KiB granules since the last checkpoint (R416) -/
  dirtyMap : List Nat := []
  /-- requests by identity; identities rise in issue order -/
  reqs : Map Request := []
  nextReq : Nat := 0
  waiters : List Waiter := []
  walks : Map Walk := []
  vitrines : Map Vitrine := []
  /-- membership of multicast groups (R288, R438) -/
  groups : Map (List Nat) := []
  coll : CollEngine := {}
  router : Router := {}
  outbox : List OutMsg := []
  launch : Launch := {}
  islands : Map Island := []
  power : Power := {}
  owners : Map Owner := []
  /-- host registers by offset in the register window (R298, R420, R427 to R443), each at the value last
  written to it or reported in it -/
  host : Map Word := []
  /-- global time stamp in ns (R443) -/
  now : Nat := 0
  agenda : List Turn := []
  /-- steps taken (log 5, log 6) -/
  turnNo : Nat := 0
  cursor : Option Cursor := none
  /-- counts the free values drawn (log 4) -/
  free : Nat := 0
  deriving DecidableEq, Repr

/-- The machine right after reset (R37, R40, R48, R298, R420, R427): no strand is resident, every table is empty
and every register reads its reset value. -/
def State.reset : State := {}

end Sys2Proof.Machine
end

