-- ==== Sys2Proof/Machine/L2.lean ====
section
/-! DEFINITION. HBM4 and the compressed L2 of each die: keys of sectors (R379, R444), line encodings (R185 to
R187, R191), counters (R192). -/
namespace Sys2Proof.Machine
open Sys2Proof

/-- The cluster whose stacks hold a local offset: bits [38:37] of HBM4 stack h's base (R9, R177). -/
def homeCluster (pa : Nat) : Nat := bits pa 38 37

/-- Whether a local offset lies in HBM4 (R177). -/
def inHbm (pa : Nat) : Bool := pa < 2 ^ 39

def State.cluster (s : State) (c : Nat) : Cluster := Tab.get s.clusters {} c
def State.setCluster (s : State) (c : Nat) (k : Cluster) : State :=
  { s with clusters := Tab.set s.clusters {} c k }

/-- A host register by its offset, where the model names its value at reset: REGSEL (R431), SHEDORD (R420),
FEAT_DEV (R298), FEAT_ACT's BASE (R301), SAVEAREA and SAVELEN (R420) and E_WARN without a list (R394); every other register
resets to 0. Table 4 of R298 gives FEAT_ACT the reset value 0, and Table 6 of R301 says that BASE is always 1: the model
takes 1 (log 186). -/
def hostReset (off : Nat) : Word :=
  if off = 0x3800 then 0xFFFFAAAA55550000#64
  else if off = 0x000 then Config.featDev.extractLsb' 0 64 &&& 0x7F#64
  else if off = 0x020 then 1#64
  else if off = 0x2038 then 0xE4#64
  else if off = 0x2040 then Config.saveArea.setWidth 64
  else if off = 0x2048 then Config.saveLen.setWidth 64
  else if off = 0x2078 then 190000000#64
  else 0#64

def State.hreg (s : State) (off : Nat) : Word := Tab.get s.host (hostReset off) off
def State.setHreg (s : State) (off : Nat) (v : Word) : State :=
  { s with host := Tab.set s.host (hostReset off) off v }

/-- FEAT_ACT brought up to date: FEAT_DEV AND FEAT_DRV over the features of Table 6, with BASE always 1 (R298, R301). -/
def State.showFeatures (s : State) : State := s.setHreg 0x020 (((s.hreg 0x000 &&& s.hreg 0x010) &&& 0x7F#64) ||| 1#64)

/-- The features in force where no one nest is concerned: those of the latest nest admitted; BASE always (R301). -/
def State.featAct (s : State) (n : Nat) : Bool := n == 0 || s.launch.feats.getLsbD n

/-- The key an owner slot's accesses use; the slot's own number where no key is installed. Key 0 is the device
key (R444). -/
def State.slotKey (s : State) (q : Nat) : Nat :=
  match (Tab.get s.owners {} q).key with
  | some k => k + 64
  | none => q + 1

/-- A 32-byte sector of HBM4 as it reads under a key (R377, R379): plaintext only under the key it was written
with; a sector nothing has written reads as memory's reset bytes. -/
def State.hbmSector (s : State) (pa key : Nat) : Nat :=
  let a := pa / 32 * 32
  match Tab.find? s.keys (a / 32) with
  | none => readCells s.mem a 32
  | some k =>
    if k = key then readCells s.mem a 32
    else ofBytes ((List.range 32).map (fun i => Config.garbled (a + i) key k))

/-- A whole sector written to HBM4 under a key. -/
def State.setHbmSector (s : State) (pa key v : Nat) : State :=
  let a := pa / 32 * 32
  { s with mem := writeCells s.mem a 32 0xFFFFFFFF v, keys := Tab.put s.keys (a / 32) key,
           bad := s.bad.filter (fun b => b / 4 ≠ a / 32) }

/-- The set of a line (R185): o[23:7] xor o[36:24] of its die's offset. -/
def l2Set (line : Nat) : Nat :=
  let o := (line * 128) % 2 ^ 37
  bits o 23 7 ^^^ bits o 36 24

/-- Element `e` of size `x` bytes of a line. -/
def lineElem (d x e : Nat) : Nat := (d >>> (8 * x * e)) % 2 ^ (8 * x)

/-- Delta `e` of a base-delta encoding (R186). -/
def lineDelta (d x e : Nat) : Nat :=
  (lineElem d x e + 2 ^ (8 * x) - lineElem d x 0) % 2 ^ (8 * x)

/-- Whether a delta fits in `k` bytes (R186). -/
def deltaFits (x k v : Nat) : Bool :=
  v < 2 ^ (8 * k - 1) || 2 ^ (8 * x) - 2 ^ (8 * k - 1) ≤ v

/-- Whether every delta fits. -/
def baseDelta (d x k : Nat) : Bool :=
  (List.range (128 / x)).all (fun e => deltaFits x k (lineDelta d x e))

/-- How many of the 32 words of a line are not 0. -/
def nonzeroWords (d : Nat) : Nat := popCount 32 ((List.range 32).foldl
  (fun m w => if lineElem d 4 w = 0 then m else m ||| (1 <<< w)) 0)

/-- Sectors of an image of `n` bytes. -/
def imageSectors (n : Nat) : Nat := (n + 31) / 32

/-- The usable encodings of a full line with their sectors, lowest CODE first (R186, Table 5). -/
def usableCodes (d : Nat) : List (Nat × Nat) :=
  (if d = 0 then [(0, 0)] else []) ++
  (if (List.range 16).all (fun e => lineElem d 8 e == lineElem d 8 0) then [(1, 1)] else []) ++
  (if baseDelta d 8 1 then [(2, 1)] else []) ++
  (if baseDelta d 8 2 then [(3, 2)] else []) ++
  (if baseDelta d 8 4 then [(4, 3)] else []) ++
  (if baseDelta d 4 1 then [(5, 2)] else []) ++
  (if baseDelta d 4 2 then [(6, 3)] else []) ++
  (if baseDelta d 2 1 then [(7, 3)] else []) ++
  (if nonzeroWords d ≤ 23 then [(8, imageSectors (4 + 4 * nonzeroWords d))] else []) ++
  [(15, 4)]

/-- The encoding a full line is held in: fewest sectors, ties to the lowest CODE; RAW under NOCOMP (R187). -/
def selectCode (d : Nat) (nocomp : Bool) : Nat × Nat :=
  if nocomp then (15, 4)
  else (usableCodes d).foldl (fun b x => if x.2 < b.2 then x else b) (15, 5)

/-- The image of a full line in an encoding, as bytes (R186). -/
def lineImage (code d : Nat) : List Byte :=
  let bd := fun x k => bytesOf x (lineElem d x 0) ++
    (List.range (128 / x)).flatMap (fun e => bytesOf k (lineDelta d x e))
  match code with
  | 0 => []
  | 1 => bytesOf 8 (lineElem d 8 0)
  | 2 => bd 8 1
  | 3 => bd 8 2
  | 4 => bd 8 4
  | 5 => bd 4 1
  | 6 => bd 4 2
  | 7 => bd 2 1
  | 8 =>
    let ws := (List.range 32).filter (fun w => lineElem d 4 w != 0)
    bytesOf 4 (ws.foldl (fun m w => m ||| (1 <<< w)) 0) ++ ws.flatMap (fun w => bytesOf 4 (lineElem d 4 w))
  | _ => bytesOf 128 d

/-- Data sectors a line holds (R185, Table 5). -/
def L2Line.sectors (l : L2Line) : Nat :=
  if l.code = 15 then popCount 4 l.valid.toNat
  else ((usableCodes l.data.toNat).find? (fun x => x.1 == l.code)).elim 4 (·.2)

def L2Line.full (l : L2Line) : Bool := l.valid == 15#4

def Cluster.find (k : Cluster) (line : Nat) : Option L2Line := k.lines.find? (fun l => l.line == line)
def Cluster.inSet (k : Cluster) (line : Nat) : List L2Line :=
  k.lines.filter (fun l => l2Set l.line == l2Set line)
def Cluster.without (k : Cluster) (line : Nat) : Cluster :=
  { k with lines := k.lines.filter (fun l => l.line != line) }
def Cluster.count (k : Cluster) (n by_ : Nat) : Cluster :=
  { k with counters := Tab.set k.counters 0 n (Tab.get k.counters 0 n + BitVec.ofNat 64 by_) }
/-- A fill into the line is outstanding (R367). -/
def Cluster.busy (k : Cluster) (line : Nat) : Bool := k.fills.any (fun f => f.line == line)
def setSectors (ls : List L2Line) : Nat := ls.foldl (fun n l => n + l.sectors) 0

/-- The line order least recently used first. -/
def insertLru (l : L2Line) (ls : List L2Line) : List L2Line :=
  match ls with
  | [] => [l]
  | m :: r => if l.used ≤ m.used then l :: m :: r else m :: insertLru l r
def lruOrder (ls : List L2Line) : List L2Line := ls.foldl (fun a l => insertLru l a) []

/-- The line state word (R191, Table 6). -/
def L2Line.stateWord (l : L2Line) : Nat :=
  (1 <<< 15) ||| (b2n l.nocomp <<< 14) ||| (l.valid.toNat <<< 10) ||| (b2n l.dirty <<< 9) ||| (l.code <<< 4) ||| l.sectors

/-- The L2 event and line counters of a cluster's counter page (R192). -/
def State.counterPage (s : State) (c off : Nat) : Nat :=
  let k := s.cluster c
  let lines := fun code => (k.lines.filter (fun l => l.code == code)).length
  if off < 0x48 then lines (off / 8)
  else if off = 0x48 then lines 15
  else if off = 0x50 then setSectors k.lines
  else if off = 0x58 then (Tab.get k.counters 0 0).toNat
  else if off = 0x60 then (Tab.get k.counters 0 1).toNat
  else if off = 0x68 then (Tab.get k.counters 0 2).toNat
  else if off = 0x70 then (Tab.get k.counters 0 3).toNat
  else 0

end Sys2Proof.Machine
end

