-- ==== Sys2Proof/Machine/Log.lean ====
section
/-! DEFINITION. Accessors of cores, strands, gangs and owner slots, the die error log, snapshots and the common trigger
(R325 to R329, R440, R441). -/
namespace Sys2Proof.Machine
open Sys2Proof

def State.core (s : State) (c : Nat) : Core := Tab.get s.cores {} c
def State.setCore (s : State) (c : Nat) (k : Core) : State := { s with cores := Tab.set s.cores {} c k }
def State.mapCore (s : State) (c : Nat) (f : Core → Core) : State := s.setCore c (f (s.core c))

def Core.strand (k : Core) (x : Nat) : Option Strand := Tab.find? k.ctxs x
def Core.setStrand (k : Core) (x : Nat) (t : Strand) : Core := { k with ctxs := Tab.put k.ctxs x t }
def State.strand (s : State) (c x : Nat) : Option Strand := (s.core c).strand x
def State.setStrand (s : State) (c x : Nat) (t : Strand) : State := s.mapCore c (·.setStrand x t)
def State.mapStrand (s : State) (c x : Nat) (f : Strand → Strand) : State :=
  match s.strand c x with
  | some t => s.setStrand c x (f t)
  | none => s

/-- The cluster of a core (R9). -/
def coreCluster (c : Nat) : Nat := c / Config.clusterCores
/-- The power island of a core: 24 cores to an island (R9). -/
def coreIsland (c : Nat) : Nat := c / 24

/-- The context of a core that holds a given strand of a gang. -/
def Core.find (k : Core) (gang member slot : Nat) : Option Nat :=
  (k.ctxs.find? (fun e => e.2.gang == gang && e.2.member == member && e.2.slot == slot)).map (·.1)

/-- Where a strand is resident: its core and context. -/
def State.locate (s : State) (gang member slot : Nat) : Option (Nat × Nat) :=
  s.cores.findSome? (fun e => (e.2.find gang member slot).map (fun x => (e.1, x)))

/-- The module's number (R428). -/
def State.modnum (s : State) : Nat := (s.hreg 0x1008).toNat % 4096

/-- Registers of owner slot q (R429). -/
def State.slotReg (s : State) (q off : Nat) : Nat := (s.hreg (0x3000 + 64 * q + off)).toNat
def State.setSlotReg (s : State) (q off v : Nat) : State := s.setHreg (0x3000 + 64 * q + off) (BitVec.ofNat 64 v)
def State.slotValid (s : State) (q : Nat) : Bool := (s.slotReg q 0).testBit 63
def State.slotOwner (s : State) (q : Nat) : Nat := s.slotReg q 0 % 65536
/-- The owner number of a slot; none for the slot of an owner that holds none. -/
def State.ownerIn (s : State) (q : Nat) : Option Nat := if q < 32 then some (s.slotOwner q) else none
def State.slotIslands (s : State) (q : Nat) : Nat := s.slotReg q 0x28 % 2 ^ 32

/-- The valid slot of an owner number (R380, R429). -/
def State.slotOf (s : State) (owner : Nat) : Option Nat :=
  (List.range 32).find? (fun q => s.slotValid q && s.slotOwner q == owner)

def State.gang (s : State) (g : Nat) : Option Gang := Tab.find? s.launch.gangs g
def State.nest (s : State) (n : Nat) : Option Nest := Tab.find? s.launch.nests n
def State.setGang (s : State) (g : Nat) (v : Gang) : State :=
  { s with launch := { s.launch with gangs := Tab.put s.launch.gangs g v } }
def State.setNest (s : State) (n : Nat) (v : Nest) : State :=
  { s with launch := { s.launch with nests := Tab.put s.launch.nests n v } }

/-- The owner number of a gang's nest. -/
def State.gangOwner (s : State) (g : Nat) : Nat :=
  match s.gang g with
  | some v => ((s.nest v.nest).map (·.owner)).getD 0
  | none => 0
/-- The owner slot of a gang; slot 32 where its owner holds no valid slot. -/
def State.gangSlot (s : State) (g : Nat) : Nat := (s.slotOf (s.gangOwner g)).getD 32

/-- A feature as the nest of a gang was admitted with it (R301). -/
def State.featOf (s : State) (g n : Nat) : Bool :=
  match (s.gang g).bind (fun v => s.nest v.nest) with
  | some v => n == 0 || v.feats.getLsbD n
  | none => s.featAct n

/-! ### Snapshots, trigger and log -/

/-- Whether an address lies in the handler range of an owner slot (R313). -/
def State.inHandler (s : State) (q : Nat) (pc : Nat) : Bool :=
  let tvec := s.slotReg q 0x10
  let tlen := s.slotReg q 0x18
  tvec ≤ pc && pc < tvec + tlen

/-- The supply state (R393, Table 1). -/
def State.supply (s : State) : Nat := (s.hreg 0x2000).toNat % 8

/-- Whether the engine work of a strand goes on (R395, R399, R411): until its strand has halted in a supply or thermal
halt; not while the module drains or hibernates; after a restart once its owner has resumed. -/
def State.engineRuns (s : State) (gang member slot : Nat) : Bool :=
  let st := s.supply
  if st < 3 then true
  else if st = 4 || st = 5 then false
  else
    let halted := match s.locate gang member slot with
      | some (c, x) => ((s.strand c x).map (·.halted)).getD true
      | none => st ≠ 7
    !halted && !(st = 7 && s.power.unresumed.contains (s.gangOwner gang))

/-- SNAP_ST of a context (Table 8). -/
def State.snapSt (s : State) (k : Core) (x : Nat) : Nat :=
  match k.strand x with
  | none => 0
  | some t =>
    let q := s.gangSlot t.gang
    let stall := if t.halted then 8 else match t.stall with
      | .none => if k.cycle < t.readyAt then 5 else 0
      | .stream => 1 | .credit => 2 | .ring => 3 | .engine => 4 | .waitCount => 5 | .wait => 6
      | .matrix => 7 | .halted => 8
    let froz := (List.range 4).foldl (fun m i => if (Tab.get k.frozen [] i).isEmpty then m else m ||| (1 <<< i)) 0
    let nest := ((s.gang t.gang).map (·.nest)).getD 0
    (1 <<< 63) ||| (b2n (s.inHandler q t.pc.toNat) <<< 62) ||| (stall <<< 58) ||| (froz <<< 54) |||
      ((s.gangOwner t.gang % 65536) <<< 32) ||| (nest % 2 ^ 30)

/-- The tile the next micro-word of an operation names: its current tile (R153, R329). -/
def MatrixOp.tileNow (o : MatrixOp) : Nat := bits ((o.words[o.at_]?).elim 0 (·.toNat)) 59 57

/-- SNAP_MX of a core (Table 9). -/
def Core.snapMx (k : Core) : Nat :=
  let run := k.mq.find? (·.running)
  let kpos := match run with
    | some o => Tab.get o.kpos 0 o.tileNow % 65536
    | none => 0
  (kpos <<< 32) ||| (k.mq.length <<< 16) ||| (b2n run.isSome <<< 8) ||| (run.elim 0 (·.routine))

/-- Every block latches its snapshot registers (R328, R329, Table 5 of R441). Bits [7:0] of a pier engine's word are
the hop, over those of the descriptor's offset (log 41); what waits in the Viaduct's routers is free (log 8). A walk of a
stack is on the engine that its identity modulo 32 names (log 40). -/
def State.latch (s : State) : State :=
  let s1 := s.cores.foldl (fun s e =>
    let base := 0x200000 + 128 * e.1
    let s2 := (List.range 4).foldl (fun s x =>
      (s.setHreg (base + 8 * x) (BitVec.ofNat 64 (((e.2.strand x).map (·.pc.toNat)).getD 0 % 2 ^ 48))).setHreg
        (base + 32 + 8 * x) (BitVec.ofNat 64 (s.snapSt e.2 x))) s
    s2.setHreg (base + 64) (BitVec.ofNat 64 e.2.snapMx)) s
  let s2 := (List.range 4).foldl (fun s c => (List.range 15).foldl (fun s i =>
    s.setHreg (0x218000 + 128 * c + 8 * i) (BitVec.ofNat 64 (s.counterPage c (8 * i)))) s) s1
  let s3 := (List.range 256).foldl (fun s p =>
    let ws := s.walks.filter (fun w => w.2.stack * 32 + w.1 % 32 == p && !w.2.finished)
    match ws with
    | [] => s.setHreg (0x218400 + 8 * p) 0
    | w :: _ => s.setHreg (0x218400 + 8 * p) (BitVec.ofNat 64 ((ws.length <<< 32) ||| (w.2.desc / 256 * 256 % 2 ^ 32) ||| w.2.hop % 256))) s2
  let s4 := (List.range 36).foldl (fun s x => s.setHreg (0x219400 + 8 * x) (BitVec.ofNat 64 (Tab.get s.router.waiting 0 x))) s3
  let s5 := (List.range 32).foldl (fun s x => s.setHreg (0x219600 + 8 * x) ((Config.freeBits s.free (64 + x)).setWidth 64)) s4
  (List.range 256).foldl (fun s g =>
    match s.coll.replays.find? (·.graph == g) with
    | none => s.setHreg (0x218C00 + 8 * g) (BitVec.ofNat 64 (Tab.get s.coll.steps 0 g % 2 ^ 32))
    | some r =>
      let n := ((Tab.find? s.coll.graphs g).elim 0 (·.ops.length)) - r.ran.length
      s.setHreg (0x218C00 + 8 * g) (BitVec.ofNat 64 ((1 <<< 63) ||| (n <<< 32) ||| r.step % 2 ^ 32))) { s5 with free := s5.free + 1 }

/-- A log entry before another: ascending TIME, then ascending SOURCE (R327). -/
def LogEntry.before (a b : LogEntry) : Bool := a.time < b.time || (a.time == b.time && a.source < b.source)
/-- An entry put behind those that are not after it. -/
def insertLog (e : LogEntry) (l : List LogEntry) : List LogEntry :=
  match l with
  | [] => [e]
  | x :: r => if e.before x then e :: x :: r else x :: insertLog e r

/-- The four words of a log entry, word 0 lowest (R326, Table 7). -/
def LogEntry.image (e : LogEntry) : Nat :=
  e.time % 2 ^ 64 + 2 ^ 64 * ((e.source % 65536) <<< 48 ||| (e.cls % 256) <<< 40 ||| (e.code % 256) <<< 32 ||| (e.owner % 65536) <<< 16) +
    2 ^ 128 * e.addr.toNat + 2 ^ 192 * e.detail.toNat

/-- An entry handed to a cluster's log: readable once it is 2 µs old (R325, R327). -/
def State.pushLog (s : State) (c : Nat) (e : LogEntry) : State :=
  let k := s.cluster c
  s.setCluster c { k with logged := insertLog e k.logged }

/-- An entry made readable: the oldest of 8,192 is overwritten and OVERRUN counts it (R325, R440). -/
def State.showLog (s : State) (c : Nat) (e : LogEntry) : State :=
  let k := s.cluster c
  let full := 8192 ≤ k.log.length
  let s1 := s.setCluster c { k with log := (if full then k.log.drop 1 else k.log) ++ [e], logged := k.logged.erase e }
  let s2 := s1.setHreg (0x4000 + 16 * c) (s1.hreg (0x4000 + 16 * c) + 1)
  if full then s2.setHreg (0x4000 + 16 * c + 8) (s2.hreg (0x4000 + 16 * c + 8) + 1) else s2

/-- Every entry whose TIME is at least 2 µs before the present becomes readable, in order (R327). -/
def State.settleLogs (s : State) : State :=
  (List.range 4).foldl (fun s c =>
    ((s.cluster c).logged.filter (fun e => decide (e.time + 2000 ≤ s.now))).foldl (fun s e => s.showLog c e) s) s

/-- The 32 bytes of the log window's slot at a byte offset of 0x40_0000: the entry last put there (R440). -/
def State.logSlot (s : State) (off : Nat) : Nat :=
  let c := off / 2 ^ 18
  let slot := off % 2 ^ 18 / 32
  let tail := (s.hreg (0x4000 + 16 * c)).toNat
  let back := (tail + 8192 - 1 - slot) % 8192
  let l := (s.cluster c).log
  if back < l.length then (l[l.length - 1 - back]?).elim 0 LogEntry.image else 0

/-- The common trigger fires: it latches once when armed and is counted otherwise (R328, R441). -/
def State.fire (s : State) (source : Nat) : State :=
  let ctl := s.hreg 0x4100
  if ctl.getLsbD 63 then
    let s1 := ((s.setHreg 0x4100 (ctl &&& ~~~(1#64 <<< 63))).setHreg 0x4118 (BitVec.ofNat 64 s.now)).latch
    s1.pushLog 0 { time := s.now, source := source, cls := 7, code := 0, owner := 0, addr := 0,
                   detail := BitVec.ofNat 64 s.now }
  else s.setHreg 0x4110 (s.hreg 0x4110 + 1)

/-- An entry logged in cluster `c`'s log; the trigger fires when its mask holds the CLASS, or counts it while disarmed
(R328). -/
def State.logEntry (s : State) (c : Nat) (e : LogEntry) : State :=
  let s1 := s.pushLog c e
  if (s1.hreg 0x4100).getLsbD e.cls then s1.fire e.source else s1
/-- An entry logged now. -/
def State.log (s : State) (c source cls code owner : Nat) (addr detail : Word) : State :=
  s.logEntry c { time := s.now, source := source, cls := cls, code := code, owner := owner, addr := addr, detail := detail }
/-- A corrected error of a die: counted, its sector among the last 64 kept, and logged where the sector has corrected before within
24 hours (R360, R361, R442). -/
def State.correct (s : State) (die source sector : Nat) : State :=
  let k := s.cluster die
  let before := (k.eccAddrs.filter (fun (e : Nat × Nat) => e.1 == sector && decide (s.now < e.2 + 86400000000000))).length
  let s1 := s.setCluster die { k with eccAddrs := (k.eccAddrs ++ [(sector, s.now)]).drop (k.eccAddrs.length + 1 - 64) }
  let s2 := s1.setHreg (0x5800 + 8 * die) (s1.hreg (0x5800 + 8 * die) + 1)
  if before = 0 then s2 else s2.log die source 2 5 0 (BitVec.ofNat 64 (sector * 32)) (BitVec.ofNat 64 (before + 1))

end Sys2Proof.Machine
end

