-- ==== Sys2Proof/Machine/Slice.lean ====
section
/-! DEFINITION. Writes, fills, evictions and reads at the L2 slice of a line (R188 to R190, R359, R367, R379). -/
namespace Sys2Proof.Machine
open Sys2Proof

/-- The owner whose slot uses a key; 0 for the device key and one that no slot uses. -/
def State.keyOwner (s : State) (key : Nat) : Nat := ((List.range 32).find? (fun q => s.slotKey q == key)).elim 0 s.slotOwner

/-- A line written back, sector by sector, under its own key, and dropped (R189, R193, R379); a sector with an
uncorrectable word is not written back (R359). `counted`: its decoding counts, but not where its line changes keys
(R192, R379). -/
def State.evictLine (s : State) (l : L2Line) (counted : Bool) : State :=
  let c := homeCluster (l.line * 128)
  let k := s.cluster c
  let k1 := if counted && l.dirty && 1 ≤ l.code && l.code ≤ 8 then k.count 1 1 else k
  let s1 := s.setCluster c (k1.without l.line)
  let s2 := if l.dirty then
      (List.range 4).foldl (fun (s : State) i =>
        if !l.valid.getLsbD i then s
        else if s.badL2.any (fun b => b / 4 == 4 * l.line + i) then
          s.log c 0x0100 2 6 (s.keyOwner l.key) (BitVec.ofNat 64 (l.line * 128 + 32 * i)) (BitVec.ofNat 64 l.stateWord)
        else s.setHbmSector (l.line * 128 + 32 * i) l.key (bits l.data.toNat (256 * i + 255) (256 * i))) s1
    else s1
  { s2 with badL2 := s2.badL2.filter (fun b => b / 16 != l.line) }

/-- Lines evicted in LRU order while `short` of the remaining set still holds; busy lines and the line
itself are passed over, and so are lines that hold no sector where `keepEmpty`. None when they do not
suffice (R189, R190, R367). -/
def State.makeRoom (s : State) (line : Nat) (order : List L2Line) (keepEmpty : Bool)
    (short : List L2Line → Bool) (counted : Bool) : Option State :=
  let c := homeCluster (line * 128)
  if !short ((s.cluster c).inSet line) then some s
  else
    match order with
    | [] => none
    | l :: rest =>
      if l.line == line || (s.cluster c).busy l.line || (keepEmpty && l.sectors == 0) then
        s.makeRoom line rest keepEmpty short counted
      else
        let s1 := s.evictLine l true
        let s2 := if counted then s1.setCluster c ((s1.cluster c).count 3 1) else s1
        s2.makeRoom line rest keepEmpty short counted
termination_by structural order

/-- The line replaced or added. -/
def Cluster.putLine (k : Cluster) (l : L2Line) : Cluster :=
  { k with lines := (k.lines.filter (fun m => m.line != l.line)) ++ [l] }

/-- A line as this key may use it: a line held under another key is written back and evicted (R379). -/
def State.claimLine (s : State) (line key : Nat) : State :=
  match (s.cluster (homeCluster (line * 128))).find line with
  | some l => if l.key = key then s else s.evictLine l false
  | none => s

/-- Bring in the sectors that a store fills only in part (R188, R190): data and valid mask after reading. -/
def State.readIn (s : State) (line key : Nat) (l : L2Line) (mask : Nat) : L2Line :=
  (List.range 4).foldl (fun l i =>
    let m := bits mask (32 * i + 31) (32 * i)
    if m = 0 || l.valid.getLsbD i then l
    else
      let d := if m = 0xFFFFFFFF then 0 else s.hbmSector (line * 128 + 32 * i) key
      { l with valid := l.valid ||| (1#4 <<< i)
               data := BitVec.ofNat 1024 (setBits l.data.toNat (256 * i) 256 d) }) l

/-- A write applied to a line (R189, R190): the bytes under `mask` of the 128 of `data`. A fill leaves DIRTY
as it was. None when the write must wait for a busy line of its set (R367). What a write that finds no tag brings is counted in raw sectors,
those that it touches; R190 does not say whether its encoded image counts instead: the model's choice (log 174). A sector that it
reads from HBM4 brings its uncorrectable words with it (R358). -/
def State.l2Write (s0 : State) (line mask data key : Nat) (isFill streaming nocomp : Bool) : Option State :=
  let c := homeCluster (line * 128)
  let s := s0.claimLine line key
  let k := s.cluster c
  let found := k.find line
  -- a line that holds no tag first gets one, with room for what the write brings
  let brings := (List.range 4).foldl (fun n i => n + b2n (bits mask (32 * i + 31) (32 * i) != 0)) 0
  let room := match found with
    | some _ => some s
    | none => s.makeRoom line (lruOrder (k.inSet line)) false
        (fun ls => 16 ≤ ls.length || 32 < setSectors ls + brings) false
  match room with
  | none => none
  | some s1 =>
    let k1 := s1.cluster c
    let old : L2Line := found.getD
      { line := line, valid := 0, data := 0, code := 15, dirty := false, nocomp := false, used := 0, key := key }
    let had := if found.isSome then old.sectors else 0
    let k2 := if old.full && old.code != 0 && old.code != 15 then k1.count 1 1 else k1
    let l1 := s1.readIn line key old mask
    let merged := BitVec.ofNat 1024 (mergeBytes 128 mask data l1.data.toNat)
    let noc := l1.nocomp || nocomp || !s.featAct 2
    let l2 : L2Line := { l1 with data := merged, dirty := old.dirty || !isFill, nocomp := l1.nocomp || nocomp,
                                 used := if isFill && streaming then -(k2.clock + 1) else k2.clock + 1 }
    let l3 : L2Line := if l2.full then { l2 with code := (selectCode merged.toNat noc).1 } else { l2 with code := 15 }
    let k3 := if l2.full then k2.count 0 1 else k2
    let need := l3.sectors - had
    let k4 := if 0 < need then k3.count 2 1 else k3
    let s2 := s1.setCluster c { k4 with clock := k4.clock + 1 }
    let others := fun ls => setSectors (ls.filter (fun l : L2Line => l.line != line))
    match s2.makeRoom line (lruOrder ((s2.cluster c).inSet line)) true
        (fun ls => 32 < others ls + l3.sectors) true with
    | none => none
    | some s3 =>
      let bytes := fun (b : Nat) => bits mask (32 * (b % 16 / 4) + 31) (32 * (b % 16 / 4))
      let fresh := s1.bad.filter (fun b => b / 16 == line && bytes b != 0 && bytes b != 0xFFFFFFFF && !old.valid.getLsbD (b % 16 / 4))
      some { s3.setCluster c ((s3.cluster c).putLine l3) with badL2 := s3.badL2.filter (fun b => b / 16 != line || bytes b != 0xFFFFFFFF) ++ fresh }

/-- A line made most recently used by an access (R190). -/
def State.touchLine (s : State) (line : Nat) : State :=
  let c := homeCluster (line * 128)
  let k := s.cluster c
  match k.find line with
  | none => s
  | some l =>
    s.setCluster c { (k.putLine { l with used := k.clock + 1 }) with clock := k.clock + 1 }

/-- Whether the sectors of a mask (bit i for sector i) are held under a key. -/
def State.holds (s : State) (line key sectors : Nat) : Bool :=
  match (s.cluster (homeCluster (line * 128))).find line with
  | some l => l.key = key && (l.valid.toNat &&& sectors) = sectors
  | none => false

/-- The 64-bit words of the sector at a local offset that are uncorrectable under a key, in the L2 or in HBM4, by their
number in it (R358). -/
def State.badWords (s : State) (off key : Nat) : List Nat :=
  let marks := if s.holds (off / 128) key (1 <<< (off % 128 / 32)) then s.badL2 else s.bad
  (List.range 4).filter (fun w => marks.contains (off / 32 * 4 + w))
/-- A partial write of the sector meets an uncorrectable word (R359). -/
def State.badAt (s : State) (off key : Nat) : Bool := !(s.badWords off key).isEmpty
/-- A read of bytes of the sector, by their mask, meets an uncorrectable word (R359). -/
def State.badRead (s : State) (off key mask : Nat) : Bool := (s.badWords off key).any (fun w => bits mask (8 * w + 7) (8 * w) != 0)

/-- The 128 bytes of a line as they read at the home under a key, held sectors from the L2, others from HBM4,
changing nothing. -/
def State.peekLine (s : State) (line key : Nat) : Nat :=
  let held := (s.cluster (homeCluster (line * 128))).find line
  (List.range 4).foldl (fun v i =>
    let d := match held with
      | some l =>
        if l.key = key && l.valid.getLsbD i then bits l.data.toNat (256 * i + 255) (256 * i)
        else if l.valid.getLsbD i && l.dirty then
          ofBytes ((List.range 32).map (fun b => Config.garbled (line * 128 + 32 * i + b) key l.key))
        else s.hbmSector (line * 128 + 32 * i) key
      | none => s.hbmSector (line * 128 + 32 * i) key
    v ||| (d <<< (256 * i))) 0

/-- The `n` bytes at a local offset, within one line, as they read at the home. -/
def State.peek (s : State) (pa n key : Nat) : Nat :=
  (s.peekLine (pa / 128) key >>> (8 * (pa % 128))) % 2 ^ (8 * n)

/-- Fill sectors of a line from HBM4 under a key (R188, R190); a word that is uncorrectable there is so in the L2
(R358). -/
def State.fillSectors (s : State) (line key sectors : Nat) (streaming nocomp : Bool) : Option State :=
  let s1 := s.claimLine line key
  let have_ := match (s1.cluster (homeCluster (line * 128))).find line with
    | some l => l.valid.toNat
    | none => 0
  let want := (List.range 4).foldl (fun m i =>
    if sectors.testBit i && !have_.testBit i then m ||| maskRange (32 * i) 32 else m) 0
  if want = 0 then some s1
  else
    let data := (List.range 4).foldl (fun v i =>
      if want.testBit (32 * i) then v ||| (s1.hbmSector (line * 128 + 32 * i) key <<< (256 * i)) else v) 0
    (s1.l2Write line want data key true streaming nocomp).map (fun s2 =>
      { s2 with badL2 := s2.badL2 ++ s1.bad.filter (fun b => b / 16 == line && want.testBit (32 * (b % 16 / 4))) })

/-- The fill of a line that is outstanding is completed (R190). -/
def State.completeFill (s : State) (f : Fill) : Option State :=
  let c := homeCluster (f.line * 128)
  let s1 := s.setCluster c { s.cluster c with fills := (s.cluster c).fills.filter (fun g => g.line != f.line) }
  s1.fillSectors f.line f.key f.sectors.toNat f.streaming f.nocomp

/-- What keeps the set of a line busy comes to its end: its outstanding fills are completed; one that finds no room even so
ends with nothing brought in, and what asked for it asks again. A request whose write waits for a line (R367) has changed
nothing and arrives after the engine's access for which this is done: the model's order of the two (log 157). -/
def State.settleSet (s0 : State) (line : Nat) : State :=
  let c := homeCluster (line * 128)
  let mine := fun (f : Fill) => l2Set f.line == l2Set line
  let s : State := { s0 with reqs := s0.reqs.map (fun e => (e.1, { e.2 with setWait := false })) }
  let s1 := (s.cluster c).fills.foldl (fun s f => if mine f then (s.completeFill f).getD s else s) s
  s1.setCluster c { s1.cluster c with fills := (s1.cluster c).fills.filter (!mine ·) }

/-- A read of `n` bytes in one line by an engine or walker. It brings in the sectors it needs that are not held, or
the full line where it misses and `fullLine` asks for it (R179, R188, R193); a busy set completes its fills first.
R188 names loads and walker reads only: that an engine, a copy or a pier engine fills the sectors it touches is the
model's choice (log 155). -/
def State.homeRead (s : State) (pa n key : Nat) (fullLine : Bool) : State × Nat :=
  let line := pa / 128
  let lo := pa % 128 / 32
  let hi := (pa % 128 + n - 1) / 32
  let needed := (List.range 4).foldl (fun m i => if lo ≤ i && i ≤ hi then m ||| (1 <<< i) else m) 0
  let sectors := if fullLine && !s.holds line key needed then 15 else needed
  let s1 := match s.fillSectors line key sectors false false with
    | some s1 => s1
    | none => ((s.settleSet line).fillSectors line key sectors false false).getD (s.settleSet line)
  ((s1.touchLine line), s1.peek pa n key)

end Sys2Proof.Machine
end

