-- ==== Sys2Proof/Machine/Home.lean ====
section
/-! DEFINITION. The scratchpad, waits held at a home, what a write performed at a home does besides changing bytes
(R258, R261, R371, R416), and translation (R177, R179, R180). -/
namespace Sys2Proof.Machine
open Sys2Proof

/-! ### Scratchpad -/

/-- L1SZ of a core (R52). -/
def Core.l1sz (k : Core) : Nat := k.share.split.toNat % 8
/-- The scratchpad size of a core (R52). -/
def Core.spadSize (k : Core) : Nat := Config.sramBytes - Config.l1Step * k.l1sz
def State.spadRead (s : State) (c off n : Nat) : Nat := readCells (s.core c).spad off n

/-! ### Waits held at a home -/

/-- Whether a WAIT's condition holds of a word (R261). -/
def waitMet (cond size : Nat) (word mask cmp : Word) : Bool :=
  let w := 8 * size
  let v := (word &&& mask).toNat % 2 ^ w
  let c := (cmp &&& mask).toNat % 2 ^ w
  match cond with
  | 0 => v == c
  | 1 => v != c
  | 2 => decide (c ≤ v)
  | 3 => decide (v < c)
  | 4 => decide (sint w c ≤ sint w v)
  | 5 => decide (sint w v < sint w c)
  | _ => false

/-- An answer delivered to the strand of a waiter, which leaves its home. -/
def State.answer (s : State) (w : Waiter) (status gen : Nat) : State :=
  match w.asker with
  | some (m, seq) =>
    { s with waiters := s.waiters.filter (fun v => v != w),
             router := { s.router with seen := s.router.seen ++ [(m, w.queue, seq, status, BitVec.ofNat 256 gen)] }, outbox := s.outbox ++ [OutMsg.answer m seq status (BitVec.ofNat 256 gen)] }
  | none =>
    { s.mapStrand w.core w.ctx (fun t => { t with answer := some (status, gen) }) with
      waiters := s.waiters.filter (fun v => v.asker.isSome || !(v.core == w.core && v.ctx == w.ctx)) }

/-- Every WAIT on a word of global memory that the bytes [pa, pa + n) touch is tested (R261). -/
def State.testGlobal (s : State) (pa n : Nat) : State :=
  s.waiters.foldl (fun s w =>
    if w.sent && w.module.isNone && w.spad.isNone && w.barrier.isNone && w.addr < pa + n && pa < w.addr + w.size then
      let v := s.peek w.addr w.size (s.slotKey w.slotOwner)
      if waitMet w.cond w.size (BitVec.ofNat 64 v) w.mask w.cmp then s.answer w 0 0 else s
    else s) s

/-- Every WAIT on a scratchpad word of core `c` that the bytes touch is tested. -/
def State.testSpad (s : State) (c off n : Nat) : State :=
  s.waiters.foldl (fun s w =>
    if w.sent && w.spad == some c && w.addr < off + n && off < w.addr + w.size then
      if waitMet w.cond w.size (BitVec.ofNat 64 (s.spadRead c w.addr w.size)) w.mask w.cmp then s.answer w 0 0 else s
    else s) s

/-- The words of a scratchpad that a write of the masked `n` bytes from `off` rewrites whole are uncorrectable no more
(R358, R359). -/
def State.renewSpad (s : State) (c off n mask : Nat) : State :=
  { s with badSpad := s.badSpad.filter (fun e => !(e.1 == c && (List.range 8).all (fun i =>
      decide (off ≤ 8 * e.2 + i) && decide (8 * e.2 + i < off + n) && mask.testBit (8 * e.2 + i - off)))) }
/-- Bytes of a scratchpad written, where the byte mask is set (R182, R202). -/
def State.spadWrite (s : State) (c off n mask v : Nat) : State :=
  ((s.renewSpad c off n mask).mapCore c (fun k => { k with spad := writeCells k.spad off n mask v })).testSpad c off n

/-- Every BWAIT held on an object is answered (R371). -/
def State.answerBarrier (s : State) (obj status gen : Nat) : State :=
  s.waiters.foldl (fun s w =>
    if w.sent && w.module.isNone && w.barrier.isSome && w.addr / 16 == obj then s.answer w status gen else s) s

/-- Every BWAIT held on an object is tested: TAG 0, or a generation other than its own (R260). -/
def State.testBarrier (s : State) (obj gen : Nat) : State :=
  if !s.barriers.contains obj then s.answerBarrier obj 2 gen
  else s.waiters.foldl (fun s w =>
    if w.sent && w.module.isNone && w.addr / 16 == obj && w.barrier.isSome && w.barrier != some gen then s.answer w 0 gen else s) s

/-- What a write of the masked `n` bytes from `pa`, other than BARRIVE, does to the barrier objects of which it writes a
byte (R258, R371). -/
def State.clearTags (s : State) (pa n mask key : Nat) : State :=
  s.barriers.foldl (fun s o =>
    if (List.range n).any (fun i => mask.testBit i && (pa + i) / 16 == o) then
      { s with barriers := s.barriers.filter (· ≠ o) }.answerBarrier o 2 (s.peek (o * 16) 2 key)
    else s) s

/-- A 32 KiB granule marked in the dirty map (R416). -/
def State.markDirty (s : State) (pa : Nat) : State :=
  let g := pa / 32768
  if s.dirtyMap.contains g then s else { s with dirtyMap := s.dirtyMap ++ [g] }

/-- Bytes written at their home under a key (R178, R189): the masked `n` bytes from `pa`, within one line.
None when the write must wait for a busy line (R367). -/
def State.homeWrite (s : State) (pa n mask v key : Nat) (nocomp : Bool) : Option State :=
  let off := pa % 128
  match s.l2Write (pa / 128) (mask <<< off) (v <<< (8 * off)) key false false nocomp with
  | none => none
  | some s1 => some ((((s1.clearTags pa n mask key).testGlobal pa n)).markDirty pa)

/-- A write of at most one line performed at once: the fills that keep its set busy end first (R367). -/
def State.writeNow (s : State) (pa n mask v key : Nat) (nocomp : Bool) : State :=
  match s.homeWrite pa n mask v key nocomp with
  | some s1 => s1
  | none =>
    let s1 := s.settleSet (pa / 128)
    (s1.homeWrite pa n mask v key nocomp).getD s1
/-- An engine's write of at most one line. -/
def State.engineWrite (s : State) (pa n mask v key : Nat) : State := s.writeNow pa n mask v key false

/-! ### Translation -/

/-- What an access needs of its page (R179, Table 3). -/
inductive Need
  | load | store | atomic | fetch
  deriving DecidableEq, Repr

def TlbEntry.allows (e : TlbEntry) (n : Need) : Bool :=
  match n with
  | .load => e.r
  | .store => e.w
  | .atomic => e.r && e.w
  | .fetch => e.x

def TlbEntry.covers (e : TlbEntry) (slot va : Nat) : Bool :=
  e.slot == slot && e.vpage ≤ va && va < e.vpage + e.size

/-- The entry that translates an address, in the core's micro-TLB or its die's last-level TLB (R180). -/
def State.tlbHit (s : State) (c slot va : Nat) : Option TlbEntry :=
  match (s.core c).utlb.find? (·.covers slot va) with
  | some e => some e
  | none => (s.cluster (coreCluster c)).tlb.find? (·.covers slot va)

/-- An entry installed in both TLBs, which keep their latest entries. -/
def State.tlbInstall (s : State) (c : Nat) (e : TlbEntry) : State :=
  let put := fun (n : Nat) (l : List TlbEntry) => (l ++ [e]).drop ((l.length + 1) - n)
  let s1 := s.mapCore c (fun k => { k with utlb := put 128 k.utlb })
  let cl := coreCluster c
  s1.setCluster cl { s1.cluster cl with tlb := put 16384 (s1.cluster cl).tlb }

/-- The levels of the page table from the top: shift, index bits, and the size a leaf maps (Table 2). -/
def walkLevels : List (Nat × Nat × Option Nat) :=
  [(46, 10, none), (37, 9, none), (28, 9, some (2 ^ 28)), (21, 7, some (2 ^ 21)), (16, 5, some (2 ^ 16))]

/-- No self-test has run: the module has not left power-on (R362, R427). -/
def State.untested (s : State) : Bool := s.hreg 0x1000 == 0#64
/-- Whether a stack serves: its interface and its cluster passed self-test, or no self-test has run (R362). -/
def State.stackServes (s : State) (h : Nat) : Bool :=
  let v := (s.hreg 0x1018).toNat
  s.untested || (v.testBit (16 + h) && v.testBit (h / 2) && v.testBit (8 + h / 2))
/-- Whether a local offset lies in HBM4 that is mapped (R16, R177, R362). -/
def State.hbmMapped (s : State) (off : Nat) : Bool := inHbm off && s.stackServes (off / 2 ^ 36)
/-- Whether every byte of a range lies in HBM4 that is mapped; no range the device reads or writes at once spans three stacks. -/
def State.hbmRange (s : State) (off n : Nat) : Bool := s.hbmMapped off && s.hbmMapped (off + n - 1)

/-- The rest of a walk from a table at a domain physical address: the page, or the sub-cause of the fault
(R179). A table lies in the module's own HBM4, so a table address is taken by its offset within the module. A next
table's address that is no multiple of the table's size faults by no rule: its entries are read at that address plus the
index, the model's choice (log 154). A read of an entry that misses fills the entry's full line under the owner's key. -/
def State.walkFrom (s : State) (slot va table : Nat) (levels : List (Nat × Nat × Option Nat)) :
    State × Except Nat TlbEntry :=
  match levels with
  | [] => (s, .error 1)
  | (shift, n, leafSize) :: rest =>
    let ea := table + 8 * bits va (shift + n - 1) shift
    if !s.hbmMapped (ea % 2 ^ 44) then (s, .error 0)
    else
      let (s1, e) := s.homeRead (ea % 2 ^ 44) 8 (s.slotKey slot) true
      let addr := (e / 256 * 256) % 2 ^ 56
      if !e.testBit 0 then (s1, .error 0)
      else if e.testBit 1 then
        match leafSize with
        | none => (s1, .error 1)
        | some size =>
          if addr % size ≠ 0 then (s1, .error 1)
          else (s1, .ok { slot := slot, vpage := va / size * size, size := size, ppage := addr,
                          r := e.testBit 2, w := e.testBit 3, x := e.testBit 4 })
      else if rest.isEmpty then (s1, .error 1)
      else s1.walkFrom slot va addr rest
termination_by structural levels

/-- A walk of an owner slot's page table (R179). -/
def State.walk (s : State) (slot va : Nat) : State × Except Nat TlbEntry :=
  s.walkFrom slot va (s.slotReg slot 0x08 / 8192 * 8192 % 2 ^ 56) walkLevels

/-- Translation of an access at once, as instructions that fault at issue and engines need it: the domain
physical address, or the sub-cause of the fault (R179, R180, R364). -/
def State.translate (s : State) (c slot va : Nat) (need : Need) : State × Except Nat Nat :=
  match s.tlbHit c slot va with
  | some e => if e.allows need then (s, .ok (e.ppage + (va - e.vpage))) else (s, .error 2)
  | none =>
    match s.walk slot va with
    | (s1, .error n) => (s1, .error n)
    | (s1, .ok e) =>
      if e.allows need then (s1.tlbInstall c e, .ok (e.ppage + (va - e.vpage))) else (s1, .error 2)

/-- The fault of an access to a counter page that is not an aligned 8-byte load (R192, R335). -/
def TlbEntry.counterFault (e : TlbEntry) : Nat := if e.w then 0 else 2
def State.counterFault (s : State) (c slot va : Nat) : Nat := (s.tlbHit c slot va).elim 0 TlbEntry.counterFault

/-- Where a domain physical address leads (R177, R285, R335). -/
inductive Place
  | local_ (off : Nat)
  | counter (cluster off : Nat)
  | remote (module off : Nat)
  | multicast (group off : Nat)
  | fault (sub : Nat)
  deriving DecidableEq, Repr

/-- A local offset lies in a counter page (R177, R192). -/
def counterOffset (off : Nat) : Bool := decide (0xF0000000000 ≤ off) && decide (off < 0xF0000004000)

/-- The place of a domain physical address for a given access. A request for a module that is HIBERNATING is sent: its own
answer tells (R383). -/
def State.place (s : State) (pa : Nat) : Place :=
  let m := bits pa 55 44
  let off := pa % 2 ^ 44
  if m = s.modnum then
    let h := off / 2 ^ 36
    if off < 2 ^ 39 then (if s.stackServes h then .local_ off else .fault 0)
    else if counterOffset off then .counter (bits off 13 12) (off % 4096)
    else .fault 0
  else if 3840 ≤ m then .multicast (m - 3840) off
  else if 3072 ≤ m then .fault 0
  else
    match Tab.find? s.router.modules m with
    | none => .fault 3
    | some .lost => .fault 3
    | some .hibernating => .remote m off
    | some .reachable => .remote m off

end Sys2Proof.Machine
end

