-- ==== Sys2Proof/Decode.lean ====
section
/-! DEFINITION. Slot words and micro-words: how a word is read (R58 to R75, R153), which words are refused
and under which name, and the encoder written from the same tables. -/
namespace Sys2Proof

/-- Why a slot word or micro-word is not an instruction used within its limits (R330). -/
inductive Defect
  /-- a slot word in a reserved opcode cell (R75): ILLEGAL_ENCODING, SUB 4 -/
  | cell
  /-- a register field with a reserved value or nonzero bits above the register count: ILLEGAL_REGISTER -/
  | register (info : Nat)
  /-- a non-register field with a nonzero reserved bit or a reserved value: ILLEGAL_OPERAND -/
  | operand
  /-- a micro-word with a reserved code or a nonzero reserved field (R153) -/
  | microWord
  deriving DecidableEq, Repr

/-- A slot word read through its opcode cell: the instruction it stands for, whether its reserved
non-register fields are zero, and the value of a register field with bits above the register's count. -/
structure Reading where
  instr : Instr
  fieldsOk : Bool
  registerHigh : Option Nat
  deriving DecidableEq, Repr

/-- The cells of the S slot (R74). -/
def readS (w : BitVec 32) (p : BitVec 16) : Option Reading :=
  match (w.extractLsb' 26 6).toNat with
  | 0x01 => some ⟨.add (w.extractLsb' 20 6) (w.extractLsb' 14 6) (w.extractLsb' 8 6) (w.extractLsb' 4 4) (w.extractLsb' 0 1), (w.extractLsb' 1 3 == 0#3), none⟩
  | 0x02 => some ⟨.sub (w.extractLsb' 20 6) (w.extractLsb' 14 6) (w.extractLsb' 8 6) (w.extractLsb' 4 4) (w.extractLsb' 0 1), (w.extractLsb' 1 3 == 0#3), none⟩
  | 0x03 => some ⟨.mul (w.extractLsb' 20 6) (w.extractLsb' 14 6) (w.extractLsb' 8 6) (w.extractLsb' 4 4) (w.extractLsb' 0 1), (w.extractLsb' 1 3 == 0#3), none⟩
  | 0x04 => some ⟨.mulh (w.extractLsb' 20 6) (w.extractLsb' 14 6) (w.extractLsb' 8 6) (w.extractLsb' 4 4), (w.extractLsb' 0 4 == 0#4), none⟩
  | 0x05 => some ⟨.divs (w.extractLsb' 20 6) (w.extractLsb' 14 6) (w.extractLsb' 8 6) (w.extractLsb' 4 4), (w.extractLsb' 0 4 == 0#4), none⟩
  | 0x06 => some ⟨.divn (w.extractLsb' 20 6) (w.extractLsb' 14 6) (w.extractLsb' 8 6) (w.extractLsb' 4 4), (w.extractLsb' 0 4 == 0#4), none⟩
  | 0x07 => some ⟨.rem (w.extractLsb' 20 6) (w.extractLsb' 14 6) (w.extractLsb' 8 6) (w.extractLsb' 4 4), (w.extractLsb' 0 4 == 0#4), none⟩
  | 0x08 => some ⟨.and (w.extractLsb' 20 6) (w.extractLsb' 14 6) (w.extractLsb' 8 6) (w.extractLsb' 4 4), (w.extractLsb' 0 4 == 0#4), none⟩
  | 0x09 => some ⟨.or (w.extractLsb' 20 6) (w.extractLsb' 14 6) (w.extractLsb' 8 6) (w.extractLsb' 4 4), (w.extractLsb' 0 4 == 0#4), none⟩
  | 0x0A => some ⟨.xor (w.extractLsb' 20 6) (w.extractLsb' 14 6) (w.extractLsb' 8 6) (w.extractLsb' 4 4), (w.extractLsb' 0 4 == 0#4), none⟩
  | 0x0B => some ⟨.not (w.extractLsb' 20 6) (w.extractLsb' 14 6) (w.extractLsb' 4 4), (w.extractLsb' 8 6 == 0#6) && (w.extractLsb' 0 4 == 0#4), none⟩
  | 0x0C => some ⟨.shl (w.extractLsb' 20 6) (w.extractLsb' 14 6) (w.extractLsb' 8 6) (w.extractLsb' 4 4), (w.extractLsb' 0 4 == 0#4), none⟩
  | 0x0D => some ⟨.shr (w.extractLsb' 20 6) (w.extractLsb' 14 6) (w.extractLsb' 8 6) (w.extractLsb' 4 4), (w.extractLsb' 0 4 == 0#4), none⟩
  | 0x0E => some ⟨.sar (w.extractLsb' 20 6) (w.extractLsb' 14 6) (w.extractLsb' 8 6) (w.extractLsb' 4 4), (w.extractLsb' 0 4 == 0#4), none⟩
  | 0x0F => some ⟨.rot (w.extractLsb' 20 6) (w.extractLsb' 14 6) (w.extractLsb' 8 6) (w.extractLsb' 4 4), (w.extractLsb' 0 4 == 0#4), none⟩
  | 0x10 => some ⟨.min (w.extractLsb' 20 6) (w.extractLsb' 14 6) (w.extractLsb' 8 6) (w.extractLsb' 4 4), (w.extractLsb' 0 4 == 0#4), none⟩
  | 0x11 => some ⟨.max (w.extractLsb' 20 6) (w.extractLsb' 14 6) (w.extractLsb' 8 6) (w.extractLsb' 4 4), (w.extractLsb' 0 4 == 0#4), none⟩
  | 0x12 => some ⟨.cmp (w.extractLsb' 20 6) (w.extractLsb' 14 6) (w.extractLsb' 8 6) (w.extractLsb' 4 4) (w.extractLsb' 0 4), true, none⟩
  | 0x13 => some ⟨.sel (w.extractLsb' 20 6) (w.extractLsb' 14 6) (w.extractLsb' 8 6) (p.extractLsb' 10 6), (w.extractLsb' 4 4 == 0#4) && (w.extractLsb' 0 4 == 0#4) && (p.extractLsb' 0 10 == 0#10), none⟩
  | 0x14 => some ⟨.popc (w.extractLsb' 20 6) (w.extractLsb' 14 6) (w.extractLsb' 4 4), (w.extractLsb' 8 6 == 0#6) && (w.extractLsb' 0 4 == 0#4), none⟩
  | 0x15 => some ⟨.clz (w.extractLsb' 20 6) (w.extractLsb' 14 6) (w.extractLsb' 4 4), (w.extractLsb' 8 6 == 0#6) && (w.extractLsb' 0 4 == 0#4), none⟩
  | 0x16 => some ⟨.ctz (w.extractLsb' 20 6) (w.extractLsb' 14 6) (w.extractLsb' 4 4), (w.extractLsb' 8 6 == 0#6) && (w.extractLsb' 0 4 == 0#4), none⟩
  | 0x17 => some ⟨.pack (w.extractLsb' 20 6) (w.extractLsb' 14 6) (w.extractLsb' 8 6) (w.extractLsb' 4 4), (w.extractLsb' 0 4 == 0#4), none⟩
  | 0x18 => some ⟨.addi (w.extractLsb' 20 6) (w.extractLsb' 14 6) (w.extractLsb' 0 14), true, none⟩
  | 0x19 => some ⟨.movi (w.extractLsb' 20 6) (pk 30 p (w.extractLsb' 0 14)), (w.extractLsb' 14 6 == 0#6), none⟩
  | 0x1A => some ⟨.movh (w.extractLsb' 20 6) (w.extractLsb' 14 6) (pk 30 p (w.extractLsb' 0 14)), true, none⟩
  | 0x1B => some ⟨.bfx (w.extractLsb' 20 6) (w.extractLsb' 14 6) (w.extractLsb' 13 1) (w.extractLsb' 6 6) (w.extractLsb' 0 6), (w.extractLsb' 12 1 == 0#1), none⟩
  | 0x1C => some ⟨.bfi (w.extractLsb' 20 6) (w.extractLsb' 14 6) (w.extractLsb' 6 6) (w.extractLsb' 0 6), (w.extractLsb' 12 2 == 0#2), none⟩
  | 0x20 => some ⟨.fadd (w.extractLsb' 20 6) (w.extractLsb' 14 6) (w.extractLsb' 8 6) (w.extractLsb' 4 4), (w.extractLsb' 0 4 == 0#4), none⟩
  | 0x21 => some ⟨.fsub (w.extractLsb' 20 6) (w.extractLsb' 14 6) (w.extractLsb' 8 6) (w.extractLsb' 4 4), (w.extractLsb' 0 4 == 0#4), none⟩
  | 0x22 => some ⟨.fmul (w.extractLsb' 20 6) (w.extractLsb' 14 6) (w.extractLsb' 8 6) (w.extractLsb' 4 4), (w.extractLsb' 0 4 == 0#4), none⟩
  | 0x23 => some ⟨.ffma (w.extractLsb' 20 6) (w.extractLsb' 14 6) (w.extractLsb' 8 6) (w.extractLsb' 4 4) (p.extractLsb' 10 6), (w.extractLsb' 0 4 == 0#4) && (p.extractLsb' 0 10 == 0#10), none⟩
  | 0x24 => some ⟨.fmin (w.extractLsb' 20 6) (w.extractLsb' 14 6) (w.extractLsb' 8 6) (w.extractLsb' 4 4), (w.extractLsb' 0 4 == 0#4), none⟩
  | 0x25 => some ⟨.fmax (w.extractLsb' 20 6) (w.extractLsb' 14 6) (w.extractLsb' 8 6) (w.extractLsb' 4 4), (w.extractLsb' 0 4 == 0#4), none⟩
  | 0x26 => some ⟨.fcmp (w.extractLsb' 20 6) (w.extractLsb' 14 6) (w.extractLsb' 8 6) (w.extractLsb' 4 4) (w.extractLsb' 0 4), true, none⟩
  | 0x27 => some ⟨.fcvt (w.extractLsb' 20 6) (w.extractLsb' 14 6) (w.extractLsb' 8 4) (w.extractLsb' 4 4) (w.extractLsb' 0 2), (w.extractLsb' 12 2 == 0#2) && (w.extractLsb' 2 2 == 0#2), none⟩
  | 0x28 => some ⟨.dmerge (w.extractLsb' 20 6) (w.extractLsb' 14 6) (w.extractLsb' 8 6) (p.extractLsb' 10 6) (p.extractLsb' 0 1), (w.extractLsb' 4 4 == 0#4) && (w.extractLsb' 0 4 == 0#4) && (p.extractLsb' 1 9 == 0#9), none⟩
  | 0x29 => some ⟨.dscale (w.extractLsb' 20 6) (w.extractLsb' 14 6) (w.extractLsb' 8 6) (w.extractLsb' 0 1), (w.extractLsb' 4 4 == 12#4) && (w.extractLsb' 1 3 == 0#3), none⟩
  | _ => none

/-- The cells of the B slot (R74). -/
def readB (w : BitVec 32) (p : BitVec 16) : Option Reading :=
  match (w.extractLsb' 26 6).toNat with
  | 0x01 => some ⟨.br (w.extractLsb' 25 1) (w.extractLsb' 20 5) (w.extractLsb' 0 20), true, none⟩
  | 0x02 => some ⟨.brk (w.extractLsb' 23 3) (w.extractLsb' 20 3) (w.extractLsb' 0 20), true, none⟩
  | 0x03 => some ⟨.call (w.extractLsb' 20 5) (w.extractLsb' 0 20), (w.extractLsb' 25 1 == 0#1), none⟩
  | 0x04 => some ⟨.ret (w.extractLsb' 20 5), (w.extractLsb' 25 1 == 0#1) && (w.extractLsb' 0 20 == 0#20), none⟩
  | 0x05 => some ⟨.loop (w.extractLsb' 20 2) (w.extractLsb' 0 20) (p.extractLsb' 10 6) (p.extractLsb' 9 1) (p.extractLsb' 0 9), (w.extractLsb' 22 4 == 0#4), none⟩
  | 0x06 => some ⟨.endl (w.extractLsb' 20 2) (w.extractLsb' 0 20), (w.extractLsb' 22 4 == 0#4), none⟩
  | 0x08 => some ⟨.yield (w.extractLsb' 14 6), (w.extractLsb' 20 6 == 0#6) && (w.extractLsb' 8 6 == 0#6) && (w.extractLsb' 0 8 == 0#8), none⟩
  | 0x09 => some ⟨.spawn (w.extractLsb' 20 6) (w.extractLsb' 14 6), (w.extractLsb' 8 6 == 0#6) && (w.extractLsb' 0 8 == 0#8), none⟩
  | 0x0A => some ⟨.exit, (w.extractLsb' 20 6 == 0#6) && (w.extractLsb' 14 6 == 0#6) && (w.extractLsb' 8 6 == 0#6) && (w.extractLsb' 0 8 == 0#8), none⟩
  | 0x0B => some ⟨.trap (w.extractLsb' 0 8), (w.extractLsb' 20 6 == 0#6) && (w.extractLsb' 14 6 == 0#6) && (w.extractLsb' 8 6 == 0#6), none⟩
  | 0x0C => some ⟨.tret, (w.extractLsb' 20 6 == 0#6) && (w.extractLsb' 14 6 == 0#6) && (w.extractLsb' 8 6 == 0#6) && (w.extractLsb' 0 8 == 0#8), none⟩
  | 0x0D => some ⟨.hiber, (w.extractLsb' 20 6 == 0#6) && (w.extractLsb' 14 6 == 0#6) && (w.extractLsb' 8 6 == 0#6) && (w.extractLsb' 0 8 == 0#8), none⟩
  | 0x10 => some ⟨.crr (w.extractLsb' 20 6) (w.extractLsb' 0 14), (w.extractLsb' 14 6 == 0#6), none⟩
  | 0x11 => some ⟨.crw (w.extractLsb' 14 6) (w.extractLsb' 0 14), (w.extractLsb' 20 6 == 0#6), none⟩
  | 0x3F => some ⟨.nop, (w.extractLsb' 20 6 == 0#6) && (w.extractLsb' 14 6 == 0#6) && (w.extractLsb' 8 6 == 0#6) && (w.extractLsb' 0 8 == 0#8), none⟩
  | _ => none

/-- The cells of the M0 and M1 slots (R74). -/
def readM (w : BitVec 32) (p : BitVec 16) : Option Reading :=
  match (w.extractLsb' 26 6).toNat with
  | 0x01 => some ⟨.ld (w.extractLsb' 20 6) (w.extractLsb' 16 4) (w.extractLsb' 12 2) (w.extractLsb' 0 12), (w.extractLsb' 14 2 == 0#2), none⟩
  | 0x02 => some ⟨.st (w.extractLsb' 20 6) (w.extractLsb' 16 4) (w.extractLsb' 12 2) (w.extractLsb' 0 12), (w.extractLsb' 14 2 == 0#2), none⟩
  | 0x03 => some ⟨.vld (w.extractLsb' 20 6) (w.extractLsb' 16 4) (w.extractLsb' 12 3) (w.extractLsb' 0 12) (p.extractLsb' 10 6) (p.extractLsb' 9 1) (p.extractLsb' 0 9), (w.extractLsb' 15 1 == 0#1), none⟩
  | 0x04 => some ⟨.vst (w.extractLsb' 20 6) (w.extractLsb' 16 4) (w.extractLsb' 12 3) (w.extractLsb' 0 12) (p.extractLsb' 10 6) (p.extractLsb' 9 1) (p.extractLsb' 0 9), (w.extractLsb' 15 1 == 0#1), none⟩
  | 0x08 => some ⟨.ldq (w.extractLsb' 20 6) (w.extractLsb' 16 4) (w.extractLsb' 12 2) (w.extractLsb' 0 12), (w.extractLsb' 14 2 == 0#2), none⟩
  | 0x09 => some ⟨.stq (w.extractLsb' 20 6) (w.extractLsb' 16 4) (w.extractLsb' 12 2) (w.extractLsb' 0 12), (w.extractLsb' 14 2 == 0#2), none⟩
  | 0x0A => some ⟨.ldsec (w.extractLsb' 20 6) (w.extractLsb' 16 4) (w.extractLsb' 0 12), (w.extractLsb' 12 4 == 0#4), none⟩
  | 0x0B => some ⟨.gatherq (w.extractLsb' 20 6) (w.extractLsb' 16 4) (w.extractLsb' 12 2) (w.extractLsb' 0 12) (p.extractLsb' 10 6) (p.extractLsb' 7 2) (p.extractLsb' 4 3), (w.extractLsb' 14 2 == 0#2) && (p.extractLsb' 0 4 == 0#4) && (p.extractLsb' 9 1 == 0#1), none⟩
  | 0x0C => some ⟨.scatterq (w.extractLsb' 20 6) (w.extractLsb' 16 4) (w.extractLsb' 12 2) (w.extractLsb' 0 12) (p.extractLsb' 10 6) (p.extractLsb' 7 2) (p.extractLsb' 4 3), (w.extractLsb' 14 2 == 0#2) && (p.extractLsb' 0 4 == 0#4) && (p.extractLsb' 9 1 == 0#1), none⟩
  | 0x0D => some ⟨.stf (w.extractLsb' 20 6) (w.extractLsb' 16 4) (w.extractLsb' 12 2) (w.extractLsb' 0 12), (w.extractLsb' 14 2 == 0#2), none⟩
  | 0x10 => if w.extractLsb' 12 4 == 9#4 then some ⟨.amoDraw (w.extractLsb' 16 4) (w.extractLsb' 0 12) (p.extractLsb' 10 6) (p.extractLsb' 2 8) (p.extractLsb' 0 1), (w.extractLsb' 20 6 == 0#6) && (p.extractLsb' 1 1 == 0#1), none⟩
      else some ⟨.amo (w.extractLsb' 20 6) (w.extractLsb' 16 4) (w.extractLsb' 12 4) (w.extractLsb' 0 12) (p.extractLsb' 10 6) (p.extractLsb' 9 1) (p.extractLsb' 8 1) (p.extractLsb' 6 2) (p.extractLsb' 0 6), true, none⟩
  | 0x11 => some ⟨.pref (w.extractLsb' 16 4) (w.extractLsb' 12 2) (w.extractLsb' 0 12), (w.extractLsb' 20 6 == 0#6) && (w.extractLsb' 14 2 == 0#2), none⟩
  | _ => none

/-- The cells of the V0 and V1 slots (R74). -/
def readV (w : BitVec 32) (p : BitVec 16) : Option Reading :=
  match (w.extractLsb' 26 6).toNat with
  | 0x01 => some ⟨.vadd (w.extractLsb' 20 6) (w.extractLsb' 14 6) (w.extractLsb' 8 6) (w.extractLsb' 4 4) (w.extractLsb' 1 3) (w.extractLsb' 0 1), true, none⟩
  | 0x02 => some ⟨.vsub (w.extractLsb' 20 6) (w.extractLsb' 14 6) (w.extractLsb' 8 6) (w.extractLsb' 4 4) (w.extractLsb' 1 3) (w.extractLsb' 0 1), true, none⟩
  | 0x03 => some ⟨.vmul (w.extractLsb' 20 6) (w.extractLsb' 14 6) (w.extractLsb' 8 6) (w.extractLsb' 4 4) (w.extractLsb' 1 3) (w.extractLsb' 0 1), true, none⟩
  | 0x04 => some ⟨.vfma (w.extractLsb' 20 6) (w.extractLsb' 14 6) (w.extractLsb' 8 6) (w.extractLsb' 4 4) (w.extractLsb' 1 3) (w.extractLsb' 0 1) (p.extractLsb' 10 6), (p.extractLsb' 0 10 == 0#10), none⟩
  | 0x05 => some ⟨.vmin (w.extractLsb' 20 6) (w.extractLsb' 14 6) (w.extractLsb' 8 6) (w.extractLsb' 4 4) (w.extractLsb' 1 3) (w.extractLsb' 0 1), true, none⟩
  | 0x06 => some ⟨.vmax (w.extractLsb' 20 6) (w.extractLsb' 14 6) (w.extractLsb' 8 6) (w.extractLsb' 4 4) (w.extractLsb' 1 3) (w.extractLsb' 0 1), true, none⟩
  | 0x07 => some ⟨.vabs (w.extractLsb' 20 6) (w.extractLsb' 14 6) (w.extractLsb' 4 4) (w.extractLsb' 1 3), (w.extractLsb' 8 6 == 0#6) && (w.extractLsb' 0 1 == 0#1), none⟩
  | 0x08 => some ⟨.vneg (w.extractLsb' 20 6) (w.extractLsb' 14 6) (w.extractLsb' 4 4) (w.extractLsb' 1 3), (w.extractLsb' 8 6 == 0#6) && (w.extractLsb' 0 1 == 0#1), none⟩
  | 0x09 => some ⟨.vand (w.extractLsb' 20 6) (w.extractLsb' 14 6) (w.extractLsb' 8 6) (w.extractLsb' 4 4) (w.extractLsb' 1 3) (w.extractLsb' 0 1), true, none⟩
  | 0x0A => some ⟨.vor (w.extractLsb' 20 6) (w.extractLsb' 14 6) (w.extractLsb' 8 6) (w.extractLsb' 4 4) (w.extractLsb' 1 3) (w.extractLsb' 0 1), true, none⟩
  | 0x0B => some ⟨.vxor (w.extractLsb' 20 6) (w.extractLsb' 14 6) (w.extractLsb' 8 6) (w.extractLsb' 4 4) (w.extractLsb' 1 3) (w.extractLsb' 0 1), true, none⟩
  | 0x0C => some ⟨.vnot (w.extractLsb' 20 6) (w.extractLsb' 14 6) (w.extractLsb' 4 4) (w.extractLsb' 1 3), (w.extractLsb' 8 6 == 0#6) && (w.extractLsb' 0 1 == 0#1), none⟩
  | 0x0D => some ⟨.vshl (w.extractLsb' 20 6) (w.extractLsb' 14 6) (w.extractLsb' 8 6) (w.extractLsb' 4 4) (w.extractLsb' 1 3) (w.extractLsb' 0 1), true, none⟩
  | 0x0E => some ⟨.vshr (w.extractLsb' 20 6) (w.extractLsb' 14 6) (w.extractLsb' 8 6) (w.extractLsb' 4 4) (w.extractLsb' 1 3) (w.extractLsb' 0 1), true, none⟩
  | 0x0F => some ⟨.vcmp (w.extractLsb' 23 3) (w.extractLsb' 20 3) (w.extractLsb' 14 6) (w.extractLsb' 8 6) (w.extractLsb' 4 4) (w.extractLsb' 1 3) (w.extractLsb' 0 1), true, none⟩
  | 0x10 => some ⟨.vsel (w.extractLsb' 20 6) (w.extractLsb' 14 6) (w.extractLsb' 8 6) (w.extractLsb' 4 4) (w.extractLsb' 1 3) (w.extractLsb' 0 1), true, none⟩
  | 0x11 => some ⟨.vcvt (w.extractLsb' 20 6) (w.extractLsb' 14 6) (w.extractLsb' 12 2) (w.extractLsb' 8 4) (w.extractLsb' 4 4) (w.extractLsb' 1 3), (w.extractLsb' 0 1 == 0#1), none⟩
  | 0x12 => some ⟨.vquant (w.extractLsb' 20 6) (w.extractLsb' 14 6) (w.extractLsb' 8 6) (w.extractLsb' 4 4) (w.extractLsb' 1 3) (w.extractLsb' 0 1) (p.extractLsb' 10 6) (p.extractLsb' 0 2), (p.extractLsb' 2 8 == 0#8), none⟩
  | 0x13 => some ⟨.vdeq (w.extractLsb' 20 6) (w.extractLsb' 14 6) (w.extractLsb' 4 4) (w.extractLsb' 1 3) (p.extractLsb' 10 6) (p.extractLsb' 0 1), (w.extractLsb' 8 6 == 0#6) && (w.extractLsb' 0 1 == 0#1) && (p.extractLsb' 1 9 == 0#9), none⟩
  | 0x14 => some ⟨.vred (w.extractLsb' 20 6) (w.extractLsb' 14 6) (w.extractLsb' 10 1) (w.extractLsb' 8 2) (w.extractLsb' 4 4) (w.extractLsb' 1 3), (w.extractLsb' 11 3 == 0#3) && (w.extractLsb' 0 1 == 0#1), none⟩
  | 0x15 => some ⟨.vscan (w.extractLsb' 20 6) (w.extractLsb' 14 6) (w.extractLsb' 8 2) (w.extractLsb' 4 4) (w.extractLsb' 1 3), (w.extractLsb' 10 4 == 0#4) && (w.extractLsb' 0 1 == 0#1), none⟩
  | 0x18 => some ⟨.vexp2 (w.extractLsb' 20 6) (w.extractLsb' 14 6) (w.extractLsb' 4 4) (w.extractLsb' 1 3), (w.extractLsb' 8 6 == 0#6) && (w.extractLsb' 0 1 == 0#1), none⟩
  | 0x19 => some ⟨.vlog2 (w.extractLsb' 20 6) (w.extractLsb' 14 6) (w.extractLsb' 4 4) (w.extractLsb' 1 3), (w.extractLsb' 8 6 == 0#6) && (w.extractLsb' 0 1 == 0#1), none⟩
  | 0x1A => some ⟨.vrcp (w.extractLsb' 20 6) (w.extractLsb' 14 6) (w.extractLsb' 4 4) (w.extractLsb' 1 3), (w.extractLsb' 8 6 == 0#6) && (w.extractLsb' 0 1 == 0#1), none⟩
  | 0x1B => some ⟨.vrsq (w.extractLsb' 20 6) (w.extractLsb' 14 6) (w.extractLsb' 4 4) (w.extractLsb' 1 3), (w.extractLsb' 8 6 == 0#6) && (w.extractLsb' 0 1 == 0#1), none⟩
  | 0x1C => some ⟨.vsqrt (w.extractLsb' 20 6) (w.extractLsb' 14 6) (w.extractLsb' 4 4) (w.extractLsb' 1 3), (w.extractLsb' 8 6 == 0#6) && (w.extractLsb' 0 1 == 0#1), none⟩
  | 0x1D => some ⟨.vtanh (w.extractLsb' 20 6) (w.extractLsb' 14 6) (w.extractLsb' 4 4) (w.extractLsb' 1 3), (w.extractLsb' 8 6 == 0#6) && (w.extractLsb' 0 1 == 0#1), none⟩
  | 0x1E => some ⟨.vsig (w.extractLsb' 20 6) (w.extractLsb' 14 6) (w.extractLsb' 4 4) (w.extractLsb' 1 3), (w.extractLsb' 8 6 == 0#6) && (w.extractLsb' 0 1 == 0#1), none⟩
  | 0x20 => some ⟨.vsin (w.extractLsb' 20 6) (w.extractLsb' 14 6) (w.extractLsb' 4 4) (w.extractLsb' 1 3), (w.extractLsb' 8 6 == 0#6) && (w.extractLsb' 0 1 == 0#1), none⟩
  | 0x21 => some ⟨.vcos (w.extractLsb' 20 6) (w.extractLsb' 14 6) (w.extractLsb' 4 4) (w.extractLsb' 1 3), (w.extractLsb' 8 6 == 0#6) && (w.extractLsb' 0 1 == 0#1), none⟩
  | 0x28 => some ⟨.vdraw (w.extractLsb' 20 6) (w.extractLsb' 14 6) (w.extractLsb' 8 3) (w.extractLsb' 1 3) (p.extractLsb' 10 6) (p.extractLsb' 2 8) (p.extractLsb' 1 1) (p.extractLsb' 0 1), (w.extractLsb' 11 3 == 0#3) && (w.extractLsb' 4 4 == 12#4) && (w.extractLsb' 0 1 == 0#1), none⟩
  | _ => none

/-- The cells of the X slot (R74). -/
def readX (w : BitVec 32) (p : BitVec 16) : Option Reading :=
  match (w.extractLsb' 26 6).toNat with
  | 0x01 => some ⟨.shuf (w.extractLsb' 20 6) (w.extractLsb' 14 6) (w.extractLsb' 8 6) (p.extractLsb' 10 6), (w.extractLsb' 4 4 == 0#4) && (w.extractLsb' 0 4 == 0#4) && (p.extractLsb' 0 10 == 0#10), none⟩
  | 0x02 => some ⟨.patld (w.extractLsb' 20 6) (w.extractLsb' 14 6) (w.extractLsb' 0 6), (w.extractLsb' 8 6 == 0#6) && (w.extractLsb' 6 2 == 0#2), none⟩
  | 0x03 => some ⟨.patsw, (w.extractLsb' 20 6 == 0#6) && (w.extractLsb' 14 6 == 0#6) && (w.extractLsb' 8 6 == 0#6) && (w.extractLsb' 0 8 == 0#8), none⟩
  | 0x08 => some ⟨.xcopy (w.extractLsb' 20 6) (w.extractLsb' 14 6) (w.extractLsb' 6 2) (w.extractLsb' 3 3) (w.extractLsb' 0 3), (w.extractLsb' 8 6 == 0#6), none⟩
  | 0x09 => some ⟨.xbcast (w.extractLsb' 20 6) (w.extractLsb' 14 6) (w.extractLsb' 7 1) (w.extractLsb' 3 4) (w.extractLsb' 0 3), (w.extractLsb' 8 6 == 0#6), none⟩
  | 0x10 => some ⟨.mcall (w.extractLsb' 14 4) (w.extractLsb' 8 3) (w.extractLsb' 0 8), (w.extractLsb' 20 6 == 0#6) && (w.extractLsb' 18 2 == 0#2) && (w.extractLsb' 11 3 == 0#3), none⟩
  | 0x11 => some ⟨.mpset (w.extractLsb' 20 3) (w.extractLsb' 14 6), (w.extractLsb' 8 6 == 0#6) && (w.extractLsb' 4 4 == 0#4) && (w.extractLsb' 0 4 == 0#4), (if w.extractLsb' 23 3 == 0#3 then none else some (w.extractLsb' 20 6).toNat)⟩
  | 0x18 => some ⟨.accrd (w.extractLsb' 20 6) (w.extractLsb' 14 3) (w.extractLsb' 8 6) (w.extractLsb' 7 1) (w.extractLsb' 0 5), (w.extractLsb' 5 2 == 0#2), (if w.extractLsb' 17 3 == 0#3 then none else some (w.extractLsb' 14 6).toNat)⟩
  | 0x19 => some ⟨.accwr (w.extractLsb' 20 3) (w.extractLsb' 14 6) (w.extractLsb' 8 6) (w.extractLsb' 7 1) (w.extractLsb' 0 5), (w.extractLsb' 5 2 == 0#2), (if w.extractLsb' 23 3 == 0#3 then none else some (w.extractLsb' 20 6).toNat)⟩
  | 0x1A => some ⟨.accz (w.extractLsb' 0 8), (w.extractLsb' 20 6 == 0#6) && (w.extractLsb' 14 6 == 0#6) && (w.extractLsb' 8 6 == 0#6), none⟩
  | _ => none

/-- The cells of the E slot (R74). -/
def readE (w : BitVec 32) (p : BitVec 16) : Option Reading :=
  match (w.extractLsb' 26 6).toNat with
  | 0x01 => some ⟨.phase (w.extractLsb' 0 3), (w.extractLsb' 20 6 == 0#6) && (w.extractLsb' 14 6 == 0#6) && (w.extractLsb' 8 6 == 0#6) && (w.extractLsb' 3 5 == 0#5), none⟩
  | 0x02 => some ⟨.publish (w.extractLsb' 14 6), (w.extractLsb' 20 6 == 0#6) && (w.extractLsb' 8 6 == 0#6) && (w.extractLsb' 0 8 == 0#8), none⟩
  | 0x03 => some ⟨.vwait (w.extractLsb' 20 6) (w.extractLsb' 14 6) (w.extractLsb' 8 6), (w.extractLsb' 0 8 == 0#8), none⟩
  | 0x04 => some ⟨.fence (w.extractLsb' 20 6) (w.extractLsb' 4 4) (w.extractLsb' 0 1), (w.extractLsb' 14 6 == 0#6) && (w.extractLsb' 8 6 == 0#6) && (w.extractLsb' 1 3 == 0#3), none⟩
  | 0x08 => some ⟨.copy (w.extractLsb' 14 6) (w.extractLsb' 0 3), (w.extractLsb' 20 6 == 0#6) && (w.extractLsb' 8 6 == 0#6) && (w.extractLsb' 3 5 == 0#5), none⟩
  | 0x09 => some ⟨.drain, (w.extractLsb' 20 6 == 0#6) && (w.extractLsb' 14 6 == 0#6) && (w.extractLsb' 8 6 == 0#6) && (w.extractLsb' 0 8 == 0#8), none⟩
  | 0x0A => some ⟨.span (w.extractLsb' 20 6) (w.extractLsb' 14 6) (w.extractLsb' 8 6), (w.extractLsb' 0 8 == 0#8), none⟩
  | 0x10 => some ⟨.barrive (w.extractLsb' 14 6) (w.extractLsb' 8 6) (w.extractLsb' 2 2) (w.extractLsb' 0 2), (w.extractLsb' 20 6 == 0#6) && (w.extractLsb' 4 4 == 0#4), none⟩
  | 0x11 => some ⟨.bwait (w.extractLsb' 20 6) (w.extractLsb' 14 6) (w.extractLsb' 8 6) (w.extractLsb' 5 2) (w.extractLsb' 0 5), (w.extractLsb' 7 1 == 0#1), none⟩
  | 0x12 => some ⟨.wait (w.extractLsb' 20 6) (w.extractLsb' 14 6) (w.extractLsb' 8 6) (w.extractLsb' 5 3) (w.extractLsb' 0 5) (p.extractLsb' 10 6) (p.extractLsb' 8 2) (p.extractLsb' 7 1) (p.extractLsb' 5 2) (p.extractLsb' 4 1), (p.extractLsb' 0 4 == 0#4), none⟩
  | 0x13 => some ⟨.mwait (w.extractLsb' 20 6) (w.extractLsb' 4 1) (w.extractLsb' 0 4), (w.extractLsb' 14 6 == 0#6) && (w.extractLsb' 8 6 == 0#6) && (w.extractLsb' 5 3 == 0#3), none⟩
  | 0x18 => some ⟨.sbind (w.extractLsb' 20 6) (w.extractLsb' 2 2) (w.extractLsb' 0 2), (w.extractLsb' 14 6 == 0#6) && (w.extractLsb' 8 6 == 0#6) && (w.extractLsb' 4 4 == 0#4), none⟩
  | 0x19 => some ⟨.sunbind (w.extractLsb' 20 6), (w.extractLsb' 14 6 == 0#6) && (w.extractLsb' 8 6 == 0#6) && (w.extractLsb' 0 8 == 0#8), none⟩
  | 0x1A => some ⟨.ringp (w.extractLsb' 20 3) (w.extractLsb' 14 6) (w.extractLsb' 7 1) (w.extractLsb' 0 7), (w.extractLsb' 8 6 == 0#6), (if w.extractLsb' 23 3 == 0#3 then none else some (w.extractLsb' 20 6).toNat)⟩
  | 0x1B => some ⟨.ringa (w.extractLsb' 20 3) (w.extractLsb' 14 6) (w.extractLsb' 7 1) (w.extractLsb' 0 7), (w.extractLsb' 8 6 == 0#6), (if w.extractLsb' 23 3 == 0#3 then none else some (w.extractLsb' 20 6).toNat)⟩
  | 0x20 => some ⟨.walk (w.extractLsb' 14 6), (w.extractLsb' 20 6 == 0#6) && (w.extractLsb' 8 6 == 0#6) && (w.extractLsb' 0 8 == 0#8), none⟩
  | 0x21 => some ⟨.coll (w.extractLsb' 14 6) (w.extractLsb' 8 6), (w.extractLsb' 20 6 == 0#6) && (w.extractLsb' 0 8 == 0#8), none⟩
  | 0x22 => some ⟨.lprobe (w.extractLsb' 20 6) (w.extractLsb' 14 6), (w.extractLsb' 8 6 == 0#6) && (w.extractLsb' 0 8 == 0#8), none⟩
  | 0x23 => some ⟨.tsread (w.extractLsb' 20 6), (w.extractLsb' 14 6 == 0#6) && (w.extractLsb' 8 6 == 0#6) && (w.extractLsb' 0 8 == 0#8), none⟩
  | _ => none

/-- A slot word read in its slot class; none for a reserved cell (R74, R75). -/
def readSlot (c : SlotClass) (w : BitVec 32) (p : BitVec 16) : Option Reading :=
  match c with
  | .s => readS w p
  | .b => readB w p
  | .m => readM w p
  | .v => readV w p
  | .x => readX w p
  | .e => readE w p

/-- The defect of a word that holds an instruction, in ascending CAUSE order (R330, R316). -/
def Reading.defect (r : Reading) : Option Defect :=
  match r.registerHigh with
  | some v => some (.register v)
  | none => if r.fieldsOk then none else some .operand

/-- The decoder of slot words: total, and refusing by name (R330). -/
def decodeSlot (c : SlotClass) (w : BitVec 32) (p : BitVec 16) : Except Defect Instr :=
  match readSlot c w p with
  | none => .error .cell
  | some r =>
    match r.defect with
    | some d => .error d
    | none => .ok r.instr

/-- Whether the opcode of a slot word takes an extension parcel (R66): the cells marked "+" of R74. -/
def takesExt (c : SlotClass) (w : BitVec 32) : Bool :=
  let op := (w.extractLsb' 26 6).toNat
  match c with
  | .s => op == 0x13 || op == 0x19 || op == 0x1A || op == 0x23 || op == 0x28
  | .b => op == 0x05
  | .m => op == 0x03 || op == 0x04 || op == 0x0B || op == 0x0C || op == 0x10
  | .v => op == 0x04 || op == 0x12 || op == 0x13 || op == 0x28
  | .x => op == 0x01
  | .e => op == 0x12

/-- The decoder of micro-words (R153): a reserved code or a nonzero reserved field is refused. -/
def decodeMicro (w : BitVec 64) : Except Defect Instr :=
  let tile := w.extractLsb' 57 3
  let ra := w.extractLsb' 54 3
  let rb := w.extractLsb' 51 3
  let csel := w.extractLsb' 45 6
  let f13 := w.extractLsb' 32 13
  let imm := w.extractLsb' 0 32
  match (w.extractLsb' 60 4).toNat with
  | 0 => if w.extractLsb' 0 60 == 0#60 then .ok .kend else .error .microWord
  | 1 => if w.extractLsb' 0 57 == 0#57 then .ok (.kzero tile) else .error .microWord
  | 2 => if w.extractLsb' 36 9 == 0#9 then .ok (.kstep tile ra rb csel (w.extractLsb' 32 4) imm) else .error .microWord
  | 3 => if w.extractLsb' 51 9 == 0#9 && f13 == 0#13 then .ok (.kloop csel imm) else .error .microWord
  | 4 => if w.extractLsb' 0 60 == 0#60 then .ok .kendl else .error .microWord
  | 5 => if w.extractLsb' 34 23 == 0#23 && w.extractLsb' 3 29 == 0#29
      then .ok (.kepi tile (w.extractLsb' 32 2) (w.extractLsb' 0 3)) else .error .microWord
  | 6 => if w.extractLsb' 3 54 == 0#54 then .ok (.krows tile (w.extractLsb' 0 3)) else .error .microWord
  | 7 => if w.extractLsb' 0 57 == 0#57 then .ok (.ksum tile) else .error .microWord
  | _ => .error .microWord

/-- A slot instruction as its bundle holds it: the slot class, the word, and the parcel where it takes one. -/
structure SlotCode where
  cls : SlotClass
  word : BitVec 32
  parcel : Option (BitVec 16)
  deriving DecidableEq, Repr

/-- The slot class, slot word and parcel of a slot instruction, written from the same tables (R65, R66, R74);
micro-ops and events have none. -/
def encodeSlot (i : Instr) : Option SlotCode :=
  match i with
  | .add d a b ty sat => some ⟨.s, (pk 32 (pk 31 (pk 28 (pk 24 (pk 18 (pk 12 0x01#6 d) a) b) ty) 0#3) sat), none⟩
  | .sub d a b ty sat => some ⟨.s, (pk 32 (pk 31 (pk 28 (pk 24 (pk 18 (pk 12 0x02#6 d) a) b) ty) 0#3) sat), none⟩
  | .mul d a b ty sat => some ⟨.s, (pk 32 (pk 31 (pk 28 (pk 24 (pk 18 (pk 12 0x03#6 d) a) b) ty) 0#3) sat), none⟩
  | .mulh d a b ty => some ⟨.s, (pk 32 (pk 28 (pk 24 (pk 18 (pk 12 0x04#6 d) a) b) ty) 0#4), none⟩
  | .divs d a b ty => some ⟨.s, (pk 32 (pk 28 (pk 24 (pk 18 (pk 12 0x05#6 d) a) b) ty) 0#4), none⟩
  | .divn d a b ty => some ⟨.s, (pk 32 (pk 28 (pk 24 (pk 18 (pk 12 0x06#6 d) a) b) ty) 0#4), none⟩
  | .rem d a b ty => some ⟨.s, (pk 32 (pk 28 (pk 24 (pk 18 (pk 12 0x07#6 d) a) b) ty) 0#4), none⟩
  | .and d a b ty => some ⟨.s, (pk 32 (pk 28 (pk 24 (pk 18 (pk 12 0x08#6 d) a) b) ty) 0#4), none⟩
  | .or d a b ty => some ⟨.s, (pk 32 (pk 28 (pk 24 (pk 18 (pk 12 0x09#6 d) a) b) ty) 0#4), none⟩
  | .xor d a b ty => some ⟨.s, (pk 32 (pk 28 (pk 24 (pk 18 (pk 12 0x0A#6 d) a) b) ty) 0#4), none⟩
  | .not d a ty => some ⟨.s, (pk 32 (pk 28 (pk 24 (pk 18 (pk 12 0x0B#6 d) a) 0#6) ty) 0#4), none⟩
  | .shl d a b ty => some ⟨.s, (pk 32 (pk 28 (pk 24 (pk 18 (pk 12 0x0C#6 d) a) b) ty) 0#4), none⟩
  | .shr d a b ty => some ⟨.s, (pk 32 (pk 28 (pk 24 (pk 18 (pk 12 0x0D#6 d) a) b) ty) 0#4), none⟩
  | .sar d a b ty => some ⟨.s, (pk 32 (pk 28 (pk 24 (pk 18 (pk 12 0x0E#6 d) a) b) ty) 0#4), none⟩
  | .rot d a b ty => some ⟨.s, (pk 32 (pk 28 (pk 24 (pk 18 (pk 12 0x0F#6 d) a) b) ty) 0#4), none⟩
  | .min d a b ty => some ⟨.s, (pk 32 (pk 28 (pk 24 (pk 18 (pk 12 0x10#6 d) a) b) ty) 0#4), none⟩
  | .max d a b ty => some ⟨.s, (pk 32 (pk 28 (pk 24 (pk 18 (pk 12 0x11#6 d) a) b) ty) 0#4), none⟩
  | .cmp d a b ty cond => some ⟨.s, (pk 32 (pk 28 (pk 24 (pk 18 (pk 12 0x12#6 d) a) b) ty) cond), none⟩
  | .sel d a b c => some ⟨.s, (pk 32 (pk 28 (pk 24 (pk 18 (pk 12 0x13#6 d) a) b) 0#4) 0#4), (some (pk 16 c 0#10))⟩
  | .popc d a ty => some ⟨.s, (pk 32 (pk 28 (pk 24 (pk 18 (pk 12 0x14#6 d) a) 0#6) ty) 0#4), none⟩
  | .clz d a ty => some ⟨.s, (pk 32 (pk 28 (pk 24 (pk 18 (pk 12 0x15#6 d) a) 0#6) ty) 0#4), none⟩
  | .ctz d a ty => some ⟨.s, (pk 32 (pk 28 (pk 24 (pk 18 (pk 12 0x16#6 d) a) 0#6) ty) 0#4), none⟩
  | .pack d a b ty => some ⟨.s, (pk 32 (pk 28 (pk 24 (pk 18 (pk 12 0x17#6 d) a) b) ty) 0#4), none⟩
  | .addi d a imm => some ⟨.s, (pk 32 (pk 18 (pk 12 0x18#6 d) a) imm), none⟩
  | .movi d imm => some ⟨.s, (pk 32 (pk 18 (pk 12 0x19#6 d) 0#6) (imm.extractLsb' 0 14)), (some (imm.extractLsb' 14 16))⟩
  | .movh d a imm => some ⟨.s, (pk 32 (pk 18 (pk 12 0x1A#6 d) a) (imm.extractLsb' 0 14)), (some (imm.extractLsb' 14 16))⟩
  | .bfx d a sx pos len => some ⟨.s, (pk 32 (pk 26 (pk 20 (pk 19 (pk 18 (pk 12 0x1B#6 d) a) sx) 0#1) pos) len), none⟩
  | .bfi d a pos len => some ⟨.s, (pk 32 (pk 26 (pk 20 (pk 18 (pk 12 0x1C#6 d) a) 0#2) pos) len), none⟩
  | .fadd d a b ty => some ⟨.s, (pk 32 (pk 28 (pk 24 (pk 18 (pk 12 0x20#6 d) a) b) ty) 0#4), none⟩
  | .fsub d a b ty => some ⟨.s, (pk 32 (pk 28 (pk 24 (pk 18 (pk 12 0x21#6 d) a) b) ty) 0#4), none⟩
  | .fmul d a b ty => some ⟨.s, (pk 32 (pk 28 (pk 24 (pk 18 (pk 12 0x22#6 d) a) b) ty) 0#4), none⟩
  | .ffma d a b ty c => some ⟨.s, (pk 32 (pk 28 (pk 24 (pk 18 (pk 12 0x23#6 d) a) b) ty) 0#4), (some (pk 16 c 0#10))⟩
  | .fmin d a b ty => some ⟨.s, (pk 32 (pk 28 (pk 24 (pk 18 (pk 12 0x24#6 d) a) b) ty) 0#4), none⟩
  | .fmax d a b ty => some ⟨.s, (pk 32 (pk 28 (pk 24 (pk 18 (pk 12 0x25#6 d) a) b) ty) 0#4), none⟩
  | .fcmp d a b ty cond => some ⟨.s, (pk 32 (pk 28 (pk 24 (pk 18 (pk 12 0x26#6 d) a) b) ty) cond), none⟩
  | .fcvt d a sty ty rm => some ⟨.s, (pk 32 (pk 30 (pk 28 (pk 24 (pk 20 (pk 18 (pk 12 0x27#6 d) a) 0#2) sty) ty) 0#2) rm), none⟩
  | .dmerge d a b c greedy => some ⟨.s, (pk 32 (pk 28 (pk 24 (pk 18 (pk 12 0x28#6 d) a) b) 0#4) 0#4), (some (pk 16 (pk 15 c 0#9) greedy))⟩
  | .dscale d a b mode => some ⟨.s, (pk 32 (pk 31 (pk 28 (pk 24 (pk 18 (pk 12 0x29#6 d) a) b) 12#4) 0#3) mode), none⟩
  | .br zs s off => some ⟨.b, (pk 32 (pk 12 (pk 7 0x01#6 zs) s) off), none⟩
  | .brk k cond off => some ⟨.b, (pk 32 (pk 12 (pk 9 0x02#6 k) cond) off), none⟩
  | .call s off => some ⟨.b, (pk 32 (pk 12 (pk 7 0x03#6 0#1) s) off), none⟩
  | .ret s => some ⟨.b, (pk 32 (pk 12 (pk 7 0x04#6 0#1) s) 0#20), none⟩
  | .loop n off c imm cnt => some ⟨.b, (pk 32 (pk 12 (pk 10 0x05#6 0#4) n) off), (some (pk 16 (pk 7 c imm) cnt))⟩
  | .endl n off => some ⟨.b, (pk 32 (pk 12 (pk 10 0x06#6 0#4) n) off), none⟩
  | .yield a => some ⟨.b, (pk 32 (pk 24 (pk 18 (pk 12 0x08#6 0#6) a) 0#6) 0#8), none⟩
  | .spawn d a => some ⟨.b, (pk 32 (pk 24 (pk 18 (pk 12 0x09#6 d) a) 0#6) 0#8), none⟩
  | .exit => some ⟨.b, (pk 32 (pk 24 (pk 18 (pk 12 0x0A#6 0#6) 0#6) 0#6) 0#8), none⟩
  | .trap code => some ⟨.b, (pk 32 (pk 24 (pk 18 (pk 12 0x0B#6 0#6) 0#6) 0#6) code), none⟩
  | .tret => some ⟨.b, (pk 32 (pk 24 (pk 18 (pk 12 0x0C#6 0#6) 0#6) 0#6) 0#8), none⟩
  | .hiber => some ⟨.b, (pk 32 (pk 24 (pk 18 (pk 12 0x0D#6 0#6) 0#6) 0#6) 0#8), none⟩
  | .crr d cr => some ⟨.b, (pk 32 (pk 18 (pk 12 0x10#6 d) 0#6) cr), none⟩
  | .crw a cr => some ⟨.b, (pk 32 (pk 18 (pk 12 0x11#6 0#6) a) cr), none⟩
  | .nop => some ⟨.b, (pk 32 (pk 24 (pk 18 (pk 12 0x3F#6 0#6) 0#6) 0#6) 0#8), none⟩
  | .ld d a sz off => some ⟨.m, (pk 32 (pk 20 (pk 18 (pk 16 (pk 12 0x01#6 d) a) 0#2) sz) off), none⟩
  | .st d a sz off => some ⟨.m, (pk 32 (pk 20 (pk 18 (pk 16 (pk 12 0x02#6 d) a) 0#2) sz) off), none⟩
  | .vld d a k off c reg simm => some ⟨.m, (pk 32 (pk 20 (pk 17 (pk 16 (pk 12 0x03#6 d) a) 0#1) k) off), (some (pk 16 (pk 7 c reg) simm))⟩
  | .vst d a k off c reg simm => some ⟨.m, (pk 32 (pk 20 (pk 17 (pk 16 (pk 12 0x04#6 d) a) 0#1) k) off), (some (pk 16 (pk 7 c reg) simm))⟩
  | .ldq d a sz off => some ⟨.m, (pk 32 (pk 20 (pk 18 (pk 16 (pk 12 0x08#6 d) a) 0#2) sz) off), none⟩
  | .stq d a sz off => some ⟨.m, (pk 32 (pk 20 (pk 18 (pk 16 (pk 12 0x09#6 d) a) 0#2) sz) off), none⟩
  | .ldsec d a off => some ⟨.m, (pk 32 (pk 20 (pk 16 (pk 12 0x0A#6 d) a) 0#4) off), none⟩
  | .gatherq d a sz off c shift k => some ⟨.m, (pk 32 (pk 20 (pk 18 (pk 16 (pk 12 0x0B#6 d) a) 0#2) sz) off), (some (pk 16 (pk 12 (pk 9 (pk 7 c 0#1) shift) k) 0#4))⟩
  | .scatterq d a sz off c shift k => some ⟨.m, (pk 32 (pk 20 (pk 18 (pk 16 (pk 12 0x0C#6 d) a) 0#2) sz) off), (some (pk 16 (pk 12 (pk 9 (pk 7 c 0#1) shift) k) 0#4))⟩
  | .stf d a sz off => some ⟨.m, (pk 32 (pk 20 (pk 18 (pk 16 (pk 12 0x0D#6 d) a) 0#2) sz) off), none⟩
  | .amo d a fn off c ret sgn sz newv => some ⟨.m, (pk 32 (pk 20 (pk 16 (pk 12 0x10#6 d) a) fn) off), (some (pk 16 (pk 10 (pk 8 (pk 7 c ret) sgn) sz) newv))⟩
  | .amoDraw a off c tag greedy => some ⟨.m, (pk 32 (pk 20 (pk 16 (pk 12 0x10#6 0#6) a) 9#4) off), (some (pk 16 (pk 15 (pk 14 c tag) 0#1) greedy))⟩
  | .pref a ext off => some ⟨.m, (pk 32 (pk 20 (pk 18 (pk 16 (pk 12 0x11#6 0#6) a) 0#2) ext) off), none⟩
  | .vadd d a b ty k bw => some ⟨.v, (pk 32 (pk 31 (pk 28 (pk 24 (pk 18 (pk 12 0x01#6 d) a) b) ty) k) bw), none⟩
  | .vsub d a b ty k bw => some ⟨.v, (pk 32 (pk 31 (pk 28 (pk 24 (pk 18 (pk 12 0x02#6 d) a) b) ty) k) bw), none⟩
  | .vmul d a b ty k bw => some ⟨.v, (pk 32 (pk 31 (pk 28 (pk 24 (pk 18 (pk 12 0x03#6 d) a) b) ty) k) bw), none⟩
  | .vfma d a b ty k bw c => some ⟨.v, (pk 32 (pk 31 (pk 28 (pk 24 (pk 18 (pk 12 0x04#6 d) a) b) ty) k) bw), (some (pk 16 c 0#10))⟩
  | .vmin d a b ty k bw => some ⟨.v, (pk 32 (pk 31 (pk 28 (pk 24 (pk 18 (pk 12 0x05#6 d) a) b) ty) k) bw), none⟩
  | .vmax d a b ty k bw => some ⟨.v, (pk 32 (pk 31 (pk 28 (pk 24 (pk 18 (pk 12 0x06#6 d) a) b) ty) k) bw), none⟩
  | .vabs d a ty k => some ⟨.v, (pk 32 (pk 31 (pk 28 (pk 24 (pk 18 (pk 12 0x07#6 d) a) 0#6) ty) k) 0#1), none⟩
  | .vneg d a ty k => some ⟨.v, (pk 32 (pk 31 (pk 28 (pk 24 (pk 18 (pk 12 0x08#6 d) a) 0#6) ty) k) 0#1), none⟩
  | .vand d a b ty k bw => some ⟨.v, (pk 32 (pk 31 (pk 28 (pk 24 (pk 18 (pk 12 0x09#6 d) a) b) ty) k) bw), none⟩
  | .vor d a b ty k bw => some ⟨.v, (pk 32 (pk 31 (pk 28 (pk 24 (pk 18 (pk 12 0x0A#6 d) a) b) ty) k) bw), none⟩
  | .vxor d a b ty k bw => some ⟨.v, (pk 32 (pk 31 (pk 28 (pk 24 (pk 18 (pk 12 0x0B#6 d) a) b) ty) k) bw), none⟩
  | .vnot d a ty k => some ⟨.v, (pk 32 (pk 31 (pk 28 (pk 24 (pk 18 (pk 12 0x0C#6 d) a) 0#6) ty) k) 0#1), none⟩
  | .vshl d a b ty k bw => some ⟨.v, (pk 32 (pk 31 (pk 28 (pk 24 (pk 18 (pk 12 0x0D#6 d) a) b) ty) k) bw), none⟩
  | .vshr d a b ty k bw => some ⟨.v, (pk 32 (pk 31 (pk 28 (pk 24 (pk 18 (pk 12 0x0E#6 d) a) b) ty) k) bw), none⟩
  | .vcmp cond p a b ty k bw => some ⟨.v, (pk 32 (pk 31 (pk 28 (pk 24 (pk 18 (pk 12 (pk 9 0x0F#6 cond) p) a) b) ty) k) bw), none⟩
  | .vsel d a b ty k bw => some ⟨.v, (pk 32 (pk 31 (pk 28 (pk 24 (pk 18 (pk 12 0x10#6 d) a) b) ty) k) bw), none⟩
  | .vcvt d a rm sty ty k => some ⟨.v, (pk 32 (pk 31 (pk 28 (pk 24 (pk 20 (pk 18 (pk 12 0x11#6 d) a) rm) sty) ty) k) 0#1), none⟩
  | .vquant d a b ty k bw c rm => some ⟨.v, (pk 32 (pk 31 (pk 28 (pk 24 (pk 18 (pk 12 0x12#6 d) a) b) ty) k) bw), (some (pk 16 (pk 14 c 0#8) rm))⟩
  | .vdeq d a ty k c half => some ⟨.v, (pk 32 (pk 31 (pk 28 (pk 24 (pk 18 (pk 12 0x13#6 d) a) 0#6) ty) k) 0#1), (some (pk 16 (pk 15 c 0#9) half))⟩
  | .vred d a all fn ty k => some ⟨.v, (pk 32 (pk 31 (pk 28 (pk 24 (pk 22 (pk 21 (pk 18 (pk 12 0x14#6 d) a) 0#3) all) fn) ty) k) 0#1), none⟩
  | .vscan d a fn ty k => some ⟨.v, (pk 32 (pk 31 (pk 28 (pk 24 (pk 22 (pk 18 (pk 12 0x15#6 d) a) 0#4) fn) ty) k) 0#1), none⟩
  | .vexp2 d a ty k => some ⟨.v, (pk 32 (pk 31 (pk 28 (pk 24 (pk 18 (pk 12 0x18#6 d) a) 0#6) ty) k) 0#1), none⟩
  | .vlog2 d a ty k => some ⟨.v, (pk 32 (pk 31 (pk 28 (pk 24 (pk 18 (pk 12 0x19#6 d) a) 0#6) ty) k) 0#1), none⟩
  | .vrcp d a ty k => some ⟨.v, (pk 32 (pk 31 (pk 28 (pk 24 (pk 18 (pk 12 0x1A#6 d) a) 0#6) ty) k) 0#1), none⟩
  | .vrsq d a ty k => some ⟨.v, (pk 32 (pk 31 (pk 28 (pk 24 (pk 18 (pk 12 0x1B#6 d) a) 0#6) ty) k) 0#1), none⟩
  | .vsqrt d a ty k => some ⟨.v, (pk 32 (pk 31 (pk 28 (pk 24 (pk 18 (pk 12 0x1C#6 d) a) 0#6) ty) k) 0#1), none⟩
  | .vtanh d a ty k => some ⟨.v, (pk 32 (pk 31 (pk 28 (pk 24 (pk 18 (pk 12 0x1D#6 d) a) 0#6) ty) k) 0#1), none⟩
  | .vsig d a ty k => some ⟨.v, (pk 32 (pk 31 (pk 28 (pk 24 (pk 18 (pk 12 0x1E#6 d) a) 0#6) ty) k) 0#1), none⟩
  | .vsin d a ty k => some ⟨.v, (pk 32 (pk 31 (pk 28 (pk 24 (pk 18 (pk 12 0x20#6 d) a) 0#6) ty) k) 0#1), none⟩
  | .vcos d a ty k => some ⟨.v, (pk 32 (pk 31 (pk 28 (pk 24 (pk 18 (pk 12 0x21#6 d) a) 0#6) ty) k) 0#1), none⟩
  | .vdraw d a g k c tag mode all => some ⟨.v, (pk 32 (pk 31 (pk 28 (pk 24 (pk 21 (pk 18 (pk 12 0x28#6 d) a) 0#3) g) 12#4) k) 0#1), (some (pk 16 (pk 15 (pk 14 c tag) mode) all))⟩
  | .shuf d a b c => some ⟨.x, (pk 32 (pk 28 (pk 24 (pk 18 (pk 12 0x01#6 d) a) b) 0#4) 0#4), (some (pk 16 c 0#10))⟩
  | .patld first a count => some ⟨.x, (pk 32 (pk 26 (pk 24 (pk 18 (pk 12 0x02#6 first) a) 0#6) 0#2) count), none⟩
  | .patsw => some ⟨.x, (pk 32 (pk 24 (pk 18 (pk 12 0x03#6 0#6) 0#6) 0#6) 0#8), none⟩
  | .xcopy d a mode dst n => some ⟨.x, (pk 32 (pk 29 (pk 26 (pk 24 (pk 18 (pk 12 0x08#6 d) a) 0#6) mode) dst) n), none⟩
  | .xbcast d a lane j g => some ⟨.x, (pk 32 (pk 29 (pk 25 (pk 24 (pk 18 (pk 12 0x09#6 d) a) 0#6) lane) j) g), none⟩
  | .mcall tag prio n => some ⟨.x, (pk 32 (pk 24 (pk 21 (pk 18 (pk 14 (pk 12 0x10#6 0#6) 0#2) tag) 0#3) prio) n), none⟩
  | .mpset n a => some ⟨.x, (pk 32 (pk 28 (pk 24 (pk 18 (pk 12 (pk 9 0x11#6 0#3) n) a) 0#6) 0#4) 0#4), none⟩
  | .accrd d t b idx pair => some ⟨.x, (pk 32 (pk 27 (pk 25 (pk 24 (pk 18 (pk 15 (pk 12 0x18#6 d) 0#3) t) b) idx) 0#2) pair), none⟩
  | .accwr t a b idx pair => some ⟨.x, (pk 32 (pk 27 (pk 25 (pk 24 (pk 18 (pk 12 (pk 9 0x19#6 0#3) t) a) b) idx) 0#2) pair), none⟩
  | .accz mask => some ⟨.x, (pk 32 (pk 24 (pk 18 (pk 12 0x1A#6 0#6) 0#6) 0#6) mask), none⟩
  | .phase scope => some ⟨.e, (pk 32 (pk 29 (pk 24 (pk 18 (pk 12 0x01#6 0#6) 0#6) 0#6) 0#5) scope), none⟩
  | .publish a => some ⟨.e, (pk 32 (pk 24 (pk 18 (pk 12 0x02#6 0#6) a) 0#6) 0#8), none⟩
  | .vwait d a b => some ⟨.e, (pk 32 (pk 24 (pk 18 (pk 12 0x03#6 d) a) b) 0#8), none⟩
  | .fence d mask kind => some ⟨.e, (pk 32 (pk 31 (pk 28 (pk 24 (pk 18 (pk 12 0x04#6 d) 0#6) 0#6) mask) 0#3) kind), none⟩
  | .copy a span => some ⟨.e, (pk 32 (pk 29 (pk 24 (pk 18 (pk 12 0x08#6 0#6) a) 0#6) 0#5) span), none⟩
  | .drain => some ⟨.e, (pk 32 (pk 24 (pk 18 (pk 12 0x09#6 0#6) 0#6) 0#6) 0#8), none⟩
  | .span d a b => some ⟨.e, (pk 32 (pk 24 (pk 18 (pk 12 0x0A#6 d) a) b) 0#8), none⟩
  | .barrive a b queue fn => some ⟨.e, (pk 32 (pk 30 (pk 28 (pk 24 (pk 18 (pk 12 0x10#6 0#6) a) b) 0#4) queue) fn), none⟩
  | .bwait d a b queue texp => some ⟨.e, (pk 32 (pk 27 (pk 25 (pk 24 (pk 18 (pk 12 0x11#6 d) a) b) 0#1) queue) texp), none⟩
  | .wait d a b cond texp c space sz queue masked => some ⟨.e, (pk 32 (pk 27 (pk 24 (pk 18 (pk 12 0x12#6 d) a) b) cond) texp), (some (pk 16 (pk 12 (pk 11 (pk 9 (pk 8 c space) sz) queue) masked) 0#4))⟩
  | .mwait d all tag => some ⟨.e, (pk 32 (pk 28 (pk 27 (pk 24 (pk 18 (pk 12 0x13#6 d) 0#6) 0#6) 0#3) all) tag), none⟩
  | .sbind d elemsz queue => some ⟨.e, (pk 32 (pk 30 (pk 28 (pk 24 (pk 18 (pk 12 0x18#6 d) 0#6) 0#6) 0#4) elemsz) queue), none⟩
  | .sunbind d => some ⟨.e, (pk 32 (pk 24 (pk 18 (pk 12 0x19#6 d) 0#6) 0#6) 0#8), none⟩
  | .ringp ring a reg count => some ⟨.e, (pk 32 (pk 25 (pk 24 (pk 18 (pk 12 (pk 9 0x1A#6 0#3) ring) a) 0#6) reg) count), none⟩
  | .ringa ring a reg count => some ⟨.e, (pk 32 (pk 25 (pk 24 (pk 18 (pk 12 (pk 9 0x1B#6 0#3) ring) a) 0#6) reg) count), none⟩
  | .walk a => some ⟨.e, (pk 32 (pk 24 (pk 18 (pk 12 0x20#6 0#6) a) 0#6) 0#8), none⟩
  | .coll a b => some ⟨.e, (pk 32 (pk 24 (pk 18 (pk 12 0x21#6 0#6) a) b) 0#8), none⟩
  | .lprobe d a => some ⟨.e, (pk 32 (pk 24 (pk 18 (pk 12 0x22#6 d) a) 0#6) 0#8), none⟩
  | .tsread d => some ⟨.e, (pk 32 (pk 24 (pk 18 (pk 12 0x23#6 d) 0#6) 0#6) 0#8), none⟩
  | .kzero _ => none
  | .kstep _ _ _ _ _ _ => none
  | .kloop _ _ => none
  | .kendl => none
  | .kepi _ _ _ => none
  | .krows _ _ => none
  | .ksum _ => none
  | .kend => none
  | .matrixChoose _ => none
  | .trapEntry _ _ => none
  | .elementLand _ => none
  | .storeAck _ => none
  | .homeRequest _ _ _ => none
  | .l2Fill _ => none
  | .setWaitRetry _ => none
  | .waitTimeout _ _ => none
  | .barrierArrival _ => none
  | .pageWalk _ => none
  | .copyComplete _ _ => none
  | .patldComplete _ => none
  | .walkHop _ => none
  | .remoteRequest _ => none
  | .hibernatingAnswer _ => none
  | .remoteNoAnswer _ => none
  | .linkRetry _ => none
  | .linkDown _ => none
  | .routeRemove _ => none
  | .moduleLost _ => none
  | .collHandoff _ _ => none
  | .startFlit _ _ _ => none
  | .chunkArrival _ => none
  | .looseFlush _ _ _ => none
  | .lateAddend _ => none
  | .rootReleaseTimeout _ _ => none
  | .abortFlit _ => none
  | .replayComplete _ _ => none
  | .route1ChunkApply _ => none
  | .doorbell _ _ => none
  | .nestTake _ => none
  | .nestOffer => none
  | .gangPlace _ => none
  | .clusterReserve _ => none
  | .folioPickup _ => none
  | .gangPreempt _ => none
  | .gangResume _ => none
  | .nestRetire _ => none
  | .operatingPointChange _ _ => none
  | .energyTick _ _ _ _ => none
  | .sensorRetired _ => none
  | .patrolScrub _ _ => none
  | .supplyWarning _ _ => none
  | .supplyTrap _ _ => none
  | .handlerOverrun _ _ => none
  | .saveComplete _ => none
  | .sealed _ => none
  | .enterSag => none
  | .enterShed _ => none
  | .shed _ => none
  | .clusterRestore _ => none
  | .returnNormal _ => none
  | .inputReturn => none
  | .thermal => none
  | .thermalEnd => none
  | .powerOn _ _ _ _ => none
  | .restoreBegin _ => none
  | .timeExchange _ _ => none
  | .masterLost _ => none
  | .warmReset _ _ => none
  | .attestationRequest _ => none
  | .suspend _ => none
  | .ownerSuspended _ => none
  | .resume _ => none
  | .terminate _ => none
  | .islandsWrite _ _ => none
  | .regselWrite _ => none
  | .invcmd _ => none
  | .invalidationComplete => none
  | .keyload _ => none
  | .rtload _ => none
  | .coreRoutineLoad _ => none
  | .mcload _ => none
  | .vitload _ => none
  | .vitclr _ => none
  | .vitrineRemoved _ => none
  | .gload _ => none
  | .featDrvWrite _ _ => none
  | .acclist _ => none
  | .restoreResume _ => none
  | .ckreq _ => none
  | .shardReceive _ _ => none
  | .checkpointSeal _ => none
  | .ckrestore _ _ => none
  | .trigctlArm _ => none
  | .trigfire => none
  | .energyLowRead _ => none
  | .energyHighRead _ => none
  | .hostLoad _ _ => none
  | .hostStore _ _ _ => none
  | .registerWrite _ _ => none
  | .pathRestored _ _ => none
  | .routerOff => none
  | .timePhaseTimeout => none

/-- The micro-word of a micro-op (R153); other instructions have none. -/
def encodeMicro (i : Instr) : Option (BitVec 64) :=
  match i with
  | .kend => some 0#64
  | .kzero t => some (pk 64 (pk 7 1#4 t) 0#57)
  | .kstep t ra rb c f i =>
    some (pk 64 (pk 32 (pk 28 (pk 19 (pk 13 (pk 10 (pk 7 2#4 t) ra) rb) c) 0#9) f) i)
  | .kloop c i => some (pk 64 (pk 32 (pk 19 (pk 13 3#4 0#9) c) 0#13) i)
  | .kendl => some (pk 64 4#4 0#60)
  | .kepi t r m => some (pk 64 (pk 61 (pk 32 (pk 30 (pk 7 5#4 t) 0#23) r) 0#29) m)
  | .krows t m => some (pk 64 (pk 61 (pk 7 6#4 t) 0#54) m)
  | .ksum t => some (pk 64 (pk 7 7#4 t) 0#57)
  | _ => none

/-- How many bits the cells of a class fix in a word that holds this instruction: used only to choose a slot
class for a word that stands alone. -/
def slotPriority (c : SlotClass) (w : BitVec 32) : Nat :=
  (List.range 32).foldl (fun n k =>
    match readSlot c (w ^^^ (1#32 <<< k)) 0#16 with
    | none => n + 1
    | some r => if r.defect.isSome then n + 1 else n) 0

/-- The slot classes that accept a word and parcel, each with the number of bits its cell fixes. -/
def slotCandidates (w : BitVec 32) (p : BitVec 16) : List (Nat × SlotClass × Instr) :=
  [SlotClass.s, .b, .m, .v, .x, .e].filterMap fun c =>
    match decodeSlot c w p with
    | .ok i => some (slotPriority c w, c, i)
    | .error _ => none

/-- The candidate whose cell fixes the most bits; the first in slot order among equals. -/
def bestCandidate (l : List (Nat × SlotClass × Instr)) : Option (SlotClass × Instr) :=
  (l.foldl (fun best x =>
    match best with
    | none => some x
    | some b => if b.1 < x.1 then some x else some b) none).map (·.2)

/-- The slot class and instruction of a word of the opcode table. A slot word does not name its slot: the
choice among classes that accept it is the model's (log 9). Of 64 bits and more it is a micro-word. -/
def tableWord (nbits w : Nat) : Option (SlotClass × Instr) :=
  bestCandidate (slotCandidates (BitVec.ofNat 32 w) (if nbits ≤ 32 then 0#16 else BitVec.ofNat 16 (w >>> 32)))

/-- The instruction the decoder reads from a table word of `nbits` bits; bit 0 is bit 0 of the slot word,
the parcel follows it, and 64 bits are one micro-word. -/
def decodeTableWord (nbits w : Nat) : Option Instr :=
  if 64 ≤ nbits then
    match decodeMicro (BitVec.ofNat 64 w) with
    | .ok i => some i
    | .error _ => none
  else (tableWord nbits w).map (·.2)

end Sys2Proof
end

