-- ==== Sys2Proof/Machine/Legal.lean ====
section
/-! DEFINITION. Which operand values and field values each instruction accepts, as far as the instruction
alone tells (R67, R68, R104, R130, R330 and each instruction's entry). What depends on the strand's state
(its register allotment, MDEF, a stream's binding) is checked where the instruction acts. -/
namespace Sys2Proof

/-- A scalar source: s, a or w (R104). -/
def isSource (x : BitVec 6) : Bool := x.toNat < 56

/-- A scalar destination: s or a (R104). -/
def isDest (x : BitVec 6) : Bool := x.toNat < 48

/-- An address operand: a0 to a15 (R104, R249). -/
def isAddr (x : BitVec 6) : Bool := 32 ≤ x.toNat && x.toNat < 48

/-- A stream named as a target: 48 to 55 (R241). -/
def isStream (x : BitVec 6) : Bool := 48 ≤ x.toNat && x.toNat < 56

/-- A pair operand: s1 to s30 (R224). -/
def isPair (x : BitVec 6) : Bool := 1 ≤ x.toNat && x.toNat ≤ 30

/-- The checks of one instruction: the register fields that must hold, then the condition on all others. -/
structure Checks where
  regs : List (Bool × BitVec 6) := []
  others : Bool := true
  deriving DecidableEq, Repr

/-- The first defect the checks find, register fields first (R316, R330). -/
def Checks.defect (c : Checks) : Option Defect :=
  match c.regs.find? (fun r => !r.1) with
  | some r => some (.register r.2.toNat)
  | none => if c.others then none else some .operand

/-- The set INT of R131, also TY of the integer instructions of R106. -/
def tyInt (t : BitVec 4) : Bool := t.toNat < 8
/-- The set ARITH of R131. -/
def tyArith (t : BitVec 4) : Bool := t.toNat ≤ 8 || t.toNat == 12
/-- The set CMPT of R131. -/
def tyCmp (t : BitVec 4) : Bool :=
  t.toNat == 2 || t.toNat == 3 || t.toNat == 6 || t.toNat == 7 || t.toNat == 12
/-- The set FUNC of R131. -/
def tyFunc (t : BitVec 4) : Bool := t.toNat == 8 || t.toNat == 12
/-- The set CONV of R131. -/
def tyConv (t : BitVec 4) : Bool := t.toNat ≤ 12 || t.toNat == 14
/-- The types of scalar floating point (R114). -/
def tyFloat (t : BitVec 4) : Bool := t.toNat == 8 || t.toNat == 12 || t.toNat == 13

/-- Three scalar operands and a type. -/
def checks3 (d a b : BitVec 6) (ok : Bool) : Checks :=
  { regs := [(isDest d, d), (isSource a, a), (isSource b, b)], others := ok }
/-- Two scalar operands and a type. -/
def checks2 (d a : BitVec 6) (ok : Bool) : Checks :=
  { regs := [(isDest d, d), (isSource a, a)], others := ok }
/-- The b operand of a V-slot instruction: under BW it names a stream, and bits [5:3] are reserved (R69). -/
def checksVB (b : BitVec 6) (bw : BitVec 1) (ok : Bool) : Checks :=
  { regs := [(bw == 0#1 || b.toNat < 8, b)], others := ok }
/-- The count operand of RINGP and RINGA (R264). -/
def checksRing (a : BitVec 6) (reg : BitVec 1) (count : BitVec 7) : Checks :=
  { regs := [(reg == 0#1 || isSource a, a)]
    others := if reg == 1#1 then count == 0#7 else a == 0#6 }
/-- The stride of VLD and VST (R243). -/
def checksStride (c : BitVec 6) (reg : BitVec 1) (simm : BitVec 9) : Bool :=
  if reg == 1#1 then simm == 0#9 else c == 0#6
/-- The index operand of ACCRD and ACCWR (R172). -/
def checksPair (b : BitVec 6) (idx : BitVec 1) (pair : BitVec 5) : Checks :=
  { regs := [(idx == 0#1 || isSource b, b)]
    others := if idx == 1#1 then pair == 0#5 else b == 0#6 }
/-- A control register a CRR may name (R47). -/
def crrLegal (cr : BitVec 14) : Bool :=
  cr.toNat < 14 || (16 ≤ cr.toNat && cr.toNat < 72)
/-- A control register a CRW may name: neither reserved nor read-only (R47). -/
def crwLegal (cr : BitVec 14) : Bool :=
  crrLegal cr && cr.toNat != 0 && cr.toNat != 9 && cr.toNat < 48
/-- A count of a KSTEP or KLOOP: CSEL 0 with IMM [31:16] zero, or CSEL 32 and above with IMM zero (R153). -/
def countLegal (csel : BitVec 6) (imm : BitVec 32) : Bool :=
  if csel == 0#6 then imm.toNat < 65536 else 32 ≤ csel.toNat && imm == 0#32

/-- The checks of every instruction (R104 to R128, R130 to R150, R170 to R174, R231 to R268, R330 to R345). Which TY codes
VSCAN accepts the spec does not list: those of VRED are taken (log 47, DESIGN CHOICE). R154 gives a KEPI of ROUTE 3 no fate:
it is taken for a reserved micro-word (log 160, DESIGN CHOICE). -/
def instrChecks (i : Instr) : Checks :=
  match i with
  | .add d a b t _ | .sub d a b t _ | .mul d a b t _ => checks3 d a b (tyInt t)
  | .mulh d a b t | .rem d a b t | .and d a b t | .or d a b t | .xor d a b t | .shl d a b t
  | .shr d a b t | .sar d a b t | .rot d a b t | .min d a b t | .max d a b t => checks3 d a b (tyInt t)
  | .divs d a b t => checks3 d a b (t.toNat < 4)
  | .divn d a b t => checks3 d a b (4 ≤ t.toNat && t.toNat < 8)
  | .not d a t | .popc d a t | .clz d a t | .ctz d a t => checks2 d a (tyInt t)
  | .cmp d a b t c => checks3 d a b (tyInt t && c.toNat < 6)
  | .sel d a b c => { regs := [(isDest d, d), (isSource a, a), (isSource b, b), (isSource c, c)] }
  | .pack d a b t => checks3 d a b (4 ≤ t.toNat && t.toNat ≤ 6)
  | .addi d a _ => checks2 d a true
  | .movi d _ => { regs := [(isDest d, d)] }
  | .movh d a _ => checks2 d a true
  | .bfx d a _ pos len | .bfi d a pos len => checks2 d a (pos.toNat + len.toNat + 1 ≤ 64)
  | .fadd d a b t | .fsub d a b t | .fmul d a b t | .fmin d a b t | .fmax d a b t =>
    checks3 d a b (tyFloat t)
  | .ffma d a b t c =>
    { regs := [(isDest d, d), (isSource a, a), (isSource b, b), (isSource c, c)], others := tyFloat t }
  | .fcmp d a b t c => checks3 d a b (tyFloat t && c.toNat < 5)
  | .fcvt d a sty t _ => checks2 d a (sty.toNat < 15 && t.toNat < 15)
  | .dmerge d a b c _ =>
    { regs := [(isPair d, d), (isPair a, a), (isPair b, b), (isSource c, c)] }
  | .dscale d a b m =>
    { regs := [(isPair d, d), (isSource a, a), (m == 1#1 || isSource b, b)]
      others := m == 0#1 || b == 0#6 }
  | .br _ _ _ => {}
  | .brk _ c _ => { others := c.toNat < 4 }
  | .call s _ => { regs := [(s != 0#5, s.setWidth 6)] }
  | .ret _ => {}
  | .loop _ _ c imm cnt =>
    { regs := [(imm == 1#1 || isSource c, c)]
      others := if imm == 1#1 then c == 0#6 else cnt == 0#9 }
  | .endl _ _ => {}
  | .yield a => { regs := [(isAddr a, a)] }
  | .spawn d a => { regs := [(isDest d, d), (isAddr a, a)] }
  | .exit | .trap _ | .tret | .hiber | .nop => {}
  | .crr d cr => { regs := [(isDest d, d)], others := crrLegal cr }
  | .crw a cr => { regs := [(isSource a, a)], others := crwLegal cr }
  | .ld d _ _ _ | .st d _ _ _ => { regs := [(isSource d, d)] }
  | .vld _ _ _ _ c reg simm | .vst _ _ _ _ c reg simm =>
    { regs := [(reg == 0#1 || isSource c, c)], others := checksStride c reg simm }
  | .ldq d _ _ _ | .ldsec d _ _ => { regs := [(isStream d, d)] }
  | .stq d _ _ _ | .stf d _ _ _ => { regs := [(isSource d, d)] }
  | .gatherq d _ _ _ _ _ _ => { regs := [(isStream d, d)] }
  | .scatterq _ _ _ _ _ _ _ => {}
  | .amo d _ fn _ c ret sgn sz newv =>
    { regs := [(ret == 0#1 || isStream d, d), (isSource c, c), (fn != 7#4 || isSource newv, newv)]
      others := fn.toNat < 9 && 2 ≤ sz.toNat && (fn != 8#4 || (sz == 2#2 && sgn == 0#1)) &&
        (fn == 7#4 || newv == 0#6) && (ret == 1#1 || d == 0#6) }
  | .amoDraw _ _ c _ _ => { regs := [(isPair c, c)] }
  | .pref _ e _ => { others := e.toNat < 2 }
  | .vadd _ _ b t _ w | .vsub _ _ b t _ w | .vmul _ _ b t _ w | .vmin _ _ b t _ w | .vmax _ _ b t _ w
  | .vsel _ _ b t _ w | .vfma _ _ b t _ w _ => checksVB b w (tyArith t)
  | .vabs _ _ t _ | .vneg _ _ t _ => { others := tyArith t }
  | .vand _ _ b t _ w | .vor _ _ b t _ w | .vxor _ _ b t _ w | .vshl _ _ b t _ w | .vshr _ _ b t _ w =>
    checksVB b w (tyInt t)
  | .vnot _ _ t _ => { others := tyInt t }
  | .vcmp c _ _ b t _ w => checksVB b w (tyCmp t && c.toNat < 5 && (c != 4#3 || t == 12#4))
  | .vcvt _ _ _ sty t _ => { others := tyConv sty && tyConv t }
  | .vquant _ _ b t _ w c _ =>
    { regs := [(w == 0#1 || b.toNat < 8, b), (isDest c, c)], others := 9 ≤ t.toNat && t.toNat ≤ 11 }
  | .vdeq _ _ t _ c _ =>
    { regs := [(isSource c, c)], others := (9 ≤ t.toNat && t.toNat ≤ 11) || t == 14#4 }
  | .vred _ _ _ f t _ | .vscan _ _ f t _ => { others := tyArith t && f != 3#2 }
  | .vexp2 _ _ t _ | .vlog2 _ _ t _ | .vrcp _ _ t _ | .vrsq _ _ t _ | .vsqrt _ _ t _
  | .vtanh _ _ t _ | .vsig _ _ t _ | .vsin _ _ t _ | .vcos _ _ t _ => { others := tyFunc t }
  | .vdraw d _ _ _ c _ _ _ => { regs := [(isPair d, d), (isSource c, c)] }
  | .shuf _ _ _ _ => {}
  | .patld f a n => { regs := [(isAddr a, a)], others := f.toNat + n.toNat + 1 ≤ 64 }
  | .patsw => {}
  | .xcopy _ _ m dst _ => { others := m != 3#2 && (m == 2#2 || dst == 0#3) }
  | .xbcast _ _ l j _ => { others := l == 1#1 || j == 0#4 }
  | .mcall _ _ _ => {}
  | .mpset _ a => { regs := [(isSource a, a)] }
  | .accrd _ _ b idx p | .accwr _ _ b idx p => checksPair b idx p
  | .accz _ => {}
  | .phase s => { others := s.toNat < 5 }
  | .publish a => { regs := [(isSource a, a)] }
  | .vwait d a b => { regs := [(isPair d, d), (isSource a, a), (isSource b, b)] }
  | .fence d _ _ => { regs := [(isDest d, d)] }
  | .copy a _ => { regs := [(isAddr a, a)] }
  | .drain => {}
  | .span d a b => { regs := [(isDest d, d), (isAddr a, a), (isSource b, b)] }
  | .barrive a b _ f =>
    { regs := [(isAddr a, a), (f.toNat == 2 || isSource b, b)]
      others := f != 3#2 && (f != 2#2 || b == 0#6) }
  | .bwait d a b _ _ => { regs := [(isDest d, d), (isAddr a, a), (isSource b, b)] }
  | .wait d a b c _ m sp _ _ k =>
    { regs := [(isDest d, d), (isAddr a, a), (isSource b, b), (k == 0#1 || isSource m, m)]
      others := c.toNat < 6 && sp != 3#2 && (k == 1#1 || m == 0#6) }
  | .mwait d all tag => { regs := [(isDest d, d)], others := all == 0#1 || tag == 0#4 }
  | .sbind d e _ => { regs := [(isStream d, d)], others := e != 3#2 }
  | .sunbind d => { regs := [(isStream d, d)] }
  | .ringp _ a reg n | .ringa _ a reg n => checksRing a reg n
  | .walk a => { regs := [(isAddr a, a)] }
  | .coll a b => { regs := [(isSource a, a), (isAddr b, b)] }
  | .lprobe d a => { regs := [(isDest d, d), (isAddr a, a)] }
  | .tsread d => { regs := [(isDest d, d)] }
  | .kstep _ _ _ c _ n | .kloop c n => { others := countLegal c n }
  | .kepi _ r _ => { others := r != 3#2 }
  | _ => {}

/-- The defect an instruction has by itself, register fields first. -/
def Instr.defect (i : Instr) : Option Defect := (instrChecks i).defect

end Sys2Proof
end

