-- ==== Sys2Proof/Machine/Ops.lean ====
section
/-! DEFINITION. The shared operations over registers, memory queues and the phase buffer, the issue of a bundle
(R62, R63, R72), taking a trap and ending a gang (R311 to R318), and the return from a trap (R319, R322). -/
namespace Sys2Proof.Machine
open Sys2Proof

/-! ### Registers and results in flight -/

/-- A register's value as last landed. -/
def Strand.reg (t : Strand) (n : Nat) : Word := Tab.get t.regs 0 n
def Strand.setReg (t : Strand) (n : Nat) (v : Word) : Strand :=
  if n = 0 then t else { t with regs := Tab.set t.regs 0 n v }
/-- k0 reads all ones (R38). -/
def Strand.predRaw (t : Strand) (n : Nat) : Pred := if n = 0 then BitVec.allOnes 128 else Tab.get t.preds 0 n
def Strand.setPred (t : Strand) (n : Nat) (v : Pred) : Strand :=
  if n = 0 then t else { t with preds := Tab.set t.preds 0 n v }
def Strand.lcRaw (t : Strand) (n : Nat) : BitVec 32 := Tab.get t.lcs 0 n
def Strand.setLc (t : Strand) (n : Nat) (v : BitVec 32) : Strand := { t with lcs := Tab.set t.lcs 0 n v }
def Strand.vecRaw (t : Strand) (n : Nat) : Vec := Tab.get t.vecs 0 n
def Strand.setVec (t : Strand) (n : Nat) (v : Vec) : Strand := { t with vecs := Tab.set t.vecs 0 n v }
def Strand.tile (t : Strand) (n : Nat) : TileReg := Tab.get t.tiles {} n
def Strand.setTile (t : Strand) (n : Nat) (v : TileReg) : Strand := { t with tiles := Tab.set t.tiles {} n v }

/-- The key of a residue-carrying register in `Strand.residues` (R347); of a vector register, of its lane 0. -/
def Dest.residueKey (d : Dest) : Option Nat :=
  match d with
  | .reg n => some n
  | .lc n => some (48 + n)
  | .vec n => some (64 + 128 * n)
  | _ => none

/-- Residues generated from the values of the registers whose keys `p` picks (R348). -/
def Strand.regenerate (t : Strand) (p : Nat → Bool) : Strand := { t with residues := t.residues.filter (fun e => !p e.1) }

/-- The residue stored beside a value with a key (R347). -/
def Strand.residueAt (t : Strand) (key v : Nat) : Nat := Tab.get t.residues (res v) key

/-- Whether a value read passes the check of its residue (R349). -/
def Strand.passes (t : Strand) (key v : Nat) : Bool := t.residueAt key v == res v

/-- The value that lands: an undefined one where two writes overlapped (R72). -/
def Landing.value (l : Landing) : BitVec 4096 := if l.clash then Config.freeBits l.id 0 else l.val
/-- A result's value in its register (R38, R40); flags that a CRW of SSR overtook are undefined, each of them (R72). -/
def Strand.landValue (t : Strand) (l : Landing) : Strand :=
  match l.dst with
  | .reg n => t.setReg n (l.value.setWidth 64)
  | .pred n => t.setPred n (l.value.setWidth 128)
  | .lc n => t.setLc n (l.value.setWidth 32)
  | .vec n => t.setVec n l.value
  | .flags =>
    let f := t.flags ||| (l.val.setWidth 6 &&& 0x3E#6)
    let landed := if l.val.getLsbD 6 then (f &&& 0x3E#6) ||| (l.val.setWidth 6 &&& 1#6) else f
    let hit := (l.val.setWidth 6 &&& 0x3E#6) ||| (if l.val.getLsbD 6 then 1#6 else 0#6)
    { t with flags := if l.clash then (t.flags &&& ~~~hit) ||| ((Config.freeBits l.id 0).setWidth 6 &&& hit) else landed }
/-- The residues that do not agree with their values once a result has landed: its own is generated, or is the predicted one,
which is INVALID where it disagrees (R347, R348). A vector lane that is not written keeps what stands beside it. -/
def Landing.residues (l : Landing) (m : Map Nat) : Map Nat :=
  let v := l.value.toNat
  match l.dst with
  | .vec n => m.filter (fun e => !(64 + 128 * n ≤ e.1 && e.1 < 64 + 128 * (n + 1) && l.lanes.getLsbD (e.1 - (64 + 128 * n))))
  | .reg 0 => m
  | _ =>
    match l.dst.residueKey with
    | none => m
    | some k =>
      let rest := m.filter (fun e => e.1 != k)
      match l.residue with
      | none => rest
      | some p =>
        if l.clash || p = res (match l.dst with | .lc _ => v % 2 ^ 32 | _ => v % 2 ^ 64) then rest
        else Tab.put rest k invalidRes
/-- A result written to its register, with its residue (R38, R40, R347). -/
def Strand.land (t : Strand) (l : Landing) : Strand := { t.landValue l with residues := l.residues t.residues }

/-- Every result whose bound has passed lands (R72). -/
def Strand.settle (t : Strand) (cycle : Nat) : Strand :=
  let done := t.inflight.filter (fun l => l.due ≤ cycle)
  let t1 := { t with inflight := t.inflight.filter (fun l => !decide (l.due ≤ cycle)) }
  done.foldl Strand.land t1

/-- The cycle by which every result of a strand has landed (R311). -/
def Strand.landedBy (t : Strand) : Nat := t.inflight.foldl (fun n l => max n l.due) 0

/-- Every result in flight lands. -/
def Strand.settleAll (t : Strand) : Strand := t.settle t.landedBy

/-- Flags that carry a ZM: those of a draw. -/
def Landing.draws (l : Landing) : Bool := l.dst == .flags && l.val.getLsbD 6
/-- The flags of a draw without its ZM. -/
def Landing.undrawn (l : Landing) : Landing := if l.draws then { l with val := l.val &&& ~~~0x41#4096 } else l
/-- Flags on their way to SSR: they land at once with bound 1. A draw's ZM, where it overlaps another's on its way, is
undefined once both bounds have passed, as a register would be (R72, R229; log 163). -/
def Strand.flagResult (t : Strand) (cycle : Nat) (l : Landing) : Strand :=
  let put := fun (t : Strand) (l : Landing) => if l.due ≤ cycle + 1 then t.land l else { t with inflight := t.inflight ++ [l] }
  if l.draws && t.inflight.any Landing.draws then
    let due := t.inflight.foldl (fun n m => if m.draws then max n m.due else n) l.due
    let open_ : Landing := { dst := .flags, val := if (Config.freeBits l.id 3).getLsbD 0 then 0x41 else 0x40, due := due, id := l.id }
    let t1 := put { t with inflight := t.inflight.map Landing.undrawn } l.undrawn
    { t1 with inflight := t1.inflight ++ [open_] }
  else put t l
/-- A result of a bundle issued at `cycle`: with bound 1 and nothing in flight to its register it lands at once;
a write inside another's bound leaves the register undefined once both have passed (R72). -/
def Strand.result (t : Strand) (cycle : Nat) (l : Landing) : Strand :=
  if l.dst = .flags then t.flagResult cycle l
  else if t.inflight.any (fun m => m.dst == l.dst) then
    let due := t.inflight.foldl (fun n m => if m.dst == l.dst then max n m.due else n) l.due
    { t with inflight := t.inflight.filter (fun m => m.dst != l.dst) ++ [{ l with due := due, clash := true }] }
  else if l.due ≤ cycle + 1 then t.land l
  else { t with inflight := t.inflight ++ [l] }

/-- A register as a bundle reads it at issue: an undefined value while a result is in flight to it (R72). -/
def Strand.seen (t : Strand) (d : Dest) (v : BitVec 4096) : BitVec 4096 :=
  match t.inflight.find? (fun l => l.dst == d) with
  | some l => Config.freeBits l.id 1
  | none => v

def Strand.readReg (t : Strand) (n : Nat) : Word :=
  if n = 0 then 0 else (t.seen (.reg n) ((t.reg n).setWidth 4096)).setWidth 64
def Strand.readPred (t : Strand) (n : Nat) : Pred :=
  if n = 0 then t.predRaw 0 else (t.seen (.pred n) ((t.predRaw n).setWidth 4096)).setWidth 128
def Strand.readLc (t : Strand) (n : Nat) : BitVec 32 := (t.seen (.lc n) ((t.lcRaw n).setWidth 4096)).setWidth 32
def Strand.readVec (t : Strand) (n : Nat) : Vec := t.seen (.vec n) (t.vecRaw n)

/-- SSR [5:0] as read: a flag about to land reads either way (R229). -/
def Strand.readFlags (t : Strand) : BitVec 6 :=
  t.inflight.foldl (fun f l =>
    if l.dst = .flags then
      let set := l.val.setWidth 6 &&& 0x3E#6
      let zm := if l.val.getLsbD 6 then 1#6 else 0#6
      let pick := (Config.freeBits l.id 2).setWidth 6
      let f1 := f ||| (set &&& pick)
      (f1 &&& ~~~(zm &&& pick)) ||| (l.val.setWidth 6 &&& zm &&& pick)
    else f) t.flags

/-- SSR as CRR reads it and a trap frame holds it (R40). -/
def Strand.ssr (t : Strand) (flags : BitVec 6) : Word :=
  BitVec.ofNat 64 ((t.slot % 4) <<< 10 ||| (t.role % 4) <<< 8 ||| flags.toNat)

/-! ### Stops -/

/-- Why a slot does not let its bundle issue. -/
inductive Stop
  | trap (t : TrapInfo)
  | stall (why : Stall) (act : StallAct)
  deriving DecidableEq, Repr

/-- A trap before another within one slot: ascending CAUSE, then SUB (R316). -/
def TrapInfo.before (a b : TrapInfo) : Bool := a.cause < b.cause || (a.cause = b.cause && a.sub < b.sub)

/-- The stop chosen among the checks of one slot: the least trap, else the first stall (R316, log 11). -/
def firstStop (checks : List (Option Stop)) : Option Stop :=
  checks.foldl (fun best c =>
    match best, c with
    | none, c => c
    | some b, none => some b
    | some (.stall _ _), some (.trap t) => some (.trap t)
    | some (.trap a), some (.trap t) => if t.before a then some (.trap t) else some (.trap a)
    | some b, some _ => some b) none

/-- The trap of a defect (R330). -/
def defectTrap (d : Defect) : TrapInfo :=
  match d with
  | .cell => { cause := 1, sub := 4 }
  | .register n => { cause := 2, info := BitVec.ofNat 64 n }
  | .operand => { cause := 3 }
  | .microWord => { cause := 1, sub := 4 }

def trapReg (x : Nat) : Stop := .trap { cause := 2, info := BitVec.ofNat 64 (x % 64) }
def trapOperand : Stop := .trap { cause := 3 }
def trapModifier (info : Word) : Stop := .trap { cause := 4, info := info }
def trapRange (a : Word) : Stop := .trap { cause := 5, addr := a }
def trapAlign (a : Word) : Stop := .trap { cause := 6, addr := a }
def trapTranslation (sub : Nat) (a : Word) : Stop := .trap { cause := 7, sub := sub, addr := a }
/-- A stop where a condition holds. -/
def stopIf (c : Bool) (s : Stop) : Option Stop := if c then some s else none

/-! ### The bundle at issue -/

/-- The machine with the bundle it is issuing. -/
structure Bun where
  st : State
  cur : Cursor
  deriving DecidableEq, Repr

def Bun.core (b : Bun) : Core := b.st.core b.cur.core
/-- The issuing strand as it stood before the bundle: no slot of the bundle has written it (R63). -/
def Bun.strand (b : Bun) : Strand := (b.st.strand b.cur.core b.cur.ctx).getD {}
def Bun.share (b : Bun) : Share := b.core.share
def Bun.slotNo (b : Bun) : Nat := b.st.gangSlot b.strand.gang
def Bun.key (b : Bun) : Nat := b.st.slotKey b.slotNo

/-- The bundle with a result added to what it writes, with its latency bound and the residue predicted for it, if one
is (R72, R73, R348). -/
def Bun.writeMarked (b : Bun) (d : Dest) (v : BitVec 4096) (bound : Nat) (pred : Option Nat) : Bun :=
  { b with cur := { b.cur with writes := b.cur.writes ++ [{ dst := d, val := v, due := b.core.cycle + bound, residue := pred, id := 64 * b.st.free + b.cur.writes.length }] } }
def Bun.write (b : Bun) (d : Dest) (v : BitVec 4096) (bound : Nat) : Bun := b.writeMarked d v bound none
/-- A scalar result of a predicted writer (R348); a write of s0 is discarded (R38). -/
def Bun.writePredicted (b : Bun) (x : BitVec 6) (v : Word) (bound : Nat) (pred : Option Nat) : Bun :=
  if x = 0#6 then b else b.writeMarked (.reg x.toNat) (v.setWidth 4096) bound pred
def Bun.writeReg (b : Bun) (x : BitVec 6) (v : Word) (bound : Nat) : Bun := b.writePredicted x v bound none

/-- The residue predicted for a sum: of the sources' residues and the carry out of bit 63 (R348). -/
def predictAdd (ra rb a b : Nat) : Nat :=
  if ra = invalidRes || rb = invalidRes then invalidRes else (ra + rb + 15 - (a + b) / 2 ^ 64) % 15
/-- The residue predicted for a difference of `w`-bit values: of the sources' residues and the borrow (R348). -/
def predictSub (ra rb a b : Nat) : Nat :=
  if ra = invalidRes || rb = invalidRes then invalidRes else (ra + 15 - rb + b2n (decide (a < b))) % 15
/-- The residue predicted for the low word of a product: of the sources' residues and the high word (R348). -/
def predictMul (ra rb hi : Nat) : Nat :=
  if ra = invalidRes || rb = invalidRes then invalidRes else (ra * rb + 15 - res hi) % 15
def Bun.writePred (b : Bun) (x : BitVec 3) (v : Pred) (bound : Nat) : Bun :=
  if x = 0#3 then b else b.write (.pred x.toNat) (v.setWidth 4096) bound
def Bun.writeVec (b : Bun) (x : BitVec 6) (v : Vec) (bound : Nat) : Bun := b.write (.vec x.toNat) v bound
/-- A vector result that writes only some lanes: the others keep their value and what stands beside it (R131, R348). -/
def Bun.writeLanes (b : Bun) (x : BitVec 6) (v : Vec) (lanes : Pred) (bound : Nat) : Bun :=
  { b with cur := { b.cur with writes := b.cur.writes ++ [{ dst := .vec x.toNat, val := v, due := b.core.cycle + bound, id := 64 * b.st.free + b.cur.writes.length, lanes := lanes }] } }
/-- Sticky flags raised, landing with the result (R89, R130). -/
def Bun.raise (b : Bun) (f : BitVec 6) (bound : Nat) : Bun :=
  if f = 0#6 then b else b.write .flags ((f &&& 0x3E#6).setWidth 4096) bound
/-- ZM rewritten and flags raised, landing with a draw (R229). -/
def Bun.raiseZm (b : Bun) (f : BitVec 6) (zm : Bool) (bound : Nat) : Bun :=
  b.write .flags (((f &&& 0x3E#6) ||| (if zm then 1#6 else 0#6)).setWidth 4096 ||| (64#4096)) bound
def Bun.shareWrite (b : Bun) (w : ShareWrite) : Bun :=
  { b with cur := { b.cur with shares := b.cur.shares ++ [w] } }
def Bun.withState (b : Bun) (f : State → State) : Bun := { b with st := f b.st }

/-- A slot: its checks, and what it does when none stops it. -/
def Bun.check (b : Bun) (checks : List (Option Stop)) (effect : Bun → Bun) : Except Stop Bun :=
  match firstStop checks with
  | some e => .error e
  | none => .ok (effect b)

/-- The destinations an instruction names, with the operand field that names each, 0 for an immediate (R63,
R331). Scalar registers are at their operand value, predicates at 100, vector registers at 200, tiles at 300,
matrix parameters at 400, rings at 500, streams at 520, spans at 540, control registers at 600. -/
def instrDests (i : Instr) : List (Nat × Nat) :=
  let r := fun (d : BitVec 6) => if d = 0#6 then [] else [(d.toNat, d.toNat)]
  let pair := fun (d : BitVec 6) => [(d.toNat, d.toNat), (d.toNat + 1, d.toNat)]
  let v := fun (d : BitVec 6) => [(200 + d.toNat, d.toNat)]
  match i with
  | .add d _ _ _ _ | .sub d _ _ _ _ | .mul d _ _ _ _ => r d
  | .mulh d _ _ _ | .divs d _ _ _ | .divn d _ _ _ | .rem d _ _ _ | .and d _ _ _ | .or d _ _ _
  | .xor d _ _ _ | .shl d _ _ _ | .shr d _ _ _ | .sar d _ _ _ | .rot d _ _ _ | .min d _ _ _
  | .max d _ _ _ | .pack d _ _ _ | .fadd d _ _ _ | .fsub d _ _ _ | .fmul d _ _ _ | .fmin d _ _ _
  | .fmax d _ _ _ | .sel d _ _ _ => r d
  | .not d _ _ | .popc d _ _ | .clz d _ _ | .ctz d _ _ | .addi d _ _ | .movh d _ _ => r d
  | .cmp d _ _ _ _ | .fcmp d _ _ _ _ | .ffma d _ _ _ _ | .bfx d _ _ _ _ | .fcvt d _ _ _ _ => r d
  | .movi d _ => r d
  | .bfi d _ _ _ => r d
  | .dmerge d _ _ _ _ => pair d
  | .dscale d _ _ _ => pair d
  | .call s _ => if s = 0#5 then [] else [(s.toNat, s.toNat)]
  | .loop n _ _ _ _ => [(600 + 10 + n.toNat, 0)]
  | .endl n _ => [(600 + 10 + n.toNat, 0)]
  | .spawn d _ => r d
  | .crr d _ => r d
  | .crw _ cr =>
    if 32 ≤ cr.toNat && cr.toNat < 48 then [(500 + (cr.toNat - 32) / 2, 0)] else [(600 + cr.toNat, 0)]
  | .ld d _ _ _ => if d.toNat < 48 then r d else []
  | .vadd d _ _ _ _ _ | .vsub d _ _ _ _ _ | .vmul d _ _ _ _ _ | .vmin d _ _ _ _ _ | .vmax d _ _ _ _ _
  | .vand d _ _ _ _ _ | .vor d _ _ _ _ _ | .vxor d _ _ _ _ _ | .vshl d _ _ _ _ _ | .vshr d _ _ _ _ _
  | .vsel d _ _ _ _ _ => v d
  | .vfma d _ _ _ _ _ _ => v d
  | .vabs d _ _ _ | .vneg d _ _ _ | .vnot d _ _ _ | .vexp2 d _ _ _ | .vlog2 d _ _ _ | .vrcp d _ _ _
  | .vrsq d _ _ _ | .vsqrt d _ _ _ | .vtanh d _ _ _ | .vsig d _ _ _ | .vsin d _ _ _ | .vcos d _ _ _ => v d
  | .vcmp _ p _ _ _ _ _ => if p = 0#3 then [] else [(100 + p.toNat, p.toNat)]
  | .vcvt d _ _ _ _ _ => v d
  | .vquant d _ _ _ _ _ c _ => v d ++ r c
  | .vdeq d _ _ _ _ _ => v d
  | .vred d _ _ _ _ _ => v d
  | .vscan d _ _ _ _ => v d
  | .vdraw d _ _ _ _ _ _ _ => pair d
  | .shuf d _ _ _ => v d
  | .xcopy d _ _ _ _ => v d
  | .xbcast d _ _ _ _ => v d
  | .mpset n _ => [(400 + n.toNat, n.toNat)]
  | .accrd d _ _ _ _ => v d
  | .accwr t _ _ _ _ => [(300 + t.toNat, t.toNat)]
  | .accz m => (List.range 8).filterMap (fun t => if m.getLsbD t then some (300 + t, 0) else none)
  | .vwait d _ _ => pair d
  | .fence d _ _ => r d
  | .copy _ n => [(540 + n.toNat, 0)]
  | .span d _ _ => r d
  | .bwait d _ _ _ _ => r d
  | .wait d _ _ _ _ _ _ _ _ _ => r d
  | .mwait d _ _ => r d
  | .sbind d _ _ => [(520 + d.toNat % 8, d.toNat)]
  | .sunbind d => [(520 + d.toNat % 8, d.toNat)]
  | .ringp n _ _ _ => [(500 + n.toNat, n.toNat)]
  | .ringa n _ _ _ => [(500 + n.toNat, n.toNat)]
  | .lprobe d _ => r d
  | .tsread d => r d
  | _ => []

/-- Destinations a slot adds that depend on the state: a VLD that writes a vector register (R243). -/
def slotDests (i : Instr) (spaceIsWindow : Bool) : List (Nat × Nat) :=
  match i with
  | .vld d _ _ _ _ _ _ => if spaceIsWindow then [] else [(200 + d.toNat, d.toNat)]
  | i => instrDests i

/-- The first of a slot's destinations that an earlier slot of the bundle also names (R331). -/
def conflict (named : List (Nat × Nat × Nat)) (ds : List (Nat × Nat)) : Option TrapInfo :=
  (ds.find? (fun d => named.any (fun n => n.1 == d.1))).map
    (fun d => { cause := 2, info := BitVec.ofNat 64 (d.2 % 64) })

/-- The effective SPACE of the slot being examined: from its prefix where SUPPLY names it, else MDEF (R71, R332). -/
def Bun.space (b : Bun) : Nat :=
  match b.cur.pfx with
  | some p => if p.getLsbD 17 then bits p.toNat 6 5 else bits b.share.mdef.toNat 6 5
  | none => bits b.share.mdef.toNat 6 5

/-- The vector registers and tiles an instruction names, each to lie within the strand's allotment (R41). -/
def instrVecs (i : Instr) (window : Bool) : List Nat :=
  let bw := fun (w : BitVec 1) (x : BitVec 6) => if w = 1#1 then [] else [x.toNat]
  match i with
  | .vadd d a b _ _ w | .vsub d a b _ _ w | .vmul d a b _ _ w | .vmin d a b _ _ w | .vmax d a b _ _ w
  | .vand d a b _ _ w | .vor d a b _ _ w | .vxor d a b _ _ w | .vshl d a b _ _ w | .vshr d a b _ _ w
  | .vsel d a b _ _ w => [d.toNat, a.toNat] ++ bw w b
  | .vfma d a b _ _ w c => [d.toNat, a.toNat] ++ bw w b ++ [c.toNat]
  | .vabs d a _ _ | .vneg d a _ _ | .vnot d a _ _ | .vexp2 d a _ _ | .vlog2 d a _ _ | .vrcp d a _ _
  | .vrsq d a _ _ | .vsqrt d a _ _ | .vtanh d a _ _ | .vsig d a _ _ | .vsin d a _ _ | .vcos d a _ _ =>
    [d.toNat, a.toNat]
  | .vcmp _ _ a b _ _ w => [a.toNat] ++ bw w b
  | .vcvt d a _ _ _ _ => [d.toNat, a.toNat]
  | .vquant d a b _ _ w _ _ => [d.toNat, a.toNat] ++ bw w b
  | .vdeq d a _ _ _ _ => [d.toNat, a.toNat]
  | .vred d a _ _ _ _ => [d.toNat, a.toNat]
  | .vscan d a _ _ _ => [d.toNat, a.toNat]
  | .vdraw _ a _ _ _ _ _ _ => [a.toNat]
  | .shuf d a b _ => [d.toNat, a.toNat, b.toNat]
  | .xcopy d a _ _ _ => [d.toNat, a.toNat]
  | .xbcast d a _ _ _ => [d.toNat, a.toNat]
  | .accrd d _ _ _ _ => [d.toNat]
  | .accwr _ v _ _ _ => [v.toNat]
  | .vld d _ _ _ _ _ _ => if window then [] else [d.toNat]
  | .vst d _ _ _ _ _ _ => [d.toNat]
  | .gatherq _ _ _ _ c _ _ => [c.toNat]
  | .scatterq d _ _ _ c _ _ => [d.toNat, c.toNat]
  | _ => []

/-- The tiles an instruction names. -/
def instrTiles (i : Instr) : List Nat :=
  match i with
  | .accrd _ t _ _ _ => [t.toNat]
  | .accwr t _ _ _ _ => [t.toNat]
  | .accz m => (List.range 8).filter (fun t => m.getLsbD t)
  | _ => []

/-- The scalar registers an instruction reads that may be streams (R53, R104); 64 and above, a stream named by OPB with
BW 1 (R69). -/
def instrSources (i : Instr) : List Nat :=
  let bw := fun (w : BitVec 1) (x : BitVec 6) => if w = 1#1 then [64 + x.toNat % 8] else []
  match i with
  | .add _ a b _ _ | .sub _ a b _ _ | .mul _ a b _ _ => [a.toNat, b.toNat]
  | .mulh _ a b _ | .divs _ a b _ | .divn _ a b _ | .rem _ a b _ | .and _ a b _ | .or _ a b _
  | .xor _ a b _ | .shl _ a b _ | .shr _ a b _ | .sar _ a b _ | .rot _ a b _ | .min _ a b _
  | .max _ a b _ | .pack _ a b _ | .fadd _ a b _ | .fsub _ a b _ | .fmul _ a b _ | .fmin _ a b _
  | .fmax _ a b _ => [a.toNat, b.toNat]
  | .sel _ a b c => [a.toNat, b.toNat, c.toNat]
  | .ffma _ a b _ c => [a.toNat, b.toNat, c.toNat]
  | .not _ a _ | .popc _ a _ | .clz _ a _ | .ctz _ a _ | .addi _ a _ | .movh _ a _ => [a.toNat]
  | .cmp _ a b _ _ | .fcmp _ a b _ _ => [a.toNat, b.toNat]
  | .bfx _ a _ _ _ | .fcvt _ a _ _ _ => [a.toNat]
  | .bfi _ a _ _ => [a.toNat]
  | .dmerge _ _ _ c _ => [c.toNat]
  | .dscale _ a b m => if m = 1#1 then [a.toNat] else [a.toNat, b.toNat]
  | .loop _ _ c imm _ => if imm = 1#1 then [] else [c.toNat]
  | .crw a _ => [a.toNat]
  | .st d _ _ _ => [d.toNat]
  | .stq d _ _ _ | .stf d _ _ _ => [d.toNat]
  | .vld _ _ _ _ c reg _ | .vst _ _ _ _ c reg _ => if reg = 1#1 then [c.toNat] else []
  | .amo _ _ fn _ c _ _ _ newv => if fn = 7#4 then [c.toNat, newv.toNat] else [c.toNat]
  | .vadd _ _ b _ _ w | .vsub _ _ b _ _ w | .vmul _ _ b _ _ w | .vmin _ _ b _ _ w | .vmax _ _ b _ _ w
  | .vand _ _ b _ _ w | .vor _ _ b _ _ w | .vxor _ _ b _ _ w | .vshl _ _ b _ _ w | .vshr _ _ b _ _ w
  | .vsel _ _ b _ _ w | .vcmp _ _ _ b _ _ w | .vfma _ _ b _ _ w _ => bw w b
  | .vquant _ _ b _ _ w _ _ => bw w b
  | .vdeq _ _ _ _ c _ => [c.toNat]
  | .vdraw _ _ _ _ c _ _ _ => [c.toNat]
  | .mpset _ a => [a.toNat]
  | .accrd _ _ b idx _ | .accwr _ _ b idx _ => if idx = 1#1 then [b.toNat] else []
  | .publish a => [a.toNat]
  | .vwait _ a b => [a.toNat, b.toNat]
  | .span _ a b => [a.toNat, b.toNat]
  | .barrive _ b _ fn => if fn = 2#2 then [] else [b.toNat]
  | .bwait _ _ b _ _ => [b.toNat]
  | .wait _ _ b _ _ c _ _ _ m => if m = 1#1 then [b.toNat, c.toNat] else [b.toNat]
  | .ringp _ a reg _ | .ringa _ a reg _ => if reg = 1#1 then [a.toNat] else []
  | .coll a _ => [a.toNat]
  | _ => []

/-! ### Credits, queues and streams -/

/-- The weight of queue q in QCFG (R50). -/
def Core.weight (k : Core) (q : Nat) : Nat := bits k.share.qcfg.toNat (4 * q + 3) (4 * q) + 1
/-- The credits of queue q; those left over go to Q0 (R50). -/
def Core.credits (k : Core) (q : Nat) : Nat :=
  let sum := k.weight 0 + k.weight 1 + k.weight 2 + k.weight 3
  let part := fun i => 2048 * k.weight i / sum
  if q = 0 then part 0 + (2048 - (part 0 + part 1 + part 2 + part 3)) else part q

/-- The credits of a queue of a core that are held: by requests, by waits at their homes, and by walks for
records not yet consumed (R194, R198, R261). -/
def State.creditsHeld (s : State) (c q : Nat) : Nat :=
  s.reqs.foldl (fun n r => if r.2.core == c && r.2.queue == q then n + r.2.credits else n) 0 +
  (s.waiters.filter (fun w => w.asker.isNone && w.core == c && w.queue == q && w.queued)).length +
  s.walks.foldl (fun n w =>
    if w.2.core == c && w.2.queue == q && !w.2.toRing && !w.2.finished && !w.2.lost then n + (w.2.hops + 1 - w.2.hop) else n) 0 +
  (s.core c).share.streams.foldl (fun n e =>
    if e.2.queue == q then n + (e.2.elems.filter (fun x => x.req == 0)).length else n) 0

def State.creditsFree (s : State) (c q : Nat) : Nat := (s.core c).credits q - s.creditsHeld c q

/-- Requests of a stream up to an identity whose element has not landed, and walk records still to come (R53, R338). -/
def State.inFlightTo (s : State) (c w last : Nat) : Nat :=
  (s.reqs.filter (fun r => r.1 ≤ last && r.2.core == c && r.2.stream == some w)).length +
  s.walks.foldl (fun n e =>
    if e.1 ≤ last && e.2.core == c && !e.2.toRing && e.2.target == w && !e.2.finished && !e.2.lost then n + (e.2.hops + 1 - e.2.hop) else n) 0
/-- All that is in flight to a stream (R53, R263). -/
def State.inFlight (s : State) (c w : Nat) : Nat := s.inFlightTo c w s.nextReq

/-- Queue q of a core is frozen: it holds a faulted store (R321). -/
def Core.isFrozen (k : Core) (q : Nat) : Bool := !(Tab.get k.frozen [] q).isEmpty

/-- The OFFCORE_STORE trap of a frozen queue for the strand whose request it holds first: sub-cause, address and
INFO (R321, R366, R370). -/
def State.frozenTrap (s : State) (c q : Nat) (t : Strand) : Option Stop :=
  match Tab.get (s.core c).frozen [] q with
  | [] => none
  | id :: _ =>
    match Tab.find? s.reqs id with
    | none => none
    | some r =>
      match r.parts.findSome? (·.fault) with
      | none => none
      | some f =>
        if r.gang == t.gang && r.member == t.member && r.slot == t.slot then
          some (.trap { cause := 9, sub := f.sub, addr := f.addr, info := BitVec.ofNat 64 ((b2n f.retry <<< 63) ||| (b2n f.engine <<< 62) ||| (q <<< 52)) })
        else none

/-- A bundle of a kind that reports store faults of any queue of its strand's core (R321). -/
def Bun.reports (b : Bun) : List (Option Stop) := (List.range 4).map (fun q => b.st.frozenTrap b.cur.core q b.strand)

/-- What stops a bundle that reads a stream: unbound, nothing to come, a frozen queue, a faulted head, or nothing
landed yet (R53, R320, R321, R338). -/
def Bun.popStop (b : Bun) (x : Nat) : Option Stop :=
  if x < 48 then none
  else
    let n := x % 8
    match Tab.find? b.share.streams n with
    | none => some (trapReg (x % 64))
    | some w =>
      match w.elems with
      | e :: _ =>
        match e.fault with
        | none =>
          if e.pending then some ((b.st.frozenTrap b.cur.core w.queue b.strand).getD (.stall .stream .nothing)) else none
        | some f => some (.trap { cause := 8, sub := f.sub, addr := f.addr, info := BitVec.ofNat 64 ((b2n f.retry <<< 63) ||| (n <<< 56) ||| (w.queue <<< 52)) })
      | [] =>
        match b.st.frozenTrap b.cur.core w.queue b.strand with
        | some t => some t
        | none =>
          let others := b.core.ctxs.any (fun e => e.1 != b.cur.ctx && !e.2.halted)
          if b.st.inFlightTo b.cur.core n b.cur.begun = 0 && !others then some trapOperand
          else some (.stall .stream .nothing)

/-- A scalar source as read at issue; a stream gives bytes 0 to 7 of its head (R70). -/
def Bun.val (b : Bun) (x : BitVec 6) : Word :=
  let n := x.toNat
  if n < 48 then b.strand.readReg n
  else match Tab.find? b.share.streams (n % 8) with
    | some w => ((w.elems.head?.map Element.data).getD 0).setWidth 64
    | none => 0

/-- The residue that travels with a scalar source: the stored one, or one generated for a stream element and for a
value in flight (R347, R348). -/
def Bun.residueOf (b : Bun) (x : BitVec 6) : Nat :=
  let n := x.toNat
  if n < 48 && b.strand.inflight.all (fun l => l.dst != .reg n) then b.strand.residueAt n (b.strand.reg n).toNat
  else res (b.val x).toNat
/-- Whether a scalar source fails the check of its residue (R349). -/
def Bun.badReg (b : Bun) (x : BitVec 6) : Bool := b.residueOf x != res (b.val x).toNat

/-- The bytes of an element of a stream: 8, 32 or 512 (R53). -/
def elemBytes (elemSz : Nat) : Nat := if elemSz = 0 then 8 else if elemSz = 1 then 32 else 512

/-- A stream's head repeated to fill a vector register (R70). -/
def Bun.filled (b : Bun) (n : Nat) : Vec :=
  match Tab.find? b.share.streams n with
  | none => 0
  | some w =>
    let d := (w.elems.head?.map Element.data).getD 0
    let sz := 8 * elemBytes w.elemSz
    let e := d.toNat % 2 ^ sz
    BitVec.ofNat 4096 ((List.range (4096 / sz)).foldl (fun v i => v ||| (e <<< (sz * i))) 0)

/-- The b operand of a V-slot instruction (R69). -/
def Bun.vecB (b : Bun) (x : BitVec 6) (bw : BitVec 1) : Vec :=
  if bw = 1#1 then b.filled (x.toNat % 8) else b.strand.readVec x.toNat
def Bun.vec (b : Bun) (x : BitVec 6) : Vec := b.strand.readVec x.toNat
def Bun.pred (b : Bun) (k : BitVec 3) : Pred := b.strand.readPred k.toNat

/-- Streams read by the slot, popped once for the whole bundle when it issues (R53). -/
def Bun.pop (b : Bun) (xs : List Nat) : Bun :=
  xs.foldl (fun b x =>
    if x < 48 || b.cur.pops.contains (x % 8) then b
    else { b with cur := { b.cur with pops := b.cur.pops ++ [x % 8] } }) b

/-- The checks every slot shares: its streams, its vector registers and its tiles (R41, R53). The mask of ACCZ is no
register field, so what INFO [5:0] holds for a mask bit at or beyond ACCS (R173, R315) is open: 0, the model's choice
(log 159). -/
def Bun.operandStops (b : Bun) (i : Instr) : List (Option Stop) :=
  let win := b.space == 2
  (instrSources i).map b.popStop ++
  (instrVecs i win).map (fun v => stopIf (b.strand.vregs ≤ v) (trapReg v)) ++
  (instrTiles i).map (fun t => stopIf (b.strand.accs ≤ t)
    (trapReg (match i with | .accz _ => 0 | _ => t)))

/-- An after-kind trap the bundle raises (R311). Its place in the order of issue lies between the requests before its
bundle, at twice their identities, and the bundle's own (R353). -/
def Bun.addDue (b : Bun) (t : TrapInfo) : Bun :=
  { b with cur := { b.cur with dues := b.cur.dues ++ [{ t with slot := b.cur.slot, bundle := some b.cur.pc, order := 2 * b.cur.begun + 1 }] } }

/-- The format-table entry FSEL names at issue (R51). -/
def Bun.formatIndex (b : Bun) : Nat :=
  let f := b.share.fsel.toNat
  let sel := f % 8
  if sel = 0 then bits f 6 3 else (b.strand.readLc (sel - 1)).toNat % 16
/-- An uncorrectable word among `n` bytes of the scratchpad of core `c` (R359). -/
def State.badWord (s : State) (c off n : Nat) : Option Nat :=
  (s.badSpad.find? (fun e => e.1 == c && e.2 * 8 < off + n && off < e.2 * 8 + 8)).map (fun e => e.2 * 8)
/-- The gang-share registers an instruction reads as such: control registers by number, the binding of stream n at 64 + n,
MP n at 128 + n, pattern entry e of bank b at 256 + 64 b + e (R45, R359; log 49). What a WALK's descriptor names it reads itself
(`execWalk`). -/
def Bun.shareReads (b : Bun) (i : Instr) : List Nat :=
  let mdef := match b.cur.pfx with
    | some p => if p.getLsbD 17 then [] else [5]
    | none => [5]
  let bound := (instrSources i).filterMap (fun x => if 48 ≤ x then some (64 + x % 8) else none)
  bound ++ match i with
  | .crr _ cr => if (4 ≤ cr.toNat && cr.toNat < 10) || 16 ≤ cr.toNat then [cr.toNat] else []
  | .shuf _ _ _ c => [9, 256 + 64 * (b.share.patsel.toNat % 2) + c.toNat]
  | .patld _ _ _ | .patsw => [9]
  | .vdraw _ _ _ _ _ _ _ _ | .dmerge _ _ _ _ _ => [7]
  | .mcall _ _ _ =>
    let call := (Tab.get b.share.mp 0 0).toNat
    [8, 16 + b.formatIndex] ++ (List.range 8).map (128 + ·) ++ ((List.range 8).filter (fun r => call.testBit (8 + r))).map (32 + 2 * ·)
  | .copy _ n => [49 + 2 * n.toNat]
  | .span _ _ _ => (List.range 16).map (48 + ·)
  | .sbind d _ _ | .sunbind d => [64 + d.toNat % 8]
  | .amoDraw _ _ _ _ _ => [7] ++ mdef
  | .walk _ => [7]
  | .ringp n _ _ _ | .ringa n _ _ _ => [32 + 2 * n.toNat, 33 + 2 * n.toNat]
  | .ldq d _ _ _ | .ldsec d _ _ | .gatherq d _ _ _ _ _ _ => [64 + d.toNat % 8] ++ mdef
  | .ld d _ _ _ => (if 48 ≤ d.toNat then [64 + d.toNat % 8] else []) ++ mdef
  | .vld d _ _ _ _ _ _ => (if b.space == 2 then [64 + d.toNat % 8] else []) ++ mdef
  | .amo d _ _ _ _ ret _ _ _ => (if ret = 1#1 then [64 + d.toNat % 8] else []) ++ mdef
  | .st _ _ _ _ | .vst _ _ _ _ _ _ _ | .stq _ _ _ _ | .stf _ _ _ _ | .scatterq _ _ _ _ _ _ _ | .pref _ _ _ => mdef
  | _ => []
/-- A gang-share register with an uncorrectable word becomes zero (R359). -/
def Share.zeroed (h0 : Share) (n : Nat) : Share :=
  let h := { h0 with bad := h0.bad.filter (· ≠ n) }
  if n = 4 then { h with split := 0 } else if n = 5 then { h with mdef := 0 } else if n = 6 then { h with qcfg := 0 }
  else if n = 7 then { h with dseed := 0 } else if n = 8 then { h with fsel := 0 } else if n = 9 then { h with patsel := 0 }
  else if n < 32 then { h with fmts := Tab.erase h.fmts (n - 16) }
  else if n < 48 then
    let r := Tab.get h.rings {} ((n - 32) / 2)
    { h with rings := Tab.set h.rings {} ((n - 32) / 2) (if n % 2 = 0 then { r with base := 0, size := 0 } else { r with head := 0, tail := 0 }) }
  else if n < 64 then { h with spans := Tab.erase h.spans ((n - 48) / 2) }
  else if n < 128 then { h with streams := Tab.erase h.streams (n - 64) }
  else if n < 256 then { h with mp := Tab.erase h.mp (n - 128) }
  else { h with pats := Tab.erase h.pats (n - 256) }
/-- The bundle after a slot has read these gang-share registers: those with an uncorrectable word are zero, and the strand
traps after the bundle (R359); ADDR is the register's number, and a stream's binding is zero from after the bundle on
(log 49). -/
def Bun.readRegisters (b : Bun) (l : List Nat) : Bun :=
  match l.filter b.share.bad.contains with
  | [] => b
  | n :: rest =>
    let stream := fun (r : Nat) => decide (64 ≤ r) && decide (r < 128)
    let b1 := b.withState (fun s => s.mapCore b.cur.core (fun k => { k with share := ((n :: rest).filter (!stream ·)).foldl Share.zeroed k.share }))
    (((n :: rest).filter stream).foldl (fun (b : Bun) r => b.shareWrite (.unbind (r - 64))) b1).addDue
      { cause := 0x0D, sub := 3, addr := BitVec.ofNat 64 n }

def Bun.readShare (b : Bun) (i : Instr) : Bun := b.readRegisters (b.shareReads i)

/-- A stream element the slot reads has not landed: what depends on its value is not examined yet (R53, R345). -/
def Bun.unlanded (b : Bun) (i : Instr) : Bool :=
  (instrSources i).any (fun x => match b.popStop x with
    | some (.stall _ _) => true
    | _ => false)

/-- One slot of the bundle examined and, where nothing stops it, made part of the bundle: the defect of its word,
of the instruction, of a shared destination, the shared operand checks, then `f`'s own (R62, R63, R316, R330). -/
def State.runSlot (s : State) (i : Instr) (f : Bun → Except Stop Bun) : Host.Outcome State Fault Refusal :=
  match s.cursor with
  | none => .fault .noBundle
  | some c =>
    match c.verdict with
    | .trap _ => .next s
    | v =>
      let b := (⟨s, c⟩ : Bun).readShare i
      let ds := slotDests i (b.space == 2)
      let static := [c.defect.map .trap, i.defect.map (fun d => .trap (defectTrap d)), (conflict c.dests ds).map .trap] ++
        b.operandStops i
      let b1 := b.pop (instrSources i)
      let r := if b.unlanded i then (firstStop static, b1) else match f b1 with
        | .ok b2 => (firstStop static, b2)
        | .error e => (firstStop (static ++ [some e]), b1)
      let named := c.dests ++ ds.map (fun d => (d.1, c.slot, d.2))
      match r.1 with
      | some (.trap t) =>
        .next { s with cursor := some { c with verdict := .trap { t with slot := c.slot } } }
      | some (.stall w a) =>
        .next { s with cursor := some { c with dests := named, verdict := match v with | .stall w0 a0 => .stall w0 a0 | _ => .stall w a } }
      | none =>
        match v with
        | .stall _ _ => .next { s with cursor := some { c with dests := named } }
        | _ => .next { r.2.st with cursor := some { r.2.cur with dests := named } }

/-! ### Requests, the phase buffer and the writer half -/

/-- A request entered in its queue; identities rise in issue order (R194). -/
def State.addReq (s : State) (r : Request) : State :=
  { s with reqs := Tab.put s.reqs (s.nextReq + 1) { r with slotOwner := s.gangSlot r.gang }, nextReq := s.nextReq + 1 }
def State.dropReq (s : State) (id : Nat) : State := { s with reqs := Tab.erase s.reqs id }

/-- A store-class request acknowledged or discarded: a later part of its scatter takes its credits (R245). -/
def State.retireStore (s : State) (id : Nat) : State :=
  match Tab.find? s.reqs id with
  | none => s
  | some r =>
    let s1 := s.dropReq id
    match s1.reqs.find? (fun e => e.2.waits && e.2.core == r.core && e.2.queue == r.queue && e.2.gang == r.gang && e.2.member == r.member && e.2.slot == r.slot) with
    | some e => { s1 with reqs := Tab.put s1.reqs e.1 { e.2 with waits := false, credits := r.credits } }
    | none => s1

/-- Whether two requests are of one strand. -/
def Request.sameStrand (r e : Request) : Bool :=
  r.core == e.core && r.gang == e.gang && r.member == e.member && r.slot == e.slot
/-- Whether a request changes memory: every store and every atomic (R201). -/
def Request.changes (r : Request) : Bool :=
  match r.kind with
  | .pref => false
  | .load => false
  | _ => true
/-- Whether a request is acknowledged and delivers no element (R253, R321). -/
def Request.isStore (r : Request) : Bool := r.stream.isNone && r.changes
def Request.isLoad (r : Request) : Bool := r.kind == .load
/-- A sector of the request has been performed or has faulted, or the request is on its way. -/
def Request.begun (r : Request) : Bool := r.parts.any (fun p => p.done || p.fault.isSome) || r.setWait || r.sentAt.isSome
/-- Every sector performed or faulted. -/
def Request.finished (r : Request) : Bool := r.parts.all (fun p => p.done || p.fault.isSome)
def Request.faultOf (r : Request) : Option FaultMark := r.parts.findSome? (·.fault)
/-- It has come to an end: every sector is performed or faulted, or it is a store that has met its first fault (R321, R336). -/
def Request.settled (r : Request) : Bool := r.finished || (r.isStore && r.faultOf.isSome)

/-- A request of a strand with nothing in it. -/
def Strand.request (t : Strand) (c x : Nat) (handler : Bool) (queue : Nat) (kind : ReqKind) (parts : List Part) : Request :=
  { core := c, ctx := x, gang := t.gang, member := t.member, slot := t.slot, queue := queue, kind := kind,
    space := 0, parts := parts, handler := handler }

/-- Whether a context's strand is in its handler (R313). -/
def State.handling (s : State) (c x : Nat) : Bool :=
  match s.strand c x with
  | some t => s.inHandler (s.gangSlot t.gang) t.pc.toNat
  | none => false

/-- The scope code under which every access that changes memory is waited for: YIELD, SPAWN and EXIT (R25, R28, R34). -/
def everyStore : Nat := 5
/-- The writer half of PHASE at a scope for the requests of a strand before identity `id`: performed and
acknowledged as R205 Table 2 gives. -/
def State.writerDone (s : State) (gang member slot id scope : Nat) : Bool :=
  s.reqs.all (fun e =>
    let r := e.2
    let mine := r.gang == gang && r.member == member && r.slot == slot && e.1 < id
    !(mine && ((r.isStore && ((1 ≤ scope && r.published) || (2 ≤ scope && r.space == 2) || (4 ≤ scope && r.remote && !r.immediate))) ||
      (everyStore ≤ scope && r.changes))))

/-- A record of the phase buffer sent to its home: it takes a credit of its queue (R204). -/
def State.sendRecord (s : State) (c x : Nat) (b : BufRec) : State :=
  match s.strand c x with
  | none => s
  | some t =>
    let r := { t.request c x (s.handling c x) b.queue .store [{ addr := b.sector * 32, mask := b.mask, data := b.data }] with
               credits := 1, published := true, cache := if b.nocomp then 3 else 0, bad := b.bad }
    (s.setStrand c x { t with phase := t.phase.filter (fun m => m.sector != b.sector) }).addReq r

/-- The records of the list sent in order, until a queue has no credit; whether all were (R204). -/
def State.sendRecords (s : State) (c x : Nat) (recs : List BufRec) : State × Bool :=
  match recs with
  | [] => (s, true)
  | b :: rest =>
    if s.creditsFree c b.queue = 0 then (s, false) else (s.sendRecord c x b).sendRecords c x rest
termination_by structural recs

/-- The records of a strand's phase buffer that `p` picks, sent oldest first (R204). -/
def State.publish (s : State) (c x : Nat) (p : BufRec → Bool) : State × Bool :=
  match s.strand c x with
  | none => (s, true)
  | some t => s.sendRecords c x (t.phase.filter p)

/-- The oldest `n` records of a strand's phase buffer sent (R204). -/
def State.publishOldest (s : State) (c x n : Nat) : State × Bool :=
  match s.strand c x with
  | none => (s, true)
  | some t => s.sendRecords c x (t.phase.take n)

/-- The writer half of PHASE at a scope carried as far as credits allow; whether it is complete (R205). -/
def State.writerHalf (s : State) (c x scope : Nat) : State × Bool :=
  match s.strand c x with
  | none => (s, true)
  | some t =>
    let (s1, sent) := if 1 ≤ scope then s.publish c x (fun _ => true) else (s, true)
    (s1, sent && s1.writerDone t.gang t.member t.slot (s1.nextReq + 1) scope)

/-- The reader half of PHASE at a scope: cluster scope or wider discards the core's L1 lines (R205). -/
def State.readerHalf (s : State) (c scope : Nat) : State :=
  if 2 ≤ scope then s.mapCore c (fun k => { k with l1 := [] }) else s

/-- The bytes of a strand's own stores not yet performed that lie in the sector of a virtual address: requests
sent from its phase buffer, then the buffer itself (R203): byte mask and bytes. -/
def State.ownBytes (s : State) (t : Strand) (va : Nat) : Nat × Nat :=
  let sec := va / 32
  let sent := s.reqs.foldl (fun (a : Nat × Nat) e =>
    let r := e.2
    if r.published && r.gang == t.gang && r.member == t.member && r.slot == t.slot then
      r.parts.foldl (fun a p =>
        if p.addr / 32 == sec && !p.done then (a.1 ||| p.mask.toNat, mergeBytes 32 p.mask.toNat p.data.toNat a.2) else a) a
    else a) (0, 0)
  match t.phase.find? (fun b => b.sector == sec) with
  | some b => (sent.1 ||| b.mask.toNat, mergeBytes 32 b.mask.toNat b.data.toNat sent.2)
  | none => sent

/-! ### Reads and writes of virtual memory by engines -/

/-- A free value of `n` bytes drawn (log 4). -/
def State.freeBytes (s : State) (n : Nat) : State × Nat :=
  ({ s with free := s.free + 1 }, (Config.freeBits s.free 3).toNat % 2 ^ (8 * n))

/-- Where the bytes of a range fall, sector by sector: address, count, and offset from the start. -/
def sectorRuns (va n : Nat) : List (Nat × Nat × Nat) :=
  (List.range ((va % 32 + n + 31) / 32)).filterMap (fun i =>
    let lo := max va ((va / 32 + i) * 32)
    let hi := min (va + n) ((va / 32 + i + 1) * 32)
    if lo < hi then some (lo, hi - lo, lo - va) else none)

/-- The sub-cause of a fault that a home on another module answers, by a free number: NOT_MAPPED, PERMISSION,
REMOTE_HIBERNATING or HOME_UNCORRECTABLE. The others of Table 1 of R383 are the issuing router's own. -/
def homeSub (n : Nat) : Nat := [0, 2, 4, 6].getD (n % 4) 0
/-- What another module, outside this model, answers a request of an engine for an owner, to a domain address: none where it
performs it, else the sub-cause of its fault; either is free, and the answer comes within the step (R383; log 8). One that
answers HIBERNATING is HIBERNATING from then on. One that does not answer faults the request after 2^20 ns, which pass
within the step, and is logged (R392; log 6). -/
def State.freeReply (s : State) (module owner addr : Nat) : State × Option Nat :=
  let n := (Config.freeBits s.free 11).toNat
  let s1 : State := { s with free := s.free + 1 }
  let mark := fun (v : ModuleState) => { s1 with router := { s1.router with modules := Tab.put s1.router.modules module v } }
  if Config.freeChoice s.free 11 then (mark .reachable, none)
  else if Config.freeChoice s.free 12 then
    (({ s1 with now := s.now + 2 ^ 20 }).log 0 0x0400 5 3 owner (BitVec.ofNat 64 addr) (BitVec.ofNat 64 module), some 5)
  else if homeSub n = 4 then (mark .hibernating, some 4) else (s1, some (homeSub n))
/-- `n` bytes at an offset of another module's memory asked for by an engine: the value, or the sub-cause of a fault
(log 8). -/
def State.askRemote (s : State) (module off n owner : Nat) : State × Except Nat Nat :=
  let (s1, sub) := ({ s with outbox := s.outbox ++ [OutMsg.request module 0 4 (s.nextReq + 1) s.now .load { addr := off / 32 * 32, mask := BitVec.ofNat 32 (maskRange (off % 32) n) } n false owner], nextReq := s.nextReq + 1 }).freeReply module owner (module * 2 ^ 44 + off)
  match sub with
  | some e => (s1, .error e)
  | none => let (s2, v) := s1.freeBytes n; (s2, .ok v)
/-- Bytes within one sector of another module's memory written by an engine (log 8). -/
def State.tellRemote (s : State) (module off n v owner : Nat) : State × Option Nat :=
  ({ s with outbox := s.outbox ++ [OutMsg.request module 0 4 (s.nextReq + 1) s.now .store { addr := off / 32 * 32, mask := BitVec.ofNat 32 (maskRange (off % 32) n), data := BitVec.ofNat 256 (v <<< (8 * (off % 32))) } n false owner], nextReq := s.nextReq + 1 }).freeReply module owner (module * 2 ^ 44 + off)

/-- Bytes within one sector read at their home for an owner slot: the value, or sub-cause and address of a
fault. -/
def State.sectorRead (s : State) (c slot va n : Nat) : State × Except (Nat × Nat) Nat :=
  match s.translate c slot va .load with
  | (s1, .error e) => (s1, .error (e, va))
  | (s1, .ok pa) =>
    match s1.place pa with
    | .local_ off =>
      match (s1.badWords off (s1.slotKey slot)).find? (fun w => bits (maskRange (off % 32) n) (8 * w + 7) (8 * w) != 0) with
      | some w => (s1, .error (6, max va (va - off % 32 + 8 * w)))
      | none =>
        let (s2, v) := s1.homeRead off n (s1.slotKey slot) false
        (s2, .ok v)
    | .remote m off =>
      match s1.askRemote m off n (s1.slotOwner slot) with
      | (s2, .error e) => (s2, .error (e, va))
      | (s2, .ok v) => (s2, .ok v)
    | .fault e => (s1, .error (e, va))
    | .counter _ _ => (s1, .error (s1.counterFault c slot va, va))
    | .multicast _ _ => (s1, .error (0, va))

/-- Bytes within one sector written at their home for an owner slot. -/
def State.sectorWrite (s : State) (c slot va n v : Nat) : State × Option (Nat × Nat) :=
  match s.translate c slot va .store with
  | (s1, .error e) => (s1, some (e, va))
  | (s1, .ok pa) =>
    match s1.place pa with
    | .local_ off =>
      if n < 32 && s1.badAt off (s1.slotKey slot) then
        (s1, some (6, va))
      else (s1.engineWrite off n (2 ^ n - 1) v (s1.slotKey slot), none)
    | .remote m off =>
      let (s2, e) := s1.tellRemote m off n v (s1.slotOwner slot)
      (s2, e.map (·, va))
    | .fault e => (s1, some (e, va))
    | .counter _ _ => (s1, some (s1.counterFault c slot va, va))
    | .multicast _ _ => (s1, some (0, va))

def State.readRuns (s : State) (c slot : Nat) (runs : List (Nat × Nat × Nat)) (acc : Nat) :
    State × Except (Nat × Nat) Nat :=
  match runs with
  | [] => (s, .ok acc)
  | (a, n, o) :: rest =>
    match s.sectorRead c slot a n with
    | (s1, .error e) => (s1, .error e)
    | (s1, .ok v) => s1.readRuns c slot rest (acc ||| (v <<< (8 * o)))
termination_by structural runs

/-- `n` bytes of an owner's virtual memory read by an engine (R178, R179, R444). -/
def State.virtRead (s : State) (c slot va n : Nat) : State × Except (Nat × Nat) Nat :=
  s.readRuns c slot (sectorRuns va n) 0

def State.writeRuns (s : State) (c slot v : Nat) (runs : List (Nat × Nat × Nat)) : State × Option (Nat × Nat) :=
  match runs with
  | [] => (s, none)
  | (a, n, o) :: rest =>
    match s.sectorWrite c slot a n ((v >>> (8 * o)) % 2 ^ (8 * n)) with
    | (s1, some e) => (s1, some e)
    | (s1, none) => s1.writeRuns c slot v rest
termination_by structural runs

/-- `n` bytes of an owner's virtual memory written by an engine, sector by sector. -/
def State.virtWrite (s : State) (c slot va n v : Nat) : State × Option (Nat × Nat) :=
  s.writeRuns c slot v (sectorRuns va n)

/-! ### Leaving a core, and the end of a gang -/

/-- A request whose element no longer has anywhere to go: a load is dropped, an atomic is still performed (R25, R45). -/
def Request.bereft (r : Request) : Option Request :=
  if r.changes then some { r with stream := none, orphan := true } else if r.kind == .pref then some r else none
/-- A request sent by a strand that its gang's end halts: it completes, for nobody (R318). -/
def Request.orphaned (r : Request) : Option Request :=
  if r.kind == .pref then some r
  else if r.finished && !r.changes then none
  else some { r with stream := none, orphan := true, noL1 := true }
/-- The requests that `p` picks bereft. -/
def State.bereave (s : State) (p : Nat → Request → Bool) : State :=
  { s with reqs := s.reqs.filterMap (fun e => if p e.1 e.2 then e.2.bereft.map (fun r => (e.1, r)) else some e) }

/-- The loads a strand has issued and not consumed are discarded, in flight and landed (R25). -/
def State.dropLoads (s : State) (c gang member slot : Nat) : State :=
  let mine := fun (r : Request) => r.core == c && r.gang == gang && r.member == member && r.slot == slot
  (s.bereave (fun _ r => mine r && r.stream.isSome)).mapCore c (fun k =>
    { k with share := { k.share with streams := k.share.streams.map (fun w => (w.1, { w.2 with elems := w.2.elems.filter (fun e => e.maker != some (member, slot)) })) } })

/-- The gang share of a core released: nothing that is under way reaches it any more (R45). -/
def State.releaseShare (s : State) (c : Nat) : State :=
  let s1 := (s.bereave (fun _ r => r.core == c && r.stream.isSome)).mapCore c (fun k =>
    { k with patlds := [], copies := k.copies.map (fun y => { y with span := 8 }), share := { k.share with streams := [], bad := [] } })
  { s1 with walks := s1.walks.map (fun e => if e.2.core == c then (e.1, { e.2 with lost := true }) else e) }

/-- The waits of a context withdrawn: one sent to another module is withdrawn there (R373). -/
def State.withdraw (s : State) (c x : Nat) : State :=
  let mine := fun (w : Waiter) => w.asker.isNone && w.core == c && w.ctx == x
  { s with waiters := s.waiters.filter (fun w => !mine w),
           outbox := s.outbox ++ (s.waiters.filter (fun w => mine w && w.sent)).filterMap (fun w => w.module.map (fun m => OutMsg.withdraw m w.seq)) }
/-- A context emptied: its waits are withdrawn, and the core stops being resident to the gang, which releases the gang
share, when it was the last strand (R37, R45). -/
def State.removeStrand (s : State) (c x : Nat) : State :=
  let s1 := s.withdraw c x
  let s2 := s1.mapCore c (fun k => { k with ctxs := Tab.erase k.ctxs x })
  if (s2.core c).ctxs.isEmpty then (s2.releaseShare c).mapCore c (fun k => { k with gang := none }) else s2

/-- An end of one strand of a gang: the gang ends with its last (R25). -/
def State.strandEnded (s : State) (g : Nat) : State :=
  match s.gang g with
  | none => s
  | some v =>
    if 1 < v.alive then s.setGang g { v with alive := v.alive - 1 }
    else
      let s1 := { s with launch := { s.launch with gangs := Tab.erase s.launch.gangs g, preempted := s.launch.preempted.filter (· ≠ g) } }
      match s1.nest v.nest with
      | some n => s1.setNest v.nest { n with ended := n.ended + 1 }
      | none => s1

/-- The operations of a gang on a core as its strands leave it, but for those that `stays` picks: unstarted ones are dropped,
started ones keep their strand's tiles and owner to run to retire (R318). -/
def Core.orphanOps (k : Core) (g owner slotOwner : Nat) (stays : Nat → Nat → Bool) : Core :=
  { k with mq := (k.mq.filter (fun o => o.gang != g || o.started)).map (fun o =>
      if o.gang != g || o.orphan.isSome || stays o.member o.slot then o
      else match k.find g o.member o.slot with
        | some x => { o with orphan := (k.strand x).map (fun t => (t.tiles, owner, slotOwner)), orphanBad := ((k.strand x).map (·.badAcc)).getD [] }
        | none => { o with orphan := some ([], owner, slotOwner) }) }

/-- A strand whose gang ends halts where it stands, at a boundary; one inside a bundle that holds it, a PHASE among them, halts
after that bundle (R205, R318). -/
def Strand.mayHalt (t : Strand) : Bool := t.halted || (t.holds.isEmpty && !t.phasing)
/-- The strands of a gang that may halt removed from one core (R318): requests already sent complete; their unsent ones, held
faulted stores, buffered records and landed elements are discarded; their copies stop (log 42). -/
def State.haltOn (s : State) (g c : Nat) : State :=
  let k := s.core c
  if k.gang == some g then
    let stays := fun (m n : Nat) => k.ctxs.any (fun e => e.2.member == m && e.2.slot == n && !e.2.mayHalt)
    let mine := fun (r : Request) => r.core == c && r.gang == g && !stays r.member r.slot
    let unsent := fun (r : Request) => r.held || (!r.begun && k.isFrozen r.queue)
    let gone := (s.reqs.filter (fun e => mine e.2 && unsent e.2)).map (·.1)
    let reqs := (s.reqs.filter (fun e => !gone.contains e.1)).filterMap (fun e => if mine e.2 then e.2.orphaned.map (fun r => (e.1, r)) else some e)
    let kept := fun (h m n : Nat) => h != g || stays m n
    let s1 := ({ s with reqs := reqs }).mapCore c (fun k =>
      { k.orphanOps g (s.gangOwner g) (s.gangSlot g) stays with
        frozen := (k.frozen.map (fun (q : Nat × List Nat) => (q.1, q.2.filter (!gone.contains ·)))).filter (fun q => !q.2.isEmpty),
        copies := k.copies.filter (fun y => kept y.gang y.member y.slot), copyFaults := k.copyFaults.filter (fun y => kept y.gang y.member y.slot),
        copied := k.copied.filter (fun y => kept y.1 y.2.1 y.2.2.1),
        share := { k.share with streams := k.share.streams.map (fun (w : Nat × Stream) => (w.1, { w.2 with elems := w.2.elems.filter (fun e => e.maker.all (fun (m : Nat × Nat) => stays m.1 m.2)) })) } })
    (k.ctxs.filter (fun e => e.2.mayHalt)).foldl (fun s e => s.removeStrand c e.1) s1
  else s
/-- Whether a strand's gang is ending, and waits for the bundles that hold its strands (R318). -/
def State.ending (s : State) (t : Strand) : Bool := (s.gang t.gang).any (fun v => v.mode == .ending)
/-- A gang that ends: those of its strands that may halt do, its folios leave the resumption queue, and it has ended with the last
of them (R318). -/
def State.stopGang (s : State) (g : Nat) : State :=
  match s.gang g with
  | none => s
  | some v =>
    let s1 := v.cores.foldl (fun s c => s.haltOn g c) s
    let s2 := s1.setCluster v.cluster { s1.cluster v.cluster with folios := (s1.cluster v.cluster).folios.filter (fun f => f.2.1 != g) }
    let left := v.cores.foldl (fun n c => if (s2.core c).gang == some g then n + (s2.core c).ctxs.length else n) 0
    if left = 0 then (s2.setGang g { v with alive := 1 }).strandEnded g else s2.setGang g { v with alive := left, mode := .ending }
/-- What of an ending gang has come to a boundary halts (R318). -/
def State.settleEnding (s : State) (g : Nat) : State := if (s.gang g).any (fun v => v.mode == .ending) then s.stopGang g else s

/-- A gang ended with a status: its strands halt, its folios leave the resumption queue, no further gang of its nest is placed
(R318, R432). -/
def State.endGang (s : State) (g status : Nat) : State :=
  match s.gang g with
  | none => s
  | some v =>
    let s3 := s.stopGang g
    match s3.nest v.nest with
    | some n => s3.setNest v.nest { n with stopped := true, status := if n.status = 0 then status else n.status }
    | none => s3

/-! ### Pattern loads (R147) -/

/-- The first pattern load of a core completed: its entries read from the scratchpad, bits above 95 zero; an entry that
includes an uncorrectable word is undefined (R359). -/
def State.completePatld (s : State) (c : Nat) : State :=
  match (s.core c).patlds with
  | [] => s
  | p :: rest =>
    let entry := fun (i : Nat) =>
      let off := p.offset + 16 * i
      if s.badSpad.contains (c, off / 8) || s.badSpad.contains (c, off / 8 + 1) then (Config.freeBits s.free (128 + i)).toNat else readCells (s.core c).spad off 16
    { s with free := s.free + 1 }.mapCore c (fun k =>
      let pats := (List.range p.count).foldl (fun m i => Tab.set m 0 (64 * p.bank + p.first + i) (BitVec.ofNat 128 (entry i % 2 ^ 96))) k.share.pats
      let fresh := fun (n : Nat) => !decide (256 + 64 * p.bank + p.first ≤ n && n < 256 + 64 * p.bank + p.first + p.count)
      { k with patlds := rest, share := { k.share with pats := pats, bad := k.share.bad.filter fresh } })
/-- Every pattern load of a core completed, as what leaves the gang's code waits for it (R148). -/
def State.completePatlds (s : State) (c : Nat) : State := (s.core c).patlds.foldl (fun s _ => s.completePatld c) s
/-- The pattern loads of a core up to the last whose bound of 7 + count has come are completed: they complete in the order of
their issue, and each by its own bound (R147). -/
def State.settlePatlds (s : State) (c : Nat) : State :=
  ((s.core c).patlds.reverse.dropWhile (fun p => (s.core c).cycle < p.due)).foldl (fun s _ => s.completePatld c) s

/-! ### Taking a trap -/

/-- The address of a context's trap frame (R313). -/
def State.frameAddr (s : State) (q c x : Nat) : Nat := (s.slotReg q 0x20 + 256 * (4 * c + x)) % 2 ^ 64

/-- The CAUSE word (R315). -/
def causeWord (t : TrapInfo) : Nat :=
  (t.cause <<< 56) ||| (t.slot <<< 48) ||| (t.sub <<< 40) ||| (t.code <<< 32)

/-- The 256 bytes of a trap frame (R314, Table 1). -/
def trapFrame (t : Strand) (i : TrapInfo) (bundle pc now : Nat) : Nat :=
  let word := fun (n : Nat) (v : Nat) => (v % 2 ^ 64) <<< (8 * n)
  word 0x00 (causeWord i) ||| word 0x08 pc ||| word 0x10 bundle ||| word 0x18 i.addr.toNat |||
  word 0x20 i.info.toNat ||| word 0x28 (t.ssr t.flags).toNat ||| word 0x30 now |||
  (List.range 8).foldl (fun v n => v ||| word (0x40 + 8 * n) (t.reg (24 + n)).toNat) 0 |||
  (List.range 4).foldl (fun v n => v ||| word (0x80 + 8 * n) (t.reg (44 + n)).toNat) 0 |||
  (List.range 4).foldl (fun v n => v ||| word (0xA0 + 8 * n) (t.lcRaw n).toNat) 0

/-- The source number of a core (R325). -/
def coreSource (c : Nat) : Nat := c % Config.clusterCores

/-- The code of CLASS INTEGRITY for a trap cause, where it has one (R361). -/
def integrityCode (cause : Nat) : Option Nat :=
  if cause = 0x0E then some 1 else if cause = 0x0F then some 2 else if cause = 0x0D then some 3 else none

/-- A part of a published store performed at its home at once; it may fault there (R204, R321, R359). One whose home is not this
module goes on as the request it is. -/
def State.landPart (s : State) (id i : Nat) : State :=
  match Tab.find? s.reqs id with
  | none => s
  | some r =>
    match r.parts[i]? with
    | none => s
    | some p =>
      let set := fun (s : State) (f : Part → Part) => { s with reqs := Tab.put s.reqs id { r with parts := r.parts.modify i f } }
      let fault := fun (s : State) (sub : Nat) (retry : Bool) => set s (fun p =>
        { p with fault := some { sub := sub, addr := BitVec.ofNat 64 (p.addr + (lowest 32 (fun b => p.mask.getLsbD b)).getD 0), retry := retry } })
      match s.translate r.core r.slotOwner p.addr .store with
      | (s1, .error e) => fault s1 e true
      | (s1, .ok pa) =>
        match s1.place pa with
        | .local_ off =>
          let key := s1.slotKey r.slotOwner
          if r.bad || (p.mask ≠ 0xFFFFFFFF#32 && s1.badAt off key) then fault s1 6 false
          else set (s1.writeNow off 32 p.mask.toNat p.data.toNat key (r.cache == 3)) (fun p => { p with done := true })
        | .fault e => fault s1 e true
        | _ => s1
/-- The buffered records and published stores of a strand for the sectors that `p` picks performed at their homes, in the order of
issue, as for an immediate access (R204). -/
def State.performSectors (s : State) (c x : Nat) (p : Nat → Bool) : State :=
  match s.strand c x with
  | none => s
  | some t =>
    let s1 := (t.phase.filter (fun b => p b.sector)).foldl (fun s b => s.sendRecord c x b) s
    s1.reqs.foldl (fun s e =>
      let r := e.2
      if r.published && r.gang == t.gang && r.member == t.member && r.slot == t.slot && !r.held then
        r.parts.zipIdx.foldl (fun s o => if p (o.1.addr / 32) && !o.1.done && o.1.fault.isNone && !o.1.sent then s.landPart e.1 o.2 else s) s
      else s) s1

/-- A trap is entered (R148, R311, R314 to R318, R328, R361): every result in flight has landed, every pattern load of the
core has completed, the wait count is dropped, and the after-kind traps that are due stay so (R354); the strand's buffered records for the frame's sectors are performed at their homes, and the frame is written at its own (log 103); s28 to s31 and a15 are set
and PC is TVEC.  A fatal trap ends the gang instead. `bundle` is the raising bundle, `pc` where TRET resumes. -/
def State.takeTrap (s : State) (c x : Nat) (i : TrapInfo) (bundle pc : Word) : State :=
  match s.strand c x with
  | none => s
  | some t0 =>
    let q := s.gangSlot t0.gang
    let owner := s.gangOwner t0.gang
    let t := { t0.settleAll with due := t0.due.map (fun d => { d with waits := true }), readyAt := t0.landedBy, wcnt := 0, bankSince := none, phasing := false, stall := .none, answer := none, vheld := none, checksums := if i.cause = 0x0B then t0.checksums.erase i.info.toNat else t0.checksums }
    let s1 := ((s.setStrand c x t).withdraw c x).completePatlds c
    let fa := s1.frameAddr q c x
    let mine := fun (b : Nat) => fa / 32 ≤ b && b < (fa + 255) / 32 + 1
    let s3 := s1.performSectors c x mine
    let (s4, failed) := s3.virtWrite c q fa 256 (trapFrame t i bundle.toNat pc.toNat s.now)
    let s5 := s4.mapCore c (fun k => { k with l1 := k.l1.filter (fun l =>
      match s4.tlbHit c q fa with
      | some e => l.line != (e.ppage + (fa - e.vpage)) % 2 ^ 44 / 128 && l.line != (e.ppage + (fa - e.vpage) + 255) % 2 ^ 44 / 128
      | none => true) })
    let s6 := match integrityCode i.cause with
      | some code => s5.log (coreCluster c) (coreSource c) 2 code owner (if i.cause = 0x0D then i.addr else 0) bundle
      | none => s5
    let s7 := if i.cause = 0x0C && 0xF0 ≤ i.code then s6.fire (coreSource c) else s6
    let async := i.cause = 0x0D || i.cause = 0x0F
    let fatal := s.slotReg q 0x10 = 0 || failed.isSome ||
      (i.cause ≠ 0x10 && (s.inHandler q bundle.toNat || (async && s.inHandler q pc.toNat)))
    if fatal then
      ((s7.logEntry (coreCluster c) { time := s.now, source := coreSource c, cls := 0, code := i.cause, owner := owner, addr := i.addr, detail := bundle, sub := i.sub }).mapStrand c x (fun t => { t with holds := [] })).endGang t.gang 3
    else
      s7.mapStrand c x (fun t =>
        let t1 := (((((t.setReg 28 pc).setReg 29 i.info).setReg 30 i.addr).setReg 31 (BitVec.ofNat 64 (causeWord i))).setReg 47
          (BitVec.ofNat 64 fa))
        { t1.regenerate (fun k => (28 ≤ k && k ≤ 31) || k = 47) with pc := BitVec.ofNat 64 (s.slotReg q 0x10) })

/-! ### A strand halted -/

/-- A strand as its frame holds it: its results have landed, what is left of its wait count is dropped, and residues are
generated from the values (R30, R311, R349). -/
def Strand.sealed (t : Strand) : Strand :=
  { t.settleAll with halted := true, stall := .halted, answer := none, vheld := none, wcnt := 0, readyAt := 0, bankSince := none, residues := [] }
/-- A strand halts at its boundary: pattern loads have completed, its results have landed and its waits are withdrawn (R148, R349,
R373, R399). Its frame is sealed when the save completes (R32). -/
def State.haltStrand (s : State) (c x : Nat) : State := ((s.completePatlds c).withdraw c x).mapStrand c x Strand.sealed
/-- A request of a halted strand that no seal waits for: one not sent, a held store, or a load that has its data and waits behind
a faulted acquire or for its turn to land (R32, R322, R323). -/
def Request.quiet (r : Request) : Bool := r.held || !r.begun || (r.finished && !r.isStore)

/-! ### Return from a trap -/

/-- The frame of a context as its strand's own loads read it (R203, R319): the value, or sub-cause and address. -/
def State.readFrame (s : State) (c x : Nat) (t : Strand) : State × Except (Nat × Nat) Nat :=
  let q := s.gangSlot t.gang
  let fa := s.frameAddr q c x
  match s.virtRead c q fa 256 with
  | (s1, .error e) => (s1, .error e)
  | (s1, .ok v) =>
    (s1, .ok ((sectorRuns fa 256).foldl (fun v run =>
      let own := s.ownBytes t run.1
      let sh := run.1 % 32
      let m := (own.1 >>> sh) % 2 ^ run.2.1
      mergeBytes 256 (m <<< run.2.2) (((own.2 >>> (8 * sh)) % 2 ^ (8 * run.2.1)) <<< (8 * run.2.2)) v) v))

/-- TRET's resolution of a faulted stream element (R322, R445). -/
def State.resolveLoad (s : State) (c w : Nat) (retry : Bool) : State :=
  match Tab.find? (s.core c).share.streams w with
  | none => s
  | some st =>
    match st.elems with
    | [] => s
    | e :: rest =>
      match e.fault, e.again with
      | some _, some r =>
        let put := fun (s : State) (e : Element) => s.mapCore c (fun k => { k with share := { k.share with streams := Tab.put k.share.streams w { st with elems := e :: rest } } })
        if retry then
          let id := s.nextReq + 1
          (put s { e with fault := none, pending := true, req := id }).addReq
            { r with resend := true, first := e.origin, entry := none, sentAt := none, parts := r.parts.map (fun p => { p with fault := none, done := false, sent := false, awaits := [] }) }
        else
          let s1 := put s { e with fault := none, again := none, data := 0 }
          if r.order == .acquire then s1.readerHalf c r.scope else s1
      | _, _ => s

/-- TRET's resolution of the first faulted store held by a queue (R322, R366). What is held is one sector: of an access of
several, the sectors after a discarded one are still performed; of an engine's, nothing is left (R370). -/
def State.resolveStore (s : State) (c q : Nat) (retry : Bool) : State :=
  match Tab.get (s.core c).frozen [] q with
  | [] => s
  | id :: rest =>
    let s1 := s.mapCore c (fun k => { k with frozen := Tab.set k.frozen [] q rest })
    match Tab.find? s1.reqs id with
    | none => s1
    | some r =>
      if retry then
        { s1 with reqs := Tab.put s1.reqs id { r with held := false, resend := true, entry := none, sentAt := none, parts := r.parts.map (fun p => { p with fault := none, sent := false, awaits := [] }) } }
      else
        if (r.parts.findSome? (·.fault)).elim false (·.engine) then s1.retireStore id else
        let r1 := { r with held := false, resend := true, sentAt := none, parts := r.parts.modify ((r.parts.findIdx? (·.fault.isSome)).getD 0) (fun p => { p with fault := none, sent := false, done := true }) }
        if r1.finished then s1.retireStore id else { s1 with reqs := Tab.put s1.reqs id r1 }

/-- The registers a trap frame restores (R319). -/
def Strand.restoreFrame (t : Strand) (f : Nat) : Strand :=
  let word := fun (n : Nat) => BitVec.ofNat 64 (f >>> (8 * n))
  let t1 := (List.range 8).foldl (fun t n => t.setReg (24 + n) (word (0x40 + 8 * n))) t
  let t2 := (List.range 4).foldl (fun t n => t.setReg (44 + n) (word (0x80 + 8 * n))) t1
  let t3 := (List.range 4).foldl (fun t n => t.setLc n ((word (0xA0 + 8 * n)).setWidth 32)) t2
  { t3.regenerate (fun k => (24 ≤ k && k ≤ 31) || (44 ≤ k && k ≤ 51)) with pc := word 0x08 }

/-- A strand that TRET returns to the bundle that held it goes on being held after that bundle (log 44). -/
def Strand.unpark (t : Strand) : Strand :=
  match t.parked with
  | some (pc, next, holds) =>
    if t.pc = pc then { t with pc := next, holds := t.holds ++ holds, parked := none } else { t with parked := none }
  | none => t

/-- The return from a trap, after its bundle's other slots have taken effect and landed (R319, R322): the registers and
PC of the frame, the resolution of a held request by INFO's RETRY, and what held the strand when it took a store
fault. A frame that cannot be read and a PC that RET would refuse trap by the TRET, which is fatal. -/
def State.returnTrap (s : State) (c x : Nat) : State :=
  match s.strand c x with
  | none => s
  | some t0 =>
    let t := { t0.settleAll with readyAt := max t0.readyAt t0.landedBy }
    match s.readFrame c x t with
    | (s1, .error e) => (s1.setStrand c x t).takeTrap c x { cause := 7, slot := 1, sub := e.1, addr := BitVec.ofNat 64 e.2 } t.lastPc t.lastPc
    | (s1, .ok f) =>
      let pc := (f >>> 64) % 2 ^ 64
      if bits pc 63 48 ≠ 0 || pc.testBit 0 then
        (s1.setStrand c x t).takeTrap c x { cause := 5, slot := 1, addr := BitVec.ofNat 64 pc } t.lastPc t.lastPc
      else
      let t1 := t.restoreFrame f
      let s2 := s1.setStrand c x { t1.unpark with supplyBy := none, saved := t1.saved || (t1.supplyBy.isSome && !t1.resumed), resumed := false }
      let cause := bits f 63 56
      let info := bits f (8 * 0x20 + 63) (8 * 0x20)
      let retry := info.testBit 63
      if cause = 8 then s2.resolveLoad c (bits info 58 56) retry
      else if cause = 9 then s2.resolveStore c (bits info 53 52) retry
      else s2

end Sys2Proof.Machine
end

