-- ==== Sys2Proof/Machine/Flags.lean ====
section
/-! DEFINITION. Number formats and the flags their arithmetic raises (R83 to R95): exact values, one rounding
function, addition, multiplication, comparison, conversion, block quantisation, and the integer results of
R105 to R108. -/
namespace Sys2Proof

/-- SSR [5:0]: SN TR UF OF NV ZM (R40). -/
abbrev Flags := BitVec 6
def flagNV : Flags := 2#6
def flagOF : Flags := 4#6
def flagUF : Flags := 8#6
def flagTR : Flags := 16#6
def flagSN : Flags := 32#6
/-- A flag raised where a condition holds. -/
def flagIf (c : Bool) (f : Flags) : Flags := if c then f else 0

/-- A floating format (R83, R84). -/
structure Fmt where
  expBits : Nat
  manBits : Nat
  bias : Nat
  /-- has infinities -/
  hasInf : Bool
  /-- has NaN codes -/
  hasNan : Bool
  /-- largest finite code without its sign -/
  maxCode : Nat
  /-- default NaN -/
  nanCode : Nat
  /-- subnormals are never produced (R88) -/
  flush : Bool
  deriving DecidableEq, Repr

def fmt64 : Fmt := ⟨11, 52, 1023, true, true, 0x7FEFFFFFFFFFFFFF, 0x7FF8000000000000, false⟩
def fmt32 : Fmt := ⟨8, 23, 127, true, true, 0x7F7FFFFF, 0x7FC00000, false⟩
def fmtBf16 : Fmt := ⟨8, 7, 127, true, true, 0x7F7F, 0x7FC0, false⟩
def fmtF8a : Fmt := ⟨4, 3, 7, false, true, 0x7E, 0x7F, true⟩
def fmtF8b : Fmt := ⟨5, 2, 15, true, true, 0x7B, 0x7E, true⟩
def fmtF4 : Fmt := ⟨2, 1, 1, false, false, 0x7, 0, true⟩

def Fmt.width (f : Fmt) : Nat := 1 + f.expBits + f.manBits
def Fmt.signBit (f : Fmt) : Nat := f.expBits + f.manBits
/-- The exponent of the smallest normal. -/
def Fmt.emin (f : Fmt) : Int := 1 - f.bias
/-- The code of +Inf. -/
def Fmt.infCode (f : Fmt) : Nat := (2 ^ f.expBits - 1) <<< f.manBits

/-- A value read from a format: a finite one is (-1)^neg · m · 2^e. -/
inductive FVal
  | nan (signalling : Bool)
  | inf (neg : Bool)
  | fin (neg : Bool) (m : Nat) (e : Int)
  deriving DecidableEq, Repr

def FVal.isNan (v : FVal) : Bool := match v with | .nan _ => true | _ => false
def FVal.signals (v : FVal) : Bool := match v with | .nan true => true | _ => false
def FVal.isInf (v : FVal) : Bool := match v with | .inf _ => true | _ => false
def FVal.neg (v : FVal) : FVal := match v with | .nan s => .nan s | .inf n => .inf (!n) | .fin n m e => .fin (!n) m e
def FVal.isNeg (v : FVal) : Bool := match v with | .nan _ => false | .inf n => n | .fin n _ _ => n
def FVal.isZero (v : FVal) : Bool := match v with | .fin _ 0 _ => true | _ => false

/-- A code read as a value (R83, R84, R89). -/
def Fmt.decode (f : Fmt) (code : Nat) : FVal :=
  let neg := code.testBit f.signBit
  let e := bits code (f.signBit - 1) f.manBits
  let m := code % 2 ^ f.manBits
  let top := 2 ^ f.expBits - 1
  if f.hasInf && e == top then
    if m = 0 then .inf neg
    else .nan (f.manBits != 2 && !m.testBit (f.manBits - 1))
  else if f.hasNan && !f.hasInf && e == top && m == 2 ^ f.manBits - 1 then .nan false
  else if e = 0 then .fin neg m (f.emin - f.manBits)
  else .fin neg (2 ^ f.manBits + m) ((e : Int) - f.bias - f.manBits)

/-- A magnitude m · 2^e, with a positive rest below 2^e where `rest`, rounded to a whole number of 2^q by a mode:
the count, and whether it is inexact (R90). -/
def roundUnits (neg : Bool) (m : Nat) (e : Int) (rest : Bool) (q : Int) (rm : Nat) : Nat × Bool :=
  let s := (q - e).toNat
  let n := if q ≤ e then m <<< (e - q).toNat else m >>> s
  let r := if q ≤ e then 0 else m % 2 ^ s
  let half := if q ≤ e then 0 else 2 ^ s / 2
  let inexact := r ≠ 0 || rest
  let up := match rm with
    | 0 => if q ≤ e then false else half < r || (r = half && (rest || n % 2 = 1))
    | 1 => false
    | 2 => inexact && neg
    | _ => inexact && !neg
  (if up then n + 1 else n, inexact)

/-- The sign and code of a format. -/
def Fmt.signed (f : Fmt) (neg : Bool) (code : Nat) : Nat := if neg then code + 2 ^ f.signBit else code

/-- The result of an overflow: infinity or the largest finite code (R91, R93). -/
def Fmt.overflow (f : Fmt) (neg : Bool) (rm : Nat) (sat : Bool) : Nat :=
  let toInf := f.hasInf && !sat && (match rm with
    | 0 => true
    | 1 => false
    | 2 => neg
    | _ => !neg)
  f.signed neg (if toInf then f.infCode else f.maxCode)

/-- A finite magnitude rounded once into a format, with its flags (R88 to R91). `rest` tells that the exact value
lies a little above m · 2^e; `sat` that an overflow saturates under every mode (R93). -/
def Fmt.round (f : Fmt) (neg : Bool) (m : Nat) (e : Int) (rest : Bool) (rm : Nat) (sat : Bool) : Nat × Flags :=
  if m = 0 then (f.signed neg 0, 0)
  else
    let ex := e + (Nat.log2 m : Int)
    let free := roundUnits neg m e rest (ex - f.manBits) rm
    let exFree := if free.1 = 2 ^ (f.manBits + 1) then ex + 1 else ex
    let tiny := decide (exFree < f.emin)
    if tiny && f.flush then (f.signed neg 0, flagUF)
    else
      let q := max ex f.emin - f.manBits
      let r := roundUnits neg m e rest q rm
      let code := ((q + f.manBits + f.bias - 1).toNat <<< f.manBits) + r.1
      if f.maxCode < code then (f.overflow neg rm sat, flagOF)
      else (f.signed neg code, flagIf (tiny && r.2) flagUF)

/-- A value put into a format (R84, R91): a NaN becomes the default NaN, in E2M1 +0 with NV. -/
def Fmt.encode (f : Fmt) (v : FVal) (rm : Nat) (sat : Bool) : Nat × Flags :=
  match v with
  | .nan s => if f.hasNan then (f.nanCode, flagIf s flagNV) else (0, flagNV)
  | .inf n => if f.hasInf && !sat then (f.signed n f.infCode, 0) else (f.signed n f.maxCode, flagOF)
  | .fin n m e => f.round n m e false rm sat

/-- A signed magnitude. -/
def signedMag (neg : Bool) (m : Nat) : Int := if neg then -(m : Int) else m

/-- An exact sum; an exact zero is +0 unless both addends are −0 (R89, R114). -/
def FVal.add (a b : FVal) : FVal × Flags :=
  match a, b with
  | .nan s, .nan t => (.nan false, flagIf (s || t) flagNV)
  | .nan s, _ => (.nan false, flagIf s flagNV)
  | _, .nan t => (.nan false, flagIf t flagNV)
  | .inf n, .inf k => if n = k then (.inf n, 0) else (.nan false, flagNV)
  | .inf n, _ => (.inf n, 0)
  | _, .inf k => (.inf k, 0)
  | .fin n m e, .fin k l d =>
    let lo := min e d
    let v := signedMag n (m <<< (e - lo).toNat) + signedMag k (l <<< (d - lo).toNat)
    if v = 0 then (.fin (n && k) 0 lo, 0) else (.fin (v < 0) v.natAbs lo, 0)

/-- An exact product (R89). -/
def FVal.mul (a b : FVal) : FVal × Flags :=
  match a, b with
  | .nan s, .nan t => (.nan false, flagIf (s || t) flagNV)
  | .nan s, _ => (.nan false, flagIf s flagNV)
  | _, .nan t => (.nan false, flagIf t flagNV)
  | .inf n, .inf k => (.inf (n != k), 0)
  | .inf n, .fin k l _ => if l = 0 then (.nan false, flagNV) else (.inf (n != k), 0)
  | .fin n m _, .inf k => if m = 0 then (.nan false, flagNV) else (.inf (n != k), 0)
  | .fin n m e, .fin k l d => (.fin (n != k) (m * l) (e + d), 0)

/-- a × b + c with no rounding (R89, R114). -/
def FVal.fma (a b c : FVal) : FVal × Flags :=
  let p := a.mul b
  let r := p.1.add c
  (r.1, p.2 ||| r.2)

/-- The order of two values, none where either is a NaN; −0 and +0 are equal. -/
def FVal.compare (a b : FVal) : Option Ordering :=
  match a, b with
  | .nan _, _ => none
  | _, .nan _ => none
  | .inf n, .inf k => some (if n = k then .eq else if n then .lt else .gt)
  | .inf n, _ => some (if n then .lt else .gt)
  | _, .inf k => some (if k then .gt else .lt)
  | .fin n m e, .fin k l d =>
    let lo := min e d
    let x := signedMag n (m <<< (e - lo).toNat)
    let y := signedMag k (l <<< (d - lo).toNat)
    some (if x < y then .lt else if x = y then .eq else .gt)

/-- Whether `a` is below `b` with −0 below +0, for minimum and maximum (R89). -/
def FVal.below (a b : FVal) : Bool :=
  match a.compare b with
  | some .lt => true
  | some .eq => a.isNeg && !b.isNeg
  | _ => false

/-- A binary operation in one format: operands decoded, the exact result rounded by RNE (R90, R114). -/
def Fmt.binary (f : Fmt) (op : FVal → FVal → FVal × Flags) (x y : Nat) : Nat × Flags :=
  let r := op (f.decode x) (f.decode y)
  let e := f.encode r.1 0 false
  (e.1, r.2 ||| e.2)
def Fmt.add (f : Fmt) (x y : Nat) : Nat × Flags := f.binary FVal.add x y
def Fmt.sub (f : Fmt) (x y : Nat) : Nat × Flags := f.binary (fun a b => a.add b.neg) x y
def Fmt.mul (f : Fmt) (x y : Nat) : Nat × Flags := f.binary FVal.mul x y
def Fmt.fma (f : Fmt) (x y z : Nat) : Nat × Flags :=
  let r := FVal.fma (f.decode x) (f.decode y) (f.decode z)
  let e := f.encode r.1 0 false
  (e.1, r.2 ||| e.2)
/-- Minimum, or maximum (R89, R114). -/
def Fmt.least (f : Fmt) (greatest : Bool) (x y : Nat) : Nat × Flags :=
  let a := f.decode x
  let b := f.decode y
  if a.isNan || b.isNan then (f.nanCode, flagIf (a.signals || b.signals) flagNV)
  else if (if greatest then b.below a else a.below b) then (x, 0) else (y, 0)
/-- The conditions of FCMP and VCMP on floats, 0 to 4: eq ne lt le un (R115, R137). -/
def Fmt.test (f : Fmt) (cond x y : Nat) : Bool × Flags :=
  let a := f.decode x
  let b := f.decode y
  let nan := a.isNan || b.isNan
  let nv := flagIf (a.signals || b.signals || (nan && (cond == 2 || cond == 3))) flagNV
  let o := a.compare b
  (match cond with
    | 0 => o == some .eq
    | 1 => o != some .eq
    | 2 => o == some .lt
    | 3 => o == some .lt || o == some .eq
    | _ => nan, nv)

/-! ### Types (R68) -/

/-- The floating format of a type code. -/
def floatOf (ty : Nat) : Option Fmt :=
  match ty with
  | 8 => some fmtBf16
  | 9 => some fmtF8a
  | 10 => some fmtF8b
  | 11 => some fmtF4
  | 12 => some fmt32
  | 13 => some fmt64
  | _ => none

/-- The width of a type code in bits. -/
def typeWidth (ty : Nat) : Nat :=
  match ty with
  | 0 => 8 | 1 => 16 | 2 => 32 | 3 => 64
  | 4 => 8 | 5 => 16 | 6 => 32 | 7 => 64
  | 8 => 16 | 9 => 8 | 10 => 8 | 11 => 4 | 12 => 32 | 13 => 64 | _ => 2

def typeSigned (ty : Nat) : Bool := ty < 4
def typeMin (ty : Nat) : Int := if typeSigned ty then -(2 ^ (typeWidth ty - 1) : Nat) else 0
def typeMax (ty : Nat) : Int := if typeSigned ty then (2 ^ (typeWidth ty - 1) : Nat) - 1 else (2 ^ typeWidth ty : Nat) - 1

/-- The number the low bits of a register stand for under an integer type (R105). -/
def typeInt (ty v : Nat) : Int :=
  if typeSigned ty then sint (typeWidth ty) v else ((v % 2 ^ typeWidth ty : Nat) : Int)

/-- A result modulo 2^w, extended to 64 bits by the signedness of its type (R105). -/
def typeExtend (ty : Nat) (v : Int) : Nat :=
  let r := wrap (typeWidth ty) v
  if typeSigned ty then sext64 (typeWidth ty) r else r

/-- A value clamped to the range of an integer type, with OF (R86). -/
def saturate (ty : Nat) (v : Int) : Int × Flags :=
  if v < typeMin ty then (typeMin ty, flagOF)
  else if typeMax ty < v then (typeMax ty, flagOF)
  else (v, 0)

/-! ### Conversions (R91) -/

/-- A finite value rounded to an integer by a mode. -/
def roundInt (neg : Bool) (m : Nat) (e : Int) (rm : Nat) : Int := signedMag neg (roundUnits neg m e false 0 rm).1

/-- The value of a ternary code; the reserved one counts as 0 and raises TR (R87). -/
def ternValue (code : Nat) : Int × Flags :=
  match code % 4 with
  | 1 => (1, 0)
  | 3 => (-1, 0)
  | 2 => (0, flagTR)
  | _ => (0, 0)
/-- The ternary code of −1, 0 or 1. -/
def ternCode (v : Int) : Nat := if v < 0 then 3 else if v = 0 then 0 else 1

/-- A value converted to a ternary weight. -/
def ternClamp (v : Int) : Nat × Flags :=
  if v < -1 then (3, flagOF) else if 1 < v then (1, flagOF) else (ternCode v, 0)

/-- A float converted to an integer type or to a ternary weight. -/
def floatToInt (v : FVal) (ty rm : Nat) : Nat × Flags :=
  match v with
  | .nan _ => (0, flagNV)
  | .inf n =>
    if ty = 14 then (if n then 3 else 1, flagOF)
    else (wrap (typeWidth ty) (if n then typeMin ty else typeMax ty), flagNV)
  | .fin n m e =>
    let i := roundInt n m e rm
    if ty = 14 then ternClamp i
    else if i < typeMin ty then (wrap (typeWidth ty) (typeMin ty), flagNV)
    else if typeMax ty < i then (wrap (typeWidth ty) (typeMax ty), flagNV)
    else (wrap (typeWidth ty) i, 0)

/-- An integer converted to any type. -/
def intTo (i : Int) (ty rm : Nat) : Nat × Flags :=
  match floatOf ty with
  | some f => f.round (i < 0) i.natAbs 0 false rm false
  | none =>
    if ty = 14 then ternClamp i
    else
      let r := saturate ty i
      (wrap (typeWidth ty) r.1, r.2)

/-- A code of type `sty` converted to type `ty` under a mode: a code of the destination's width (R91). A ternary value goes
by the integer rows as a signed integer, so −1 saturates to 0 with OF in every unsigned type: which row is meant there the
spec leaves open (log 46, DESIGN CHOICE). -/
def convertCode (sty ty rm x0 : Nat) : Nat × Flags :=
  let x := x0 % 2 ^ typeWidth sty
  match floatOf sty with
  | some f =>
    match floatOf ty with
    | some g => g.encode (f.decode x) rm false
    | none => floatToInt (f.decode x) ty rm
  | none =>
    if sty = 14 then
      let t := ternValue x
      if ty = 14 then (ternCode t.1, t.2)
      else
        let r := intTo t.1 ty rm
        (r.1, t.2 ||| r.2)
    else if (floatOf ty).isNone && ty ≠ 14 && (sty = ty || typeWidth sty < typeWidth ty) then
      (wrap (typeWidth ty) (typeInt sty x), 0)
    else intTo (typeInt sty x) ty rm

/-- FCVT's conversion: of equal types it returns its source, but for a NaN and a reserved ternary code (R116). -/
def convert (sty ty rm x0 : Nat) : Nat × Flags :=
  let x := x0 % 2 ^ typeWidth sty
  match floatOf sty with
  | some f =>
    if sty = ty then
      if (f.decode x).isNan then (f.nanCode, flagIf (f.decode x).signals flagNV) else (x, 0)
    else convertCode sty ty rm x0
  | none => convertCode sty ty rm x0

/-! ### Block scaling (R93, R94) -/

/-- emax of an element format (R93). -/
def Fmt.emax (f : Fmt) : Int := if f.expBits = 4 then 8 else if f.expBits = 5 then 15 else 2

/-- The exponent of the largest finite magnitude of a block, none where it is zero or absent. -/
def blockExponent (xs : List FVal) : Option Int :=
  xs.foldl (fun b v =>
    match v with
    | .fin _ m e =>
      if m = 0 then b
      else
        let x := e + (Nat.log2 m : Int)
        match b with
        | none => some x
        | some y => some (max x y)
    | _ => b) none

/-- A block of values quantised: the scale, the codes, and the flags (R93). -/
def quantise (f : Fmt) (xs : List FVal) (rm : Nat) : Nat × List Nat × Flags :=
  if xs.any FVal.isNan then (0xFF, xs.map (fun _ => 0), flagNV)
  else
    let x : Int := match blockExponent xs with
      | none => 0
      | some e => max (-127) (min 127 (e - f.emax))
    let q := xs.map (fun v =>
      match v with
      | .fin n m e => f.round n m (e - x) false rm true
      | v => f.encode v rm true)
    ((x + 127).toNat, q.map (·.1), q.foldl (fun a r => a ||| r.2) 0)

/-- A value scaled by an E8M0 code and rounded to FP32; the default NaN for scale 0xFF (R94). -/
def dequantise (v : FVal) (scale : Nat) : Nat × Flags :=
  if scale = 0xFF then (fmt32.nanCode, 0)
  else match v with
    | .fin n m e => fmt32.round n m (e + scale - 127) false 0 false
    | v => fmt32.encode v 0 false

/-! ### Integer instructions (R105 to R109) -/

/-- Division truncating towards zero, with the results of R107. -/
def divide107 (ty : Nat) (x y : Int) : Int := if y = 0 then -1 else if x = typeMin ty && y = -1 then typeMin ty else Int.tdiv x y
def remainder107 (x y : Int) : Int := if y = 0 then x else Int.tmod x y

/-- The shifts of R108 on a w-bit operand: 0 left, 1 right logical, 2 right arithmetic, 3 rotate right. -/
def shift108 (kind w x n : Nat) : Int :=
  match kind with
  | 0 => if w ≤ n then 0 else ((x <<< n) % 2 ^ w : Nat)
  | 1 => if w ≤ n then 0 else (x >>> n : Nat)
  | 2 => if w ≤ n then (if x.testBit (w - 1) then -1 else 0) else sint w x / (2 ^ n : Nat)
  | _ => let r := n % w; ((x >>> r) ||| ((x <<< (w - r)) % 2 ^ w) : Nat)

/-- The conditions of CMP at width w, 0 to 5 (R109). -/
def compare109 (cond w x y : Nat) : Bool :=
  match cond with
  | 0 => x == y
  | 1 => x != y
  | 2 => decide (sint w x < sint w y)
  | 3 => decide (sint w x ≤ sint w y)
  | 4 => decide (x < y)
  | _ => decide (x ≤ y)

/-- Zeros above the highest 1 bit, and below the lowest (R106). -/
def leadingZeros (w x : Nat) : Nat := if x = 0 then w else w - 1 - Nat.log2 x
def trailingZeros (w x : Nat) : Nat := (lowest w x.testBit).getD w

end Sys2Proof
end

