-- ==== Sys2Proof/Machine/Special.lean ====
section
/-! DEFINITION. Division, roots and the special functions of R144 and R145: exact integer arithmetic for the
algebraic ones, fixed-point enclosures for the others, rounded once; where an enclosure does not decide the
rounding the result is the constant Config.hardCase (log 14). -/
namespace Sys2Proof

/-- The quotient of two finite magnitudes, and whether a rest remains. -/
def quotient (m : Nat) (e : Int) (n : Nat) (d : Int) : Nat × Int × Bool :=
  let k := 96 + Nat.log2 n
  ((m <<< k) / n, e - d - k, (m <<< k) % n ≠ 0)

/-- A quotient of two values rounded by RNE, with IEEE results at zero and infinity. -/
def Fmt.div (f : Fmt) (a b : FVal) : Nat × Flags :=
  match a, b with
  | .nan _, _ => (f.nanCode, 0)
  | _, .nan _ => (f.nanCode, 0)
  | .inf _, .inf _ => (f.nanCode, flagNV)
  | .inf n, .fin k _ _ => (f.signed (n != k) f.infCode, 0)
  | .fin n _ _, .inf k => (f.signed (n != k) 0, 0)
  | .fin n m e, .fin k l d =>
    if l = 0 then (if m = 0 then (f.nanCode, flagNV) else (f.signed (n != k) f.infCode, 0))
    else
      let q := quotient m e l d
      f.round (n != k) q.1 q.2.1 q.2.2 0 false

/-- The integer square root, bit by bit from bit `i`. -/
def rootBits (n : Nat) (i r : Nat) : Nat :=
  let r1 := if (r + 2 ^ i) * (r + 2 ^ i) ≤ n then r + 2 ^ i else r
  match i with
  | 0 => r1
  | j + 1 => rootBits n j r1
def intRoot (n : Nat) : Nat := rootBits n (Nat.log2 n / 2 + 1) 0

/-- √(m · 2^e). -/
def squareRoot (m : Nat) (e : Int) : Nat × Int × Bool :=
  let odd := (e % 2).toNat
  let n := m <<< (odd + 120)
  let r := intRoot n
  (r, (e - odd - 120) / 2, r * r ≠ n)

/-- 1 / √(m · 2^e). -/
def inverseRoot (m : Nat) (e : Int) : Nat × Int × Bool :=
  let odd := (e % 2).toNat
  let n := m <<< odd
  let k := 120 + Nat.log2 n
  let a := 2 ^ (2 * k)
  let r := intRoot (a / n)
  (r, -((e - odd) / 2) - k, r * r * n ≠ a)

/-! ### Series at p fractional bits; every result is within 2^16 units of the truth -/

/-- Σ t^k / k! from term k on. -/
def expSeries (p t : Nat) (fuel k term sum : Nat) : Nat :=
  match fuel with
  | 0 => sum
  | n + 1 => let next := ((term * t) >>> p) / k; expSeries p t n (k + 1) next (sum + next)
/-- Σ u^(2k+1) / (2k+1), or with alternating signs. -/
def atanSeries (alt : Bool) (p sq : Nat) (fuel k : Nat) (pow : Nat) (sum : Int) : Int :=
  match fuel with
  | 0 => sum
  | n + 1 =>
    let term : Int := (pow / (2 * k + 1) : Nat)
    atanSeries alt p sq n (k + 1) ((pow * sq) >>> p) (if alt && k % 2 = 1 then sum - term else sum + term)
def atanh (p u : Nat) : Nat := (atanSeries false p ((u * u) >>> p) 200 0 u 0).toNat
def atan (p u : Nat) : Nat := (atanSeries true p ((u * u) >>> p) 160 0 u 0).toNat
def ln2 (p : Nat) : Nat := 2 * atanh p (2 ^ p / 3)
def pi (p : Nat) : Nat := 16 * atan p (2 ^ p / 5) - 4 * atan p (2 ^ p / 239)
/-- Σ ± t^(2k+s) / (2k+s)! for sine (s = 1) and cosine (s = 0). -/
def trigSeries (p sq : Nat) (fuel k : Nat) (term : Nat) (neg : Bool) (sum : Int) : Int :=
  match fuel with
  | 0 => sum
  | n + 1 =>
    let s : Int := if neg then sum - term else sum + term
    trigSeries p sq n (k + 2) (((term * sq) >>> p) / ((k + 1) * (k + 2))) (!neg) s
def sine (p t : Nat) : Nat := (trigSeries p ((t * t) >>> p) 60 1 t false 0).toNat
def cosine (p t : Nat) : Nat := (trigSeries p ((t * t) >>> p) 60 0 (2 ^ p) false 0).toNat

/-- An enclosure's value rounded: the middle of an interval of 2^17 units, scaled by 2^e. -/
def Fmt.enclosed (f : Fmt) (fn code : Nat) (neg : Bool) (mid : Nat) (e : Int) : Nat × Flags :=
  let lo := f.round neg (mid - 65536) e true 0 false
  let hi := f.round neg (mid + 65535) e true 0 false
  if lo = hi then lo else ((Config.hardCase fn f.manBits code).toNat % 2 ^ f.width, lo.2)

/-- Fractional bits that keep 150 bits of a result near a value of exponent x. -/
def workBits (x : Int) : Nat := 200 + 2 * (-x).toNat

/-- 2^(n / 2^p) for a fraction below 1: at p bits, in [1, 2). -/
def expFraction (p f : Nat) : Nat := expSeries p ((f * ln2 p) >>> p) 110 1 (2 ^ p) (2 ^ p)

/-- 2^x for a finite nonzero x: the value times 2^-e. -/
def pow2 (neg : Bool) (m : Nat) (e : Int) : Nat × Int :=
  let x := e + (Nat.log2 m : Int)
  if 12 ≤ x then (2 ^ 40, if neg then -6000 else 6000)
  else
    let p := workBits (min x 0)
    let v := signedMag neg (if 0 ≤ e + p then m <<< (e + p).toNat else m >>> (-(e + p)).toNat)
    let n := v / (2 ^ p : Nat)
    (expFraction p (v % (2 ^ p : Nat)).toNat, n - p)

/-- e^(−x) for x = m · 2^e below 2^9: at p bits times 2^-n. -/
def expNeg (p : Nat) (v : Nat) : Nat × Nat :=
  let l := ln2 p
  let n := v / l + 1
  (expSeries p (n * l - v) 110 1 (2 ^ p) (2 ^ p), n)

/-- 2^x (R144). -/
def Fmt.exp2 (f : Fmt) (code : Nat) : Nat × Flags :=
  match f.decode code with
  | .nan s => (f.nanCode, flagIf s flagNV)
  | .inf n => (if n then 0 else f.infCode, 0)
  | .fin n m e =>
    if m = 0 then f.round false 1 0 false 0 false
    else if 0 ≤ e && e + (Nat.log2 m : Int) < 12 then
      f.round false 1 (signedMag n (m <<< e.toNat)) false 0 false
    else if e < 0 && m % 2 ^ (-e).toNat = 0 then
      f.round false 1 (signedMag n (m >>> (-e).toNat)) false 0 false
    else
      let r := pow2 n m e
      f.enclosed 0 code false r.1 r.2

/-- log2 x (R144). -/
def Fmt.log2 (f : Fmt) (code : Nat) : Nat × Flags :=
  match f.decode code with
  | .nan s => (f.nanCode, flagIf s flagNV)
  | .inf n => if n then (f.nanCode, flagNV) else (f.infCode, 0)
  | .fin n m e =>
    if m = 0 then (f.signed true f.infCode, 0)
    else if n then (f.nanCode, flagNV)
    else
      let b := Nat.log2 m
      let x := e + (b : Int)
      if m = 2 ^ b then f.round (x < 0) x.natAbs 0 false 0 false
      else
        let p := 240
        let u := ((m - 2 ^ b) <<< p) / (m + 2 ^ b)
        let v := x * (2 ^ p : Nat) + (((2 * atanh p u) <<< p) / ln2 p : Nat)
        f.enclosed 1 code (v < 0) v.natAbs (-p)

/-- tanh x (R144). -/
def Fmt.tanh (f : Fmt) (code : Nat) : Nat × Flags :=
  match f.decode code with
  | .nan s => (f.nanCode, flagIf s flagNV)
  | .inf n => f.round n 1 0 false 0 false
  | .fin n m e =>
    if m = 0 then (f.signed n 0, 0)
    else
      let x := e + (Nat.log2 m : Int)
      if 5 ≤ x then f.round n (2 ^ 80 - 1) (-80) true 0 false
      else
        let p := workBits (min x 0)
        let v := if 0 ≤ e + 1 + p then m <<< (e + 1 + p).toNat else m >>> (-(e + 1 + p)).toNat
        let y := expNeg p v
        let one := 2 ^ (p + y.2)
        f.enclosed 5 code n (((one - y.1) <<< p) / (one + y.1)) (-p)

/-- 1 / (1 + e^−x) (R144). -/
def Fmt.sigmoid (f : Fmt) (code : Nat) : Nat × Flags :=
  match f.decode code with
  | .nan s => (f.nanCode, flagIf s flagNV)
  | .inf n => if n then (0, 0) else f.round false 1 0 false 0 false
  | .fin n m e =>
    if m = 0 then f.round false 1 (-1) false 0 false
    else
      let x := e + (Nat.log2 m : Int)
      if 8 ≤ x then (if n then f.round false 1 (-3000) true 0 false else f.round false (2 ^ 80 - 1) (-80) true 0 false)
      else
        let p := workBits (min x 0)
        let v := if 0 ≤ e + p then m <<< (e + p).toNat else m >>> (-(e + p)).toNat
        let y := expNeg p v
        let one := 2 ^ (p + y.2)
        if n then f.enclosed 6 code false ((y.1 <<< (p + y.2)) / (one + y.1)) (-(p + y.2 : Nat))
        else f.enclosed 6 code false ((one <<< p) / (one + y.1)) (-p)

/-- sin(2πx), or cos(2πx) (R144, R145). -/
def Fmt.turns (f : Fmt) (isCos : Bool) (code : Nat) : Nat × Flags :=
  match f.decode code with
  | .nan s => (f.nanCode, flagIf s flagNV)
  | .inf _ => (f.nanCode, flagNV)
  | .fin n m e =>
    let one := f.round false 1 0 false 0 false
    if m = 0 then (if isCos then one else (f.signed n 0, 0))
    else if 0 ≤ e then (if isCos then one else (0, 0))
    else
      let x := e + (Nat.log2 m : Int)
      let p := workBits (min x 0)
      -- the turn in [0, 1) of |x|, exact at p bits
      let v := (m <<< (p - (-e).toNat)) % 2 ^ p
      -- cosine as the sine of a quarter turn more
      let w := if isCos then (v + 2 ^ p / 4) % 2 ^ p else v
      let neg := (2 ^ p / 2 ≤ w) != (n && !isCos)
      let h := w % (2 ^ p / 2)
      let a := min h (2 ^ p / 2 - h)
      if h = 0 then (0, 0)
      else if a = 2 ^ p / 4 then f.round neg 1 0 false 0 false
      else
        let s := if a ≤ 2 ^ p / 8 then sine p ((2 * pi p * a) >>> p) else cosine p ((2 * pi p * (2 ^ p / 4 - a)) >>> p)
        f.enclosed (if isCos then 8 else 7) code neg s (-p)

/-- The special functions by number: 0 exp2, 1 log2, 2 rcp, 3 rsq, 4 sqrt, 5 tanh, 6 sig, 7 sin, 8 cos (R144, R145). -/
def Fmt.special (f : Fmt) (fn code : Nat) : Nat × Flags :=
  match fn with
  | 0 => f.exp2 code
  | 1 => f.log2 code
  | 2 =>
    match f.decode code with
    | .nan s => (f.nanCode, flagIf s flagNV)
    | .inf n => (f.signed n 0, 0)
    | .fin n m e =>
      if m = 0 then (f.signed n f.infCode, 0)
      else
        let q := quotient 1 0 m e
        f.round n q.1 q.2.1 q.2.2 0 false
  | 3 =>
    match f.decode code with
    | .nan s => (f.nanCode, flagIf s flagNV)
    | .inf n => if n then (f.nanCode, flagNV) else (0, 0)
    | .fin n m e =>
      if m = 0 then (f.signed n f.infCode, 0)
      else if n then (f.nanCode, flagNV)
      else
        let q := inverseRoot m e
        f.round false q.1 q.2.1 q.2.2 0 false
  | 4 =>
    match f.decode code with
    | .nan s => (f.nanCode, flagIf s flagNV)
    | .inf n => if n then (f.nanCode, flagNV) else (f.infCode, 0)
    | .fin n m e =>
      if m = 0 then (f.signed n 0, 0)
      else if n then (f.nanCode, flagNV)
      else
        let q := squareRoot m e
        f.round false q.1 q.2.1 q.2.2 0 false
  | 5 => f.tanh code
  | 6 => f.sigmoid code
  | 7 => f.turns false code
  | _ => f.turns true code

end Sys2Proof
end

