-- ==== Sys2Proof/Machine/Shadow.lean ====
section
/-! DEFINITION. The shadow units: the key of a result, divergence, the strikes that make the two units differ, and what a
divergence reports (R351 to R353). -/
namespace Sys2Proof

/-- The mantissa bits a shadow computes (R351). -/
def Fmt.shadowBits (f : Fmt) : Nat := min 8 f.manBits
/-- The key of a code: exponent and top mantissa bits by truncation, negated when the sign is 1; none for a NaN (R352). -/
def Fmt.key (f : Fmt) (code : Nat) : Option Int :=
  if (f.decode code).isNan then none
  else some (signedMag (code.testBit f.signBit) ((code % 2 ^ f.signBit) >>> (f.manBits - f.shadowBits)))
/-- Two keys diverge: exactly one is a NaN's, or they differ by more than 2 (R352). -/
def diverges (a b : Option Int) : Bool :=
  match a, b with
  | none, none => false
  | some x, some y => decide (2 < (x - y).natAbs)
  | _, _ => true

/-- A divergence: its lane and the keys of the main and the shadow result (R353). -/
structure Split where
  lane : Nat
  main : Option Int
  shadow : Option Int
  deriving DecidableEq, Repr

/-- The divergence of a main and a shadow result, where there is one (R352). -/
def Fmt.split (f : Fmt) (lane main shadow : Nat) : List Split :=
  if diverges (f.key main) (f.key shadow) then [⟨lane, f.key main, f.key shadow⟩] else []

end Sys2Proof

namespace Sys2Proof.Machine
open Sys2Proof

/-- The bits that strikes flip in the next result of a unit of a core at a place: of its main part, or of its shadow. -/
def State.struck (s : State) (c unit place : Nat) (shadow : Bool) : Nat :=
  s.strikes.foldl (fun v e => if e.1 == c && e.2.1 == unit && e.2.2.1 == place && e.2.2.2.2 == shadow then v ^^^ e.2.2.2.1.toNat else v) 0

/-- A code as the main part of a unit makes it, and its divergence from what the shadow makes of the same operands: the
two agree but for what strikes flip (R351, R352; log 48). `bit` is where the code lies in what a strike flips. -/
def State.mainResult (s : State) (c unit : Nat) (f : Fmt) (place lane bit code : Nat) : Nat × List Split :=
  if s.strikes.isEmpty then (code, [])
  else
    let main := (code ^^^ (s.struck c unit place false >>> bit)) % 2 ^ f.width
    let shadow := (code ^^^ (s.struck c unit place true >>> bit)) % 2 ^ f.width
    (main, f.split lane main shadow)

/-- The strikes on a unit's results at the places that `p` picks are spent. -/
def State.spend (s : State) (c unit : Nat) (p : Nat → Bool) : State :=
  { s with strikes := s.strikes.filter (fun e => !(e.1 == c && e.2.1 == unit && p e.2.2.1)) }

/-- [15:0] of a key; a NaN has none: a free value (R353, log 4). -/
def keyBits (k : Option Int) (free : Nat) : Nat :=
  match k with
  | some v => wrap 16 v
  | none => (Config.freeBits free 5).toNat % 2 ^ 16
/-- The INFO of the SHADOW trap of a list of divergences, from the first on (R353). -/
def shadowInfo (field free : Nat) (l : List Split) : Word :=
  match l with
  | [] => 0
  | d :: rest => BitVec.ofNat 64 ((min 255 rest.length <<< 56) ||| (d.lane % 128 <<< 49) ||| (field % 64 <<< 40) ||| (keyBits d.main free <<< 16) ||| keyBits d.shadow free)

/-- The divergences of a slot's results reported, and the strikes they met spent (R353). -/
def Bun.shadowed (b : Bun) (unit field : Nat) (p : Nat → Bool) (l : List Split) : Bun :=
  let b1 := b.withState (fun s => s.spend b.cur.core unit p)
  if l.isEmpty then b1 else b1.addDue { cause := 0x0F, sub := unit, info := shadowInfo field b.st.free l }

end Sys2Proof.Machine
end

