-- ==== Sys2Proof/Machine/Draws.lean ====
section
/-! DEFINITION. Draw triples: leaves, the random source, the coin and trees of merges (R224 to R228), and the
attention operator (R237). -/
namespace Sys2Proof

/-- A draw triple: FP32 maximum and mass, and an index (R224). -/
structure Triple where
  m : Nat
  w : Nat
  i : Nat
  deriving DecidableEq, Repr

/-- The canonical empty triple (R224). -/
def Triple.empty : Triple := ⟨0xFF800000, 0, 0xFFFFFFFF⟩
/-- Mass zero (R224). -/
def Triple.zero (t : Triple) : Bool := (fmt32.decode t.w).isZero
/-- A triple as the device writes it: the canonical form where its mass is zero (R224). -/
def Triple.canonical (t : Triple) : Triple := if t.zero then .empty else t
/-- The register pair of a triple (R224). -/
def Triple.high (t : Triple) : Nat := t.m * 2 ^ 32 + t.w
/-- The triple of a register pair. -/
def Triple.ofPair (x y : Nat) : Triple := ⟨bits x 63 32, x % 2 ^ 32, y % 2 ^ 32⟩

/-- The FP32 code of 1. -/
def one32 : Nat := 0x3F800000

/-- round_ne_f32(log2(e) / T) for a positive finite T (R225). -/
def log2eOver (t : Nat) : Nat :=
  match fmt32.decode t with
  | .fin _ m e =>
    let q := (2 ^ 400 / ln2 200) * 2 ^ 40 / m
    (fmt32.enclosed 9 t false q (-240 - e)).1
  | _ => 0

/-- The leaf of an element under weight mode, or under logit mode at temperature `t` (R225). -/
def leafTriple (weight : Bool) (x i t : Nat) : Triple × Flags :=
  let v := fmt32.decode x
  if weight then
    if v.isNan || (v.isNeg && !v.isZero) then (.empty, flagNV)
    else if v.isZero then (.empty, 0)
    else (⟨0, x, i⟩, 0)
  else
    let temp := fmt32.decode t
    if temp.isNan || (temp.isNeg && !temp.isZero) || v.isNan then (.empty, flagNV)
    else if v = .inf true then (.empty, 0)
    else if temp.isZero then (⟨x, one32, i⟩, 0)
    else if temp.isInf then (⟨0, one32, i⟩, 0)
    else
      let y := if v.isZero then 0 else (fmt32.mul x (log2eOver t)).1
      let f := flagIf (fmt32.decode y).isInf flagOF
      if fmt32.decode y = .inf true then (.empty, f) else (⟨y, one32, i⟩, f)

/-- draw_u32 (R226). -/
def drawU32 (k c : Nat) : Nat :=
  let w := 2 ^ 64
  let x0 := (k % w) ^^^ ((c * 0x9E3779B97F4A7C15) % w)
  let x1 := ((x0 ^^^ (x0 / 2 ^ 32)) * 0xD6E8FEB86659FD93) % w
  let x2 := ((x1 ^^^ (x1 / 2 ^ 32)) * 0xD6E8FEB86659FD93) % w
  (x2 ^^^ (x2 / 2 ^ 32)) / 2 ^ 32

/-- FP32 division by RNE. -/
def div32 (x y : Nat) : Nat × Flags := fmt32.div (fmt32.decode x) (fmt32.decode y)

/-- min(floor(p · 2^32), 2^32 − 1), none for a NaN (R228); a negative p is below every u. -/
def coinBound (p : Nat) : Option Nat :=
  match fmt32.decode p with
  | .nan _ => none
  | .inf n => some (if n then 0 else 2 ^ 32 - 1)
  | .fin n m e =>
    if n then some 0
    else some (Nat.min (if 0 ≤ e + 32 then m <<< (e + 32).toNat else m >>> (-(e + 32)).toNat) (2 ^ 32 - 1))

/-- The factor of one side of a rescaling merge: 1 where its maximum is the greater, else 2^(ms − m). -/
def rescale (ms m : Nat) : Nat × Flags :=
  if (fmt32.test 0 ms m).1 then (one32, 0)
  else
    let d := fmt32.sub ms m
    let f := fmt32.exp2 d.1
    (f.1, d.2 ||| f.2)

/-- merge_triple (R228); `pick` is the free choice of the survivor where p is a NaN (log 4). -/
def mergeTriple (greedy : Bool) (a b : Triple) (u : Nat) (pick : Bool) : Triple × Flags :=
  if a.zero && b.zero then (.empty, 0)
  else if a.zero then (b, 0)
  else if b.zero then (a, 0)
  else if greedy then
    if (fmt32.test 2 a.m b.m).1 || ((fmt32.test 0 a.m b.m).1 && decide (b.i < a.i)) then (⟨b.m, one32, b.i⟩, 0)
    else (⟨a.m, one32, a.i⟩, 0)
  else
    let m := (fmt32.least true a.m b.m).1
    let fa := rescale a.m m
    let fb := rescale b.m m
    let wa := fmt32.mul a.w fa.1
    let wb := fmt32.mul b.w fb.1
    let f0 := (fa.2 ||| fb.2 ||| wa.2 ||| wb.2) &&& ~~~flagNV
    let isZero := fun x => (fmt32.decode x).isZero
    let isInf := fun x => fmt32.decode x = .inf false
    if isZero wa.1 then ((Triple.mk m wb.1 b.i).canonical, f0)
    else if isZero wb.1 then ((Triple.mk m wa.1 a.i).canonical, f0)
    else
      let w := fmt32.add wa.1 wb.1
      let half := fun x => fmt32.mul x 0x3F000000
      let p : Nat × Flags :=
        if isInf wa.1 && isInf wb.1 then (0x3F000000, 0)
        else if isInf wa.1 then (0, 0)
        else if isInf wb.1 then (one32, 0)
        else if isInf w.1 then
          let hb := half wb.1
          let s := FVal.add ((fmt32.decode wa.1).mul (fmt32.decode 0x3F000000)).1 ((fmt32.decode wb.1).mul (fmt32.decode 0x3F000000)).1
          let h := fmt32.encode s.1 0 false
          let q := div32 hb.1 h.1
          (q.1, hb.2 ||| h.2 ||| q.2)
        else div32 wb.1 w.1
      let f := (f0 ||| w.2 ||| p.2) &&& ~~~flagNV
      let survivor := match coinBound p.1 with
        | some t => decide (u < t)
        | none => pick
      ((Triple.mk m w.1 (if survivor then b.i else a.i)).canonical, f)

/-- The random sources of a tree of merges by node, its free choices, and each node's result as its main unit makes it
(R226, R228, R351). -/
structure Coins where
  u : Nat → Nat
  pick : Nat → Bool
  main : Nat → Triple → Triple × List Split := fun _ t => (t, [])

/-- One level of a tree of merges: adjacent pairs, node numbers counted on from `node` (R227). -/
def mergeLevel (greedy : Bool) (c : Coins) (l : List Triple) (node : Nat) : List Triple × Flags × List Split × Nat :=
  match l with
  | a :: b :: rest =>
    let r := mergeTriple greedy a b (c.u node) (c.pick node)
    let m := c.main node r.1
    let t := mergeLevel greedy c rest (node + 1)
    (m.1 :: t.1, r.2 ||| t.2.1, m.2 ++ t.2.2.1, t.2.2.2)
  | l => (l, 0, [], node)

/-- A tree of merges over 2^levels triples, nodes numbered level by level from the leaves (R227). -/
def mergeTree (greedy : Bool) (c : Coins) (levels : Nat) (l : List Triple) (node : Nat) : Triple × Flags × List Split :=
  match levels with
  | 0 => (l.headD .empty, 0, [])
  | n + 1 =>
    let r := mergeLevel greedy c l node
    let t := mergeTree greedy c n r.1 r.2.2.2
    (t.1, r.2.1 ||| t.2.1, r.2.2.1 ++ t.2.2)

/-- rescale_merge of two attention partials of `d` values (R237): the codes (m, s, o …). -/
def rescaleMerge (a b : List Nat) : List Nat :=
  match a, b with
  | ma :: va, mb :: vb =>
    let m := (fmt32.least true ma mb).1
    let fa := (rescale ma m).1
    let fb := (rescale mb m).1
    m :: List.zipWith (fun x y => (fmt32.add (fmt32.mul x fa).1 (fmt32.mul y fb).1).1) va vb
  | _, _ => []

end Sys2Proof
end

