-- ==== Sys2Proof/Machine/Queue.lean ====
section
/-! DEFINITION. The order within the memory queues: where a request's sectors are, which of two meet, and what a request
itself waits for (R176, R180, R194, R208 to R210, R333, R445). -/
namespace Sys2Proof.Machine
open Sys2Proof

/-- The core a window address names, and the byte there (R176). -/
def windowPlace (c va : Nat) : Nat × Nat := (coreCluster c * Config.clusterCores + bits va 28 21, va % 2 ^ 21)

/-- The entry that translates an address for a request: that of the walk it made or joined, else one a TLB holds (R180,
R363). -/
def State.hitFor (s : State) (r : Request) (va : Nat) : Option TlbEntry :=
  match r.entry.filter (·.covers r.slotOwner va) with
  | some e => some e
  | none => s.tlbHit r.core r.slotOwner va
/-- Where a sector of a request is, as far as its translation is known: space and address. -/
def State.partPlace (s : State) (r : Request) (p : Part) : Nat × Nat :=
  if r.space = 2 then (2, p.addr)
  else if r.space = 3 then (0, p.addr)
  else match s.hitFor r p.addr with
    | some e => (0, e.ppage + (p.addr - e.vpage))
    | none => (3 + r.slotOwner, p.addr)
/-- Two sectors of requests may share a byte: of one whose translation is not known, only the place within its smallest
page is (R180, R194). -/
def State.partsMeet (s : State) (r e : Request) (p q : Part) : Bool :=
  let a := s.partPlace r p
  let b := s.partPlace e q
  (p.mask &&& q.mask) != 0#32 &&
    (a == b || (a.1 != 2 && b.1 != 2 && (3 ≤ a.1 || 3 ≤ b.1) && a.2 % 65536 == b.2 % 65536))
/-- A sector of a request and what a wait reads may share a byte. -/
def State.waitMeets (s : State) (w : Waiter) (r : Request) (p : Part) : Bool :=
  let m := BitVec.ofNat 32 (maskRange (w.addr % 32) w.size)
  let a := s.partPlace r p
  (p.mask &&& m) != 0#32 && match w.spad with
    | some c => a.1 == 2 && windowPlace r.core p.addr == (c, w.addr / 32 * 32)
    | none => (a.1 == 0 && a.2 == w.module.getD s.modnum * 2 ^ 44 + w.addr / 32 * 32) ||
        (3 ≤ a.1 && a.2 % 65536 == w.addr / 32 * 32 % 65536)
/-- The module a request is for: none while its translation is not known or where it is a multicast group. -/
def State.requestModule (s : State) (r : Request) : Option Nat :=
  if r.space = 2 then some s.modnum
  else match r.parts.head? with
    | none => none
    | some p => match s.partPlace r p with
      | (0, pa) => if 3072 ≤ pa / 2 ^ 44 then none else some (pa / 2 ^ 44)
      | _ => none

/-- The place of a request among the acquires of its strand: its identity, or of one sent again that of the request it
stands for (R322, R445). -/
def Request.place (r : Request) (id : Nat) : Nat := if r.first = 0 then id else r.first
/-- A faulted acquire that still holds the strand's later loads (R445). -/
def State.acquireHeld (s : State) (id : Nat) (r : Request) : Bool :=
  !r.handler && (s.core r.core).share.streams.any (fun w => w.2.elems.any (fun e =>
    decide (e.origin < r.place id) && (e.fault.isSome || e.pending) && match e.again with
      | some a => a.order == .acquire && a.sameStrand r
      | none => false))
/-- What a request itself waits for: its release (R208), its ordered flag, which a route-1 chunk of Q0 that is still to be taken
holds back too (R210, R286, R297), an earlier acquire (R209). -/
def State.ownReady (s : State) (id : Nat) (r : Request) : Bool :=
  (r.order != .release || s.writerDone r.gang r.member r.slot id r.scope) &&
  (!r.oflag || s.reqs.all (fun e => !(decide (e.1 < id) && e.2.core == r.core && e.2.queue == r.queue && (e.2.changes || e.2.order == .acquire) &&
    (match s.requestModule e.2, s.requestModule r with
      | some m, some n => m == n
      | _, _ => true))) && (r.queue != 0 || (s.core r.core).collq.all (fun k => !(decide (k.id < id) &&
    (s.requestModule r).all (fun n => n == k.addr / 2 ^ 44))))) &&
  (r.stream.isNone || (s.reqs.all (fun e => !(decide (e.2.place e.1 < r.place id) && e.2.sameStrand r && e.2.order == .acquire && e.2.stream.isSome &&
      !(r.handler && e.2.resend))) && !s.acquireHeld id r))

/-- A sector of a request goes, or may go, to another module: its translation is not known, or names another. -/
def State.partLeaves (s : State) (r : Request) (p : Part) : Bool :=
  match s.partPlace r p with
  | (0, pa) => pa / 2 ^ 44 % 4096 != s.modnum
  | (n, _) => n != 2

/-- The next sector to perform: a store stops at its first fault (R336). -/
def Request.next (r : Request) : Option Nat :=
  if r.isStore && r.faultOf.isSome then none else r.parts.findIdx? (fun p => !p.done && p.fault.isNone)
/-- A request issued before a wait whose queue it shares keeps the wait from its home: one not yet sent, one to a byte the
wait reads (R194), or one through the window to the scratchpad of the same core (R183). -/
def State.waitsBehind (s : State) (w : Waiter) : Bool :=
  s.reqs.any (fun e =>
    let r := e.2
    decide (e.1 ≤ w.id) && r.core == w.core && r.queue == w.queue && !r.finished &&
      ((!r.begun && (!s.ownReady e.1 r || (w.module.isSome && (r.next.bind (fun i => r.parts[i]?)).any (s.partLeaves r ·)))) || r.parts.any (fun p => !p.done && p.fault.isNone &&
        (s.waitMeets w r p || (r.space == 2 && w.spad == some (windowPlace r.core p.addr).1)))))
end Sys2Proof.Machine
end

