-- ==== Sys2Proof/Machine/Issue.lean ====
section
/-! DEFINITION. The issue of a bundle: fetching and dividing it (R58 to R61), the defects of its prefixes (R330),
the choice of a strand (R277), what a bundle does when it issues (R62 to R64, R72, R202), when it traps and when
it stalls, and the bundles that hold their strand after issue (R25, R28, R205, R215, R219). -/
namespace Sys2Proof.Machine
open Sys2Proof

/-! ### Fetching and dividing a bundle -/

/-- One present slot of a bundle: its number, prefix word, slot word and parcel (R59). -/
structure Staged where
  slot : Nat
  pfx : Option (BitVec 32)
  word : BitVec 32
  parcel : BitVec 16
  deriving DecidableEq, Repr

/-- The slot class of a slot number, in the order of R58. -/
def slotClass (n : Nat) : SlotClass :=
  match n with
  | 0 => .s
  | 1 => .b
  | 2 => .m
  | 3 => .m
  | 4 => .v
  | 5 => .v
  | 6 => .x
  | _ => .e

/-- The present slots of a bundle whose bytes from its header on are `line`, and its length (R59). -/
def divide (line hdr : Nat) (slots : List Nat) (off : Nat) : List Staged × Nat :=
  match slots with
  | [] => ([], off)
  | s :: rest =>
    if hdr.testBit s then
      let hasPfx := (s == 2 && hdr.testBit 12) || (s == 3 && hdr.testBit 13)
      let off1 := if hasPfx then off + 4 else off
      let w := BitVec.ofNat 32 (line >>> (8 * off1))
      let ext := takesExt (slotClass s) w
      let r := divide line hdr rest (if ext then off1 + 6 else off1 + 4)
      (⟨s, if hasPfx then some (BitVec.ofNat 32 (line >>> (8 * off))) else none, w,
        if ext then BitVec.ofNat 16 (line >>> (8 * (off1 + 4))) else 0⟩ :: r.1, r.2)
    else divide line hdr rest off
termination_by structural slots

/-- What stands at a strand's PC. -/
inductive Fetched
  | padding
  | refused (t : TrapInfo)
  | bundle (slots : List Staged) (len wcnt : Nat)
  deriving DecidableEq, Repr

/-- The header checks and the division of the bundle in `avail` bytes up to the end of its fetch line (R60, R61). R316
gives no order among the header checks: a padding header with both kinds of nonzero field reports SUB 0 (log 43). -/
def readBundle (line avail : Nat) : Fetched :=
  let hdr := line % 65536
  if hdr % 256 = 0 then
    if bits hdr 15 14 ≠ 0 then .refused { cause := 1, sub := 0, slot := 8 }
    else if bits hdr 15 8 ≠ 0 then .refused { cause := 1, sub := 3, slot := 8 }
    else .padding
  else
    let r := divide line hdr (List.range 8) 2
    if bits hdr 15 14 ≠ 0 then .refused { cause := 1, sub := 0, slot := 8 }
    else if (hdr.testBit 12 && !hdr.testBit 2) || (hdr.testBit 13 && !hdr.testBit 3) then
      .refused { cause := 1, sub := 1, slot := 8 }
    else if avail < r.2 then .refused { cause := 1, sub := 2, slot := 8 }
    else .bundle r.1 r.2 (bits hdr 11 8)

/-- The bundle at a strand's PC, fetched under the owner's translation and key (R27, R60, R335). -/
def State.fetch (s : State) (c : Nat) (t : Strand) : State × Fetched :=
  let pc := t.pc.toNat
  let q := s.gangSlot t.gang
  match s.translate c q pc .fetch with
  | (s1, .error e) => (s1, .refused { cause := 7, sub := e, slot := 8, addr := t.pc })
  | (s1, .ok pa) =>
    match s1.place pa with
    | .local_ off =>
      let avail := 64 - pc % 64
      let v := s1.peek off avail (s1.slotKey q)
      (s1.touchLine (off / 128), readBundle v avail)
    | _ => (s1, .refused { cause := 7, sub := 0, slot := 8, addr := t.pc })

/-- The defects of a prefix word: reserved bits and unsupplied fields, then reserved codes (R330). -/
def prefixDefect (p : BitVec 32) : Option Stop :=
  let n := p.toNat
  let sup := fun i => n.testBit i
  let field := fun (hi lo i : Nat) => bits n hi lo ≠ 0 && !sup i
  if bits n 31 21 ≠ 0 || n.testBit 12 || bits n 4 3 ≠ 0 ||
      field 2 0 16 || field 6 5 17 || field 8 7 18 || field 10 9 19 || field 11 11 20 then
    some (.trap { cause := 1, sub := 5 })
  else if bits n 15 14 = 3 || (sup 17 && bits n 6 5 = 3) || (sup 16 && 5 ≤ bits n 2 0) then
    some (.trap { cause := 4, info := p.setWidth 64 })
  else none

/-- The defect a slot's words have, of its prefix or of its slot word (R316, R330). -/
def Staged.defect (p : Staged) (word : Option Defect) : Option TrapInfo :=
  match firstStop [word.map (fun d => .trap (defectTrap d)), p.pfx.bind prefixDefect] with
  | some (.trap t) => some { t with slot := p.slot }
  | _ => none

/-! ### Choosing a strand -/

/-- The rank of a strand's role (R48, R277). -/
def Core.rank (k : Core) (role : Nat) : Nat :=
  match role with
  | 1 => bits k.role.toNat 1 0
  | 2 => bits k.role.toNat 3 2
  | 3 => bits k.role.toNat 5 4
  | _ => 0

/-- Whether strand `a` issues before strand `b` of the ready strands (R277). -/
def Core.issuesBefore (k : Core) (x y : Nat × Strand) : Bool :=
  let a := x.2
  let b := y.2
  let age := k.age.toNat % 256
  let aged := fun (t : Strand) => decide (age ≤ t.missed + 3)
  let ra := k.rank a.role
  let rb := k.rank b.role
  if aged a || aged b then
    if aged a && aged b then
      if a.missed = b.missed then (if ra = rb then decide (x.1 < y.1) else decide (rb < ra))
      else decide (b.missed < a.missed)
    else aged a
  else if ra = rb then (if a.lastIssue = b.lastIssue then decide (x.1 < y.1) else decide (a.lastIssue < b.lastIssue))
  else decide (rb < ra)

/-- The ready strand that issues (R277). -/
def Core.choose (k : Core) (ready : List (Nat × Strand)) : Option Nat :=
  (ready.foldl (fun best e =>
    match best with
    | none => some e
    | some b => if k.issuesBefore e b then some e else best) none).map (·.1)

/-- Strands whose next bundle may be examined: resident, not halted, not held, not waiting out a count. -/
def Core.examinable (k : Core) : List Nat :=
  (k.ctxs.filter (fun e => !e.2.halted && e.2.holds.isEmpty && decide (e.2.readyAt ≤ k.cycle))).map (·.1)

/-! ### What a bundle does when it issues -/

/-- The value of a byte both memory slots of a bundle store: one of the two (R202). -/
def State.storedByte (s : State) (stores : List (Nat × Nat × Byte)) (off : Nat) : Option Byte :=
  let last := fun (slot : Nat) => ((stores.filter (fun e => e.1 == slot && e.2.1 == off)).getLast?).map (·.2.2)
  match last 2, last 3 with
  | some x, some y => some (if Config.freeChoice s.free off then x else y)
  | some x, none => some x
  | none, y => y

/-- The lanes of a vector register that a load writes (R131). -/
def SpadLoad.lanes (l : SpadLoad) : Pred :=
  l.bytes.foldl (fun (m : Pred) e => m ||| ((1#128) <<< (e.1 / 4))) 0
/-- A load of the own scratchpad resolved: a byte the other slot stores reads either way (R202). -/
def State.resolveLoadBytes (s : State) (c : Nat) (stores : List (Nat × Nat × Byte)) (l : SpadLoad) : BitVec 4096 :=
  BitVec.ofNat 4096 (l.bytes.foldl (fun v e =>
    let now := Tab.get (s.core c).spad 0#8 e.2
    let other := ((stores.filter (fun x => x.1 != l.slot && x.2.1 == e.2)).getLast?).map (·.2.2)
    let b := match other with
      | some y => if Config.freeChoice s.free (2097152 + e.2) then y else now
      | none => now
    setBits v (8 * e.1) 8 b.toNat) l.old.toNat)

/-- The scratchpad accesses of a bundle: its loads become results, its stores are performed (R202, R261); a word stored whole
is uncorrectable no more (R358). -/
def State.performSpad (s : State) (c : Nat) (loads : List SpadLoad) (stores : List (Nat × Nat × Byte))
    (id : Nat) : State × List Landing :=
  let k := s.core c
  let results := loads.mapIdx (fun i l =>
    ({ dst := l.dst, val := s.resolveLoadBytes c stores l, due := k.cycle + 7, id := id + i, lanes := l.lanes } : Landing))
  let offs := stores.map (·.2.1)
  let spad := offs.foldl (fun m o =>
    match s.storedByte stores o with
    | some b => Tab.set m 0#8 o b
    | none => m) k.spad
  let s1 := s.setCore c { k with spad := spad }
  let s2 := { s1 with badSpad := s1.badSpad.filter (fun e => !(e.1 == c && (List.range 8).all (fun i => offs.contains (8 * e.2 + i)))) }
  (if stores.isEmpty then s1 else s2.testSpad c 0 Config.sramBytes, results)

/-- The requests of a core in flight when SPLIT changes fill no L1 line (R52). -/
def State.barL1 (s : State) (c : Nat) : State :=
  { s with reqs := s.reqs.map (fun e => (e.1, if e.2.core == c then { e.2 with noL1 := true } else e.2)) }

/-- The L1 and scratchpad after SPLIT changes: every L1 line and the scratchpad bytes that pass to the L1 are
lost, bytes that pass to the scratchpad read 0 (R52). -/
def Core.resplit (k : Core) (v : Word) : Core :=
  let k1 := { k with l1 := [], share := { k.share with split := v &&& 7#64 } }
  { k1 with spad := k1.spad.filter (fun e => decide (e.1 < k1.spadSize)) }

/-- A control register after a CRW (R40, R47 to R50, R54, R128); reserved bits are discarded (R3). A flag in flight to SSR
when CRW writes it ends undefined (R72). -/
def State.writeControl (s : State) (c x cr : Nat) (v : Word) : State :=
  let share := fun (f : Share → Share) => s.mapCore c (fun k => { k with share := f k.share })
  if cr = 1 then s.mapStrand c x (fun t => { t with flags := v.setWidth 6, inflight := t.inflight.map (fun l => if l.dst = .flags then { l with clash := true } else l) })
  else if cr = 2 then s.mapCore c (fun k => { k with age := if v.toNat % 256 < 8 then 8 else v &&& 0xFF#64 })
  else if cr = 3 then s.mapCore c (fun k => { k with role := v &&& 0x3F#64 })
  else if cr = 4 then
    let s1 := (s.mapCore c (fun k => k.resplit v)).barL1 c
    { s1 with badSpad := s1.badSpad.filter (fun e => !(e.1 == c && decide ((s1.core c).spadSize ≤ 8 * e.2))) }
  else if cr = 5 then share (fun h => { h with mdef := v &&& 0xFE7#64 })
  else if cr = 6 then share (fun h => { h with qcfg := v &&& 0xFFFF#64 })
  else if cr = 7 then share (fun h => { h with dseed := v })
  else if cr = 8 then share (fun h => { h with fsel := v &&& 0x7F#64 })
  else if 16 ≤ cr && cr < 32 then share (fun h => { h with fmts := Tab.set h.fmts 0 (cr - 16) v })
  else if 32 ≤ cr && cr < 48 then
    let n := (cr - 32) / 2
    share (fun h =>
      let r := Tab.get h.rings {} n
      let r1 := if cr % 2 = 0 then { base := bits v.toNat 15 0, size := bits v.toNat 31 16, head := 0, tail := 0 }
        else { r with head := bits v.toNat 15 0, tail := bits v.toNat 31 16 }
      { h with rings := Tab.set h.rings {} n r1 })
  else s

/-- A ring position advanced by a count (R54, R264). -/
def Ring.advance (r : Ring) (p n : Nat) : Nat := if r.size = 0 then 0 else (p + n) % (2 * r.size)
/-- A ring with units pushed: TAIL advances (R264). -/
def Ring.pushed (r : Ring) (n : Nat) : Ring := { r with tail := r.advance r.tail n }
/-- A ring with units popped: HEAD advances (R264). -/
def Ring.popped (r : Ring) (n : Nat) : Ring := { r with head := r.advance r.head n }
/-- The units between HEAD and TAIL (R54). -/
def Ring.occupancy (r : Ring) : Nat := if r.size = 0 then 0 else (r.tail + 2 * r.size - r.head) % (2 * r.size)

/-- One gang-share change of a bundle made (R45, R46). -/
def State.applyShare (s : State) (c x : Nat) (w : ShareWrite) : State :=
  let share := fun (f : Share → Share) => s.mapCore c (fun k => { k with share := f k.share })
  let fresh := fun (h : Share) (n : Nat) => { h with bad := h.bad.filter (· ≠ n) }
  match w with
  | .crw cr v => (share (fun h => fresh h cr)).writeControl c x cr v
  | .mp n v => share (fun h => { fresh h (128 + n) with mp := Tab.set h.mp 0 n v })
  | .bind n q e => share (fun h => { fresh h (64 + n) with streams := Tab.put h.streams n { queue := q, elemSz := e, elems := [] } })
  | .unbind n => share (fun h => { fresh h (64 + n) with streams := Tab.erase h.streams n })
  | .push ring n => share (fun h => { h with rings := Tab.set h.rings {} ring ((Tab.get h.rings {} ring).pushed n) })
  | .pop ring n => share (fun h => { h with rings := Tab.set h.rings {} ring ((Tab.get h.rings {} ring).popped n) })
  | .patsw => share (fun h => { h with patsel := h.patsel ^^^ 1#64 })

/-- The streams a bundle read lose their head (R53). -/
def State.popStreams (s : State) (c : Nat) (ws : List Nat) : State :=
  s.mapCore c (fun k =>
    let popped := ws.foldl (fun m n =>
      match Tab.find? m n with
      | some w => Tab.put m n { w with elems := w.elems.drop 1 }
      | none => m) k.share.streams
    { k with share := { k.share with streams := popped } })

/-- A wait tested as it reaches its home (R260, R261).  A home on another module answers when it will: whether it has,
what GEN it saw, and whether it faults the wait, are free (log 8); one that has not yet is no REMOTE_NO_ANSWER, since a wait
waits as long as its TEXP says (log 175). An answer of 16 and a sub-cause is a fault (R372, R383). A test of global memory
reads the word where it stands and fills nothing, the model's choice (log 155). -/
def State.testWaiter (s : State) (w : Waiter) : State :=
  match w.module, w.barrier, w.spad with
  | some _, b, _ =>
    let s1 := { s with free := s.free + 1 }
    if w.module.any (fun m => Tab.get s.router.modules .lost m == .lost) then s.answer w 19 0
    else if Config.freeChoice s.free 5 then s1.answer w (if b.isSome && Config.freeChoice s.free 6 then 2 else 0) ((Config.freeBits s.free 5).toNat % 65536)
    else if Config.freeChoice s.free 12 then
      let sub := homeSub (Config.freeBits s.free 12).toNat
      { s1 with router := if sub = 4 then { s1.router with modules := Tab.put s1.router.modules (w.module.getD 0) .hibernating } else s1.router }.answer w (16 + sub) 0
    else s1
  | none, none, some c => s.testSpad c w.addr w.size
  | none, none, none => (s.touchLine (w.addr / 128)).testGlobal w.addr w.size
  | none, some _, _ =>
    (s.touchLine (w.addr / 128)).testBarrier (w.addr / 16) (s.peek (w.addr / 16 * 16) 2 (s.slotKey w.slotOwner))

/-- Whether a wait may be sent: its queue is not frozen, nothing earlier in it comes first, and its home holds fewer
than 4,096 (R194, R374). -/
def State.maySend (s : State) (w : Waiter) : Bool :=
  let home := fun (v : Waiter) => match v.spad with
    | some c => 4 + c
    | none => homeCluster v.addr
  (!w.queued || (!(s.core w.core).isFrozen w.queue && !s.waitsBehind w &&
    !s.waiters.any (fun v => !v.sent && v.queued && v.asker.isNone && v.core == w.core && v.queue == w.queue && decide (v.id < w.id)))) &&
    (w.module.isSome || decide ((s.waiters.filter (fun v => v.sent && v.module.isNone && home v == home w)).length < 4096))

/-- A wait sent to its home: on another module, under a sequence number (R381). -/
def State.sendWaiter (s : State) (w : Waiter) : State :=
  match w.module with
  | none => s.testWaiter w
  | some m =>
    let seq := s.nextReq + 1
    let w1 := { w with seq := seq }
    { s with nextReq := seq, outbox := s.outbox ++ [OutMsg.hold m seq w.addr w.size w.cond w.mask w.cmp w.barrier (s.slotOwner w.slotOwner)],
             waiters := s.waiters.map (fun v => if v = w then w1 else v) }.testWaiter w1

/-- A wait that found no answer enters its queue, and is sent to its home when it may be (R261, R373, R374). -/
def State.addWaiter (s : State) (w : Waiter) : State :=
  match s.waiters.find? (fun v => v.asker.isNone && v.core == w.core && v.ctx == w.ctx) with
  | some v =>
    if v.sent then (if v.module.isSome then s.testWaiter v else s)
    else if s.maySend v then
      let v1 := { v with sent := true }
      ({ s with waiters := s.waiters.map (fun u => if u = v then v1 else u) }).sendWaiter v1
    else s
  | none =>
    let sent := s.maySend w
    let w1 := { w with sent := sent }
    let s1 := { s with waiters := s.waiters ++ [w1] }
    if sent then s1.sendWaiter w1 else s1

/-- A line state word as another module may answer it: free, but a word that R191 allows (log 8). -/
def freeLineState (x y : BitVec 4096) : Nat :=
  let valid := x.extractLsb' 0 4
  let line : L2Line := { line := 0, valid := valid, data := y.setWidth 1024, code := if valid = 15#4 then (selectCode (y.setWidth 1024).toNat (x.getLsbD 4)).1 else 15, dirty := x.getLsbD 5, nocomp := x.getLsbD 6, used := 0, key := 0 }
  if x.getLsbD 7 then line.stateWord else 0
/-- A line of another module probed there for an owner: the strand holds the answer, which is free, 16 and a sub-cause for a fault
(R267, R335, R383; log 8). -/
def State.probeAway (s : State) (c x module off owner : Nat) : State :=
  let (s1, sub) := ({ s with nextReq := s.nextReq + 1, outbox := s.outbox ++ [OutMsg.probe module (s.nextReq + 1) off owner] }).freeReply module owner (module * 2 ^ 44 + off)
  { s1.mapStrand c x (fun t => { t with answer := some (match sub with
      | some e => (16 + e, 0)
      | none => (0, freeLineState (Config.freeBits s1.free 3) (Config.freeBits s1.free 4))) }) with free := s1.free + 1 }

/-- What a stalled bundle may do before it issues. -/
def State.act (s : State) (c x : Nat) (a : StallAct) : State :=
  match a with
  | .nothing => s
  | .oldest n => (s.publishOldest c x n).1
  | .sectors l => (s.publish c x (fun r => l.contains r.sector)).1
  | .vwait i => s.mapStrand c x (fun t => { t with vheld := some i })
  | .publish scope => (s.writerHalf c x scope).1
  | .phase scope => ((s.mapStrand c x (fun t => { t with phasing := true })).writerHalf c x scope).1
  | .banks => s.mapStrand c x (fun t => { t with bankSince := some (t.bankSince.getD (s.core c).cycle) })
  | .wait w => s.addWaiter w
  | .probe module off owner => s.probeAway c x module off owner

/-- A strand marked as stalled, and its act (R62, SNAP_ST). -/
def State.stalled (s : State) (c x : Nat) (why : Stall) (a : StallAct) : State :=
  (s.mapStrand c x (fun t => { t with stall := why })).act c x a

/-! ### Bundles that hold their strand after issue -/

/-- Whether a strand has an unretired matrix operation on its core (R121, R123). -/
def State.unretired (s : State) (c : Nat) (t : Strand) : Bool :=
  (s.core c).mq.any (fun o => o.gang == t.gang && o.member == t.member && o.slot == t.slot)

/-- Whether every access of a strand that changes memory has been acknowledged, route-1 chunks included (R25, R297). -/
def State.storesDone (s : State) (c _x : Nat) (t : Strand) : Bool :=
  s.reqs.all (fun e => !(e.2.changes && e.2.gang == t.gang && e.2.member == t.member && e.2.slot == t.slot)) &&
  (s.core c).collq.all (fun k => !(k.gang == t.gang && k.member == t.member && k.slot == t.slot))

/-- The folio of a strand (R28, Table 7). -/
def folioImage (t : Strand) (seq iter : Nat) (live : List Word) (pc : Word) : Nat :=
  let w0 := ((t.role % 4) <<< 62) ||| ((t.flags.toNat / 2) <<< 57) ||| (1 <<< 56) ||| ((t.member % 256) <<< 48) |||
    pc.toNat % 2 ^ 48
  let w1 := ((seq % 2 ^ 30) <<< 34) ||| ((t.slot % 4) <<< 32) ||| iter % 2 ^ 32
  ofBytes (([w0, w1] ++ live.map (·.toNat)).flatMap (bytesOf 8))

/-- YIELD completed: the folio is written through its translation and enters the cluster's resumption queue, and
the context is released (R28, R121). -/
def State.finishYield (s : State) (c x va pa : Nat) (live : List Word) (next : Word) : State :=
  match s.strand c x with
  | none => s
  | some t0 =>
    let t := t0.settleAll
    match s.gang t.gang with
    | none => s
    | some g =>
      let img := folioImage t g.nest g.iter live next
      let key := s.slotKey (s.gangSlot t.gang)
      let s1 := match s.place pa with
        | .local_ off => (s.engineWrite off 32 0xFFFFFFFF (img % 2 ^ 256) key).engineWrite (off + 32) 32 0xFFFFFFFF (img >>> 256) key
        | .remote m off => ((s.tellRemote m off 32 (img % 2 ^ 256) (s.gangOwner t.gang)).1.tellRemote m (off + 32) 32 (img >>> 256) (s.gangOwner t.gang)).1
        | _ => s
      let cl := coreCluster c
      (s1.setCluster cl { s1.cluster cl with folios := (s1.cluster cl).folios ++ [(va, t.gang, t.member, t.slot)] }).removeStrand c x

/-- A vitrine's backings exchanged and its generation advanced (R215); the swap of an entry with an uncorrectable word fails,
and its generation stays (R358; log 62). -/
def State.swapVitrine (s : State) (i : Nat) : State :=
  match Tab.find? s.vitrines i with
  | none => s
  | some v => if v.bad then s else { s with vitrines := Tab.put s.vitrines i { v with front := v.shadow, shadow := v.front, gen := v.gen + 1 } }

/-- The COPY_FAULT trap of DRAIN over the strand's copy faults, in issue order (R256, R369). -/
def drainTrap (fs : List CopyFault) : Option TrapInfo :=
  match fs with
  | [] => none
  | f :: rest =>
    some { cause := 0x0A, slot := 7, sub := f.sub, addr := f.addr,
           info := BitVec.ofNat 64 ((f.runs % 2 ^ 32) <<< 32 ||| (min rest.length 255) <<< 16 ||| (b2n f.dside) <<< 8 ||| f.span % 8) }

/-- HIBER after its bundle (R398): while a warning or a thermal emergency is in force the strand halts at the boundary after it; otherwise it
has no effect. -/
def State.hibernate (s : State) (c x : Nat) : State :=
  let st := (s.hreg 0x2000).toNat % 8
  if st = 3 || st = 6 then s.mapStrand c x (fun t => { t with saved := true }) else s

/-- The first of a strand's holds over; what remains of its wait count starts with the end of the last (R62). -/
def State.release (s : State) (c x : Nat) : State :=
  s.mapStrand c x (fun t =>
    let rest := t.holds.drop 1
    if rest.isEmpty then { t with holds := rest, readyAt := max t.readyAt ((s.core c).cycle + t.wcnt), wcnt := 0 } else { t with holds := rest })

/-- The slot of the instruction that holds a strand. -/
def Hold.slot (h : Hold) : Nat :=
  match h with
  | .exit => 1
  | .yield _ _ _ _ => 1
  | _ => 7

/-- A held bundle's own work has made it trap (a store of that bundle faulted, an operation of it failed its checksum):
the strand takes the trap at that bundle, and what held it goes on after the TRET (R205, R316, R321; log 44). -/
def State.parkTrap (s : State) (c x : Nat) (t : Strand) (i : TrapInfo) : State :=
  (s.setStrand c x { t with parked := some (t.lastPc, t.pc, t.holds), holds := [] }).takeTrap c x { i with slot := (t.holds.head?).elim 255 Hold.slot } t.lastPc t.lastPc

/-- The trap a held bundle meets: a due CHECKSUM under EXIT and YIELD, or a store fault of the queues that it reports
(R316, R321). -/
def State.heldTrap (s : State) (c : Nat) (t : Strand) (queues : List Nat) (covers : Bool) : Option TrapInfo :=
  let faults := queues.map (fun q => s.frozenTrap c q t)
  let due := if covers then (t.checksums.head?).map (fun tag => Stop.trap { cause := 0x0B, info := BitVec.ofNat 64 tag }) else none
  match firstStop (due :: faults) with
  | some (.trap i) => some i
  | _ => none

/-- Whether a copy of a strand is under way (R215, R219). -/
def State.copying (s : State) (t : Strand) (p : CopyOp → Bool) : Bool :=
  s.cores.any (fun k => k.2.copies.any (fun y => y.gang == t.gang && y.member == t.member && y.slot == t.slot && p y))

/-- A copy fault among those kept, in issue order (R256). -/
def insertFault (f : CopyFault) (l : List CopyFault) : List CopyFault :=
  match l with
  | [] => [f]
  | g :: r => if f.id < g.id then f :: g :: r else g :: insertFault f r

/-- DRAIN's end (R219, R256): the L1 lines its copies wrote are discarded and their faults reported. -/
def State.finishDrain (s : State) (c x : Nat) (t : Strand) (bundle : Word) : State :=
  let mine := fun (g m n : Nat) => g == t.gang && m == t.member && n == t.slot
  let lines := (s.cores.flatMap (fun k => k.2.copied.filter (fun y => mine y.1 y.2.1 y.2.2.1))).flatMap (·.2.2.2)
  let fs := s.cores.foldl (fun l k => (k.2.copyFaults.filter (fun f => mine f.gang f.member f.slot)).foldl (fun l f => insertFault f l) l) []
  let told : State := { s with cores := s.cores.map (fun (e : Nat × Core) => (e.1, { e.2 with copied := e.2.copied.filter (fun y => !mine y.1 y.2.1 y.2.2.1), copyFaults := e.2.copyFaults.filter (fun f => !mine f.gang f.member f.slot) })) }
  let s1 := (told.mapCore c (fun k => { k with l1 := k.l1.filter (fun l => !lines.contains l.line) })).release c x
  match drainTrap fs with
  | some i => s1.mapStrand c x (fun t => { t with due := t.due ++ [{ i with bundle := some bundle }] })
  | none => s1

/-- The path counter word of a queue (R253). -/
def Core.pathWord (k : Core) (q : Nat) : Nat :=
  (List.range 4).foldl (fun w p => w ||| (Tab.get k.paths 0 (4 * q + p) <<< (16 * p))) 0
/-- Whether a FENCE waits for an access of a strand, of those its bundle or an earlier one made up to an identity, in
the queues it names: one that changes memory, and under KIND 1 any that delivers an element (R253). -/
def State.fenceWaits (s : State) (c : Nat) (t : Strand) (queues : List Nat) (kind : Bool) (last : Nat) : Bool :=
  s.reqs.any (fun e =>
    let r := e.2
    r.gang == t.gang && r.member == t.member && r.slot == t.slot && e.1 ≤ last && queues.contains r.queue &&
      (r.changes || (kind && r.stream.isSome))) ||
  (queues.contains 0 && (s.core c).collq.any (fun k => k.gang == t.gang && k.member == t.member && k.slot == t.slot && k.id ≤ last))
/-- The counters of the queues a FENCE names start again (R253). -/
def State.resetPaths (s : State) (c : Nat) (queues : List Nat) : State :=
  s.mapCore c (fun k => { k with paths := k.paths.filter (fun e => !queues.contains (e.1 / 4)) })

/-- The first of a strand's holds carried on (R25, R28, R205, R215, R219). COLL waits for its hand-off
(COLL_HANDOFF). Where a strand of an ending gang would trap, it halts (R318). -/
def State.continueHold (s : State) (c x : Nat) : State :=
  match s.strand c x with
  | none => s
  | some t =>
    let held := fun (queues : List Nat) (scope : Nat) (ready : State → Bool) (f : State → State) =>
      let (s1, done) := s.writerHalf c x scope
      let t1 := (s1.strand c x).getD t
      match s1.heldTrap c t1 queues (everyStore ≤ scope) with
      | some i => if s1.ending t then s1.setStrand c x { t1 with holds := [] } else s1.parkTrap c x t1 i
      | none => if done && ready s1 then f s1 else s1
    let writer := held (List.range 4)
    match t.holds with
    | [] => s
    | .phase scope :: _ => writer scope (fun _ => true) (fun s => (s.release c x).readerHalf c scope)
    | .publish i :: _ => writer 3 (fun _ => true) (fun s => (s.release c x).swapVitrine i)
    | .drain bundle :: _ => if s.copying t (fun _ => true) then s else s.finishDrain c x t bundle
    | .exit :: _ => writer everyStore (fun s => s.storesDone c x t && !s.unretired c t)
        (fun s => ((s.dropLoads c t.gang t.member t.slot).removeStrand c x).strandEnded t.gang)
    | .yield va pa live next :: _ => writer everyStore (fun s => !s.unretired c t) (fun s => s.finishYield c x va pa live next)
    | .coll _ _ _ _ :: _ => writer 3 (fun _ => false) id
    | .fence d queues kind last :: _ => held queues 0 (fun s => !s.fenceWaits c t queues kind last) (fun s =>
        let word := BitVec.ofNat 4096 ((s.core c).pathWord (queues.headD 0))
        let land := fun (t : Strand) => t.result (s.core c).cycle { dst := .reg d, val := word, due := (s.core c).cycle + 1, id := 64 * s.free }
        (({ s with free := s.free + 1 }.mapStrand c x land).resetPaths c queues).release c x)
    | .hiber :: _ => (s.release c x).hibernate c x
    | .tret :: _ => (s.release c x).returnTrap c x

/-- Every held bundle of a core carried on; a strand of an ending gang halts after its own (R318). -/
def State.continueHolds (s : State) (c : Nat) : State :=
  let s1 := (s.core c).ctxs.foldl (fun s e => s.continueHold c e.1) s
  (s.core c).gang.elim s1 s1.settleEnding

/-! ### Traps due at a boundary -/

/-- Whether an after-kind trap is due that becomes so only when every result in flight has landed (R353, R359). -/
def TrapInfo.late (i : TrapInfo) : Bool := i.cause = 0x0D || i.cause = 0x0F

/-- Whether a due trap may be entered at this boundary of a strand: in the handler range, none that stayed due when another
was entered (R124, R317, R354); SHADOW and UNCORRECTABLE once nothing is in flight (R353), as nothing is where something
else is taken at the boundary, which waits for that too (`landed`; R311). -/
def State.mayEnter (s : State) (c : Nat) (t : Strand) (landed : Bool) (i : TrapInfo) : Bool :=
  !(i.waits && s.inHandler (s.gangSlot t.gang) t.pc.toNat) && (!i.late || landed || decide (t.landedBy ≤ (s.core c).cycle))

/-- The least of the traps by CAUSE, then SUB. -/
def leastTrap (l : List TrapInfo) : Option TrapInfo :=
  l.foldl (fun b i =>
    match b with
    | none => some i
    | some j => if i.before j then some i else b) none

/-- The after-kind trap a strand enters at this boundary: the lowest CAUSE of those that may be entered (R354). None is
entered inside a PHASE (R205), while a bundle holds its strand, or by a strand that is to halt with its gang (R318). Which comes first where another slot of an EXIT bundle
raises one, the spec does not say: the strand ends with its EXIT and the trap is not entered, the model's choice
(log 158). -/
def State.dueTrap (s : State) (c x : Nat) (landed : Bool) : Option TrapInfo :=
  match s.strand c x with
  | none => none
  | some t => if !t.holds.isEmpty || t.halted || t.phasing || s.ending t then none else leastTrap (t.due.filter (s.mayEnter c t landed))

/-- A divergence that is due with one more: that of earliest issue is reported, the other counts as EXTRA (R353). -/
def TrapInfo.absorb (j i : TrapInfo) : TrapInfo :=
  let first := if i.order < j.order then i else j
  { first with waits := j.waits, info := BitVec.ofNat 64 (setBits first.info.toNat 56 8 (min 255 (bits j.info.toNat 63 56 + bits i.info.toNat 63 56 + 1))) }
/-- The traps due after a bundle added to those due before it. A divergence met while one is due is merged with it, but not
one of the handler's own bundles, which `own` tells, with one that waits for the handler's end (R353, R354). -/
def mergeDues (own : TrapInfo → Bool) (old new : List TrapInfo) : List TrapInfo :=
  new.foldl (fun l i =>
    let meets := fun (j : TrapInfo) => i.cause == 0x0F && j.cause == 0x0F && !(j.waits && own i)
    if l.any meets then l.map (fun j => if meets j then j.absorb i else j) else l ++ [i]) old
/-- Traps due added to a strand's. -/
def State.addDues (s : State) (c x : Nat) (new : List TrapInfo) : State :=
  s.mapStrand c x (fun t => { t with due := mergeDues (fun i => s.inHandler (s.gangSlot t.gang) (i.bundle.getD 0).toNat) t.due new })

/-- The due trap of a strand entered (R314). -/
def State.enterDue (s : State) (c x : Nat) (landed : Bool) : State :=
  match s.dueTrap c x landed, s.strand c x with
  | some i, some t => (s.setStrand c x { t with due := t.due.erase i }).takeTrap c x i (i.bundle.getD 0) t.pc
  | _, _ => s

/-! ### Issue -/

/-- The bundle issues: its scratchpad accesses, results, gang-share changes and change of flow take effect (R62 to
R64, R72, R202); then the trap it raises after itself, or the return it makes. -/
def State.commit (s : State) (cur : Cursor) : State :=
  let c := cur.core
  let x := cur.ctx
  let s1 := (({ s with cursor := none }).popStreams c cur.pops)
  let cycle := (s.core c).cycle
  let (s2, loaded) := s1.performSpad c cur.loads cur.stores (64 * s.free + 32)
  let s3 := cur.shares.foldl (fun s w => s.applyShare c x w) s2
  let next := match cur.flow with
    | .next => cur.pc + BitVec.ofNat 64 cur.len
    | .jump pc => pc
  let s4 := s3.mapStrand c x (fun t =>
    let t1 := (cur.writes ++ loaded).foldl (fun t l => t.result cycle l) t
    { t1 with pc := next, lastPc := cur.pc, readyAt := cycle + 1 + (if cur.holds.isEmpty then cur.wcnt else 0), wcnt := if cur.holds.isEmpty then 0 else cur.wcnt, bankSince := none, phasing := false, lastIssue := cycle, missed := 0, stall := .none, answer := none, vheld := none, holds := cur.holds, supplyBy := if t1.supplyBy = some 0 then some (s.now + 40000) else t1.supplyBy })
  let s5 := { (s4.addDues c x cur.dues).mapCore c (fun k => { k with cycle := cycle + 1 }) with free := s4.free + 1 }
  (s5.continueHold c x).enterDue c x false

end Sys2Proof.Machine
end

