-- ==== Sys2Proof/Machine/Nests.lean ====
section
/-! DEFINITION. Nest records: their fields, when one is well formed, the iterations they name, their ranges (R17
to R21), and the sources they wait in (R33, R269). -/
namespace Sys2Proof.Machine
open Sys2Proof

/-- A range descriptor of 48 bits as (START, LENGTH) (R17). -/
def rangeOf (raw off : Nat) : Nat × Nat :=
  let v := (raw >>> (8 * off)) % 2 ^ 48
  (v / 2 ^ 24, v % 2 ^ 24)

/-- The record in 128 bytes (R17, Table 1). -/
def nestRecord (raw : Nat) : NestRec :=
  let word := fun (off : Nat) => BitVec.ofNat 64 (raw >>> (8 * off))
  { hdr := word 0x00, shape := word 0x08, levels := (List.range 4).map (fun i => word (0x10 + 8 * i)), codeBase := word 0x30, entry := word 0x38, comp := word 0x40, rbase := word 0x48, reads := (List.range 4).map (fun i => rangeOf raw (0x50 + 6 * i)), writes := (List.range 4).map (fun i => rangeOf raw (0x68 + 6 * i)) }

def NestRec.field (r : NestRec) (hi lo : Nat) : Nat := bits r.hdr.toNat hi lo
def NestRec.gangCores (r : NestRec) : Nat := r.field 47 40
def NestRec.prio (r : NestRec) : Nat := r.field 35 33
def NestRec.serial (r : NestRec) : Bool := r.hdr.getLsbD 49
def NestRec.irq (r : NestRec) : Bool := r.hdr.getLsbD 48
def NestRec.tag (r : NestRec) : Nat := r.field 15 0
/-- L, the number of levels (R17). -/
def NestRec.depth (r : NestRec) : Nat := r.field 27 26 + 1
/-- The level numbers of ORDER, outermost first. -/
def NestRec.order (r : NestRec) : List Nat := [r.field 23 22, r.field 21 20, r.field 19 18, r.field 17 16]
def NestRec.count (r : NestRec) (l : Nat) : Nat := (r.levels.getD l 0).toNat / 2 ^ 32
def NestRec.stride (r : NestRec) (l : Nat) : Int := sint 32 (r.levels.getD l 0).toNat
/-- N, the number of iterations (R18). -/
def NestRec.total (r : NestRec) : Nat := (List.range r.depth).foldl (fun n l => n * r.count l) 1
def NestRec.window (r : NestRec) : Nat := bits r.shape.toNat 63 48
def NestRec.accs (r : NestRec) : Nat := bits r.shape.toNat 27 24
def NestRec.vregs (r : NestRec) : Nat := bits r.shape.toNat 23 16
/-- The role code of a strand slot. -/
def NestRec.role (r : NestRec) (slot : Nat) : Nat := bits r.shape.toNat (2 * slot + 1) (2 * slot)
/-- S, the strands of a member core (R18). -/
def NestRec.strands (r : NestRec) : Nat := ((List.range 4).filter (fun i => r.role i != 0)).length
def NestRec.log2n (r : NestRec) : Nat := bits r.comp.toNat 5 0
def NestRec.compAddr (r : NestRec) : Nat := bits r.comp.toNat 55 6 * 64
def NestRec.arg (r : NestRec) : Nat := bits r.rbase.toNat 31 0
/-- The ceiling point of OPHINT (R281). -/
def NestRec.ceiling (r : NestRec) : Nat := if r.field 31 28 = 0 then 0 else min (r.field 31 28 - 1) 7

/-- Whether a record is well formed (R18). -/
def NestRec.wellFormed (r : NestRec) : Bool :=
  let sh := r.shape.toNat
  let used := r.order.take r.depth
  r.field 63 56 == 1 && decide (1 ≤ r.gangCores) && decide (r.gangCores ≤ 192) &&
  (List.range r.depth).all (fun l => used.contains l) && (r.order.drop r.depth).all (fun l => l == 0) &&
  decide (r.total < 2 ^ 32) &&
  decide (1 ≤ r.strands) && (List.range r.strands).all (fun i => r.role i != 0) &&
  r.vregs % 8 == 0 && decide (r.strands * r.vregs ≤ 64) && decide (r.strands * r.accs ≤ 8) &&
  r.codeBase.toNat % 64 == 0 && decide (r.log2n ≤ 20) &&
  (r.reads ++ r.writes).all (fun x => decide (x.1 + x.2 ≤ 2 ^ 24)) &&
  r.field 55 50 == 0 && r.field 39 36 == 0 && r.field 32 32 == 0 && r.field 25 24 == 0 &&
  bits sh 47 28 == 0 && bits sh 15 8 == 0 && bits r.entry.toNat 63 60 == 0 && bits r.comp.toNat 63 56 == 0 &&
  bits r.rbase.toNat 63 56 == 0 && bits r.rbase.toNat 39 32 == 0

/-- The indices of an iteration, peeled from the innermost level of ORDER (R19): the pairs (level, index). -/
def peelIndices (r : NestRec) (innermostFirst : List Nat) (rem : Nat) : List (Nat × Nat) :=
  match innermostFirst with
  | [] => []
  | l :: rest => (l, rem % r.count l) :: peelIndices r rest (rem / r.count l)
def NestRec.index (r : NestRec) (n l : Nat) : Nat :=
  (((peelIndices r (r.order.take r.depth).reverse n).find? (fun e => e.1 == l)).map (·.2)).getD 0

/-- The product idx × STRIDE of a level modulo 2^64, 0 for a level the nest does not use (R20). -/
def NestRec.offset (r : NestRec) (n l : Nat) : Word :=
  if l < r.depth then BitVec.ofNat 64 (wrap 64 ((r.index n l : Int) * r.stride l)) else 0

/-- The entry point of a role (R20, Table 4). -/
def NestRec.entryPc (r : NestRec) (role : Nat) : Word :=
  let e := match role with
    | 1 => bits r.entry.toNat 19 0
    | 2 => bits r.entry.toNat 39 20
    | _ => bits r.entry.toNat 59 40
  r.codeBase + BitVec.ofNat 64 (2 * e)

/-- The 64 KiB granules of a range by full address: first, and the one after the last (R17). -/
def NestRec.granules (r : NestRec) (x : Nat × Nat) : Nat × Nat :=
  let base := bits r.rbase.toNat 55 40 * 2 ^ 24
  (base + x.1, base + x.1 + x.2)

/-- Whether a write range of `a` overlaps a range of `b` (R21). -/
def NestRec.writesInto (a b : NestRec) : Bool :=
  a.writes.any (fun w => w.2 != 0 && (b.reads ++ b.writes).any (fun x =>
    let p := a.granules w
    let q := b.granules x
    x.2 != 0 && decide (p.1 < q.2) && decide (q.1 < p.2)))
/-- Two nests' records conflict (R21). -/
def NestRec.conflicts (a b : NestRec) : Bool := a.writesInto b || b.writesInto a

/-! ### Sources (R269) -/

/-- The source of a cluster's pending-launch store. -/
def storeSource (cluster : Nat) : Nat := 2048 + cluster
/-- Nests waiting at a source. -/
def State.source (s : State) (n : Nat) : List Waiting := Tab.get s.launch.sources [] n
def State.setSource (s : State) (n : Nat) (l : List Waiting) : State :=
  { s with launch := { s.launch with sources := Tab.set s.launch.sources [] n l } }
/-- A nest put behind the others of a source; it is at the head since now when the source was empty. -/
def State.enqueueNest (s : State) (n : Nat) (r : NestRec) (owner : Nat) : State :=
  s.setSource n (s.source n ++ [{ rec_ := r, owner := owner, since := s.now }])
/-- The head of a source leaves it; the next becomes its head now. -/
def State.dropHead (s : State) (n : Nat) : State :=
  match s.source n with
  | _ :: w :: rest => s.setSource n ({ w with since := s.now } :: rest)
  | _ => s.setSource n []

/-- SPAWN's answer for a record: its status and the machine with the record enqueued (R33, R122). -/
def State.spawnRecord (s : State) (cluster owner : Nat) (r : NestRec) : State × Nat :=
  if !r.wellFormed then (s, 1)
  else if 4096 ≤ (s.source (storeSource cluster)).length then (s, 3)
  else (s.enqueueNest (storeSource cluster) r owner, 0)

/-! ### The supply state, and the end of a TERMINATE -/

/-- SUPSTATE with STATE set (R420). -/
def State.setSupply (s : State) (n : Nat) : State :=
  s.setHreg 0x2000 (BitVec.ofNat 64 (((s.hreg 0x2000).toNat / 8 * 8) ||| n))
/-- NORMAL: LASTKIND is cleared (R420). -/
def State.enterNormal (s : State) : State := s.setHreg 0x2000 0
/-- Owners restored have all resumed: NORMAL (R411). -/
def State.settleRestore (s : State) : State :=
  if s.supply = 7 && s.power.unresumed.isEmpty then s.enterNormal else s
/-- Whether HBM4 takes no write but the drain's own: while the module drains, hibernates or is off (R404, R413). -/
def State.memoryStill (s : State) : Bool := s.supply = 4 || s.supply = 5 || s.power.off

/-- An owner slot that is terminating with no nest of its owner left: STATE and VALID become 0 (R432). -/
def State.endTerminate (s : State) (slot : Nat) : State :=
  if s.slotReg slot 0x38 % 8 = 4 && s.launch.nests.all (fun n => n.2.owner != s.slotOwner slot) then (s.setSlotReg slot 0x38 0).setSlotReg slot 0 (s.slotReg slot 0 % 2 ^ 63)
  else s

end Sys2Proof.Machine
end

