-- ==== Sys2Proof/Machine/Operands.lean ====
section
/-! DEFINITION. The operand forms of the memory and engine slots: modifiers (R71, R240, R332), addresses and their
checks (R39, R239, R335), residues of addresses and data (R349), stream targets (R241), live copy sources (R217),
the sectors of an access (R194, R243, R245), and the elements of vector registers (R42, R131). -/
namespace Sys2Proof.Machine
open Sys2Proof

/-! ### Modifiers -/

/-- The effective modifiers of an access (R71). -/
structure Mods where
  scope : Nat
  space : Nat
  cache : Nat
  queue : Nat
  merge : Bool
  order : Nat
  oflag : Bool
  /-- a prefix supplies QUEUE -/
  queueNamed : Bool
  deriving DecidableEq, Repr

def Bun.mods (b : Bun) : Mods :=
  let p := (b.cur.pfx.getD 0).toNat
  let d := b.share.mdef.toNat
  let pick := fun (sup hi lo : Nat) => if p.testBit sup then bits p hi lo else bits d hi lo
  { scope := pick 16 2 0, space := pick 17 6 5, cache := pick 18 8 7, queue := pick 19 10 9, merge := pick 20 11 11 = 1, order := bits p 15 14, oflag := p.testBit 13, queueNamed := p.testBit 19 }

/-- The ORDER of a request. -/
def Mods.orderOf (m : Mods) : Order := if m.order = 1 then .acquire else if m.order = 2 then .release else .none

/-- An ORDER or OFLAG that an access does not accept: an acquire of a store, a release of a load (R77, R240). -/
def Bun.orderStop (b : Bun) (acquire release oflag : Bool) : Option Stop :=
  let m := b.mods
  stopIf ((m.order == 1 && !acquire) || (m.order == 2 && !release) || (m.oflag && !oflag))
    (trapModifier ((b.cur.pfx.getD 0).setWidth 64))

/-- A scope wider than cluster on a scratchpad or window access is narrowed, and SN is set (R220, R332). -/
def Bun.narrow (b : Bun) : Bun := b.raise (flagIf (3 ≤ b.mods.scope) flagSN) 1
/-- The modifiers of an access, its scope narrowed to cluster where it is to the window (R220). -/
def Bun.clipped (b : Bun) : Mods := if b.mods.space = 2 then { b.mods with scope := min b.mods.scope 2 } else b.mods

/-! ### Addresses -/

/-- The address register AREG names. -/
def areg (a : BitVec 4) : BitVec 6 := BitVec.ofNat 6 (32 + a.toNat)
/-- The effective address of a format M instruction (R239). -/
def Bun.ea (b : Bun) (a : BitVec 4) (off : BitVec 12) : Word := b.val (areg a) + off.signExtend 64

/-- A RESIDUE trap: SUB 0 data, 1 address; the operand field and the lane (R349). -/
def trapResidue (sub field lane : Nat) : Stop :=
  .trap { cause := 0x0E, sub := sub, info := BitVec.ofNat 64 (lane <<< 40 ||| field % 64) }
/-- The residue check of an address register (R349). -/
def Bun.addrResidue (b : Bun) (x : BitVec 6) (field : Nat) : Option Stop := stopIf (b.badReg x) (trapResidue 1 field 0)
/-- The residue check of a scalar data source (R349). -/
def Bun.dataResidue (b : Bun) (x : BitVec 6) : Option Stop := stopIf (b.badReg x) (trapResidue 0 x.toNat 0)
/-- The residue check of the active lanes of a vector data source (R349). -/
def Bun.vecResidue (b : Bun) (x : BitVec 6) (active : Nat → Bool) : Option Stop :=
  let v := b.strand.vecRaw x.toNat
  match lowest 128 (fun l => active l && !b.strand.passes (64 + 128 * x.toNat + l) (v.extractLsb' (32 * l) 32).toNat) with
  | some l => some (trapResidue 0 x.toNat l)
  | none => none

/-- What the bits of an address and its space refuse at issue (R176, R239, R335). -/
def Bun.spaceStop (b : Bun) (space size : Nat) (ea : Word) : Option Stop :=
  let e := ea.toNat
  if space = 1 then stopIf (2 ^ 21 ≤ e % 2 ^ 56 || b.core.spadSize < e % 2 ^ 56 + size) (trapTranslation 0 ea)
  else if space = 2 then stopIf (2 ^ 29 ≤ e % 2 ^ 56 || 191 < bits e 28 21) (trapTranslation 0 ea)
  else none

/-- The issue checks of one address: range, alignment and space, the least cause reported (R316, R335). -/
def Bun.addrStop (b : Bun) (space size align : Nat) (ea : Word) : Option Stop :=
  firstStop [stopIf (2 ^ 56 ≤ ea.toNat) (trapRange ea), stopIf (ea.toNat % align ≠ 0) (trapAlign ea), b.spaceStop space size ea]

/-- The checks of a format M address: the register's own bits (R39) and those of the address formed. -/
def Bun.memStop (b : Bun) (a : BitVec 4) (space size align : Nat) (ea : Word) : Option Stop :=
  firstStop [stopIf (2 ^ 56 ≤ (b.val (areg a)).toNat) (trapRange ea), b.addrStop space size align ea, b.addrResidue (areg a) a.toNat]

/-- The checks of an E-slot or B-slot address operand. -/
def Bun.regAddrStop (b : Bun) (x : BitVec 6) (space size align : Nat) : Option Stop :=
  firstStop [b.addrStop space size align (b.val x), b.addrResidue x x.toNat]

/-- The first unit of an access that fails, in order (R336). -/
def firstUnit (l : List (Option Stop)) : Option Stop := l.findSome? id

/-! ### Streams and credits -/

/-- What an access in a queue meets while the queue is frozen: the report of the strand's own fault, else a stall (R321). -/
def Bun.frozenStop (b : Bun) (q : Nat) : Option Stop :=
  if b.core.isFrozen q then some ((b.st.frozenTrap b.cur.core q b.strand).getD (.stall .credit .nothing)) else none
/-- What a request of a number of sectors waits for in its queue (R50, R62, R321). -/
def Bun.creditStop (b : Bun) (q sectors : Nat) : Option Stop :=
  match b.frozenStop q with
  | some e => some e
  | none => stopIf (b.st.creditsFree b.cur.core q < min sectors (b.core.credits q)) (.stall .credit .nothing)

/-- The queue of the stream a field names. -/
def Bun.streamQueue (b : Bun) (d : BitVec 6) : Nat :=
  ((Tab.find? b.share.streams (d.toNat % 8)).map Stream.queue).getD 0

/-- The checks of a stream target (R241). -/
def Bun.targetStop (b : Bun) (d : BitVec 6) (elemSz : Nat) (m : Mods) (sectors : Nat) : Option Stop :=
  let n := d.toNat % 8
  if !isStream d then some (trapReg d.toNat)
  else
    match Tab.find? b.share.streams n with
    | none => some trapOperand
    | some w =>
      if w.elemSz ≠ elemSz || (m.queueNamed && m.queue != w.queue) then some trapOperand
      else
        match b.creditStop w.queue sectors with
        | some e => some e
        | none => stopIf (65535 ≤ w.elems.length + b.st.inFlight b.cur.core n) (.stall .stream .nothing)

/-! ### Sources of live copies (R217) -/

/-- A byte's place: the address space it stands in and its address there; a scratchpad byte is named as in the
cluster window (R176). -/
def Bun.byteKey (b : Bun) (space addr : Nat) : Nat × Nat :=
  if space = 1 then (1, (b.cur.core % Config.clusterCores) * 2 ^ 21 + addr)
  else if space = 2 then (1, addr)
  else (0, addr)

/-- The offset bounds of one level of a copy: least and greatest sum of its strides. -/
def levelSpan (l : List (Int × Nat)) : Int × Int :=
  l.foldl (fun a e =>
    let x := e.1 * ((e.2 : Int) - 1)
    if x < 0 then (a.1 + x, a.2) else (a.1, a.2 + x)) (0, 0)
/-- The bounding range of a copy's source: first byte and one past the last (R254). -/
def CopyOp.sourceRange (c : CopyOp) : Int × Int :=
  let b := levelSpan (c.levels.map (fun e => (e.2.1, e.1)))
  (c.src + b.1, c.src + b.2 + c.run)
/-- The bounding range of a copy's destination. -/
def CopyOp.destRange (c : CopyOp) : Int × Int :=
  let b := levelSpan (c.levels.map (fun e => (e.2.2, e.1)))
  (c.dst + b.1, c.dst + b.2 + c.run)

/-- A copy still reads its source: its span is live (R55, R217). -/
def CopyOp.live (c : CopyOp) : Bool := decide (c.span < 8) && !c.freed
/-- A store of `n` bytes into a source sector of a live span stalls its bundle (R217). -/
def Bun.copyStop (b : Bun) (space addr n : Nat) : Option Stop :=
  let k := b.byteKey space addr
  stopIf (b.core.copies.any (fun c =>
    let r := c.sourceRange
    let lo := b.byteKey c.sspace r.1.toNat
    c.live && lo.1 == k.1 && k.2 / 32 * 32 < lo.2 + (r.2 - r.1).toNat && lo.2 / 32 * 32 < k.2 + n)) (.stall .engine .nothing)

/-- An uncorrectable word among `n` bytes of the own scratchpad (R359). -/
def Bun.badWord (b : Bun) (off n : Nat) : Option Nat := b.st.badWord b.cur.core off n

/-! ### Sectors of an access -/

/-- A loaded byte put into the part of its sector: (byte address, byte of the element). -/
def addPlace (ps : List Part) (e : Nat × Nat) : List Part :=
  match ps with
  | [] => [{ addr := e.1 / 32 * 32, mask := 1#32 <<< (e.1 % 32), place := [(e.1 % 32, e.2)] }]
  | p :: rest =>
    if p.addr = e.1 / 32 * 32 then { p with mask := p.mask ||| (1#32 <<< (e.1 % 32)), place := p.place ++ [(e.1 % 32, e.2)] } :: rest
    else p :: addPlace rest e
/-- The parts of a load, each distinct sector once, in the order of first use (R245). -/
def loadParts (l : List (Nat × Nat)) : List Part := l.foldl addPlace []

/-- A stored byte put into the part of its sector; a later byte wins. -/
def addByte (ps : List Part) (e : Nat × Byte) : List Part :=
  match ps with
  | [] => [{ addr := e.1 / 32 * 32, mask := 1#32 <<< (e.1 % 32), data := BitVec.ofNat 256 (setBits 0 (8 * (e.1 % 32)) 8 e.2.toNat) }]
  | p :: rest =>
    if p.addr = e.1 / 32 * 32 then { p with mask := p.mask ||| (1#32 <<< (e.1 % 32)), data := BitVec.ofNat 256 (setBits p.data.toNat (8 * (e.1 % 32)) 8 e.2.toNat) } :: rest
    else p :: addByte rest e
/-- The parts of a store of bytes in order. -/
def storeParts (l : List (Nat × Byte)) : List Part := l.foldl addByte []

/-- A run of `n` bytes of a load: memory from `a`, element from `o`. -/
def loadRun (a o n : Nat) : List (Nat × Nat) := (List.range n).map (fun i => (a + i, o + i))
/-- A run of `n` bytes of a store. -/
def storeRun (a n v : Nat) : List (Nat × Byte) := (List.range n).map (fun i => (a + i, byteOf v i))

/-! ### Elements of vector registers (R42, R131) -/

/-- Element `e` of width `w` of a register image: elements follow one another in register order. -/
def elem (v : Vec) (w e : Nat) : Nat := (v.extractLsb' (w * e) w).toNat
/-- The image whose element `e` of width `w` is `f e`, for the elements that fill it. -/
def buildVec (w : Nat) (f : Nat → Nat) : Vec :=
  BitVec.ofNat 4096 ((List.range (4096 / w)).foldl (fun a e => a ||| ((f e % 2 ^ w) <<< (w * e))) 0)
/-- The lane an element of width `w` lies in; a 64-bit element lies in two, named by the lower. -/
def laneOf (w e : Nat) : Nat := w * e / 32
/-- Whether an element is active: its lane, or both lanes of a 64-bit element, taken from a predicate. -/
def activeElem (k : Pred) (w e : Nat) : Bool := k.getLsbD (laneOf w e)

end Sys2Proof.Machine
end

