-- ==== Sys2Proof/Machine/Scalar.lean ====
section
/-! DEFINITION. The S slot: integer, bit, field and scalar floating-point instructions (R104 to R116), and the
scalar draw instructions (R232, R233). -/
namespace Sys2Proof.Machine
open Sys2Proof

/-! ### Shared forms -/

/-- An S-slot instruction, which has no checks of its own beyond its operands'. -/
def State.scalar (s : State) (i : Instr) (effect : Bun → Bun) : Host.Outcome State Fault Refusal :=
  s.runSlot i (fun b => b.check [] effect)

/-- The integer a source stands for under a type (R105). -/
def Bun.int (b : Bun) (x : BitVec 6) (ty : BitVec 4) : Int := typeInt ty.toNat (b.val x).toNat
/-- The low bits of a source at the width of a type (R105). -/
def Bun.low (b : Bun) (x : BitVec 6) (ty : BitVec 4) : Nat := (b.val x).toNat % 2 ^ typeWidth ty.toNat

/-- The result of R105 for an exact value: saturated under `.sat`, else wrapped, and extended to 64 bits. -/
def intResult (ty : BitVec 4) (sat : Bool) (v : Int) : Word × Flags :=
  if sat then
    let r := saturate ty.toNat v
    (BitVec.ofNat 64 (typeExtend ty.toNat r.1), r.2)
  else (BitVec.ofNat 64 (typeExtend ty.toNat v), 0)

/-- An exact integer result written under R105. -/
def Bun.writeInt (b : Bun) (d : BitVec 6) (ty : BitVec 4) (v : Int) (bound : Nat) : Bun :=
  b.writeReg d (intResult ty false v).1 bound

/-- ADD, SUB and MUL: an exact result under R105, with the residue that `p` predicts from the sources' residues at 64
bits without `.sat` (R348). -/
def Bun.arith (b : Bun) (d x y : BitVec 6) (ty : BitVec 4) (sat : BitVec 1) (v : Int) (bound : Nat) (p : Nat → Nat → Nat) : Bun :=
  let r := intResult ty (sat == 1#1) v
  let pred := if typeWidth ty.toNat = 64 && sat = 0#1 then some (p (b.residueOf x) (b.residueOf y)) else none
  (b.writePredicted d r.1 bound pred).raise r.2 bound

/-- A floating result of the width of its type, zero-extended, with its flags (R114). -/
def Bun.writeFloat (b : Bun) (d : BitVec 6) (r : Nat × Flags) (bound : Nat) : Bun :=
  (b.writeReg d (BitVec.ofNat 64 r.1) bound).raise r.2 bound

/-- The format of a scalar floating type (R114). -/
def scalarFmt (ty : BitVec 4) : Fmt := (floatOf ty.toNat).getD fmt64
/-- A result of the scalar FP unit, which has a shadow (R351). -/
def Bun.writeShadowed (b : Bun) (d : BitVec 6) (f : Fmt) (r : Nat × Flags) (bound : Nat) : Bun :=
  let m := b.st.mainResult b.cur.core 0 f 0 0 0 r.1
  (b.writeFloat d (m.1, r.2) bound).shadowed 0 d.toNat (· == 0) m.2
/-- A triple as the draw unit of the core makes it, each of its m and W with a shadow, and its divergences (R351); a strike
at `place` flips m by [63:32] and W by [31:0]. -/
def State.mainTriple (s : State) (c place lane : Nat) (t : Triple) : Triple × List Split :=
  let m := s.mainResult c 3 fmt32 place lane 32 t.m
  let w := s.mainResult c 3 fmt32 place lane 0 t.w
  (⟨m.1, w.1, t.i⟩, m.2 ++ w.2)
def Bun.mainTriple (b : Bun) (place lane : Nat) (t : Triple) : Triple × List Split := b.st.mainTriple b.cur.core place lane t

/-- A triple written to a register pair (R224). -/
def Bun.writePair (b : Bun) (d : BitVec 6) (t : Triple) (bound : Nat) : Bun :=
  (b.writeReg d (BitVec.ofNat 64 t.high) bound).writeReg (d + 1) (BitVec.ofNat 64 t.i) bound
/-- The triple of a register pair as read at issue. -/
def Bun.pair (b : Bun) (x : BitVec 6) : Triple := Triple.ofPair (b.val x).toNat (b.val (x + 1)).toNat

/-! ### Integer arithmetic and bit operations (R106 to R108) -/

def execAdd (d a b : BitVec 6) (ty : BitVec 4) (sat : BitVec 1) (s : State) : Host.Outcome State Fault Refusal :=
  s.scalar (.add d a b ty sat) (fun q => q.arith d a b ty sat (q.int a ty + q.int b ty) 1
    (fun ra rb => predictAdd ra rb (q.val a).toNat (q.val b).toNat))
def execSub (d a b : BitVec 6) (ty : BitVec 4) (sat : BitVec 1) (s : State) : Host.Outcome State Fault Refusal :=
  s.scalar (.sub d a b ty sat) (fun q => q.arith d a b ty sat (q.int a ty - q.int b ty) 1
    (fun ra rb => predictSub ra rb (q.val a).toNat (q.val b).toNat))
def execMul (d a b : BitVec 6) (ty : BitVec 4) (sat : BitVec 1) (s : State) : Host.Outcome State Fault Refusal :=
  s.scalar (.mul d a b ty sat) (fun q => q.arith d a b ty sat (q.int a ty * q.int b ty) 3
    (fun ra rb => predictMul ra rb ((q.val a).toNat * (q.val b).toNat / 2 ^ 64)))
def execMulh (d a b : BitVec 6) (ty : BitVec 4) (s : State) : Host.Outcome State Fault Refusal :=
  s.scalar (.mulh d a b ty) (fun q => q.writeInt d ty (q.int a ty * q.int b ty / (2 ^ typeWidth ty.toNat : Nat)) 3)
def execDivs (d a b : BitVec 6) (ty : BitVec 4) (s : State) : Host.Outcome State Fault Refusal :=
  s.scalar (.divs d a b ty) (fun q => q.writeInt d ty (divide107 ty.toNat (q.int a ty) (q.int b ty)) 24)
def execDivn (d a b : BitVec 6) (ty : BitVec 4) (s : State) : Host.Outcome State Fault Refusal :=
  s.scalar (.divn d a b ty) (fun q => q.writeInt d ty (divide107 ty.toNat (q.int a ty) (q.int b ty)) 24)
def execRem (d a b : BitVec 6) (ty : BitVec 4) (s : State) : Host.Outcome State Fault Refusal :=
  s.scalar (.rem d a b ty) (fun q => q.writeInt d ty (remainder107 (q.int a ty) (q.int b ty)) 24)
def execAnd (d a b : BitVec 6) (ty : BitVec 4) (s : State) : Host.Outcome State Fault Refusal :=
  s.scalar (.and d a b ty) (fun q => q.writeInt d ty (q.low a ty &&& q.low b ty : Nat) 1)
def execOr (d a b : BitVec 6) (ty : BitVec 4) (s : State) : Host.Outcome State Fault Refusal :=
  s.scalar (.or d a b ty) (fun q => q.writeInt d ty (q.low a ty ||| q.low b ty : Nat) 1)
def execXor (d a b : BitVec 6) (ty : BitVec 4) (s : State) : Host.Outcome State Fault Refusal :=
  s.scalar (.xor d a b ty) (fun q => q.writeInt d ty (q.low a ty ^^^ q.low b ty : Nat) 1)
def execNot (d a : BitVec 6) (ty : BitVec 4) (s : State) : Host.Outcome State Fault Refusal :=
  s.scalar (.not d a ty) (fun q => q.writeInt d ty (2 ^ typeWidth ty.toNat - 1 - q.low a ty : Nat) 1)
def execShl (d a b : BitVec 6) (ty : BitVec 4) (s : State) : Host.Outcome State Fault Refusal :=
  s.scalar (.shl d a b ty) (fun q => q.writeInt d ty (shift108 0 (typeWidth ty.toNat) (q.low a ty) (q.val b).toNat) 1)
def execShr (d a b : BitVec 6) (ty : BitVec 4) (s : State) : Host.Outcome State Fault Refusal :=
  s.scalar (.shr d a b ty) (fun q => q.writeInt d ty (shift108 1 (typeWidth ty.toNat) (q.low a ty) (q.val b).toNat) 1)
def execSar (d a b : BitVec 6) (ty : BitVec 4) (s : State) : Host.Outcome State Fault Refusal :=
  s.scalar (.sar d a b ty) (fun q => q.writeInt d ty (shift108 2 (typeWidth ty.toNat) (q.low a ty) (q.val b).toNat) 1)
def execRot (d a b : BitVec 6) (ty : BitVec 4) (s : State) : Host.Outcome State Fault Refusal :=
  s.scalar (.rot d a b ty) (fun q => q.writeInt d ty (shift108 3 (typeWidth ty.toNat) (q.low a ty) (q.val b).toNat) 1)
def execMin (d a b : BitVec 6) (ty : BitVec 4) (s : State) : Host.Outcome State Fault Refusal :=
  s.scalar (.min d a b ty) (fun q => q.writeInt d ty (Min.min (q.int a ty) (q.int b ty)) 1)
def execMax (d a b : BitVec 6) (ty : BitVec 4) (s : State) : Host.Outcome State Fault Refusal :=
  s.scalar (.max d a b ty) (fun q => q.writeInt d ty (Max.max (q.int a ty) (q.int b ty)) 1)
def execPopc (d a : BitVec 6) (ty : BitVec 4) (s : State) : Host.Outcome State Fault Refusal :=
  s.scalar (.popc d a ty) (fun q => q.writeInt d ty (popCount (typeWidth ty.toNat) (q.low a ty) : Nat) 1)
def execClz (d a : BitVec 6) (ty : BitVec 4) (s : State) : Host.Outcome State Fault Refusal :=
  s.scalar (.clz d a ty) (fun q => q.writeInt d ty (leadingZeros (typeWidth ty.toNat) (q.low a ty) : Nat) 1)
def execCtz (d a : BitVec 6) (ty : BitVec 4) (s : State) : Host.Outcome State Fault Refusal :=
  s.scalar (.ctz d a ty) (fun q => q.writeInt d ty (trailingZeros (typeWidth ty.toNat) (q.low a ty) : Nat) 1)

/-! ### Comparison, selection, immediates and fields (R109 to R113) -/

/-- CMP (R109). -/
def execCmp (d a b : BitVec 6) (ty cond : BitVec 4) (s : State) : Host.Outcome State Fault Refusal :=
  s.scalar (.cmp d a b ty cond) (fun q =>
    q.writeReg d (BitVec.ofNat 64 (b2n (compare109 cond.toNat (typeWidth ty.toNat) (q.low a ty) (q.low b ty)))) 1)
/-- SEL (R110). -/
def execSel (d a b c : BitVec 6) (s : State) : Host.Outcome State Fault Refusal :=
  s.scalar (.sel d a b c) (fun q => q.writeReg d (if q.val c ≠ 0 then q.val a else q.val b) 1)
/-- ADDI (R111), a predicted writer (R348). -/
def execAddi (d a : BitVec 6) (imm : BitVec 14) (s : State) : Host.Outcome State Fault Refusal :=
  s.scalar (.addi d a imm) (fun q =>
    let i := (imm.signExtend 64 : Word)
    q.writePredicted d (q.val a + i) 1 (some (predictAdd (q.residueOf a) (res i.toNat) (q.val a).toNat i.toNat)))
/-- MOVI (R111). -/
def execMovi (d : BitVec 6) (imm : BitVec 30) (s : State) : Host.Outcome State Fault Refusal :=
  s.scalar (.movi d imm) (fun q => q.writeReg d (imm.signExtend 64) 1)
/-- MOVH (R111). -/
def execMovh (d a : BitVec 6) (imm : BitVec 30) (s : State) : Host.Outcome State Fault Refusal :=
  s.scalar (.movh d a imm) (fun q => q.writeReg d (q.val a * 2 ^ 30 + imm.setWidth 64) 1)
/-- BFX (R112); `len` is LEN − 1. -/
def execBfx (d a : BitVec 6) (sx : BitVec 1) (pos len : BitVec 6) (s : State) : Host.Outcome State Fault Refusal :=
  s.scalar (.bfx d a sx pos len) (fun q =>
    let f := bits (q.val a).toNat (pos.toNat + len.toNat) pos.toNat
    q.writeReg d (BitVec.ofNat 64 (if sx = 1#1 then sext64 (len.toNat + 1) f else f)) 1)
/-- BFI (R112): OPD is read too. -/
def execBfi (d a pos len : BitVec 6) (s : State) : Host.Outcome State Fault Refusal :=
  s.scalar (.bfi d a pos len) (fun q =>
    q.writeReg d (BitVec.ofNat 64 (setBits (q.val d).toNat pos.toNat (len.toNat + 1) (q.val a).toNat)) 1)
/-- PACK (R113). -/
def execPack (d a b : BitVec 6) (ty : BitVec 4) (s : State) : Host.Outcome State Fault Refusal :=
  s.scalar (.pack d a b ty) (fun q =>
    q.writeReg d (BitVec.ofNat 64 (q.low a ty + q.low b ty * 2 ^ typeWidth ty.toNat)) 1)

/-! ### Scalar floating point (R114 to R116) -/

def execFadd (d a b : BitVec 6) (ty : BitVec 4) (s : State) : Host.Outcome State Fault Refusal :=
  s.scalar (.fadd d a b ty) (fun q => q.writeShadowed d (scalarFmt ty) ((scalarFmt ty).add (q.low a ty) (q.low b ty)) 4)
def execFsub (d a b : BitVec 6) (ty : BitVec 4) (s : State) : Host.Outcome State Fault Refusal :=
  s.scalar (.fsub d a b ty) (fun q => q.writeShadowed d (scalarFmt ty) ((scalarFmt ty).sub (q.low a ty) (q.low b ty)) 4)
def execFmul (d a b : BitVec 6) (ty : BitVec 4) (s : State) : Host.Outcome State Fault Refusal :=
  s.scalar (.fmul d a b ty) (fun q => q.writeShadowed d (scalarFmt ty) ((scalarFmt ty).mul (q.low a ty) (q.low b ty)) 4)
def execFfma (d a b : BitVec 6) (ty : BitVec 4) (c : BitVec 6) (s : State) : Host.Outcome State Fault Refusal :=
  s.scalar (.ffma d a b ty c) (fun q => q.writeShadowed d (scalarFmt ty) ((scalarFmt ty).fma (q.low a ty) (q.low b ty) (q.low c ty)) 4)
def execFmin (d a b : BitVec 6) (ty : BitVec 4) (s : State) : Host.Outcome State Fault Refusal :=
  s.scalar (.fmin d a b ty) (fun q => q.writeFloat d ((scalarFmt ty).least false (q.low a ty) (q.low b ty)) 4)
def execFmax (d a b : BitVec 6) (ty : BitVec 4) (s : State) : Host.Outcome State Fault Refusal :=
  s.scalar (.fmax d a b ty) (fun q => q.writeFloat d ((scalarFmt ty).least true (q.low a ty) (q.low b ty)) 4)
/-- FCMP (R115). -/
def execFcmp (d a b : BitVec 6) (ty cond : BitVec 4) (s : State) : Host.Outcome State Fault Refusal :=
  s.scalar (.fcmp d a b ty cond) (fun q =>
    let r := (scalarFmt ty).test cond.toNat (q.low a ty) (q.low b ty)
    q.writeFloat d (b2n r.1, r.2) 4)
/-- FCVT (R116): an integer result is extended under R105, any other is zero-extended. -/
def execFcvt (d a : BitVec 6) (sty ty : BitVec 4) (rm : BitVec 2) (s : State) : Host.Outcome State Fault Refusal :=
  s.scalar (.fcvt d a sty ty rm) (fun q =>
    let r := convert sty.toNat ty.toNat rm.toNat (q.val a).toNat
    match floatOf ty.toNat with
    | some f => q.writeShadowed d f r 4
    | none => q.writeFloat d (if ty.toNat < 8 then typeExtend ty.toNat r.1 else r.1, r.2) 4)

/-! ### Draw merges (R232, R233) -/

/-- DMERGE (R232, R229). -/
def execDmerge (d a b c : BitVec 6) (greedy : BitVec 1) (s : State) : Host.Outcome State Fault Refusal :=
  s.scalar (.dmerge d a b c greedy) (fun q =>
    let u := drawU32 q.share.dseed.toNat (q.val c).toNat
    let r := mergeTriple (greedy == 1#1) (q.pair a) (q.pair b) u (Config.freeChoice q.st.free 4194304)
    let m := q.mainTriple 128 0 r.1
    ((q.writePair d m.1.canonical 4).raiseZm r.2 m.1.zero 4).shadowed 3 d.toNat (· == 128) m.2)
/-- DSCALE (R233, R229). -/
def execDscale (d a b : BitVec 6) (mode : BitVec 1) (s : State) : Host.Outcome State Fault Refusal :=
  s.scalar (.dscale d a b mode) (fun q =>
    let x := (q.val a).toNat
    let i := bits x 63 32
    let r := if i = 0xFFFFFFFF then (Triple.empty, flagNV) else leafTriple (mode == 1#1) (x % 2 ^ 32) i ((q.val b).toNat % 2 ^ 32)
    let m := q.mainTriple 0 0 r.1
    ((q.writePair d m.1 8).raiseZm r.2 m.1.zero 8).shadowed 3 d.toNat (· == 0) m.2)

end Sys2Proof.Machine
end

