-- ==== Sys2Proof/Machine/Control.lean ====
section
/-! DEFINITION. The B slot: branches, calls, loops, leaving and creating work, traps and control registers (R117 to
R129). -/
namespace Sys2Proof.Machine
open Sys2Proof

/-! ### Changes of flow -/

/-- The target a branch offset reaches (R64, R337). -/
def Bun.target (b : Bun) (off : BitVec 20) : Word := b.cur.pc + off.signExtend 64 * 2
/-- The check of a target, made only when the change of flow is taken (R337). -/
def targetStop (taken : Bool) (t : Word) : Option Stop := stopIf (taken && decide (2 ^ 48 ≤ t.toNat)) (trapRange t)
/-- The change of flow taken (R64). -/
def Bun.jump (b : Bun) (taken : Bool) (t : Word) : Bun :=
  if taken then { b with cur := { b.cur with flow := .jump t } } else b
/-- A hold added to the bundle: a later slot's comes first. -/
def Bun.addHold (b : Bun) (h : Hold) : Bun := { b with cur := { b.cur with holds := h :: b.cur.holds } }
/-- Whether BR is taken (R117). -/
def brTaken (zs : BitVec 1) (v : Word) : Bool := if zs = 1#1 then v == 0 else v != 0
/-- Whether BRK is taken (R117). -/
def brkTaken (cond : BitVec 3) (k : Pred) : Bool :=
  match cond.toNat with
  | 0 => k != 0
  | 1 => k == BitVec.allOnes 128
  | 2 => k == 0
  | _ => k != BitVec.allOnes 128

/-- BR (R117). -/
def execBr (zs : BitVec 1) (r : BitVec 5) (off : BitVec 20) (s : State) : Host.Outcome State Fault Refusal :=
  s.runSlot (.br zs r off) (fun b =>
    let taken := brTaken zs (b.val (r.setWidth 6))
    b.check [targetStop taken (b.target off)] (fun b => b.jump taken (b.target off)))
/-- BRK (R117). -/
def execBrk (k cond : BitVec 3) (off : BitVec 20) (s : State) : Host.Outcome State Fault Refusal :=
  s.runSlot (.brk k cond off) (fun b =>
    let taken := brkTaken cond (b.pred k)
    b.check [targetStop taken (b.target off)] (fun b => b.jump taken (b.target off)))
/-- CALL (R118). -/
def execCall (r : BitVec 5) (off : BitVec 20) (s : State) : Host.Outcome State Fault Refusal :=
  s.runSlot (.call r off) (fun b => b.check [targetStop true (b.target off)] (fun b =>
    (b.writeReg (r.setWidth 6) (b.cur.pc + BitVec.ofNat 64 b.cur.len) 1).jump true (b.target off)))
/-- RET (R118). -/
def execRet (r : BitVec 5) (s : State) : Host.Outcome State Fault Refusal :=
  s.runSlot (.ret r) (fun b =>
    let t := b.val (r.setWidth 6)
    b.check [stopIf (2 ^ 48 ≤ t.toNat || t.getLsbD 0) (trapRange t)] (fun b => b.jump true t))

/-! ### Hardware loops -/

/-- A loop counter written (R119, R120), a predicted writer (R348). -/
def Bun.writeLc (b : Bun) (n : BitVec 2) (v : BitVec 32) (pred : Option Nat) : Bun :=
  b.writeMarked (.lc n.toNat) (v.setWidth 4096) 1 pred

/-- LOOP (R119). -/
def execLoop (n : BitVec 2) (off : BitVec 20) (c : BitVec 6) (imm : BitVec 1) (cnt : BitVec 9) (s : State) :
    Host.Outcome State Fault Refusal :=
  s.runSlot (.loop n off c imm cnt) (fun b =>
    let v := if imm = 1#1 then cnt.setWidth 64 else b.val c
    let exits := v == 0
    b.check [stopIf (2 ^ 32 ≤ v.toNat) trapOperand, targetStop exits (b.target off)] (fun b =>
      if exits then (b.writeLc n 0 none).jump true (b.target off)
      else b.writeLc n ((v - 1).setWidth 32) (some (predictSub (if imm = 1#1 then res v.toNat else b.residueOf c) 1 v.toNat 1))))
/-- ENDL (R120). -/
def execEndl (n : BitVec 2) (off : BitVec 20) (s : State) : Host.Outcome State Fault Refusal :=
  s.runSlot (.endl n off) (fun b =>
    let v := b.strand.readLc n.toNat
    let taken := v != 0
    b.check [targetStop taken (b.target off)] (fun b =>
      let r := if b.strand.inflight.all (fun l => l.dst != .lc n.toNat) then b.strand.residueAt (48 + n.toNat) v.toNat else res v.toNat
      if taken then (b.writeLc n (v - 1) (some (predictSub r 1 v.toNat 1))).jump true (b.target off) else b))

/-! ### Leaving, handing over and creating work -/

/-- The CHECKSUM trap a covering bundle raises for an operation of one of its tags (R166, R316). -/
def Bun.checksumStop (b : Bun) (covers : Nat → Bool) : Option Stop :=
  (b.strand.checksums.find? covers).map (fun tag => .trap { cause := 0x0B, info := BitVec.ofNat 64 tag })
/-- Whether the strand is in its handler (R313). -/
def Bun.handler (b : Bun) : Bool := b.st.inHandler b.slotNo b.cur.pc.toNat
/-- A stall, with what it starts, until earlier accesses of the strand meet the writer half of PHASE at a scope
(R34, R205, R208). -/
def Bun.writerWait (b : Bun) (scope : Nat) (act : StallAct) : Option Stop :=
  let t := b.strand
  stopIf (1 ≤ scope && (b.cur.unsent || !b.st.writerDone t.gang t.member t.slot (b.cur.begun + 1) scope)) (.stall .engine act)
def Bun.writerStop (b : Bun) (scope : Nat) : Option Stop := b.writerWait scope (.publish scope)
/-- A stall until the strand's matrix operations have retired (R121, R123). -/
def Bun.retireStop (b : Bun) : Option Stop := stopIf (b.st.unretired b.cur.core b.strand) (.stall .matrix .nothing)

/-- The live values of YIELD: s1 to s6 (R121). -/
def Bun.live (b : Bun) : List Word := (List.range 6).map (fun i => b.strand.readReg (1 + i))

/-- YIELD (R28, R121): nothing of its address is examined before the stall of step 1 has ended. -/
def execYield (a : BitVec 6) (s : State) : Host.Outcome State Fault Refusal :=
  s.runSlot (.yield a) (fun b =>
    let va := b.val a
    let tr := b.st.translate b.cur.core b.slotNo va.toNat .store
    let refused := match tr.2 with
      | .error e => some (trapTranslation e va)
      | .ok pa => match b.st.place pa with
        | .fault e => some (trapTranslation e va)
        | .counter _ _ => some (trapTranslation 0 va)
        | .multicast _ _ => some (trapTranslation 0 va)
        | _ => none
    let waits := !b.strand.inflight.isEmpty || b.retireStop.isSome
    let first := [stopIf b.handler trapOperand, b.checksumStop (fun _ => true)] ++ b.reports
    let data := (List.range 6).map (fun i => b.dataResidue (BitVec.ofNat 6 (1 + i)))
    b.check (first ++ (if waits then [stopIf (!b.strand.inflight.isEmpty) (.stall .engine .nothing), b.retireStop]
        else [b.regAddrStop a 0 64 64, refused] ++ data ++ [b.writerStop everyStore])) (fun b =>
      (b.withState (fun _ => tr.1)).addHold
        (.yield va.toNat (tr.2.toOption.getD 0) b.live (b.cur.pc + BitVec.ofNat 64 b.cur.len))))

/-- SPAWN (R33, R34, R122): the record is read once the stores before it are visible. -/
def execSpawn (d a : BitVec 6) (s : State) : Host.Outcome State Fault Refusal :=
  s.runSlot (.spawn d a) (fun b =>
    let va := b.val a
    let r := b.st.virtRead b.cur.core b.slotNo va.toNat 128
    let refused := match r.2 with
      | .error e => some (trapTranslation e.1 va)
      | .ok _ => none
    let waits := b.writerStop everyStore
    b.check ([b.regAddrStop a 0 128 128] ++ b.reports ++ [if waits.isSome then waits else refused]) (fun b =>
      let owner := b.st.gangOwner b.strand.gang
      let q := r.1.spawnRecord (coreCluster b.cur.core) owner (nestRecord (r.2.toOption.getD 0))
      (b.withState (fun _ => q.1)).writeReg d (BitVec.ofNat 64 q.2) 1))

/-- EXIT (R25, R123): the other slots take effect, then the strand is held until its work is done. -/
def execExit (s : State) : Host.Outcome State Fault Refusal :=
  s.runSlot .exit (fun b => b.check (b.checksumStop (fun _ => true) :: b.reports) (fun b => b.addHold .exit))

/-! ### Traps and hibernation -/

/-- TRAP (R124). -/
def execTrap (code : BitVec 8) (s : State) : Host.Outcome State Fault Refusal :=
  s.runSlot (.trap code) (fun b => b.check [] (fun b => b.addDue { cause := 0x0C, code := code.toNat }))

/-- TRET (R125, R319): the frame is read once the bundle's other slots have taken effect. -/
def execTret (s : State) : Host.Outcome State Fault Refusal :=
  s.runSlot .tret (fun b => b.check [stopIf (!b.handler) trapOperand] (fun b => b.addHold .tret))

/-- HIBER (R126, R398). -/
def execHiber (s : State) : Host.Outcome State Fault Refusal :=
  s.runSlot .hiber (fun b => b.check [stopIf b.strand.supplyBy.isNone trapOperand] (fun b => b.addHold .hiber))

/-- NOP (R127). -/
def execNop (s : State) : Host.Outcome State Fault Refusal := s.scalar .nop id

/-! ### Control registers -/

/-- STATUS of a core, as a context reads it (R48, Table 5). -/
def Core.statusWord (k : Core) (c x : Nat) : Nat :=
  let resident := (List.range 4).foldl (fun m i => if (k.strand i).isSome then m ||| (1 <<< i) else m) 0
  (resident <<< 28) ||| (x <<< 26) ||| (coreIsland c <<< 16) ||| (coreCluster c <<< 10) ||| c
/-- The words of a ring (R54, Table 11). -/
def Ring.word (r : Ring) (n : Nat) : Nat := if n = 0 then (r.size <<< 16) ||| r.base else (r.tail <<< 16) ||| r.head
/-- The words of a span (R55, Table 12). -/
def Span.word (p : Span) (n : Nat) : Nat := if n = 0 then p.start.toNat else (b2n p.live <<< 63) ||| p.len
/-- The binding word of a stream (R53, Table 10). -/
def State.bindingWord (s : State) (c n : Nat) : Nat :=
  match Tab.find? (s.core c).share.streams n with
  | none => 0
  | some w =>
    (1 <<< 63) ||| (w.queue <<< 58) ||| (w.elemSz <<< 48) |||
      (min (w.elems.filter (fun e => !e.pending)).length 65535 <<< 32) ||| (min (s.inFlight c n) 65535 <<< 16)

/-- A control register as CRR reads it (R40, R47 to R55). -/
def Bun.control (b : Bun) (cr : Nat) : Word :=
  let k := b.core
  let h := b.share
  if cr = 0 then BitVec.ofNat 64 (k.statusWord b.cur.core b.cur.ctx)
  else if cr = 1 then b.strand.ssr b.strand.readFlags
  else if cr = 2 then k.age
  else if cr = 3 then k.role
  else if cr = 4 then h.split
  else if cr = 5 then h.mdef
  else if cr = 6 then h.qcfg
  else if cr = 7 then h.dseed
  else if cr = 8 then h.fsel
  else if cr = 9 then h.patsel
  else if cr < 14 then (b.strand.readLc (cr - 10)).setWidth 64
  else if cr < 32 then Tab.get h.fmts 0 (cr - 16)
  else if cr < 48 then BitVec.ofNat 64 ((Tab.get h.rings {} ((cr - 32) / 2)).word (cr % 2))
  else if cr < 64 then BitVec.ofNat 64 ((Tab.get h.spans {} ((cr - 48) / 2)).word (cr % 2))
  else BitVec.ofNat 64 (b.st.bindingWord b.cur.core (cr - 64))

/-- CRR (R128). -/
def execCrr (d : BitVec 6) (cr : BitVec 14) (s : State) : Host.Outcome State Fault Refusal :=
  s.scalar (.crr d cr) (fun b => b.writeReg d (b.control cr.toNat) 2)

/-- The rows of Table 8 of the number formats: A, B and accumulation (R102). -/
def formatRow (a b acc : Nat) : Bool :=
  let fp8 := fun x => x == 1 || x == 2
  if acc = 0 then (a == 0 && b == 0) || (fp8 a && fp8 b) || (a == 3 && b == 3) || (a == 6 && b == 6)
  else acc == 1 && ((a == 4 && b == 5) || (a == 5 && b == 4) || (a == 5 && b == 5))
/-- Whether a format-table entry is one R100 accepts. -/
def formatValid (v : Word) : Bool :=
  let f := fun hi lo => bits v.toNat hi lo
  let scaled := fun x => x == 1 || x == 2 || x == 3
  formatRow (f 63 60) (f 59 56) (f 51 48) &&
  (f 55 54 == 0 || (f 55 54 == 1 && scaled (f 63 60))) && (f 53 52 == 0 || (f 53 52 == 1 && scaled (f 59 56))) &&
  decide (f 47 44 ≤ 5) && (f 41 40 == 0 || (f 41 40 == 1 && 2 ≤ f 47 44 && f 47 44 ≤ 4)) && f 39 32 == 0

/-- Whether a new SPLIT would cut a ring or a live copy source of the own scratchpad (R52). A live span that names the
own scratchpad through the cluster window does not count: the spec leaves that open (log 45, DESIGN CHOICE). -/
def Core.splitCuts (k : Core) (size : Nat) : Bool :=
  k.share.rings.any (fun r => r.2.size != 0 && decide (size < 64 * (r.2.base + r.2.size))) ||
  k.copies.any (fun y => y.live && y.sspace == 1 && decide ((size : Int) < y.sourceRange.2))

/-- Values a CRW refuses (R47, R49, R52, R54, R100, Table 8 of the core's state). -/
def Bun.crwRefused (b : Bun) (cr : Nat) (v : Word) : Bool :=
  let f := fun hi lo => bits v.toNat hi lo
  if cr = 4 then decide (5 ≤ f 2 0) || b.core.splitCuts (Config.sramBytes - Config.l1Step * f 2 0)
  else if cr = 5 then decide (5 ≤ f 2 0) || f 6 5 == 3
  else if cr = 8 then decide (5 ≤ f 2 0)
  else if 10 ≤ cr && cr < 14 then f 63 32 != 0
  else if 16 ≤ cr && cr < 32 then !formatValid v
  else if 32 ≤ cr && cr < 48 then
    if cr % 2 = 0 then decide (24576 < f 31 16) || decide (b.core.spadSize / 64 < f 15 0 + f 31 16)
    else
      let r := Tab.get b.share.rings {} ((cr - 32) / 2)
      decide (2 * r.size ≤ f 15 0) || decide (2 * r.size ≤ f 31 16) ||
        decide (r.size < ({ r with head := f 15 0, tail := f 31 16 } : Ring).occupancy)
  else false

/-- Whether an engine still uses a ring: an unretired operation that names it, or a walk that fills it (R54, R339). -/
def State.ringBusy (s : State) (c n : Nat) : Bool :=
  (s.core c).mq.any (fun o => o.rings.testBit n) ||
  s.walks.any (fun w => w.2.core == c && w.2.toRing && w.2.target == n && !w.2.finished)

/-- What a CRW waits for (R52, R54, R339). -/
def Bun.crwStall (b : Bun) (cr : Nat) : Option Stop :=
  if cr = 4 then
    stopIf (b.core.ctxs.any (fun e => !e.2.inflight.isEmpty) || !b.core.patlds.isEmpty ||
        b.st.reqs.any (fun e => e.2.core == b.cur.core && e.2.waits)) (.stall .engine .nothing)
  else if 32 ≤ cr && cr < 48 then stopIf (b.st.ringBusy b.cur.core ((cr - 32) / 2)) (.stall .engine .nothing)
  else none

/-- CRW (R128). -/
def execCrw (a : BitVec 6) (cr : BitVec 14) (s : State) : Host.Outcome State Fault Refusal :=
  s.runSlot (.crw a cr) (fun b =>
    let v := b.val a
    let n := cr.toNat
    b.check [stopIf (b.crwRefused n v) trapOperand, b.dataResidue a, b.crwStall n] (fun b =>
      if 10 ≤ n && n < 14 then b.write (.lc (n - 10)) (v.setWidth 4096) 1
      else b.shareWrite (.crw n v)))

end Sys2Proof.Machine
end

