-- ==== Sys2Proof/Machine/Memory.lean ====
section
/-! DEFINITION. The M0 and M1 slots: loads and stores of the own scratchpad, of the cluster window and of global
memory, gathers, scatters, flags, atomics and prefetch (R201 to R204, R207 to R210, R234, R239 to R248). -/
namespace Sys2Proof.Machine
open Sys2Proof

/-! ### Shared operations -/

/-- The size in bytes of an SZ code (R242). -/
def sizeOf (sz : BitVec 2) : Nat := 2 ^ sz.toNat

/-- A request of the issuing strand. -/
def Bun.request (b : Bun) (queue : Nat) (kind : ReqKind) (parts : List Part) (m : Mods) : Request :=
  { b.strand.request b.cur.core b.cur.ctx b.handler queue kind parts with
    bundle := b.cur.pc, space := m.space, order := m.orderOf, scope := m.scope, oflag := m.oflag, cache := m.cache, merge := m.merge,
    credits := min parts.length (b.core.credits queue) }
/-- A request entered in its queue (R194). -/
def Bun.enter (b : Bun) (r : Request) : Bun := b.withState (fun s => s.addReq r)

/-- A load of the own scratchpad, performed when the bundle issues (R202, R242, R243): `bytes` pairs a byte of the
result with a scratchpad byte.  An uncorrectable word leaves the destination undefined (R359). -/
def Bun.spadLoad (b : Bun) (d : Dest) (field : Nat) (old : BitVec 4096) (bytes : List (Nat × Nat)) : Bun :=
  match bytes.findSome? (fun e => b.badWord e.2 1) with
  | some w =>
    if d = .reg 0 then b.addDue { cause := 0x0D, addr := BitVec.ofNat 64 w } else
    (b.write d (Config.freeBits (64 * b.st.free + b.cur.slot) 4) 7).addDue
      { cause := 0x0D, addr := BitVec.ofNat 64 w, info := BitVec.ofNat 64 (2 ^ 63 + (field % 64) * 2 ^ 32) }
  | none =>
    if d = .reg 0 then b else { b with cur := { b.cur with loads := b.cur.loads ++ [{ slot := b.cur.slot, dst := d, old := old, bytes := bytes }] } }

/-- A store to the own scratchpad, performed when the bundle issues (R202). -/
def Bun.spadStore (b : Bun) (bytes : List (Nat × Byte)) : Bun :=
  { b with cur := { b.cur with stores := b.cur.stores ++ bytes.map (fun e => (b.cur.slot, e.1, e.2)) } }

/-- The records of the strand's phase buffer that `p` picks, sent, and what the bundle waits for where a queue has no
credit for one: a frozen queue reports (R204, R321). -/
def Bun.flush (b : Bun) (p : BufRec → Bool) (act : StallAct) : State × Option Stop :=
  let r := b.st.publish b.cur.core b.cur.ctx p
  let queues := (b.strand.phase.filter p).map (·.queue)
  (r.1, if r.2 then none else some ((queues.findSome? (fun q => b.st.frozenTrap b.cur.core q b.strand)).getD (.stall .credit act)))
/-- Whether a record is for a sector of a request. -/
def sectorOf (parts : List Part) (r : BufRec) : Bool := parts.any (fun p => p.addr / 32 == r.sector)
/-- The records of the strand's phase buffer for the sectors of a request, performed before it (R204). -/
def Bun.flushSectors (b : Bun) (parts : List Part) : State × Option Stop := b.flush (sectorOf parts) .nothing
/-- What an immediate access waits for before it is sent: the records of its sectors (R204), and under release the
writer half of PHASE begun (R208). -/
def Bun.immediateStops (b : Bun) (parts : List Part) (m : Mods) : List (Option Stop) :=
  if m.order = 2 then
    b.reports ++ [if 1 ≤ m.scope then (b.flush (fun _ => true) (.publish m.scope)).2 else none, (b.flushSectors parts).2]
  else [(b.flushSectors parts).2]
/-- The phase buffer as an immediate access leaves it: its sectors performed, or under release all of it. -/
def Bun.beforeImmediate (b : Bun) (parts : List Part) (m : Mods) : Bun :=
  let b1 := if m.order = 2 && 1 ≤ m.scope then b.withState (fun s => (s.publish b.cur.core b.cur.ctx (fun _ => true)).1) else b
  b1.withState (fun _ => (b1.flushSectors parts).1)

/-- The sectors whose records an access performs before it: those of a global address (R204). -/
def Mods.flushed (m : Mods) (parts : List Part) : List Part := if m.space = 0 then parts else []

/-- The bundle as an access finds it when it takes its credit (R204, R208). -/
def Bun.prepared (b : Bun) (parts : List Part) (m : Mods) : Bun :=
  if m.order = 0 then b else b.beforeImmediate (m.flushed parts) m

/-- Loaded parts with the bytes of the strand's own stores that the load sees first (R203). -/
def Bun.overlaid (b : Bun) (parts : List Part) : List Part :=
  parts.map (fun p =>
    let own := b.st.ownBytes b.strand p.addr
    { p with overlayMask := BitVec.ofNat 32 own.1 &&& p.mask, overlay := BitVec.ofNat 256 own.2 })

/-- A load of global or window memory delivered to a stream, made of accesses of `unit` bytes (R241, R244). -/
def Bun.sendLoad (b : Bun) (d : BitVec 6) (kind : ReqKind) (parts : List Part) (m : Mods) (secOnly : Bool) (unit : Nat) : Bun :=
  let immediate := m.order ≠ 0
  let b1 := if immediate then b.beforeImmediate (m.flushed parts) m else b
  let ps := if m.space = 2 || immediate then parts else b1.overlaid parts
  b1.enter { b1.request (b1.streamQueue d) kind ps m with stream := some (d.toNat % 8), secOnly := secOnly, unit := unit }

/-- The module of another's memory that a global address leads to, as its store is classed at issue (R201). -/
def Bun.remoteModule (b : Bun) (va : Nat) : Option Nat :=
  match (b.st.translate b.cur.core b.slotNo va .store).2 with
  | .ok pa => if pa / 2 ^ 44 = b.st.modnum then none else some (pa / 2 ^ 44)
  | .error _ => none

/-- A buffered store merged into the strand's phase buffer (R204). -/
def Strand.buffer (t : Strand) (queue : Nat) (nocomp : Bool) (p : Part) : Strand :=
  let sec := p.addr / 32
  match t.phase.find? (fun r => r.sector == sec) with
  | some r =>
    let r1 : BufRec := { r with mask := r.mask ||| p.mask, data := BitVec.ofNat 256 (mergeBytes 32 p.mask.toNat p.data.toNat r.data.toNat), queue := queue, nocomp := r.nocomp || nocomp }
    { t with phase := t.phase.map (fun m => if m.sector == sec then r1 else m) }
  | none => { t with phase := t.phase ++ [{ sector := sec, mask := p.mask, data := p.data, queue := queue, nocomp := nocomp }] }
/-- How many of the oldest records must be performed before these parts are buffered (R204). -/
def Strand.overflow (t : Strand) (parts : List Part) : Nat :=
  let fresh := parts.filter (fun p => !t.phase.any (fun r => r.sector == p.addr / 32))
  t.phase.length + fresh.length - 128
/-- Parts buffered in order; the oldest record is performed when a new one finds 128 in use. -/
def State.bufferParts (s : State) (c x queue : Nat) (nocomp : Bool) (parts : List Part) : State × Bool :=
  match parts with
  | [] => (s, true)
  | p :: rest =>
    match s.strand c x with
    | none => (s, true)
    | some t =>
      let (s1, ok) := if 0 < t.overflow [p] then s.publishOldest c x 1 else (s, true)
      if ok then ((s1.mapStrand c x (·.buffer queue nocomp p))).bufferParts c x queue nocomp rest else (s1, false)
termination_by structural parts

/-- What a buffered store waits for: its queue not frozen (R321), and room in the phase buffer (R204). -/
def Bun.bufferStop (b : Bun) (parts : List Part) (m : Mods) : Option Stop :=
  let r := b.st.bufferParts b.cur.core b.cur.ctx m.queue (m.cache == 3) parts
  if (b.frozenStop m.queue).isSome then b.frozenStop m.queue
  else if r.2 then none
  else match b.creditStop ((b.strand.phase.head?.map (·.queue)).getD 0) 1 with
    | some e => match e with
      | .trap _ => some e
      | .stall w _ => some (.stall w (.oldest (b.strand.overflow parts)))
    | none => some (.stall .credit (.oldest (b.strand.overflow parts)))
def Bun.buffered (b : Bun) (parts : List Part) (m : Mods) : Bun :=
  b.withState (fun s => (s.bufferParts b.cur.core b.cur.ctx m.queue (m.cache == 3) parts).1)

/-- The spaces and modifiers of an access checked (R77, R240). -/
def Bun.accessStops (b : Bun) (spaces : List Nat) (acquire release oflag : Bool) : List (Option Stop) :=
  [b.orderStop acquire release oflag, stopIf (b.mods.space != 3 && !spaces.contains b.mods.space) trapOperand]

/-! ### Scratchpad and window loads and stores (R242, R243) -/

/-- Whether an access whose SPACE is 0 or 1 selects the own scratchpad (R240). -/
def Mods.own (m : Mods) : Bool := m.space != 2

/-- LD (R242). -/
def execLd (d : BitVec 6) (a : BitVec 4) (sz : BitVec 2) (off : BitVec 12) (s : State) : Host.Outcome State Fault Refusal :=
  s.runSlot (.ld d a sz off) (fun b =>
    let m := b.clipped
    let ea := b.ea a off
    let n := sizeOf sz
    let space := if m.own then 1 else 2
    let target := if m.own then stopIf (!isDest d) (trapReg d.toNat) else b.targetStop d 0 m 1
    b.check (b.accessStops [0, 1, 2] false false false ++ [b.memStop a space n n ea, target]) (fun b =>
      let b1 := b.narrow
      if m.own then
        b1.spadLoad (.reg d.toNat) d.toNat 0 (loadRun 0 ea.toNat n)
      else b1.sendLoad d .load (loadParts (loadRun ea.toNat 0 n)) { m with space := 2 } false n))

/-- ST (R242). -/
def execSt (d : BitVec 6) (a : BitVec 4) (sz : BitVec 2) (off : BitVec 12) (s : State) : Host.Outcome State Fault Refusal :=
  s.runSlot (.st d a sz off) (fun b =>
    let m := b.clipped
    let ea := b.ea a off
    let n := sizeOf sz
    let space := if m.own then 1 else 2
    let bytes := storeRun ea.toNat n (b.val d).toNat
    b.check (b.accessStops [0, 1, 2] false false false ++
        [b.memStop a space n n ea, b.dataResidue d, b.copyStop space ea.toNat n,
          if m.own then none else b.creditStop m.queue 1]) (fun b =>
      let b1 := b.narrow
      if m.own then b1.spadStore bytes else b1.enter (b1.request m.queue .store (storeParts bytes) { m with space := 2 })))

/-- The stride of VLD and VST (R243). -/
def Bun.stride (b : Bun) (c : BitVec 6) (reg : BitVec 1) (simm : BitVec 9) : Word :=
  if reg = 1#1 then b.val c else simm.signExtend 64 * 16
/-- The unit checks of VLD and VST, the lowest failing unit reported (R336). -/
def Bun.unitStop (b : Bun) (space : Nat) (ea stride : Word) : Option Stop :=
  firstUnit ((List.range 32).map (fun u => b.addrStop space 16 16 (ea + BitVec.ofNat 64 u * stride)))
/-- The bytes of the active lanes: byte of the register image, byte address (R243). -/
def unitBytes (k : Pred) (ea stride : Word) : List (Nat × Nat) :=
  (List.range 32).flatMap (fun u =>
    let a := (ea + BitVec.ofNat 64 u * stride).toNat
    (List.range 16).filterMap (fun i => if k.getLsbD (4 * u + i / 4) then some (16 * u + i, a + i) else none))

/-- The cycles by which units of a VLD or VST with an active lane in one bank exceed one access (R181, R182). -/
def bankCycles (k : Pred) (ea stride : Word) : Nat :=
  let banks := (List.range 32).filterMap (fun u =>
    if (k.extractLsb' (4 * u) 4) = 0#4 then none else some (((ea + BitVec.ofNat 64 u * stride).toNat / 16) % 32))
  (List.range 32).foldl (fun n i => max n ((banks.filter (· == i)).length - 1)) 0
/-- The stall of a bundle for scratchpad banks, counted from the cycle in which nothing else stopped it (R182). -/
def Bun.bankStop (b : Bun) (n : Nat) : Option Stop :=
  stopIf ((b.strand.bankSince.elim 0 (fun c => b.core.cycle - c)) < n) (.stall .none .banks)

/-- The checks VLD and VST share (R182, R240, R243, R336). -/
def Bun.unitStops (b : Bun) (a : BitVec 4) (k : BitVec 3) (reg : BitVec 1) (space : Nat) (ea stride : Word) : List (Option Stop) :=
  (if space = 1 then [b.bankStop (bankCycles (b.pred k) ea stride)] else []) ++
  b.accessStops [0, 1, 2] false false false ++
    [stopIf (2 ^ 56 ≤ (b.val (areg a)).toNat) (trapRange ea), b.addrResidue (areg a) a.toNat,
      stopIf (reg = 1#1 && stride.toNat % 16 ≠ 0) (trapAlign (if ea.toNat % 16 ≠ 0 then ea else ea + stride)),
      b.unitStop space ea stride]

/-- VLD (R243). -/
def execVld (d : BitVec 6) (a : BitVec 4) (k : BitVec 3) (off : BitVec 12) (c : BitVec 6) (reg : BitVec 1) (simm : BitVec 9)
    (s : State) : Host.Outcome State Fault Refusal :=
  s.runSlot (.vld d a k off c reg simm) (fun b =>
    let m := b.clipped
    let ea := b.ea a off
    let stride := b.stride c reg simm
    let space := if m.own then 1 else 2
    let bytes := unitBytes (b.pred k) ea stride
    let parts := loadParts (bytes.map (fun e => (e.2, e.1)))
    b.check (b.unitStops a k reg space ea stride ++ [if m.own then none else b.targetStop d 2 m parts.length]) (fun b =>
      let b1 := b.narrow
      if m.own then b1.spadLoad (.vec d.toNat) d.toNat (b.vec d) bytes
      else b1.sendLoad d .load parts { m with space := 2 } false 16))

/-- VST (R243): where units overlap, the higher one wins. -/
def execVst (d : BitVec 6) (a : BitVec 4) (k : BitVec 3) (off : BitVec 12) (c : BitVec 6) (reg : BitVec 1) (simm : BitVec 9)
    (s : State) : Host.Outcome State Fault Refusal :=
  s.runSlot (.vst d a k off c reg simm) (fun b =>
    let m := b.clipped
    let ea := b.ea a off
    let stride := b.stride c reg simm
    let space := if m.own then 1 else 2
    let v := (b.vec d).toNat
    let bytes := (unitBytes (b.pred k) ea stride).map (fun e => (e.2, byteOf v e.1))
    let parts := storeParts bytes
    let live := firstUnit (parts.map (fun p => b.copyStop space p.addr 32))
    b.check (b.unitStops a k reg space ea stride ++ [b.vecResidue d (fun l => (b.pred k).getLsbD l), live,
        if m.own then none else b.creditStop m.queue parts.length]) (fun b =>
      let b1 := b.narrow
      if m.own then b1.spadStore bytes
      else if parts.isEmpty then b1
      else b1.enter (b1.request m.queue .store parts { m with space := 2 })))

/-! ### Queued loads, stores, sectors and flags (R244) -/

/-- The checks and effect of LDQ and LDSEC: one sector, delivered to a stream. -/
def Bun.queuedLoad (b : Bun) (d : BitVec 6) (a : BitVec 4) (off : BitVec 12) (n elemSz : Nat) (secOnly : Bool) : Except Stop Bun :=
  let m := b.clipped
  let ea := b.ea a off
  let parts := loadParts (loadRun ea.toNat 0 n)
  b.check (b.accessStops [0, 2] true false false ++
      [b.memStop a m.space n n ea, (b.prepared parts m).targetStop d elemSz m 1] ++ (if m.order = 0 then [] else b.immediateStops (m.flushed parts) m)) (fun b =>
    (if m.space = 2 then b.narrow else b).sendLoad d .load parts m secOnly n)

/-- LDQ (R244). -/
def execLdq (d : BitVec 6) (a : BitVec 4) (sz : BitVec 2) (off : BitVec 12) (s : State) : Host.Outcome State Fault Refusal :=
  s.runSlot (.ldq d a sz off) (fun b => b.queuedLoad d a off (sizeOf sz) 0 false)
/-- LDSEC (R244). -/
def execLdsec (d : BitVec 6) (a : BitVec 4) (off : BitVec 12) (s : State) : Host.Outcome State Fault Refusal :=
  s.runSlot (.ldsec d a off) (fun b => b.queuedLoad d a off 32 1 true)

/-- A store sent at once: a window store, a remote store, STF, or an STQ with release (R201, R244). -/
def Bun.sendStore (b : Bun) (parts : List Part) (m : Mods) (immediate remote flag : Bool) : Bun :=
  let b1 := if m.space = 2 then b.narrow else b
  let b2 := if immediate && m.space = 0 then b1.beforeImmediate parts m
    else if m.order = 2 then b1.beforeImmediate [] m else b1
  b2.enter { b2.request m.queue .store parts m with remote := remote, immediate := immediate, flag := flag }

/-- STQ (R244): buffered, remote, window or, under release, immediate. -/
def execStq (d : BitVec 6) (a : BitVec 4) (sz : BitVec 2) (off : BitVec 12) (s : State) : Host.Outcome State Fault Refusal :=
  s.runSlot (.stq d a sz off) (fun b =>
    let m := b.clipped
    let ea := b.ea a off
    let n := sizeOf sz
    let parts := storeParts (storeRun ea.toNat n (b.val d).toNat)
    let remote := m.space = 0 && (b.remoteModule ea.toNat).isSome
    let direct := m.order ≠ 0 || m.space = 2 || remote
    b.check (b.accessStops [0, 2] false true false ++
        [b.memStop a m.space n n ea, b.dataResidue d, b.copyStop m.space ea.toNat n] ++
        (if m.order ≠ 0 then b.immediateStops (m.flushed parts) m else []) ++
        [if direct then (b.prepared parts m).creditStop m.queue 1 else b.bufferStop parts m]) (fun b =>
      if direct then b.sendStore parts m (m.order ≠ 0) remote false else b.buffered parts m))

/-- STF (R210, R244): always immediate. -/
def execStf (d : BitVec 6) (a : BitVec 4) (sz : BitVec 2) (off : BitVec 12) (s : State) : Host.Outcome State Fault Refusal :=
  s.runSlot (.stf d a sz off) (fun b =>
    let m := b.clipped
    let ea := b.ea a off
    let n := sizeOf sz
    let parts := storeParts (storeRun ea.toNat n (b.val d).toNat)
    let remote := m.space = 0 && (b.remoteModule ea.toNat).isSome
    b.check (b.accessStops [0, 2] false true true ++
        [b.memStop a m.space n n ea, b.dataResidue d, b.copyStop m.space ea.toNat n] ++
        b.immediateStops (m.flushed parts) m ++ [(b.beforeImmediate (m.flushed parts) m).creditStop m.queue 1]) (fun b =>
      b.sendStore parts m true remote true))

/-! ### Gathers and scatters (R245) -/

/-- The active lanes of a gather or scatter with their addresses, in lane order (R245, R336). -/
def Bun.laneAddrs (b : Bun) (ea : Word) (offsets : BitVec 6) (sz shift : BitVec 2) (k : BitVec 3) : List (Nat × Word) :=
  let v := b.vec offsets
  let p := b.pred k
  (List.range (if sz = 3#2 then 16 else 128)).filterMap (fun i =>
    if p.getLsbD i then some (i, ea + BitVec.ofNat 64 (elem v 32 i <<< shift.toNat)) else none)
/-- The bytes of one lane: 1, 2 or 4, or a sector under SZ 3. -/
def laneBytes (sz : BitVec 2) : Nat := if sz = 3#2 then 32 else 2 ^ sz.toNat
/-- Where lane `i` stands in the element. -/
def laneOffset (sz : BitVec 2) (i : Nat) : Nat := if sz = 3#2 then 32 * i else 4 * i

/-- GATHERQ (R245). -/
def execGatherq (d : BitVec 6) (a : BitVec 4) (sz : BitVec 2) (off : BitVec 12) (c : BitVec 6) (shift : BitVec 2) (k : BitVec 3)
    (s : State) : Host.Outcome State Fault Refusal :=
  s.runSlot (.gatherq d a sz off c shift k) (fun b =>
    let m := b.clipped
    let ea := b.ea a off
    let lanes := b.laneAddrs ea c sz shift k
    let n := laneBytes sz
    let parts := loadParts (lanes.flatMap (fun e => loadRun e.2.toNat (laneOffset sz e.1) n))
    b.check (b.accessStops [0] false false false ++
        [stopIf (2 ^ 56 ≤ (b.val (areg a)).toNat) (trapRange ea), b.addrResidue (areg a) a.toNat,
          firstUnit (lanes.map (fun e => b.addrStop 0 n n e.2)), b.targetStop d 2 m parts.length]) (fun b =>
      b.sendLoad d .load parts m true n))

/-- The parts of a scatter in another module's memory, one request each, and those of its own (R201, R245). -/
def Bun.remoteParts (b : Bun) (parts : List Part) : List Part := parts.filter (fun p => (b.remoteModule p.addr).isSome)
def Bun.localParts (b : Bun) (parts : List Part) : List Part := parts.filter (fun p => (b.remoteModule p.addr).isNone)

/-- Remote sectors sent, each a request of its own: of more than the queue has credits in total, a later one waits for
the credit of an earlier one (R245). -/
def Bun.sendParts (b : Bun) (parts : List Part) (m : Mods) : Bun :=
  parts.zipIdx.foldl (fun b e =>
    let late := b.core.credits m.queue ≤ e.2
    let r := b.request m.queue .store [e.1] m
    b.enter { r with remote := true, waits := late, credits := if late then 0 else r.credits }) b

/-- SCATTERQ (R245). -/
def execScatterq (d : BitVec 6) (a : BitVec 4) (sz : BitVec 2) (off : BitVec 12) (c : BitVec 6) (shift : BitVec 2) (k : BitVec 3)
    (s : State) : Host.Outcome State Fault Refusal :=
  s.runSlot (.scatterq d a sz off c shift k) (fun b =>
    let m := b.clipped
    let ea := b.ea a off
    let lanes := b.laneAddrs ea c sz shift k
    let n := laneBytes sz
    let v := (b.vec d).toNat
    let parts := storeParts (lanes.flatMap (fun e => (List.range n).map (fun i => (e.2.toNat + i, byteOf v (laneOffset sz e.1 + i)))))
    let away := b.remoteParts parts
    let home := b.localParts parts
    let dataLane := fun l => if sz = 3#2 then (b.pred k).getLsbD (l / 8) else (b.pred k).getLsbD l
    b.check (b.accessStops [0] false false false ++
        [stopIf (2 ^ 56 ≤ (b.val (areg a)).toNat) (trapRange ea), b.addrResidue (areg a) a.toNat,
          firstUnit (lanes.map (fun e => b.addrStop 0 n n e.2)), b.vecResidue d dataLane,
          firstUnit (parts.map (fun p => b.copyStop 0 p.addr 32)),
          if away.isEmpty then none else b.creditStop m.queue away.length,
          if home.isEmpty then none else (b.sendParts away m).bufferStop home m]) (fun b =>
      let b1 := b.sendParts away m
      if home.isEmpty then b1 else b1.buffered home m))

/-! ### Atomics (R234, R246, R247) -/

/-- AMO other than .draw (R246, R247). -/
def execAmo (d : BitVec 6) (a : BitVec 4) (fn : BitVec 4) (off : BitVec 12) (c : BitVec 6) (ret sgn : BitVec 1) (sz : BitVec 2)
    (newv : BitVec 6) (s : State) : Host.Outcome State Fault Refusal :=
  s.runSlot (.amo d a fn off c ret sgn sz newv) (fun b =>
    let m := b.clipped
    let ea := b.ea a off
    let n := sizeOf sz
    let value := b.val newv
    let kind := ReqKind.amo fn.toNat n (sgn == 1#1) (b.val c) value
    let parts := loadParts (loadRun ea.toNat 0 n)
    let b0 := b.beforeImmediate parts m
    let target := if ret = 1#1 then b0.targetStop d 0 m 1 else b0.creditStop m.queue 1
    b.check (b.accessStops [0] (ret == 1#1) true false ++
        [b.memStop a m.space n n ea, b.dataResidue c, if fn = 7#4 then b.dataResidue newv else none,
          b.copyStop 0 ea.toNat n] ++ b.immediateStops parts m ++ [target]) (fun b =>
      if ret = 1#1 then (b.beforeImmediate parts m).enter { b.request (b.streamQueue d) kind parts m with stream := some (d.toNat % 8) }
      else
        let b1 := b.beforeImmediate parts m
        b1.enter (b1.request m.queue kind parts m)))

/-- AMO.draw (R234): ZM is written at issue (R229). -/
def execAmoDraw (a : BitVec 4) (off : BitVec 12) (c : BitVec 6) (tag : BitVec 8) (greedy : BitVec 1) (s : State) :
    Host.Outcome State Fault Refusal :=
  s.runSlot (.amoDraw a off c tag greedy) (fun b =>
    let m := b.clipped
    let ea := b.ea a off
    let t := b.pair c
    let kind := ReqKind.draw tag.toNat (greedy == 1#1) b.share.dseed (BitVec.ofNat 32 t.m) (BitVec.ofNat 32 t.w) (BitVec.ofNat 32 t.i) 1
    let parts := loadParts (loadRun ea.toNat 0 16)
    b.check (b.accessStops [0] false true false ++
        [b.memStop a m.space 16 16 ea, b.dataResidue c, b.dataResidue (c + 1), b.copyStop 0 ea.toNat 16] ++
        b.immediateStops parts m ++ [(b.beforeImmediate parts m).creditStop m.queue 1]) (fun b =>
      let b1 := b.beforeImmediate parts m
      (b1.enter (b1.request m.queue kind parts m)).raiseZm 0 t.zero 1))

/-! ### Prefetch (R248) -/

/-- PREF (R248): the sector, or the whole line. -/
def execPref (a : BitVec 4) (ext : BitVec 2) (off : BitVec 12) (s : State) : Host.Outcome State Fault Refusal :=
  s.runSlot (.pref a ext off) (fun b =>
    let m := b.clipped
    let ea := b.ea a off
    let base := if ext = 1#2 then ea.toNat / 128 * 128 else ea.toNat / 32 * 32
    let parts : List Part := (List.range (if ext = 1#2 then 4 else 1)).map (fun i => { addr := base + 32 * i, mask := 0xFFFFFFFF#32 })
    b.check (b.accessStops [0] false false false ++
        [b.memStop a m.space 1 1 ea, b.creditStop m.queue parts.length]) (fun b =>
      b.enter (b.request m.queue .pref parts m)))

end Sys2Proof.Machine
end

