-- ==== Sys2Proof/Machine/Engine.lean ====
section
/-! DEFINITION. The E slot: phases, vitrines, fences, copies, spans, barriers, waits, streams, rings, walks, collective
replays, line probes and the time stamp (R205, R211, R215 to R219, R249 to R268), and MWAIT (R174). -/
namespace Sys2Proof.Machine
open Sys2Proof

/-! ### Phases, vitrines and fences -/

/-- PHASE (R205, R250): faults of earlier stores are raised before it, and an interrupt met while it waits is taken after
it; what its own bundle stores is waited for after issue. -/
def execPhase (scope : BitVec 3) (s : State) : Host.Outcome State Fault Refusal :=
  s.runSlot (.phase scope) (fun b =>
    if scope = 0#3 then b.check [] id
    else b.check (b.reports ++ [b.writerWait scope.toNat (.phase scope.toNat)]) (fun b => b.addHold (.phase scope.toNat)))

/-- The vitrine an index names for the strand's owner: another owner's entry counts as none (R251, R439). -/
def Bun.vitrine (b : Bun) (x : Word) : Option Vitrine :=
  if 8192 ≤ x.toNat then none
  else match Tab.find? b.st.vitrines x.toNat with
    | none => none
    | some v => if v.owner = b.st.gangOwner b.strand.gang then some v else none

/-- The vitrine a route-2 destination word names, and its offset (R165). -/
def routeIndex (w : Word) : Nat := bits w.toNat 63 51
/-- Whether an operation holds a route-2 epilogue to a vitrine (R165). -/
def MatrixOp.routesTo (o : MatrixOp) (i : Nat) : Bool :=
  o.words.any (fun w => match decodeMicro w with
    | .ok (.kepi _ r m) => r == 2#2 && routeIndex (Tab.get o.mp 0 m.toNat) == i
    | _ => false)

/-- PUBLISH (R215, R251): it waits for the core's route-2 epilogues and the strand's copies into the vitrine. -/
def execPublish (a : BitVec 6) (s : State) : Host.Outcome State Fault Refusal :=
  s.runSlot (.publish a) (fun b =>
    let i := (b.val a).toNat
    let t := b.strand
    let copying := b.st.copying t (fun c => c.into.contains i)
    let routed := b.core.mq.any (fun o => o.id ≤ b.cur.begun && o.routesTo i)
    b.check ([stopIf (b.vitrine (b.val a)).isNone trapOperand] ++ b.reports ++
        [b.writerStop 3, stopIf (copying || routed) (.stall .engine .nothing)]) (fun b => b.addHold (.publish i)))

/-- VWAIT (R216, R252); one held when its entry is removed answers 0 and 0 (R439). For g = 0 and GEN at or above 2^31 the
condition of R252, which R345 follows, does not hold, while R252's last sentence says that it answers at once: it waits,
the model's choice (log 164). -/
def execVwait (d a g : BitVec 6) (s : State) : Host.Outcome State Fault Refusal :=
  s.runSlot (.vwait d a g) (fun b =>
    let i := b.val a
    match b.strand.answer with
    | some _ => b.check [] (fun b => (b.writeReg d 0 1).writeReg (d + 1) 0 1)
    | none =>
      match b.vitrine i with
      | none => b.check [some trapOperand] id
      | some v =>
        if v.removing then b.check [] (fun b => (b.writeReg d 0 1).writeReg (d + 1) 0 1) else
        let met := (v.gen - (b.val g).setWidth 32).toNat < 2 ^ 31
        b.check [stopIf (!met) (.stall .wait (.vwait i.toNat))] (fun b =>
          (((b.withState (fun s => s.readerHalf b.cur.core 3)).writeReg d (BitVec.ofNat 64 v.front) 1).writeReg (d + 1) (v.gen.setWidth 64) 1)))

/-- The queues a FENCE names: all four for a mask of 0 (R253). -/
def fenceQueues (mask : BitVec 4) : List Nat := (List.range 4).filter (fun q => mask = 0#4 || mask.getLsbD q)

/-- FENCE (R249, R253): for accesses of its own bundle it waits after issue. -/
def execFence (d : BitVec 6) (mask : BitVec 4) (kind : BitVec 1) (s : State) : Host.Outcome State Fault Refusal :=
  s.runSlot (.fence d mask kind) (fun b =>
    let t := b.strand
    let qs := fenceQueues mask
    let waits := fun (last : Nat) => b.st.fenceWaits b.cur.core t qs (kind == 1#1) last
    b.check (qs.map (fun q => b.st.frozenTrap b.cur.core q t) ++ [stopIf (waits b.cur.begun) (.stall .engine .nothing)]) (fun b =>
      if waits b.st.nextReq then b.addHold (.fence d.toNat qs (kind == 1#1) b.st.nextReq)
      else (b.writeReg d (BitVec.ofNat 64 (b.core.pathWord (qs.headD 0))) 1).withState (fun s => s.resetPaths b.cur.core qs)))

/-! ### Copies and spans -/

/-- Bytes of the own scratchpad as an E-slot instruction reads them at issue: after the stores of its own bundle
(R249). -/
def Bun.spadBytes (b : Bun) (off n : Nat) : Nat :=
  ofBytes ((List.range n).map (fun i => (b.st.storedByte b.cur.stores (off + i)).getD (Tab.get b.core.spad 0#8 (off + i))))
/-- Word `i` of a descriptor of 64 bytes. -/
def descWord (d i : Nat) : Nat := (d >>> (64 * i)) % 2 ^ 64

/-- A copy descriptor as a copy (R254): levels 1 to 5, level 1 first. -/
def copyOf (d id gang member slot span : Nat) : CopyOp :=
  let w := descWord d
  { id := id, gang := gang, member := member, slot := slot, span := span, sspace := bits (w 0) 63 62, src := w 0 % 2 ^ 56, dspace := bits (w 1) 63 62, dst := w 1 % 2 ^ 56, run := w 2 % 2 ^ 24, levels := (List.range 5).map (fun l => (bits (w (3 + l)) 63 48, sint 24 (bits (w (3 + l)) 47 24), sint 24 (w (3 + l)))), into := [] }

/-- What R255 refuses in a copy descriptor. -/
def copyRefused (d : Nat) : Bool :=
  let w := descWord d
  let c := copyOf d 0 0 0 0 0
  let r := c.sourceRange
  bits (w 0) 61 56 != 0 || bits (w 1) 61 56 != 0 || bits (w 2) 63 24 != 0 || c.sspace == 3 || c.dspace == 3 ||
    c.run == 0 || c.levels.any (fun l => l.1 == 0) || decide (2 ^ 32 ≤ r.2 - r.1)

/-- Whether a sector of global memory lies in a range of bytes. -/
def inRange (space : Nat) (r : Int × Int) (sector : Nat) : Bool :=
  space == 0 && decide (r.1 < 32 * sector + 32) && decide ((32 * sector : Int) < r.2)

/-- A descriptor or table with an uncorrectable word: the slot has no effect and UNCORRECTABLE is due (R359). -/
def Bun.tornTable (b : Bun) (w : Nat) : Bun := b.addDue { cause := 0x0D, addr := BitVec.ofNat 64 w }

/-- Where the last of some vitrines' shadows ends (R439). -/
def vitrinesEnd (l : List (Nat × Vitrine)) : Option Nat := (l.map (fun v => v.2.shadow + v.2.length)).max?

/-- COPY (R254, R255): into the vitrines whose shadow its destination range overlaps, and bounded by their end (R215, R439;
log 114). -/
def execCopy (a : BitVec 6) (span : BitVec 3) (s : State) : Host.Outcome State Fault Refusal :=
  s.runSlot (.copy a span) (fun b =>
    let n := span.toNat
    let off := (b.val a).toNat
    let d := b.spadBytes off 64
    let t := b.strand
    let base := copyOf d (b.st.nextReq + 1) t.gang t.member t.slot n
    let src := base.sourceRange
    let dst := base.destRange
    let into := b.st.vitrines.filter (fun v => base.dspace == 0 && v.2.owner == b.st.gangOwner t.gang &&
      decide (dst.1 < v.2.shadow + v.2.length) && decide ((v.2.shadow : Int) < dst.2))
    let touched := fun (r : BufRec) => inRange base.sspace src r.sector || inRange base.dspace dst r.sector
    let flush := b.flush touched (.sectors ((t.phase.filter touched).map (·.sector)))
    let address := b.regAddrStop a 1 64 64
    match b.badWord off 64 with
    | some w => b.check [address] (fun b => b.tornTable w)
    | none => b.check [address, stopIf (address.isNone && copyRefused d) trapOperand,
        stopIf ((Tab.get b.share.spans {} n).live || 16 ≤ b.core.copies.length) (.stall .engine .nothing),
        flush.2] (fun b =>
      let live : Span := { start := BitVec.ofInt 64 src.1 &&& 0xFFFFFFFFFFFFFF#64, live := true, len := (src.2 - src.1).toNat }
      b.withState (fun _ => { flush.1 with nextReq := flush.1.nextReq + 1 }.mapCore b.cur.core (fun k =>
        { k with copies := k.copies ++ [{ base with id := flush.1.nextReq + 1, into := Tab.keys into, limit := vitrinesEnd into, slotOwner := b.slotNo }], share := { k.share with spans := Tab.set k.share.spans {} n live } }))))

/-- DRAIN (R219, R256). -/
def execDrain (s : State) : Host.Outcome State Fault Refusal :=
  s.runSlot .drain (fun b => b.check [] (fun b => b.addHold (.drain b.cur.pc)))

/-- SPAN (R257): a range that would pass 2^56 ends there. -/
def execSpan (d a x : BitVec 6) (s : State) : Host.Outcome State Fault Refusal :=
  s.scalar (.span d a x) (fun b =>
    let lo := (b.val a).toNat
    let hi := min (lo + (b.val x).toNat) (2 ^ 56)
    b.writeReg d (BitVec.ofNat 64 ((List.range 8).foldl (fun m n =>
      let p := Tab.get b.share.spans {} n
      if p.live && decide (lo < hi) && decide (lo < p.start.toNat + p.len) && decide (p.start.toNat < hi) then m ||| (1 <<< n) else m) 0)) 1)

/-! ### Barriers and waits -/

/-- The modifiers of a BARRIVE: an immediate access with the writer half of PHASE at module scope (R211, R259). -/
def barriveMods (queue : BitVec 2) : Mods :=
  { scope := 3, space := 0, cache := 0, queue := queue.toNat, merge := false, order := 2, oflag := false, queueNamed := true }

/-- BARRIVE (R211, R259). -/
def execBarrive (a x : BitVec 6) (queue op : BitVec 2) (s : State) : Host.Outcome State Fault Refusal :=
  s.runSlot (.barrive a x queue op) (fun b =>
    let m := barriveMods queue
    let va := (b.val a).toNat
    let v := (b.val x).toNat
    let parts := loadParts (loadRun va 0 16)
    let b0 := b.beforeImmediate parts m
    b.check ([b.regAddrStop a 0 16 16, stopIf (op != 2#2 && decide (65536 ≤ v)) trapOperand,
        stopIf (op = 1#2 && v = 0) trapOperand, b.copyStop 0 va 16] ++ b.immediateStops parts m ++ [b0.creditStop m.queue 1])
      (fun b =>
        let b1 := b.beforeImmediate parts m
        b1.enter (b1.request m.queue (.barrive op.toNat (if op = 2#2 then 0 else v)) parts m)))

/-- The fault of a window access: an offset beyond the target's scratchpad, or another owner's core (R335, R378). -/
def State.windowFault (s : State) (target slot off n : Nat) : Option Nat :=
  let k := s.core target
  if k.lastOwner.isSome && k.lastOwner != s.ownerIn slot then some 2
  else if k.spadSize < off + n then some 7
  else none

/-- Where a wait is held: its waiter, or the sub-cause of its fault (R260, R261, R335). -/
def Bun.waiter (b : Bun) (va size space queue : Nat) (barrier : Option Nat) (cond : Nat) (mask cmp : Word) (texp : Nat) :
    State × Except Nat Waiter :=
  let c := b.cur.core
  let w : Waiter := { core := c, ctx := b.cur.ctx, queue := queue, queued := space ≠ 1, id := b.cur.begun, spad := none, addr := va, size := size, cond := cond, mask := mask, cmp := cmp, barrier := barrier, deadline := if texp = 0 then none else some (b.st.now + 2 ^ texp), slotOwner := b.slotNo }
  if space = 1 then (b.st, .ok { w with spad := some c })
  else if space = 2 then
    let p := windowPlace c va
    match b.st.windowFault p.1 b.slotNo p.2 size with
    | some e => (b.st, .error e)
    | none => (b.st, .ok { w with spad := some p.1, addr := p.2 })
  else
    match b.st.translate c b.slotNo va .load with
    | (s1, .error e) => (s1, .error e)
    | (s1, .ok pa) =>
      match s1.place pa with
      | .local_ off =>
        if s1.badRead off b.key (maskRange (off % 32) size) then (s1, .error 6)
        else (s1, .ok { w with addr := off })
      | .remote m off => (s1, .ok { w with addr := off, module := some m })
      | .counter _ _ => (s1, .error (s1.counterFault c b.slotNo va))
      | .multicast _ _ => (s1, .error 0)
      | .fault e => (s1, .error e)

/-- The checks a WAIT and a BWAIT share: a fault of the address or of its home, a frozen queue, a credit, and the wait
itself. -/
def Bun.waitStops (b : Bun) (va : Word) (space queue : Nat) (r : State × Except Nat Waiter) : List (Option Stop) :=
  match r.2 with
  | .error e => [some (trapTranslation e va)]
  | .ok w =>
    match b.strand.answer with
    | some a => if 16 ≤ a.1 then [some (trapTranslation (a.1 - 16) va)] else []
    | none =>
      let held := b.st.waiters.find? (fun v => v.asker.isNone && v.core == b.cur.core && v.ctx == b.cur.ctx)
      let entered := held.isSome
      let sent := held.any (·.sent)
      [if space = 1 || sent then none else b.st.frozenTrap b.cur.core queue b.strand,
        stopIf (space ≠ 1 && !entered && b.st.creditsFree b.cur.core queue < 1) (.stall .credit .nothing),
        some (.stall .wait (.wait w))]

/-- BWAIT (R260). -/
def execBwait (d a x : BitVec 6) (queue : BitVec 2) (texp : BitVec 5) (s : State) : Host.Outcome State Fault Refusal :=
  s.runSlot (.bwait d a x queue texp) (fun b =>
    let address := b.regAddrStop a 0 16 16
    let r := b.waiter (b.val a).toNat 16 0 queue.toNat (some ((b.val x).toNat % 65536)) 0 0 0 texp.toNat
    b.check (address :: (if address.isNone then b.waitStops (b.val a) 0 queue.toNat r else [])) (fun b =>
      let ans := b.strand.answer.getD (0, 0)
      let b1 := (b.withState (fun _ => r.1)).writeReg d (BitVec.ofNat 64 (ans.2 <<< 16 ||| ans.1)) 1
      if ans.1 = 0 then b1.withState (fun s => s.readerHalf b.cur.core 3) else b1))

/-- WAIT (R261). -/
def execWait (d a x : BitVec 6) (cond : BitVec 3) (texp : BitVec 5) (c : BitVec 6) (space : BitVec 2) (sz : BitVec 1)
    (queue : BitVec 2) (masked : BitVec 1) (s : State) : Host.Outcome State Fault Refusal :=
  s.runSlot (.wait d a x cond texp c space sz queue masked) (fun b =>
    let n := if sz = 1#1 then 8 else 4
    let mask := if masked = 1#1 then b.val c else BitVec.allOnes 64
    let address := b.regAddrStop a space.toNat n n
    let r := b.waiter (b.val a).toNat n space.toNat queue.toNat none cond.toNat mask (b.val x) texp.toNat
    b.check (address :: (if address.isNone then b.waitStops (b.val a) space.toNat queue.toNat r else [])) (fun b =>
      let ans := b.strand.answer.getD (0, 0)
      let b1 := (b.withState (fun _ => r.1)).writeReg d (BitVec.ofNat 64 ans.1) 1
      if ans.1 = 0 then b1.withState (fun s => s.readerHalf b.cur.core 3) else b1))

/-- WAIT_TIMEOUT: the timeout of a WAIT or BWAIT passes and its request is withdrawn, on another module by a message to it
(R260, R261, R373). -/
def execWaitTimeout (core ctx : Nat) (s : State) : Host.Outcome State Fault Refusal :=
  .next (match s.waiters.find? (fun w => w.core == core && w.ctx == ctx && w.asker.isNone) with
    | none => s
    | some w =>
      match w.deadline with
      | none => s
      | some t =>
        if s.now < t then s
        else
          -- an object of another module that has not answered still had the generation waited for when it was tested
          let gen := match w.barrier with
            | some g => if w.module.isNone then s.peek (w.addr / 16 * 16) 2 (s.slotKey w.slotOwner) else g
            | none => 0
          let s1 : State := if w.sent then { s with outbox := s.outbox ++ (w.module.map (OutMsg.withdraw · w.seq)).toList } else s
          s1.answer w 1 gen)

/-! ### Matrix results -/

/-- Retire records merged in the order of retirement (R169): STATUS keeps the first nonzero one, EXCL adds,
saturating, ROUTINE is the last one's. -/
def mergeRetire (l : List Word) : Word :=
  l.foldl (fun a w =>
    let excl := min (bits a.toNat 63 32 + bits w.toNat 63 32) (2 ^ 32 - 1)
    let status := if a.toNat % 256 = 0 then w.toNat % 256 else a.toNat % 256
    BitVec.ofNat 64 (excl <<< 32 ||| bits w.toNat 15 8 <<< 8 ||| status)) 0

/-- MWAIT (R174). -/
def execMwait (d : BitVec 6) (all : BitVec 1) (tag : BitVec 4) (s : State) : Host.Outcome State Fault Refusal :=
  s.runSlot (.mwait d all tag) (fun b =>
    let covers := fun (t : Nat) => all = 1#1 || t == tag.toNat
    let t := b.strand
    let waits := b.core.mq.any (fun o => o.gang == t.gang && o.member == t.member && o.slot == t.slot && covers o.tag && o.id ≤ b.cur.begun)
    b.check [b.checksumStop covers, stopIf waits (.stall .matrix .nothing)] (fun b =>
      let word := mergeRetire ((t.retire.filter (fun e => covers e.1)).map (·.2))
      (b.withState (fun s => s.mapStrand b.cur.core b.cur.ctx (fun t => { t with retire := t.retire.filter (fun e => !covers e.1) }))).writeReg d word 1))

/-! ### Streams and rings -/

/-- SBIND (R263). -/
def execSbind (d : BitVec 6) (elemsz queue : BitVec 2) (s : State) : Host.Outcome State Fault Refusal :=
  s.runSlot (.sbind d elemsz queue) (fun b =>
    let n := d.toNat % 8
    b.check [stopIf (Tab.find? b.share.streams n).isSome trapOperand] (fun b => b.shareWrite (.bind n queue.toNat elemsz.toNat)))
/-- SUNBIND (R263). -/
def execSunbind (d : BitVec 6) (s : State) : Host.Outcome State Fault Refusal :=
  s.runSlot (.sunbind d) (fun b =>
    let n := d.toNat % 8
    b.check [stopIf (0 < b.st.inFlight b.cur.core n) (.stall .stream .nothing)] (fun b =>
      if (Tab.find? b.share.streams n).isSome then b.shareWrite (.unbind n) else b))

/-- The checks and effect of RINGP and RINGA (R264). -/
def Bun.ringMove (b : Bun) (ring : BitVec 3) (a : BitVec 6) (reg : BitVec 1) (count : BitVec 7) (push : Bool) : Except Stop Bun :=
  let n := if reg = 1#1 then (b.val a).toNat else count.toNat
  let r := Tab.get b.share.rings {} ring.toNat
  let waits := if push then decide (r.size < r.occupancy + n) else decide (r.occupancy < n)
  b.check [stopIf (r.size = 0 || decide (65536 ≤ n) || decide (r.size < n)) trapOperand,
      stopIf (n ≠ 0 && waits) (.stall .ring .nothing)] (fun b =>
    if n = 0 then b else b.shareWrite (if push then .push ring.toNat n else .pop ring.toNat n))
/-- RINGP (R264). -/
def execRingp (ring : BitVec 3) (a : BitVec 6) (reg : BitVec 1) (count : BitVec 7) (s : State) : Host.Outcome State Fault Refusal :=
  s.runSlot (.ringp ring a reg count) (fun b => b.ringMove ring a reg count true)
/-- RINGA (R264). -/
def execRinga (ring : BitVec 3) (a : BitVec 6) (reg : BitVec 1) (count : BitVec 7) (s : State) : Host.Outcome State Fault Refusal :=
  s.runSlot (.ringa ring a reg count) (fun b => b.ringMove ring a reg count false)

/-! ### Walks, collectives, probes and time -/

/-- What R265 refuses in a walk descriptor. -/
def Bun.walkRefused (b : Bun) (d : Nat) : Bool :=
  let w := descWord d
  let dest := (w 0).testBit 16
  let target := w 5 % 8
  bits (w 0) 23 18 != 0 || bits (w 1) 63 56 != 0 || bits (w 2) 63 56 != 0 || bits (w 3) 63 56 != 0 ||
    (!(w 0).testBit 17 && bits (w 4) 63 32 != 0) || bits (w 5) 63 5 != 0 || w 6 != 0 || w 7 != 0 || bits (w 0) 31 24 == 0 ||
    (if dest then (Tab.get b.share.rings {} target).size == 0
     else match Tab.find? b.share.streams target with
      | none => true
      | some st => st.elemSz != 0 || st.queue != bits (w 5) 4 3)

/-- The stack that holds ROWPTR entry START (R196): stack 0 where its address does not translate to this module. -/
def State.walkStack (s : State) (c slot va : Nat) : Nat :=
  match (s.translate c slot va .load).2 with
  | .ok pa => match s.place pa with
    | .local_ off => off / 2 ^ 36
    | _ => 0
  | .error _ => 0

/-- WALK (R196, R265): it reads the binding of its stream, or SIZE of its ring, too (R359). -/
def execWalk (a : BitVec 6) (s : State) : Host.Outcome State Fault Refusal :=
  s.runSlot (.walk a) (fun b0 =>
    let d := b0.spadBytes (b0.val a).toNat 64
    let w := descWord d
    let queue := bits (w 5) 4 3
    let target := w 5 % 8
    let hops := bits (w 0) 31 24
    let toRing := (w 0).testBit 16
    let address := b0.regAddrStop a 1 64 64
    let torn := b0.badWord (b0.val a).toNat 64
    let b := if address.isSome || torn.isSome then b0 else b0.readRegisters [if toRing then 32 + 2 * target else 64 + target]
    let t := b.strand
    let stack := b.st.walkStack b.cur.core b.slotNo (w 1 % 2 ^ 56 + 8 * bits (w 0) 63 32)
    let busy := 512 ≤ (b.st.walks.filter (fun e => e.2.stack == stack && !e.2.finished)).length
    let flush := b.flush (fun _ => true) (.oldest 128)
    let after : Bun := { b with st := flush.1 }
    let landed := match Tab.find? b.share.streams target with
      | some st => st.elems.length
      | none => 0
    match torn with
    | some w => b.check [address] (fun b => b.tornTable w)
    | none => b.check [address, stopIf (address.isNone && b.walkRefused d) trapOperand,
        stopIf busy (.stall .engine .nothing), flush.2,
        if toRing || !address.isNone then none else after.creditStop queue (hops + 1),
        stopIf (!toRing && decide (65535 < landed + b.st.inFlight b.cur.core target + hops + 1)) (.stall .stream .nothing)] (fun b =>
      let id := flush.1.nextReq + 1
      let walk : Walk := { core := b.cur.core, ctx := b.cur.ctx, gang := t.gang, member := t.member, slot := t.slot, key := b.share.dseed, start := bits (w 0) 63 32, hops := hops, logit := (w 0).testBit 17, toRing := toRing, tag := w 0 % 65536, rowptr := w 1 % 2 ^ 56, colidx := w 2 % 2 ^ 56, weight := w 3 % 2 ^ 56, temp := BitVec.ofNat 32 (bits (w 4) 63 32), walkid := w 4 % 2 ^ 32, queue := queue, target := target, stack := stack, vertex := bits (w 0) 63 32, desc := (b.val a).toNat }
      b.withState (fun _ => { flush.1 with nextReq := id, walks := Tab.put flush.1.walks id walk })))

/-- COLL (R266): its bundle is held until the hand-off of COLL_HANDOFF. -/
def execColl (a x : BitVec 6) (s : State) : Host.Outcome State Fault Refusal :=
  s.runSlot (.coll a x) (fun b =>
    let g := (b.val a).toNat
    let refused := [b.regAddrStop x 1 64 64, stopIf (65536 ≤ g || (Tab.find? b.st.coll.graphs g).isNone) trapOperand]
    match b.badWord (b.val x).toNat 64 with
    | some w => b.check refused (fun b => b.tornTable w)
    | none => b.check (refused ++ b.reports ++
        [b.writerStop 3]) (fun b => b.addHold (.coll g (b.val x).toNat b.cur.pc b.st.now)))

/-- LPROBE is an access of Q0: it waits until every earlier request of that queue has been sent, and those to its line
performed (R194, R267). As its answer comes before its bundle issues, the accesses of that bundle come after it (R73, R249;
log 173). -/
def Bun.probeWaits (b : Bun) (pa : Nat) : Bool :=
  b.st.reqs.any (fun e =>
    let r := e.2
    decide (e.1 ≤ b.cur.begun) && r.core == b.cur.core && r.queue == 0 && !r.settled && (!r.begun || r.parts.any (fun p => !p.done &&
      (match b.st.partPlace r p with
        | (0, x) => x / 128 == pa / 128
        | (n, x) => n != 2 && x % 65536 / 128 == pa % 65536 / 128))))
/-- LPROBE (R191, R267): a line of another module is probed there, and the bundle stalls until the answer (R73, R335). -/
def execLprobe (d a : BitVec 6) (s : State) : Host.Outcome State Fault Refusal :=
  s.runSlot (.lprobe d a) (fun b =>
    let va := b.val a
    let c := b.cur.core
    let address := b.regAddrStop a 0 1 1
    let tr := b.st.translate c b.slotNo va.toNat .load
    let place := match tr.2 with
      | .error e => Place.fault e
      | .ok pa => tr.1.place pa
    let refused := match place with
      | .fault e => some (trapTranslation e va)
      | .counter _ _ => some (trapTranslation (tr.1.counterFault c b.slotNo va.toNat) va)
      | .multicast _ _ => some (trapTranslation 0 va)
      | _ => none
    let answered := match place with
      | .remote m off => match b.strand.answer with
        | some a => if 16 ≤ a.1 then some (trapTranslation (a.1 - 16) va) else none
        | none => some (.stall .engine (.probe m off (tr.1.slotOwner b.slotNo)))
      | _ => none
    let waits := match tr.2 with
      | .ok pa => b.probeWaits pa
      | .error _ => false
    let frozen := if b.core.isFrozen 0 then
        some ((b.st.frozenTrap c 0 b.strand).getD (.stall .credit .nothing)) else b.creditStop 0 1
    b.check [address, if address.isNone then refused else none, frozen, stopIf waits (.stall .engine .nothing), answered] (fun b =>
      let b1 := b.withState (fun _ => tr.1)
      match place with
      | .local_ off =>
        b1.writeReg d (BitVec.ofNat 64 (((b1.st.cluster (homeCluster off)).find (off / 128)).elim 0 L2Line.stateWord)) 1
      | .remote _ _ => b1.writeReg d (BitVec.ofNat 64 (b.strand.answer.getD (0, 0)).2) 1
      | _ => b1))

/-- TSREAD (R268): the stamp at issue. -/
def execTsread (d : BitVec 6) (s : State) : Host.Outcome State Fault Refusal :=
  s.scalar (.tsread d) (fun b => b.writeReg d (BitVec.ofNat 64 b.st.now) 8)

end Sys2Proof.Machine
end

