-- ==== Sys2Proof/Machine/Replay.lean ====
section
/-! DEFINITION. Replays of collective graphs by graph and step, how one fails, and what answers its writes on other modules
(R294, R296, R386). -/
namespace Sys2Proof.Machine
open Sys2Proof

def State.replayOf (s : State) (graph step : Nat) : Option Replay :=
  s.coll.replays.find? (fun r => r.graph == graph && r.step == step)
def State.setReplay (s : State) (r : Replay) : State :=
  { s with coll := { s.coll with replays := s.coll.replays.map (fun x => if x.graph == r.graph && x.step == r.step then r else x) } }
/-- The graph of a replay. -/
def State.graphOf (s : State) (graph : Nat) : Graph :=
  (Tab.find? s.coll.graphs graph).getD { loose := false, texp := 0, comb := 0, dim := 0, root := 0, tag := 0, vit := none, flag := 0, comp := 0, log2n := 0, ops := [] }
/-- The other modules an operation names as peer or input; a multicast names its members (R386). -/
def State.opModules (s : State) (o : CollOp) : List Nat :=
  (match o.kind with
    | 0 => [o.peer]
    | 1 => [o.ma, o.mb, o.peer]
    | 2 => Tab.get s.groups [] (o.peer % 256)
    | _ => []).filter (· ≠ s.modnum)
def State.graphModules (s : State) (g : Graph) : List Nat := (g.ops.flatMap s.opModules).dedup

/-- A DETAIL or log word that names a graph and a step. -/
def graphWord (graph step : Nat) : Nat := ((graph % 256) <<< 40) ||| step % 2 ^ 32

/-- Abort flits sent to every module that a graph names, once for a step (R386). -/
def State.sendAbort (s : State) (m : AbortMsg) : State :=
  if s.coll.forwarded.contains (m.graph, m.step) then s
  else
    { s with coll := { s.coll with forwarded := s.coll.forwarded ++ [(m.graph, m.step)] },
             outbox := s.outbox ++ (s.graphModules (s.graphOf m.graph)).map (fun k => OutMsg.abort k m) }
/-- A replay that is not complete ends with a failure, and abort flits go to every module its graph names (R386). -/
def State.failReplay (s : State) (r : Replay) (m : AbortMsg) : State :=
  if r.status ≠ 0 || r.closing then s
  else
    (s.setReplay { r with status := m.status, origin := m.origin, module := m.module, opIndex := m.op, addr := m.addr, sub := m.sub, dside := m.dside }).sendAbort m
/-- A failure found by this module's engine. -/
def State.abortOf (s : State) (r : Replay) (status module op : Nat) : AbortMsg :=
  { graph := r.graph, step := r.step, status := status, origin := s.modnum, module := module, op := op, addr := 0, sub := 0, dside := false }

/-- A write of a replay on another module answered with a fault, or without: a write of an operation fails the replay; a
FLAG that is not made is logged (R27, R296, R386). -/
def State.ackCollWrite (s : State) (id graph step : Nat) (op : Option Nat) (r : Request) : State :=
  if !r.finished then s
  else
    let s1 := { s with reqs := Tab.erase s.reqs id }
    match r.faultOf, s1.replayOf graph step with
    | some f, some y => match op with
      | some i => s1.failReplay y { s1.abortOf y 3 0 i with addr := f.addr, sub := f.sub, dside := true }
      | none => s1.log 0 0x0401 5 8 y.ownerNum f.addr (BitVec.ofNat 64 ((1 <<< 63) ||| graphWord graph step))
    | _, _ => s1
/-- Whether a replay has writes on other modules that are not answered (R296). -/
def State.replayWrites (s : State) (graph step : Nat) : Bool :=
  s.reqs.any (fun e => match e.2.kind with
    | .collWrite g n _ => g == graph && n == step
    | _ => false)

end Sys2Proof.Machine
end

