-- ==== Sys2Proof/Machine/Path.lean ====
section
/-! DEFINITION. The memory path: which request of a queue may be performed next (R194, R201 to R210, R321), what is
performed at a home (R178, R183, R184, R188, R246, R259), how elements land and stores are acknowledged (R194,
R320, R321), translation of what misses (R179, R180, R363), and copies, pattern loads and walks (R197, R254, R369). -/
namespace Sys2Proof.Machine
open Sys2Proof

/-! ### Which request may be performed -/

/-- The byte of a sector a fault reports: the one of the lowest lane of a load, the first of a store. -/
def Part.firstByte (p : Part) : Nat :=
  match p.place.foldl (fun (b : Option (Nat × Nat)) e => match b with
      | none => some e
      | some x => if e.2 < x.2 then some e else some x) none with
  | some e => p.addr + e.1
  | none => p.addr + ((lowest 32 (fun i => p.mask.getLsbD i)).getD 0)
/-- How many bytes of a sector a request names, from the first. -/
def Part.span (p : Part) : Nat := popCount 32 p.mask.toNat

/-- The strand of a request runs: it has not halted, and its gang is not pre-empted. Until every strand of a gang that is being
pre-empted can be sealed, its requests go on (R30, R32, R205, R399; log 176). -/
def State.requestRuns (s : State) (r : Request) : Bool :=
  let strand := (s.locate r.gang r.member r.slot).bind (fun e => s.strand e.1 e.2)
  (match s.gang r.gang with
    | some g => g.mode != .preempted
    | none => true) && (strand.map (fun t => !t.halted)).getD true
/-- A later request of the same queue of the same core that `p` picks is still to be performed: requests are sent in issue
order, so where it is sent or may be, this one is too (R194). -/
def State.pressed (s : State) (id : Nat) (r : Request) (p : Request → Bool) : Bool :=
  s.reqs.any (fun e => decide (id < e.1) && e.2.core == r.core && e.2.queue == r.queue && !e.2.resend && !e.2.held && !e.2.settled && p e.2)
/-- The sectors of a route-1 chunk (R297). -/
def CollChunk.parts (k : CollChunk) : List Part :=
  (sectorRuns k.addr k.data.length).map (fun run =>
    { addr := run.1 / 32 * 32, mask := BitVec.ofNat 32 (maskRange (run.1 % 32) run.2.1), data := BitVec.ofNat 256 (ofBytes ((k.data.drop run.2.2).take run.2.1) <<< (8 * (run.1 % 32))) })
/-- Whether an earlier request, or a route-1 chunk of Q0 that was counted as issued before it (R297), holds back a sector of
this one: order within the queue (R194), one window target's
order (R183), a byte in common (R194), the order in which requests for other modules are sent (R194), and the strand's own
records before an immediate access (R204). -/
def State.heldBack (s : State) (id : Nat) (r : Request) (p : Part) : Bool :=
  (!r.resend && !r.begun && s.waiters.any (fun w => !w.sent && w.queued && w.asker.isNone && w.core == r.core && w.queue == r.queue && decide (w.id < id))) ||
  (!r.resend && r.queue == 0 && (s.core r.core).collq.any (fun k => decide (k.id < id) &&
    ((!r.begun && s.partLeaves r p && k.addr / 2 ^ 44 != s.modnum && s.engineRuns k.gang k.member k.slot) ||
      k.parts.any (fun o => (p.mask &&& o.mask) != 0#32 &&
        (s.partPlace r p == (0, o.addr) || (3 ≤ (s.partPlace r p).1 && (s.partPlace r p).2 % 65536 == o.addr % 65536)))))) ||
  s.reqs.any (fun e =>
    let q := e.2
    let mates := q.core == r.core && q.queue == r.queue
    decide (e.1 < id) && (
      (mates && !r.resend && !r.begun && !q.begun && !s.ownReady e.1 q) ||
      (mates && !r.resend && !r.begun && !q.begun && s.partLeaves r p && (q.next.bind (fun i => q.parts[i]?)).any (s.partLeaves q ·)) ||
      (mates && !r.resend && q.parts.any (fun o => !o.done && o.fault.isNone &&
        (s.partsMeet r q p o || (r.space == 2 && q.space == 2 && (windowPlace r.core p.addr).1 == (windowPlace q.core o.addr).1)))) ||
      (q.sameStrand r && q.published && (r.order != .none || r.kind != .load) && !r.published && r.space == 0 &&
        q.parts.any (fun o => !o.done && o.addr == p.addr))))

/-- Whether no store of a strand before identity `id`, of those `p` picks by its request and sector, is still to be
performed: what an engine acts on takes part only when it is (R204, R217). -/
def State.priorStoresDone (s : State) (id gang member slot : Nat) (p : Request → Part → Bool) : Bool :=
  s.reqs.all (fun e => !(decide (e.1 < id) && e.2.gang == gang && e.2.member == member && e.2.slot == slot && e.2.isStore &&
    !e.2.held && e.2.parts.any (fun o => !o.done && o.fault.isNone && p e.2 o)))

/-- Whether a sector of a request may be performed, but for the turns of the queues after a resume. A frozen queue sends
nothing but what TRET resolved (R321, R322); what is on its way goes on. -/
def State.mayGo (s : State) (id : Nat) (r : Request) (p : Part) : Bool :=
  !r.held && !r.waits && (r.begun || s.requestRuns r || s.pressed id r (fun q => q.begun || s.requestRuns q)) &&
  (r.begun || r.resend || s.pressed id r (·.begun) || (!(s.core r.core).isFrozen r.queue &&
    s.reqs.all (fun e => !(e.2.core == r.core && e.2.queue == r.queue && e.2.resend && e.2.isStore && !e.2.settled)))) &&
  s.ownReady id r && !s.heldBack id r p
/-- Whether it is a request's turn: those that a frame recorded as not sent go one queue at a time; that the lower queue
that can go is first is the model's order (R32, log 166). -/
def State.queueTurn (s : State) (r : Request) : Bool :=
  !r.recorded || r.begun || s.reqs.all (fun e => !(e.2.recorded && e.2.sameStrand r && decide (e.2.queue < r.queue) && !e.2.begun &&
    (e.2.next.bind (fun i => e.2.parts[i]?)).any (s.mayGo e.1 e.2 ·)))
/-- Whether a sector of a request may be performed now. -/
def State.mayPerform (s : State) (id : Nat) (r : Request) (p : Part) : Bool := s.mayGo id r p && s.queueTurn r

/-! ### What is performed at a home -/

/-- What a request comes to at its home: done, with the sector it read; a fault with its sub-cause and RETRY; or
waiting for a busy line (R367). -/
inductive HomeResult
  | done (s : State) (data : Nat)
  | fault (sub : Nat) (retry : Bool)
  | wait
  deriving DecidableEq, Repr

/-- The new value of an atomic (R246, Table 3). -/
def amoValue (fn size : Nat) (sgn : Bool) (x y new : Nat) : Nat :=
  let w := 8 * size
  let y := y % 2 ^ w
  let less := fun (a b : Nat) => if sgn then decide (sint w a < sint w b) else decide (a < b)
  match fn with
  | 0 => (x + y) % 2 ^ w
  | 1 => if less y x then y else x
  | 2 => if less x y then y else x
  | 3 => x &&& y
  | 4 => x ||| y
  | 5 => x ^^^ y
  | 6 => y
  | 7 => if x = y then new % 2 ^ w else x
  | _ => (fmt32.add x y).1

/-- The merge of a triple into a draw cell (R228, R234); `pick` is the free choice of the survivor of a NaN coin. -/
def drawMerge (cell : Nat) (tag : Nat) (greedy : Bool) (key : Nat) (t : Triple) (pick : Bool) : Triple :=
  (mergeTriple greedy (Triple.mk (bits cell 63 32) (cell % 2 ^ 32) (bits cell 95 64)) t
    (drawU32 key (tag * 2 ^ 48 + bits cell 127 96 * 2 ^ 16)) pick).1
/-- A draw cell with a merged triple and `n` more contributions (R234). -/
def drawCell (cell : Nat) (t : Triple) (n : Nat) : Nat :=
  t.high ||| (t.i <<< 64) ||| (((bits cell 127 96 + n) % 2 ^ 32) <<< 96)

/-- BARRIVE performed on an object (R259, R371, R372): its word written without clearing TAG, then TAG, then the
waits held on it. None when the write must wait for a busy line. -/
def State.barrierPerform (s : State) (off key op v : Nat) : Option State :=
  let obj := off / 16
  let w := s.peek (obj * 16) 8 key
  let gen := bits w 15 0
  let expect := bits w 31 16
  let arrived := bits w 47 32
  let next := (gen + 1) % 65536
  let word := fun (a e g : Nat) => (bits w 63 48 <<< 48) ||| (a <<< 32) ||| (e <<< 16) ||| g
  let tag := s.barriers.contains obj
  let write := fun (v : Nat) => (s.l2Write (obj * 16 / 128) (maskRange (obj * 16 % 128) 8) (v <<< (8 * (obj * 16 % 128))) key false false false).map
    (fun s => (s.markDirty (obj * 16)).testGlobal (obj * 16) 8)
  match op with
  | 0 =>
    if !tag || v ≠ gen then some (s.touchLine (obj * 16 / 128))
    else if (arrived + 1) % 65536 = expect then (write (word 0 expect next)).map (·.testBarrier obj next)
    else (write (word ((arrived + 1) % 65536) expect gen)).map (·.testBarrier obj gen)
  | 1 => (write (word 0 v next)).map (fun s =>
      ({ s with barriers := if tag then s.barriers else s.barriers ++ [obj], bad := s.bad.filter (fun w => w / 2 ≠ obj), badL2 := s.badL2.filter (fun w => w / 2 ≠ obj) }).testBarrier obj next)
  | _ => (write (word 0 expect next)).map (fun s => ({ s with barriers := s.barriers.filter (· ≠ obj) }).testBarrier obj next)

/-- One sector of a chunk combined into its destination: written, or each element added as FP32 or as integers (R297).
Elements begin at bytes that are `phase` modulo 4; the bytes of one that lies across two sectors, which are combined sector
by sector, are open: free values (log 177). -/
def chunkSector (comb phase mask data old free : Nat) : Nat :=
  if comb = 0 then mergeBytes 32 mask data old
  else (List.range 9).foldl (fun v i =>
    let at_ := 4 * i + phase - 4
    if 4 ≤ 4 * i + phase && at_ + 4 ≤ 32 then
      let x := bits old (8 * at_ + 31) (8 * at_)
      let y := bits data (8 * at_ + 31) (8 * at_)
      if mask.testBit at_ then setBits v (8 * at_) 32 (if comb = 1 then (fmt32.add x y).1 else (x + y) % 2 ^ 32) else v
    else (List.range 4).foldl (fun v j =>
      let b := 4 * i + phase + j - 4
      if 4 ≤ 4 * i + phase + j && b < 32 && mask.testBit b then setBits v (8 * b) 8 (bits (Config.freeBits free 8).toNat (8 * b + 7) (8 * b)) else v) v) old

/-- An access to one sector of HBM4 performed at its home under a key (R178, R246, R359). `core`, where it is of this
module, is whose draw unit's strikes a draw meets (R351, R353); those of one that another module sends are of a unit of the
home's die, numbered after the cores (log 48). -/
def State.atHome (s : State) (kind : ReqKind) (off key mask data : Nat) (nocomp : Bool) (core : Option Nat) : HomeResult :=
  let bad := s.badAt off key
  let first := (lowest 32 (fun i => mask.testBit i)).getD 0
  let old := s.peek off 32 key
  let ofWrite := fun (r : Option State) => match r with
    | some s1 => HomeResult.done s1 old
    | none => .wait
  match kind with
  | .load => if s.badRead off key mask then .fault 6 true else .done (s.touchLine (off / 128)) old
  | .pref => .done (s.touchLine (off / 128)) old
  | .store => if bad && mask ≠ 0xFFFFFFFF then .fault 6 false else ofWrite (s.homeWrite off 32 mask data key nocomp)
  | .amo fn size sgn y new =>
    if bad then .fault 6 false
    else
      let x := bits old (8 * (first + size) - 1) (8 * first)
      ofWrite (s.homeWrite off 32 (maskRange first size) (amoValue fn size sgn x y.toNat new.toNat <<< (8 * first)) key nocomp)
  | .draw tag greedy k m w i n =>
    if bad then .fault 6 false
    else
      let was := bits old (8 * first + 127) (8 * first)
      let t := drawMerge was tag greedy k.toNat ⟨m.toNat, w.toNat, i.toNat⟩ (Config.freeChoice s.free 7)
      let cell := drawCell was (s.mainTriple (core.getD (Config.cores + homeCluster off)) 128 0 t).1 n.toNat
      ofWrite (({ s with free := s.free + 1 }).homeWrite off 32 (maskRange first 16) (cell <<< (8 * first)) key nocomp)
  | .barrive op v => if bad && op ≠ 1 then .fault 6 false else ofWrite (s.barrierPerform (off + first) key op v)
  | .copyWrite _ => .done s old
  | .collWrite _ _ _ => .done s old
  | .chunk comb phase =>
    if bad && (mask ≠ 0xFFFFFFFF || comb ≠ 0) then .fault 6 false
    else ofWrite (({ s with free := s.free + 1 }).homeWrite off 32 mask (chunkSector comb phase mask data old s.free) key nocomp)

/-! ### The L1 of a core (R52, R184) -/

def Core.l1Find (k : Core) (line sector : Nat) : Option Nat :=
  match k.l1.find? (fun l => l.line == line) with
  | some l => if l.valid.getLsbD sector then some (bits l.data.toNat (256 * sector + 255) (256 * sector)) else none
  | none => none
/-- One more than the latest use of a line of the L1. -/
def Core.l1Clock (k : Core) : Nat := 1 + k.l1.foldl (fun n l => max n l.used) 0
/-- A line of the L1 made most recently used. -/
def Core.l1Touch (k : Core) (line : Nat) : Core :=
  { k with l1 := k.l1.map (fun l => if l.line == line then { l with used := k.l1Clock } else l) }
/-- A sector filled into the L1: 8 ways, the least recently used line of the set replaced (log 15). -/
def Core.l1Put (k : Core) (line sector data : Nat) : Core :=
  let sets := Config.l1Step * k.l1sz / 1024
  if sets = 0 then k
  else
    let clock := k.l1Clock
    let l0 : L1Line := (k.l1.find? (fun l => l.line == line)).getD { line := line, valid := 0, data := 0, used := 0 }
    let l1 : L1Line := { l0 with bad := l0.bad &&& ~~~(15#16 <<< (4 * sector)), valid := l0.valid ||| (1#4 <<< sector), data := BitVec.ofNat 1024 (setBits l0.data.toNat (256 * sector) 256 data), used := clock }
    let others := k.l1.filter (fun l => l.line != line)
    let mates := others.filter (fun l => l.line % sets == line % sets)
    let oldest := mates.foldl (fun (b : Option L1Line) l => match b with
      | none => some l
      | some m => if l.used < m.used then some l else some m) none
    let kept := if mates.length < 8 then others else others.filter (fun l => some l != oldest)
    { k with l1 := kept ++ [l1] }
/-- A published store updates the bytes of the L1 copy that is present (R184). -/
def Core.l1Update (k : Core) (line sector mask data : Nat) : Core :=
  { k with l1 := k.l1.map (fun l =>
      if l.line == line && l.valid.getLsbD sector then
        { l with data := BitVec.ofNat 1024 (mergeBytes 128 (mask <<< (32 * sector)) (data <<< (256 * sector)) l.data.toNat),
                 bad := (List.range 4).foldl (fun b w => if bits mask (8 * w + 7) (8 * w) = 255 then b &&& ~~~(1#16 <<< (4 * sector + w)) else b) l.bad }
      else l) }
/-- A read of the masked bytes of a sector meets an uncorrectable word of the L1 (R358, R359). -/
def Core.l1Torn (k : Core) (line sector mask : Nat) : Bool :=
  (k.l1.find? (fun l => l.line == line)).any (fun l =>
    (List.range 4).any (fun w => l.bad.getLsbD (4 * sector + w) && bits mask (8 * w + 7) (8 * w) != 0))

/-! ### Atomics merged in routers (R212, R213, R235) -/

/-- Whether a router may merge the request with others so that the outcome may differ from every serial order: an FP32 add
with MERGE that returns nothing, or a draw without release. Integer atomics are performed one at a time, which is one of
the serial orders a merge may follow. -/
def Request.merges (r : Request) : Bool :=
  r.order == .none && r.stream.isNone && match r.kind with
    | .amo fn _ _ _ _ => fn == 8 && r.merge
    | .draw _ _ _ _ _ _ _ => true
    | _ => false
/-- Whether two requests are of one operation (R212, R235). -/
def ReqKind.alike (a b : ReqKind) : Bool :=
  match a, b with
  | .amo f n _ _ _, .amo g m _ _ _ => f == g && n == m
  | .draw t g _ _ _ _ _, .draw u h _ _ _ _ _ => t == u && g == h
  | _, _ => false
/-- The requests that a router merges with one that is about to be performed: of different cores, to the same bytes, each
ready to be performed; which of them are there in time is free. -/
def State.mergedWith (s : State) (id : Nat) (r : Request) (p : Part) : List (Nat × Request) :=
  if !r.merges || !s.featOf r.gang 3 then []
  else s.reqs.foldl (fun (l : List (Nat × Request)) e =>
    let q := e.2
    if e.1 ≠ id && q.core != r.core && l.all (fun x => x.2.core != q.core) && q.merges && s.featOf q.gang 3 && q.kind.alike r.kind && !q.begun &&
        q.parts.any (fun o => s.partPlace q o == s.partPlace r p && o.mask == p.mask && s.mayPerform e.1 q o) && Config.freeChoice s.free (256 + e.1)
    then l ++ [e] else l) []
/-- Two requests combined by a router, the earlier one first: addends with RNE (R213), triples with the router's own
random source, counts added, under the earlier one's K (R235); the divergences of that merge (R351). -/
def State.combineKinds (s : State) (c node : Nat) (a b : ReqKind × List Split) : ReqKind × List Split :=
  match a.1, b.1 with
  | .amo fn size sgn y new, .amo _ _ _ z _ => (.amo fn size sgn (BitVec.ofNat 64 (fmt32.add (y.toNat % 2 ^ 32) (z.toNat % 2 ^ 32)).1) new, a.2 ++ b.2)
  | .draw t g k m w i n, .draw _ _ _ m' w' i' n' =>
    let r := (mergeTriple g ⟨m.toNat, w.toNat, i.toNat⟩ ⟨m'.toNat, w'.toNat, i'.toNat⟩ ((Config.freeBits s.free (512 + node)).toNat % 2 ^ 32) (Config.freeChoice s.free (512 + node))).1
    let d := s.mainTriple c (256 + node) 0 r
    (.draw t g k (BitVec.ofNat 32 d.1.m) (BitVec.ofNat 32 d.1.w) (BitVec.ofNat 32 d.1.i) (n + n'), a.2 ++ b.2 ++ d.2)
  | _, _ => a
/-- Requests combined two at a time, in a free order and grouping (R213, R235). -/
def State.combineAll (s : State) (c fuel : Nat) (l : List (ReqKind × List Split)) : ReqKind × List Split :=
  match fuel with
  | 0 => l.headD (.pref, [])
  | n + 1 =>
    match l with
    | [] => (.pref, [])
    | [x] => x
    | l =>
      let i := (Config.freeBits s.free (1024 + n)).toNat % l.length
      let rest := l.eraseIdx i
      let j := (Config.freeBits s.free (5120 + n)).toNat % rest.length
      s.combineAll c n (rest.set j (s.combineKinds c n (rest.getD j (.pref, [])) (l.getD i (.pref, []))))
termination_by structural fuel
/-- The request a router forwards for those it has merged, and the divergences of their merges. -/
def State.mergedKind (s : State) (c : Nat) (l : List ReqKind) : ReqKind × List Split := s.combineAll c l.length (l.map (·, []))
/-- Requests that a router has merged with one that has been performed: performed with it. -/
def State.mergedDone (s : State) (mates : List (Nat × Request)) : State :=
  mates.foldl (fun (s : State) (e : Nat × Request) => { s with reqs := Tab.put s.reqs e.1 { e.2 with parts := e.2.parts.map (fun p => { p with done := true }) } }) s

/-! ### HOME_REQUEST -/

/-- A sector of a request changed. -/
def State.setPart (s : State) (id : Nat) (r : Request) (i : Nat) (f : Part → Part) : State :=
  let r1 := { r with setWait := false, parts := r.parts.modify i f }
  if r1.kind == .pref && r1.finished then s.dropReq id else { s with reqs := Tab.put s.reqs id r1 }
/-- A sector faulted: a prefetch discards it (R248, R320, R321). -/
def State.faultPart (s : State) (id : Nat) (r : Request) (i sub : Nat) (retry : Bool) : State :=
  s.setPart id r i (fun p => if r.kind == .pref then { p with done := true } else
    { p with fault := some { sub := sub, addr := BitVec.ofNat 64 p.firstByte, retry := retry && r.space != 3 && r.space != 1, engine := r.space == 3 || r.space == 1 } })
/-- A sector performed, with the bytes it read. -/
def State.donePart (s : State) (id : Nat) (r : Request) (i data : Nat) : State :=
  s.setPart id r i (fun p => { p with done := true, data := if r.isStore then p.data else BitVec.ofNat 256 data })

/-- The paths to a module, at most four, by their numbers (R286). -/
def State.pathsTo (s : State) (module : Nat) : Map (List Nat) := (Tab.get s.router.paths [] module).take 4
/-- The flits waiting at the port a path leaves by (R286). -/
def State.pathFlits (s : State) (links : List Nat) : Nat := Tab.get s.router.waiting 0 (links.headD 0)
/-- Remote stores, as R286 binds later requests to: no STF, no release and no atomic (R201), but a route-1 chunk (R297). -/
def Request.remoteStore (r : Request) : Bool :=
  match r.kind with
  | .store => !r.immediate
  | .chunk _ _ => true
  | _ => false
/-- The path of a remote request (R286, R287): that of an earlier remote store of its queue to its sector, which keeps its number
when the path is removed (R382); else, of the paths there are, the one with the fewest flits waiting, the lower number of
equals. The sectors of a chunk take one path (R297). -/
def State.choosePath (s : State) (id : Nat) (r : Request) (p : Part) (module : Nat) : Nat :=
  if r.space = 3 && r.sentAt.isSome then r.path
  else match s.reqs.find? (fun e => decide (e.1 < id) && e.2.core == r.core && e.2.queue == r.queue && e.2.remoteStore && e.2.sentAt.isSome &&
      e.2.parts.any (fun q => q.sent && s.partPlace e.2 q == s.partPlace r p)) with
  | some e => e.2.path
  | none =>
    ((s.pathsTo module).foldl (fun (b : Option (Nat × Nat)) e =>
      let n := s.pathFlits e.2
      match b with
      | none => some (e.1, n)
      | some x => if n < x.2 then some (e.1, n) else b) none).elim 0 (·.1)
/-- A sector of a request sent to the modules `ms` at a local offset, under a sequence number of its own, as the request
`kind` (R381, R384). -/
def State.sendAs (s : State) (kind : ReqKind) (id : Nat) (r : Request) (i : Nat) (p : Part) (ms : List Nat) (off path : Nat) : State :=
  let out := ms.map (fun m => OutMsg.request m path r.queue (s.nextReq + 1) s.now kind { p with addr := off } r.unit (!r.secOnly) (s.slotOwner r.slotOwner))
  { s with outbox := s.outbox ++ out, free := s.free + 1, nextReq := s.nextReq + 1,
           reqs := Tab.put s.reqs id { r with sentAt := some s.now, remote := true, module := ms.headD 0, path := path, parts := r.parts.modify i (fun p => { p with sent := true, awaits := if r.multicast then ms else [] }) } }
def State.sendRemote (s : State) (id : Nat) (r : Request) (i : Nat) (p : Part) (ms : List Nat) (off path : Nat) : State :=
  s.sendAs r.kind id r i p ms off path
/-- Divergences of an AMO.draw's merges reported to the strand that issued it (R353). -/
def State.reportSplits (s : State) (id : Nat) (r : Request) (free : Nat) (splits : List Split) : State :=
  match splits, s.locate r.gang r.member r.slot with
  | _ :: _, some (c, x) => s.addDues c x [{ cause := 0x0F, sub := 3, bundle := some r.bundle, order := 2 * id, info := shadowInfo 0 free splits }]
  | _, _ => s
/-- A sector of a request sent to another module at a local offset; requests that a Viaduct router merges with it on the
way are answered as it is (R212, R235). -/
def State.sendMerged (s : State) (id : Nat) (r : Request) (i : Nat) (p : Part) (m off : Nat) : State :=
  let mates := s.mergedWith id r p
  let path := s.choosePath id r p m
  if mates.isEmpty then s.sendRemote id r i p [m] off path
  else
    let out := s.mergedKind r.core ((mates ++ [(id, r)]).map (·.2.kind))
    let s1 := (s.sendAs out.1 id r i p [m] off path).reportSplits id r s.free out.2
    mates.foldl (fun (s : State) (e : Nat × Request) =>
      { s with reqs := Tab.put s.reqs e.1 { e.2 with sentAt := some s.now, remote := true, module := m, path := path, parts := e.2.parts.map (fun p => { p with sent := true }) } }) s1
/-- The module an answer comes from: of a multicast store, the member that the answer's data names, else the first that has
not answered (R385). -/
def Request.answerer (r : Request) (p : Part) (data : Nat) : Nat :=
  if p.awaits.isEmpty then r.module else if p.awaits.contains (data % 4096) then data % 4096 else p.awaits.headD 0
/-- What an answer says of divergences of the home's draw unit (R353): status 16 of one, 17 of two; key n of main 0, shadow 0,
main 1 and shadow 1 stands in bits 16 n + 32 on of the data, and bit n marks the key of a NaN (log 48). -/
def answerSplits (status data : Nat) : List Split :=
  let key := fun (n : Nat) => if data.testBit n then none else some (sint 16 (bits data (16 * n + 47) (16 * n + 32)))
  (List.range (status - 15)).map (fun i => ⟨0, key (2 * i), key (2 * i + 1)⟩)
/-- The answer that says of these divergences: status and data. -/
def splitAnswer (l : List Split) : Nat × Nat :=
  (if l.isEmpty then 0 else min 17 (15 + l.length), (l.flatMap (fun d => [d.main, d.shadow])).zipIdx.foldl (fun v e => match e.1 with
    | none => v ||| (1 <<< e.2)
    | some k => v ||| (wrap 16 k <<< (16 * e.2 + 32))) 0)
/-- An answer of another module: status 0 performed, 16 or 17 performed with divergences of the home's draw unit (R353);
otherwise one more than the sub-cause of a fault at the home. REMOTE_ABSENT and REMOTE_NO_ANSWER are no module's answers, but
the issuing router's own (R383). A multicast store is performed when every member has answered (R385). -/
def State.remoteAnswer (s : State) (id : Nat) (r : Request) (i : Nat) (p : Part) (status data : Nat) : State :=
  let m := r.answerer p data
  let mark := fun (s : State) (v : ModuleState) => { s with router := { s.router with modules := Tab.put s.router.modules m v } }
  if status = 0 || status = 16 || status = 17 then
    let s1 := mark s .reachable
    if (p.awaits.erase m).isEmpty then
      let s2 := s1.donePart id r i data
      if 16 ≤ status then s2.reportSplits id r s.free (answerSplits status data) else s2
    else s1.setPart id r i (fun p => { p with awaits := p.awaits.erase m })
  else if status = 5 then (mark s .hibernating).faultPart id r i 4 true
  else if status ≤ 8 && status ≠ 4 && status ≠ 6 then s.faultPart id r i (status - 1) true
  else s

/-- A request touches the whole line of a sector (R188). -/
def Request.wholeLine (r : Request) (p : Part) : Bool :=
  (List.range 4).all (fun i => r.parts.any (fun q => q.addr == p.addr / 128 * 128 + 32 * i && q.mask == 0xFFFFFFFF#32))
/-- A write that waits at its slice holds back later writes of its set, fills among them (R367). -/
def State.setHeld (s : State) (id line : Nat) : Bool :=
  s.reqs.any (fun e => e.1 != id && e.2.setWait && (e.2.next.bind (fun i => e.2.parts[i]?)).any (fun o =>
    match s.partPlace e.2 o with
    | (0, pa) => homeCluster (pa % 2 ^ 44) == homeCluster (line * 128) && l2Set (pa % 2 ^ 44 / 128) == l2Set line
    | _ => false))
/-- A fill asked of HBM4 for a sector of a load or prefetch: the full line where the access touches all of it, and under L1
allocate but for LDSEC and GATHERQ (R184, R188, R190, R248). -/
def State.startFill (s : State) (id : Nat) (r : Request) (p : Part) (off key : Nat) : State :=
  let c := homeCluster off
  let line := off / 128
  if (s.cluster c).busy line then s
  else
    let sectors := if (r.cache = 0 && !r.secOnly) || r.wholeLine p then 15 else 1 <<< (off % 128 / 32)
    let s1 : State := { s with reqs := Tab.put s.reqs id { r with filled := line :: r.filled } }
    s1.setCluster c { s.cluster c with fills := (s.cluster c).fills ++ [{ line := line, sectors := BitVec.ofNat 4 sectors, streaming := r.cache = 2, nocomp := r.cache = 3, key := key }] }
/-- A line marked no-compress: its encoding stays until it is next encoded (R184, R187). -/
def State.markNocomp (s : State) (line : Nat) : State :=
  let c := homeCluster (line * 128)
  s.setCluster c { s.cluster c with lines := (s.cluster c).lines.map (fun l => if l.line == line then { l with nocomp := true } else l) }

/-- The divergences of a draw's merge at its home, by the unit `c`, into the sector `old` (R351); none of another access. -/
def State.drawSplits (s : State) (c : Nat) (kind : ReqKind) (mask old : Nat) : List Split :=
  match kind with
  | .draw tag greedy k m w i _ =>
    let first := (lowest 32 (fun i => mask.testBit i)).getD 0
    (s.mainTriple c 128 0 (drawMerge (bits old (8 * first + 127) (8 * first)) tag greedy k.toNat ⟨m.toNat, w.toNat, i.toNat⟩ (Config.freeChoice s.free 7))).2
  | _ => []
/-- The divergences of a draw performed at its home, and of the routers' merges before it, reported to the strand that
issued it; `s` is the machine before it and `old` the sector it found (R353). -/
def State.drawShadow (s s1 : State) (id : Nat) (r : Request) (kind : ReqKind) (routers : List Split) (p : Part) (old : Nat) : State :=
  match kind with
  | .draw _ _ _ _ _ _ _ =>
    (s1.spend r.core 3 (fun place => place == 128 || 256 ≤ place)).reportSplits id r s.free (routers ++ s.drawSplits r.core kind p.mask.toNat old)
  | _ => s1

/-- A sector of a request performed at a home on this module. -/
def State.performLocal (s : State) (id : Nat) (r : Request) (i : Nat) (p : Part) (off : Nat) : State :=
  let key := s.slotKey r.slotOwner
  let line := off / 128
  let sector := off % 128 / 32
  let reads := r.kind == .load || r.kind == .pref
  let ordinary := r.kind == .load && r.order == .none
  match (if ordinary && r.cache = 0 then (s.core r.core).l1Find line sector else none) with
  | some d =>
    if (s.core r.core).l1Torn line sector p.mask.toNat then s.faultPart id r i 6 true
    else (s.mapCore r.core (·.l1Touch line)).donePart id r i d
  | none =>
    if reads && s.badRead off key p.mask.toNat then s.faultPart id r i 6 true
    else if !(reads && s.holds line key (1 <<< sector)) && s.setHeld id line then s
    else if reads && !s.holds line key (1 <<< sector) then s.startFill id r p off key
    else
    let mates := s.mergedWith id r p
    let all := (mates ++ [(id, r)]).mergeSort (fun a b => a.1 ≤ b.1)
    let merged := s.mergedKind r.core (all.map (·.2.kind))
    let kind := if mates.isEmpty then r.kind else merged.1
    let routers := if mates.isEmpty then [] else merged.2
    let start := if mates.isEmpty then s else { s with free := s.free + 1 }
    match start.atHome kind off key p.mask.toNat p.data.toNat (r.cache == 3) (some r.core) with
      | .fault sub retry => s.faultPart id r i sub (retry || !r.isStore)
      | .wait => { s with reqs := Tab.put s.reqs id { r with setWait := true } }
      | .done s0 d =>
        -- a streaming load that has filled its line leaves it least recently used (R190)
        let s1 := if reads && r.cache = 2 && r.filled.contains line then s else s0.mergedDone mates
        let s2 := if reads && r.cache = 3 then s1.markNocomp line else start.drawShadow s1 id r kind routers p d
        let s3 := if reads && r.cache = 0 && r.order == .none && !r.noL1 then s2.mapCore r.core (fun k => k.l1Put line sector d)
          else if r.published then s2.mapCore r.core (fun k => k.l1Update line sector p.mask.toNat p.data.toNat)
          else s2
        s3.donePart id r i d

/-- A sector of a request performed at a scratchpad through the window (R176, R183, R335, R378). -/
def State.performWindow (s : State) (id : Nat) (r : Request) (i : Nat) (p : Part) : State :=
  let (c, off) := windowPlace r.core p.addr
  match s.windowFault c r.slotOwner off 32 with
  | some e => s.faultPart id r i e true
  | none =>
    let words := (List.range 4).filter (fun w => bits p.mask.toNat (8 * w + 7) (8 * w) ≠ 0 && s.badSpad.contains (c, off / 8 + w))
    let torn := words.any (fun w => bits p.mask.toNat (8 * w + 7) (8 * w) ≠ 255)
    if r.isStore then
      if torn then s.faultPart id r i 6 false
      else (s.spadWrite c off 32 p.mask.toNat p.data.toNat).donePart id r i 0
    else if !words.isEmpty then s.faultPart id r i 6 true
    else s.donePart id r i (s.spadRead c off 32)

/-- The held write of a route-0 KEPI performed when it is sent again: it faults again where the scratchpad does not hold
its bytes (R322, R370). -/
def State.performOwn (s : State) (id : Nat) (r : Request) (i : Nat) (p : Part) : State :=
  if (List.range 32).any (fun b => p.mask.getLsbD b && decide ((s.core r.core).spadSize ≤ p.addr + b)) then s.faultPart id r i 0 false
  else (s.spadWrite r.core p.addr 32 p.mask.toNat p.data.toNat).donePart id r i 0
/-- What a request needs of its page. -/
def Request.need (r : Request) : Need :=
  match r.kind with
  | .load => .load
  | .pref => .load
  | .store => .store
  | .chunk _ _ => .store
  | _ => .atomic

/-- A multicast store (R288, R385): the own copy is performed at its home as a remote store would be, and each other member
answers for itself. One that is LOST, or an own copy that faults, faults it; the other members' copies are sent and
stay. -/
def State.performMulticast (s : State) (id : Nat) (r : Request) (i : Nat) (p : Part) (g off : Nat) : State :=
  let r := { r with multicast := true }
  if r.kind != .store || (r.order != .none && !r.flag) || !s.featOf r.gang 6 then s.faultPart id r i 0 true
  else
    let members := Tab.get s.groups [] g
    let away := members.filter (· ≠ s.modnum)
    let key := s.slotKey r.slotOwner
    let own := if !members.contains s.modnum then none else match s.place (s.modnum * 2 ^ 44 + off) with
      | .local_ _ => if p.mask ≠ 0xFFFFFFFF#32 && s.badAt off key then some (6, false) else none
      | _ => some (0, true)
    let s1 := if members.contains s.modnum && own.isNone then s.engineWrite off 32 p.mask.toNat p.data.toNat key else s
    let there := away.filter (fun m => Tab.get s.router.modules .lost m != .lost)
    let s2 := if there.isEmpty then s1 else s1.sendRemote id r i p there off 0
    match own with
    | some (sub, retry) => s2.faultPart id r i sub retry
    | none =>
      if there.length < away.length then s2.faultPart id r i 3 true
      else if there.isEmpty then s1.donePart id r i 0 else s2

/-- Whether a load reads a counter page by aligned 8-byte words alone (R192). -/
def counterRead (mask unit : Nat) : Bool :=
  unit == 8 && (List.range 4).all (fun w => bits mask (8 * w + 7) (8 * w) == 0 || bits mask (8 * w + 7) (8 * w) == 255)
/-- A load from a sector of a counter page, at its offset in the page: aligned 8-byte loads alone read counters (R192). -/
def State.counterLoad (s : State) (c off mask unit : Nat) : Option Nat :=
  let words := (List.range 4).filter (fun w => bits mask (8 * w + 7) (8 * w) ≠ 0)
  if counterRead mask unit then
    some (words.foldl (fun v w => v ||| (s.counterPage c (off + 8 * w) <<< (64 * w))) 0)
  else none
/-- A sector of a request in global memory performed (R177, R179, R192, R285, R335). -/
def State.performGlobal (s : State) (id : Nat) (r : Request) (i : Nat) (p : Part) (status data : Nat) : State :=
  if p.sent then s.remoteAnswer id r i p status data
  else if r.space = 3 then
    match s.place p.addr with
    | .remote m off => s.sendRemote id r i p [m] off (s.choosePath id r p m)
    | .local_ off => s.performLocal id r i p off
    | .fault sub => s.faultPart id r i sub false
    | _ => s.faultPart id r i 0 false
  else match s.hitFor r p.addr with
    | none => s
    | some e =>
      if !e.allows r.need then s.faultPart id r i 2 true
      else
        let pa := e.ppage + (p.addr - e.vpage)
        match s.place pa with
        | .fault sub => s.faultPart id r i sub true
        | .counter c off =>
          match (if r.kind == .load then s.counterLoad c off p.mask.toNat r.unit else none) with
          | some v => s.donePart id r i v
          | none => s.faultPart id r i e.counterFault true
        | .multicast g off => s.performMulticast id r i p g off
        | .remote m off =>
          if r.kind == .pref then s.donePart id r i 0
          else if counterOffset off && (r.kind != .load || !counterRead p.mask.toNat r.unit) then s.faultPart id r i e.counterFault true
          else s.sendMerged id r i p m off
        | .local_ off =>
          match r.kind with
          | .barrive _ _ => s
          | _ => s.performLocal id r i p off

/-- HOME_REQUEST (R178): the next sector of a request is performed at its home, or is sent to another module; a
second turn brings that module's answer. -/
def execHomeRequest (req status : Nat) (data : BitVec 256) (s : State) : Host.Outcome State Fault Refusal :=
  .next (match Tab.find? s.reqs req with
    | none => s
    | some r =>
      match r.next with
      | none => s
      | some i =>
        match r.parts[i]? with
        | none => s
        | some p =>
          if r.setWait || !s.mayPerform req r p then s
          else if r.bad && !p.sent then s.faultPart req r i 6 (!r.isStore)
          else if r.space = 2 then s.performWindow req r i p
          else if r.space = 1 then s.performOwn req r i p
          else s.performGlobal req r i p status data.toNat)

/-- SET_WAIT_RETRY: a write that waits for a busy line of its set chooses its victims again (R367). -/
def execSetWaitRetry (req : Nat) (s : State) : Host.Outcome State Fault Refusal :=
  .next (match Tab.find? s.reqs req with
    | none => s
    | some r =>
      if !r.setWait then s
      else match r.next with
        | none => s
        | some i =>
          match r.parts[i]? with
          | none => s
          | some p => match s.partPlace r p with
            | (0, pa) => s.performLocal req r i p (pa % 2 ^ 44)
            | _ => s)

/-- BARRIER_ARRIVAL: a BARRIVE is performed at its object's home on this module (R259). -/
def execBarrierArrival (req : Nat) (s : State) : Host.Outcome State Fault Refusal :=
  .next (match Tab.find? s.reqs req with
    | none => s
    | some r =>
      match r.kind, r.parts[0]? with
      | .barrive _ _, some p =>
        if r.finished || p.sent || !s.mayPerform req r p then s
        else match s.hitFor r p.addr with
          | none => s
          | some e =>
            if !e.allows .atomic then s.faultPart req r 0 2 true
            else match s.place (e.ppage + (p.addr - e.vpage)) with
              | .local_ off => s.performLocal req r 0 p off
              | _ => s
      | _, _ => s)

/-- L2_FILL: the sectors asked of HBM4 arrive and fill their line (R188, R190). -/
def execL2Fill (line : Nat) (s : State) : Host.Outcome State Fault Refusal :=
  .next (match (s.cluster (homeCluster (line * 128))).fills.find? (fun f => f.line == line) with
    | none => s
    | some f => (s.completeFill f).getD s)

/-- PAGE_WALK: a walker completes the walk of a request's address; every request that joined it in its 64 KiB region
carries the result (R179, R180, R363, R364). -/
def execPageWalk (req : Nat) (s : State) : Host.Outcome State Fault Refusal :=
  .next (match Tab.find? s.reqs req with
    | none => s
    | some r =>
      match r.next.bind (fun i => r.parts[i]?) with
      | none => s
      | some p =>
        if r.space ≠ 0 || p.sent || (s.hitFor r p.addr).isSome || !s.mayPerform req r p then s
        else
          let joined := s.reqs.filterMap (fun (e : Nat × Request) =>
            let q := e.2
            match q.next with
            | none => none
            | some i => match q.parts[i]? with
              | none => none
              | some o =>
                if q.space = 0 && coreCluster q.core == coreCluster r.core && q.slotOwner == r.slotOwner && o.addr / 65536 == p.addr / 65536 &&
                    (s.hitFor q o.addr).isNone && !o.sent && s.mayPerform e.1 q o
                then some (e.1, i) else none)
          let failAll := fun (s : State) (sub : Nat) => joined.foldl (fun (s : State) (e : Nat × Nat) =>
            match Tab.find? s.reqs e.1 with
            | some q => s.faultPart e.1 q e.2 sub true
            | none => s) s
          match s.walk r.slotOwner p.addr with
          | (s1, .error e) => failAll s1 e
          | (s1, .ok entry) =>
            if !entry.allows r.need then failAll s1 2
            else joined.foldl (fun (s : State) (e : Nat × Nat) => match Tab.find? s.reqs e.1 with
              | some q =>
                let s2 : State := { s with reqs := Tab.put s.reqs e.1 { q with entry := some entry } }
                if (s.tlbHit q.core q.slotOwner p.addr).isSome then s2 else s2.tlbInstall q.core entry
              | none => s) s1)

/-! ### ELEMENT_LAND and STORE_ACK -/

/-- The element a request delivers: the bytes read, under the strand's own where it had any (R203, R245). -/
def Request.element (r : Request) : Nat :=
  r.parts.foldl (fun v p => p.place.foldl (fun v e =>
    let src := if p.overlayMask.getLsbD e.1 then p.overlay.toNat else p.data.toNat
    setBits v (8 * e.2) 8 (byteOf src e.1).toNat) v) 0
/-- The fault of an element: the one of its lowest lane (R320). -/
def Request.elementFault (r : Request) : Option FaultMark :=
  let lane := fun (p : Part) => p.place.foldl (fun n e => min n e.2) 4096
  (r.parts.foldl (fun (b : Option Part) p =>
    if p.fault.isNone then b
    else match b with
      | none => some p
      | some q => if lane p < lane q then some p else some q) none).bind (·.fault)

/-- Whether an earlier request or walk of the stream has an element still to land (R194, R198). -/
def State.landsFirst (s : State) (id : Nat) (r : Request) (w : Nat) : Bool :=
  s.reqs.all (fun e => !(decide (e.1 < id) && e.2.core == r.core && e.2.stream == some w && !e.2.resend)) &&
  s.walks.all (fun e => !(decide (e.1 < id) && e.2.core == r.core && !e.2.toRing && e.2.target == w && !e.2.finished))

/-- ELEMENT_LAND (R194, R209, R320, R322); a load whose strand has halted with its gang ends with nothing (R318). -/
def execElementLand (req : Nat) (s : State) : Host.Outcome State Fault Refusal :=
  .next (match Tab.find? s.reqs req with
    | none => s
    | some r =>
      match r.stream with
      | none => if r.orphan && !r.changes && r.finished then s.dropReq req else s
      | some w =>
        if !r.finished || !(r.resend || s.landsFirst req r w) then s
        else
          let fault := r.elementFault
          let s1 := s.dropReq req
          if (s1.core r.core).gang != some r.gang then s1 else
          match Tab.find? (s1.core r.core).share.streams w with
          | none => s1
          | some st =>
            let data := if fault.isSome then 0#4096 else BitVec.ofNat 4096 r.element
            let fresh : Element := { req := req, data := data, fault := fault, origin := req, again := some r, maker := some (r.member, r.slot) }
            let elems := if r.resend then st.elems.map (fun e => if e.pending && e.req == req then { fresh with origin := e.origin } else e)
              else st.elems ++ [fresh]
            let s2 := s1.mapCore r.core (fun k => { k with share := { k.share with streams := Tab.put k.share.streams w { st with elems := elems } } })
            if r.order == .acquire && fault.isNone then s2.readerHalf r.core r.scope else s2)

/-- An identity put among others in rising order. -/
def insertId (id : Nat) (l : List Nat) : List Nat :=
  match l with
  | [] => [id]
  | x :: r => if id < x then id :: x :: r else x :: insertId id r
/-- A faulted store entered among those its queue holds, in the order in which they were sent: one sent again was sent after
all that are held (R321, R366). -/
def State.insertHeld (s : State) (id : Nat) (r : Request) (l : List Nat) : List Nat :=
  let again := fun (i : Nat) => ((Tab.find? s.reqs i).map (·.resend)).getD false
  if r.resend then l ++ [id] else insertId id (l.filter (!again ·)) ++ l.filter again

/-- Whether an acknowledged request is counted in the path counters: a remote store, which no STF and no release is (R201),
every multicast store, and a route-1 chunk to another module (R253, R288, R297). -/
def Request.counted (r : Request) : Bool :=
  match r.kind with
  | .store => r.multicast || (r.remote && !r.immediate)
  | .chunk _ _ => r.remote
  | _ => false

/-- The span of a copy released, once its last source sector has been read or it has ended (R55, R255). -/
def Core.freeSpan (k : Core) (y : CopyOp) : Core :=
  let p := Tab.get k.share.spans {} y.span
  if y.span < 8 && !y.freed then { k with share := { k.share with spans := Tab.set k.share.spans {} y.span { p with live := false } } } else k
/-- A copy ended: its span is released, and a fault it met is kept for DRAIN (R219, R255, R369). -/
def Core.endCopy (k0 : Core) (y : CopyOp) (fault : Option (Nat × Word × Bool)) : Core :=
  let k := k0.freeSpan y
  { k with copies := k.copies.filter (fun z => z.id != y.id), copyFaults := match fault with
      | none => k.copyFaults
      | some (sub, a, dside) => insertFault { id := y.id, gang := y.gang, member := y.member, slot := y.slot, sub := sub, addr := a, runs := y.made, dside := dside, span := y.span % 8 } k.copyFaults }

/-- A copy's write to another module answered: the copy goes on, or ends with that fault (R219, R369). -/
def State.ackCopyWrite (s : State) (id copy : Nat) (r : Request) : State :=
  if !r.finished then s
  else (s.dropReq id).mapCore r.core (fun k =>
    match k.copies.find? (fun y => y.id == copy) with
    | none => k
    | some y =>
      match r.faultOf with
      | none => { k with copies := k.copies.map (fun z => if z.id == copy then { z with asked := none } else z) }
      | some f => k.endCopy y (some (f.sub, BitVec.ofNat 64 (y.asked.getD 0), true)))

/-- STORE_ACK: an acknowledged store returns its credits and, a remote store, is counted against its path (R201); a faulted one freezes its
queue (R194, R253, R321); of a route-1 chunk the faulting 32 bytes become the held request (R370). -/
def execStoreAck (req : Nat) (s : State) : Host.Outcome State Fault Refusal :=
  .next (match Tab.find? s.reqs req with
    | none => s
    | some r =>
      match r.kind with
      | .copyWrite copy => s.ackCopyWrite req copy r
      | .collWrite graph step op => s.ackCollWrite req graph step op r
      | _ =>
      if !r.isStore || r.held then s
      else if r.orphan && r.settled then s.retireStore req
      else if r.faultOf.isSome then
        { s with reqs := Tab.put s.reqs req { r with held := true, parts := if r.space = 3 then r.parts.filter (·.fault.isSome) else r.parts } }.mapCore r.core (fun k =>
          { k with frozen := Tab.set k.frozen [] r.queue (s.insertHeld req r (Tab.get k.frozen [] r.queue)) })
      else if !r.finished then s
      else
        let s1 := s.retireStore req
        if r.counted then s1.mapCore r.core (fun k =>
          { k with paths := Tab.set k.paths 0 (4 * r.queue + r.path) (min (Tab.get k.paths 0 (4 * r.queue + r.path) + 1) 65535) })
        else s1)

end Sys2Proof.Machine
end

