-- ==== Sys2Proof/Machine/Agents.lean ====
section
/-! DEFINITION. Copies (R254, R255, R369), pattern loads (R147) and walks (R196 to R200, R391). -/
namespace Sys2Proof.Machine
open Sys2Proof

/-! ### Copies -/

/-- The source and destination of run `n` of a copy (R254): level 1 runs fastest. -/
def CopyOp.runAt (y : CopyOp) (n : Nat) : Int × Int :=
  let r := y.levels.foldl (fun (a : Nat × Int × Int) l =>
    let i := a.1 % l.1
    (a.1 / l.1, a.2.1 + i * l.2.1, a.2.2 + i * l.2.2)) (n, (y.src : Int), (y.dst : Int))
  r.2
/-- How many runs a copy makes. -/
def CopyOp.runs (y : CopyOp) : Nat := y.levels.foldl (fun n l => n * l.1) 1

/-- Bytes within one sector of a copy's space read: the value, or the sub-cause and address of a fault (R178, R335,
R359, R378). -/
def State.copyRead (s : State) (c slot space : Nat) (a : Int) (n : Nat) : State × Except (Nat × Nat) Nat :=
  let va := wrap 64 a
  if 2 ^ 56 ≤ va + n - 1 then (s, .error (0, max va (2 ^ 56)))
  else if space = 0 then s.virtRead c slot va n
  else
    let (t, off) := if space = 1 then (c, va) else windowPlace c va
    let unmapped := if space = 1 then decide ((s.core c).spadSize < off + n) else decide (2 ^ 29 ≤ va) || decide (192 ≤ bits va 28 21)
    let first := if space = 1 then va + ((s.core c).spadSize - off) else va
    if unmapped then (s, .error (0, first))
    else match (if space = 1 then none else s.windowFault t slot off n) with
      | some e => (s, .error (e, if (s.windowFault t slot off 1).isSome then va else va + ((s.core t).spadSize - off)))
      | none =>
        match (s.badSpad.filter (fun e => e.1 == t && decide (e.2 * 8 < off + n) && decide (off < e.2 * 8 + 8))).map (·.2) with
        | w :: ws => (s, .error (6, va + (ws.foldl min w * 8 - off)))
        | [] => (s, .ok (s.spadRead t off n))
/-- Bytes within one sector of a copy's space written. -/
def State.copyWrite (s : State) (c slot space : Nat) (a : Int) (n v : Nat) : State × Option (Nat × Nat) :=
  let va := wrap 64 a
  if 2 ^ 56 ≤ va + n - 1 then (s, some (0, va))
  else if space = 0 then s.sectorWrite c slot va n v
  else
    let (t, off) := if space = 1 then (c, va) else windowPlace c va
    let unmapped := if space = 1 then decide ((s.core c).spadSize < off + n) else decide (2 ^ 29 ≤ va) || decide (192 ≤ bits va 28 21)
    if unmapped then (s, some (0, va))
    else match (if space = 1 then none else s.windowFault t slot off n) with
      | some e => (s, some (e, va))
      | none => (s.spadWrite t off n (2 ^ n - 1) v, none)

/-- A byte of a copy's space: scratchpad bytes by window address, global ones by virtual address (R176, R217). -/
def spaceKey (c space : Nat) (a : Int) : Nat × Int :=
  if space = 1 then (1, ((c % Config.clusterCores) * 2 ^ 21 : Int) + a) else if space = 2 then (1, a) else (0, a)

/-- The value a destination sector receives: a byte that lies in the copy's own source range is undefined (R254). -/
def CopyOp.written (y : CopyOp) (c free : Nat) (d : Int) (n v : Nat) : Nat :=
  let lo := spaceKey c y.sspace y.sourceRange.1
  let hi := spaceKey c y.sspace y.sourceRange.2
  (List.range n).foldl (fun (v : Nat) (i : Nat) =>
    let b := spaceKey c y.dspace (d + (i : Int))
    if b.1 == lo.1 && decide (lo.2 ≤ b.2) && decide (b.2 < hi.2) then
      setBits v (8 * i) 8 (bits (Config.freeBits free i).toNat 7 0)
    else v) v

/-- Where a destination sector of a copy lies: the module and offset of one on another module, the line of a local one in
global memory (R177, R219). -/
def State.copyPlace (s : State) (c : Nat) (y : CopyOp) (a : Int) : State × (Option (Nat × Nat) × Option Nat) :=
  if y.dspace ≠ 0 then (s, none, none)
  else match s.translate c y.slotOwner (wrap 64 a) .store with
    | (s1, .error _) => (s1, none, none)
    | (s1, .ok pa) => match s1.place pa with
      | .remote _ _ => (s1, some (pa, wrap 64 a), none)
      | .local_ off => (s1, none, some (off / 128))
      | _ => (s1, none, none)
/-- A line among those that copies of a strand have written (R219). -/
def Core.noteCopied (k : Core) (y : CopyOp) (line : Nat) : Core :=
  let mine := fun (e : Nat × Nat × Nat × List Nat) => e.1 == y.gang && e.2.1 == y.member && e.2.2.1 == y.slot
  let old := ((k.copied.find? mine).map (·.2.2.2)).getD []
  if old.contains line then k
  else { k with copied := k.copied.filter (fun e => !mine e) ++ [(y.gang, y.member, y.slot, old ++ [line])] }

/-- What a copy's turn comes to: it is made; it faults, with sub-cause, address and whether of the destination; or it
waits for another module's answer. -/
inductive CopyEnd
  | made
  | fault (sub addr : Nat) (dside : Bool)
  | asks
  deriving DecidableEq, Repr

/-- Whether `n` bytes of a copy's destination pass the end of the vitrines it is into (R439; log 114). -/
def CopyOp.beyond (y : CopyOp) (a : Int) (n : Nat) : Bool :=
  y.limit.any (fun e => decide ((e : Int) < a + (n : Int)))

/-- A copy stored back in its core. -/
def State.keepCopy (s : State) (c : Nat) (y : CopyOp) : State :=
  s.mapCore c (fun k => { k with copies := k.copies.map (fun z => if z.id == y.id then y else z) })

/-- A source sector that cannot be read whole for an uncorrectable word, read by its words at once: the value, and from bit 256 on
the words that are uncorrectable (R218, R359). -/
def State.copyWords (s : State) (c : Nat) (y : CopyOp) (sector : Nat) : State × Nat :=
  (List.range 4).foldl (fun (a : State × Nat) w =>
    match a.1.copyRead c y.slotOwner y.sspace (32 * sector + 8 * w : Nat) 8 with
    | (s1, .ok d) => (s1, a.2 ||| (d <<< (64 * w)))
    | (s1, .error _) => (s1, a.2 ||| (1 <<< (256 + w)))) (s, 0)
/-- Bytes of a copy's source, each sector from what the copy read of it first (R218): the copy, and the value or the
fault. -/
def State.copySource (s : State) (c : Nat) (y : CopyOp) (runs : List (Nat × Nat × Nat)) (acc : Nat) : State × CopyOp × Except (Nat × Nat) Nat :=
  match runs with
  | [] => (s, y, .ok acc)
  | (va, n, o) :: rest =>
    let of := fun (d : Nat) => acc ||| (bits d (8 * (va % 32 + n) - 1) (8 * (va % 32)) <<< (8 * o))
    let use := fun (s : State) (y : CopyOp) (d : Nat) =>
      match lowest 4 (fun w => d.testBit (256 + w) && decide (8 * w < va % 32 + n) && decide (va % 32 < 8 * w + 8)) with
      | some w => (s, y, .error (6, max va (va / 32 * 32 + 8 * w)))
      | none => s.copySource c y rest (of d)
    let keep := fun (d : Nat) => { y with source := Tab.put y.source (va / 32) d }
    match Tab.find? y.source (va / 32) with
    | some d => use s y d
    | none =>
      match s.copyRead c y.slotOwner y.sspace (va / 32 * 32 : Nat) 32 with
      | (s1, .ok d) => use s1 (keep d) d
      | (s1, .error (6, _)) => let (s2, d) := s1.copyWords c y (va / 32); use s2 (keep d) d
      | (s1, .error _) =>
        match s1.copyRead c y.slotOwner y.sspace va n with
        | (s2, .error e) => (s2, y, .error e)
        | (s2, .ok v) => s2.copySource c y rest (acc ||| (v <<< (8 * o)))
termination_by structural runs
/-- The destination sectors of one run from where the copy stands, in ascending order (R369): a sector on another module
is sent there and its answer awaited. -/
def State.copySectors (s : State) (c : Nat) (y : CopyOp) (src dst : Int) (l : List (Nat × Nat × Nat)) : State × CopyOp × CopyEnd :=
  match l with
  | [] => (s, y, .made)
  | (_, len, o) :: rest =>
    match s.copySource c y (sectorRuns (wrap 64 (src + o)) len) 0 with
    | (s1, y, .error e) => (s1, y, .fault e.1 e.2 false)
    | (s1, y, .ok v) =>
      let w := y.written c s1.free (dst + o) len v
      let y1 := { y with sectors := y.sectors + 1 }
      if y.beyond (dst + o) len then (s1, y, .fault 0 (max (wrap 64 (dst + o)) (y.limit.getD 0)) true)
      else match ({ s1 with free := s1.free + 1 }).copyPlace c y (dst + o) with
      | (s2, some (pa, va), _) =>
        let part : Part := { addr := pa / 32 * 32, mask := BitVec.ofNat 32 (maskRange (pa % 32) len), data := BitVec.ofNat 256 (w <<< (8 * (pa % 32))) }
        let r : Request := { core := c, ctx := 4, gang := y.gang, member := y.member, slot := y.slot, queue := 4, kind := .copyWrite y.id, space := 3, parts := [part], remote := true, module := pa / 2 ^ 44, slotOwner := y.slotOwner }
        ({ s2 with reqs := Tab.put s2.reqs (s2.nextReq + 1) r, nextReq := s2.nextReq + 1 }, { y1 with asked := some va }, .asks)
      | (s2, none, line) =>
        match s2.copyWrite c y.slotOwner y.dspace (dst + o) len w with
        | (s3, some e) => (s3, y, .fault e.1 e.2 true)
        | (s3, none) => (line.elim s3 (fun n => s3.mapCore c (·.noteCopied y n))).copySectors c y1 src dst rest
termination_by structural l

/-- The runs of a copy in order, from where it stands (R254, R369). -/
def State.copyRuns (s : State) (c : Nat) (y : CopyOp) (ns : List Nat) : State × CopyOp × CopyEnd :=
  match ns with
  | [] => (s, y, .made)
  | n :: rest =>
    let (src, dst) := y.runAt n
    match s.copySectors c y src dst ((sectorRuns (wrap 64 dst) y.run).drop y.sectors) with
    | (s1, y1, .made) => s1.copyRuns c { y1 with made := n + 1, sectors := 0 } rest
    | r => r
termination_by structural ns

/-- A copy may be made: the stores of its strand issued before it into its source or destination range have been
performed, whichever space names them (R204, R217). -/
def State.copyReady (s : State) (c : Nat) (y : CopyOp) : Bool :=
  let meets := fun (space : Nat) (range : Int × Int) (r : Request) (o : Part) =>
    let a := spaceKey c r.space (32 * (o.addr / 32) : Nat)
    let lo := spaceKey c space range.1
    a.1 == lo.1 && decide (lo.2 < a.2 + 32) && decide (a.2 < lo.2 + (range.2 - range.1))
  y.asked.isNone && s.engineRuns y.gang y.member y.slot && s.priorStoresDone y.id y.gang y.member y.slot (fun r o =>
    r.space ≠ 3 && (meets y.sspace y.sourceRange r o || meets y.dspace y.destRange r o))

/-- Every source sector of a copy has been read: it holds those of every destination sector still to come (R55, R255). -/
def CopyOp.sourceRead (y : CopyOp) : Bool :=
  ((List.range y.runs).drop y.made).all (fun n =>
    let (src, dst) := y.runAt n
    ((sectorRuns (wrap 64 dst) y.run).drop (if n = y.made then y.sectors else 0)).all (fun p =>
      (sectorRuns (wrap 64 (src + (p.2.2 : Int))) p.2.1).all (fun q => (Tab.find? y.source (q.1 / 32)).isSome)))
/-- COPY_COMPLETE: a copy is made, to its end, to its first fault or to a sector on another module. Its span is released when
its last source sector has been read, or it has faulted (R218, R255, R369). -/
def execCopyComplete (core span : Nat) (s : State) : Host.Outcome State Fault Refusal :=
  .next (match (s.core core).copies.find? (fun y => y.span == span && s.copyReady core y) with
    | none => s
    | some y =>
      match s.copyRuns core y ((List.range y.runs).drop y.made) with
        | (s1, y1, .made) => s1.mapCore core (·.endCopy y1 none)
        | (s1, y1, .fault sub a dside) => s1.mapCore core (·.endCopy y1 (some (sub, BitVec.ofNat 64 a, dside)))
        | (s1, y1, .asks) => if y1.sourceRead then (s1.mapCore core (·.freeSpan y1)).keepCopy core { y1 with freed := true } else s1.keepCopy core y1)


/-! ### Walks -/

/-- Translation at a die for a pier engine: its last-level TLB, then a walk (R196). -/
def State.dieTranslate (s : State) (cl slot va : Nat) : State × Except Nat Nat :=
  match (s.cluster cl).tlb.find? (·.covers slot va) with
  | some e => if e.r then (s, .ok (e.ppage + (va - e.vpage))) else (s, .error 2)
  | none =>
    match s.walk slot va with
    | (s1, .error n) => (s1, .error n)
    | (s1, .ok e) =>
      if e.r then
        (s1.setCluster cl { s1.cluster cl with tlb := ((s1.cluster cl).tlb ++ [e]).drop (((s1.cluster cl).tlb.length + 1) - 16384) }, .ok (e.ppage + (va - e.vpage)))
      else (s1, .error 2)

/-- A read of a pier engine within one sector (R200, R391): the value and its offset, or the sub-cause and address. An address at or
beyond 2^56 wraps modulo 2^56, and one off the alignment of its element is read as it stands: R196 gives neither a fate (log 161,
DESIGN CHOICE). -/
def State.pierRead (s : State) (w : Walk) (va n : Nat) : State × Except (Nat × Nat) (Nat × Nat) :=
  let slot := s.gangSlot w.gang
  match s.dieTranslate (w.stack / 2) slot (va % 2 ^ 56) with
  | (s1, .error e) => (s1, .error (e, va))
  | (s1, .ok pa) =>
    match s1.place pa with
    | .local_ off =>
      if s1.badRead off (s1.slotKey slot) (maskRange (off % 32) n) then (s1, .error (6, va))
      else
        let (s2, v) := s1.homeRead off n (s1.slotKey slot) false
        (s2, .ok (v, off))
    | .fault e => (s1, .error (e, va))
    | _ => (s1, .error (0, va))

/-- Weights of a row read in order. -/
def State.pierWeights (s : State) (w : Walk) (lo : Nat) (l : List Nat) : State × Except (Nat × Nat) (List Nat) :=
  match l with
  | [] => (s, .ok [])
  | i :: rest =>
    match s.pierRead w (w.weight + 4 * (lo + i)) 4 with
    | (s1, .error e) => (s1, .error e)
    | (s1, .ok (v, _)) =>
      match s1.pierWeights w lo rest with
      | (s2, .error e) => (s2, .error e)
      | (s2, .ok vs) => (s2, .ok (v :: vs))
termination_by structural l

/-- A visit record (R198, Table 10). -/
def visit (v h : Nat) (trunc stop : Bool) : Nat := (b2n trunc <<< 49) ||| (b2n stop <<< 48) ||| ((h % 65536) <<< 32) ||| v % 2 ^ 32
/-- The fault record (R391). -/
def faultVisit : Nat := 0x0001FFFFFFFFFFFF

/-- What the next turn of a walk comes to: its record, the walk after it, and the fault that ended it (R197). Of a hop that faults
no draw is made (R391): that its leaves raise no flags either, R199 leaves open (log 162, DESIGN CHOICE). -/
def State.walkStep (s : State) (w : Walk) : State × Nat × Walk × Option (Nat × Nat) :=
  if w.hop = 0 then (s, visit w.start 0 false false, { w with hop := 1, vertex := w.start, finished := w.hops = 0 }, none)
  else
    let failed := fun (s : State) (w : Walk) (e : Nat × Nat) => (s, faultVisit, { w with finished := true }, some e)
    match s.pierRead w (w.rowptr + 8 * w.vertex) 8 with
    | (s1, .error e) => failed s1 w e
    | (s1, .ok (lo, off)) =>
      let w := { w with stack := off / 2 ^ 36 }
      match s1.pierRead w (w.rowptr + 8 * (w.vertex + 1)) 8 with
      | (s2, .error e) => failed s2 w e
      | (s2, .ok (hi, _)) =>
        let d := (hi : Int) - lo
        let n := min d.toNat 64
        match s2.pierWeights w lo (List.range n) with
        | (s3, .error e) => failed s3 w e
        | (s3, .ok ws) =>
          let leaves := (List.range 64).map (fun i => match ws[i]? with
            | some x => leafTriple (!w.logit) x i w.temp.toNat
            | none => (Triple.empty, 0))
          let f0 : Flags := leaves.foldl (fun (f : Flags) e => f ||| e.2) 0
          let u := fun (node : Nat) => drawU32 w.key.toNat (w.tag * 2 ^ 48 + w.walkid * 2 ^ 16 + w.hop * 64 + node)
          let t := mergeTree (w.logit && (fmt32.decode w.temp.toNat).isZero) { u := u, pick := fun node => Config.freeChoice s3.free (8 + node) } 6 (leaves.map (·.1)) 0
          let w1 := { w with flags := w.flags ||| f0 ||| t.2.1, hop := w.hop + 1, finished := w.hop = w.hops }
          let s4 := { s3 with free := s3.free + 1 }
          if t.1.i = 0xFFFFFFFF then (s4, visit 0xFFFFFFFF w.hop (64 < d) true, { w1 with finished := true }, none)
          else match s4.pierRead w (w.colidx + 4 * (lo + t.1.i)) 4 with
            | (s5, .error e) => failed s5 w e
            | (s5, .ok (v, _)) => (s5, visit v w.hop (64 < d) false, { w1 with vertex := v }, none)

/-- The flags of a walk set in its strand's SSR, or ORed into its folio while it waits (R199). -/
def State.walkFlags (s : State) (w : Walk) : State :=
  let f := w.flags &&& 0x3E#6
  match s.locate w.gang w.member w.slot with
  | some (c, x) => s.mapStrand c x (fun t => { t with flags := t.flags ||| f })
  | none =>
    let cl := coreCluster w.core
    let slot := s.gangSlot w.gang
    match (s.cluster cl).folios.find? (fun e => e.2.1 == w.gang && e.2.2.1 == w.member && e.2.2.2 == w.slot) with
    | none => s
    | some e =>
      match s.virtRead w.core slot e.1 8 with
      | (s1, .error _) => s1
      | (s1, .ok v) => (s1.virtWrite w.core slot e.1 8 (v ||| ((f.toNat / 2) <<< 57))).1

/-- A record delivered to a stream as an element of request 0 (R198). -/
def State.walkToStream (s : State) (w : Walk) (rec_ : Nat) : State :=
  s.mapCore w.core (fun k =>
    if w.lost || k.gang != some w.gang then k else
    match Tab.find? k.share.streams w.target with
    | none => k
    | some st => { k with share := { k.share with streams := Tab.put k.share.streams w.target { st with elems := st.elems ++ [{ req := 0, data := BitVec.ofNat 4096 rec_, fault := none }] } } })

/-- A full unit of records written to a ring, whose TAIL advances by 1 (R198). -/
def State.walkToRing (s : State) (w : Walk) (unit : List Word) : State :=
  if w.lost || (s.core w.core).gang != some w.gang then s else
  let r := Tab.get (s.core w.core).share.rings {} w.target
  let off := (r.base + r.tail % max r.size 1) * 64
  let s1 := s.spadWrite w.core off 64 (2 ^ 64 - 1) (ofBytes (unit.flatMap (fun v => bytesOf 8 v.toNat)))
  s1.mapCore w.core (fun k =>
    let r := Tab.get k.share.rings {} w.target
    { k with share := { k.share with rings := Tab.set k.share.rings {} w.target (r.pushed 1) } })

/-- Whether a walk may deliver its next record: its element is next in its stream, or the ring has room for the unit
that the record completes (R194, R198). -/
def State.walkMayDeliver (s : State) (id : Nat) (w : Walk) : Bool :=
  if w.lost then true
  else if w.toRing then
    let r := Tab.get (s.core w.core).share.rings {} w.target
    decide (r.occupancy < r.size)
  else
    s.reqs.all (fun e => !(decide (e.1 < id) && e.2.core == w.core && e.2.stream == some w.target && !e.2.resend)) &&
    s.walks.all (fun e => !(decide (e.1 < id) && e.2.core == w.core && !e.2.toRing && e.2.target == w.target && !e.2.finished))

/-- WALK_HOP (R197 to R200, R391): the next record of a walk, its flags before the last one. -/
def execWalkHop (walk : Nat) (s : State) : Host.Outcome State Fault Refusal :=
  .next (match Tab.find? s.walks walk with
    | none => s
    | some w =>
      if (s.gang w.gang).isNone then { s with walks := Tab.erase s.walks walk }
      else if w.finished || !s.engineRuns w.gang w.member w.slot || !s.walkMayDeliver walk w ||
          !s.priorStoresDone walk w.gang w.member w.slot (fun r _ => r.published) then s
      else
        let (s1, rec_, w1, fault) := s.walkStep w
        let s2 := match fault with
          | some e => s1.log (w1.stack / 2) (0x200 + 32 * (w1.stack % 2) + walk % 32) 5 7 (s.gangOwner w.gang) (BitVec.ofNat 64 e.2)
              (BitVec.ofNat 64 (w.walkid ||| (e.1 <<< 32)))
          | none => s1
        let s3 := if w1.finished then s2.walkFlags w1 else s2
        let drop := fun (s : State) (w : Walk) => if w.finished then { s with walks := Tab.erase s.walks walk } else { s with walks := Tab.put s.walks walk w }
        if !w.toRing then drop (s3.walkToStream w1 rec_) w1
        else
          let unit := w1.unit ++ [BitVec.ofNat 64 rec_]
          if w1.finished then drop (s3.walkToRing w1 (unit ++ List.replicate (8 - unit.length) (BitVec.allOnes 64))) w1
          else if unit.length = 8 then drop (s3.walkToRing w1 unit) { w1 with unit := [] }
          else drop s3 { w1 with unit := unit })

end Sys2Proof.Machine
end

