-- ==== Sys2Proof/Machine/Matrix.lean ====
section
/-! DEFINITION. The matrix engine: the instructions of the X slot that drive it (R170 to R173), its queue (R160,
R161), its micro-ops (R152 to R159), epilogues (R162 to R165, R370), checksums (R166) and retirement (R169). -/
namespace Sys2Proof.Machine
open Sys2Proof

/-! ### The instructions -/

/-- The format sampled at issue (R51). -/
def Bun.fmtSampled (b : Bun) : Word := Tab.get b.share.fmts 0 b.formatIndex

/-- Collective-queue slots neither used nor reserved (R164). -/
def Core.collFree (k : Core) : Nat := 32 - (k.collq.length + k.mq.foldl (fun n o => n + o.reserved) 0)

/-- The reserved bits of the call word (R156). -/
def callReserved (w : Nat) : Bool := bits w 31 27 != 0 || w.testBit 23 || bits w 19 16 != 0

/-- MCALL (R156, R160, R164, R170). No operand field names the tile of TILES at or beyond ACCS, so what INFO [5:0] of that trap
holds is open (R315): the number of the lowest such tile, the model's choice (log 159). -/
def execMcall (tag : BitVec 4) (prio : BitVec 3) (n : BitVec 8) (s : State) : Host.Outcome State Fault Refusal :=
  s.runSlot (.mcall tag prio n) (fun b =>
    let t := b.strand
    let call := (Tab.get b.share.mp 0 0).toNat
    let tiles := call % 256
    let rings := bits call 15 8
    let routine := Tab.find? b.core.routines n.toNat
    let cqn := (routine.map (·.1)).getD 0
    let badTile := (List.range 8).find? (fun i => tiles.testBit i && t.accs ≤ i)
    let badRing := (List.range 8).any (fun i => rings.testBit i && (Tab.get b.share.rings {} i).size == 0)
    b.check [stopIf (routine.isNone || badRing || callReserved call) trapOperand, badTile.map trapReg,
        stopIf (16 ≤ b.core.mq.length || b.core.collFree < cqn) (.stall .matrix .nothing)] (fun b =>
      let id := b.st.nextReq + 1
      let op : MatrixOp := { id := id, routine := n.toNat, tag := tag.toNat, prio := prio.toNat, mp := b.share.mp, fmt := b.fmtSampled, ctx := b.cur.ctx, gang := t.gang, member := t.member, slot := t.slot, tiles := tiles, rings := rings, words := (routine.map (·.2)).getD [], reserved := cqn, since := b.core.cycle }
      b.withState (fun s => { s with nextReq := id }.mapCore b.cur.core (fun k => { k with mq := k.mq ++ [op] }))))

/-- MPSET (R171). -/
def execMpset (n : BitVec 3) (a : BitVec 6) (s : State) : Host.Outcome State Fault Refusal :=
  s.runSlot (.mpset n a) (fun b => b.check [b.dataResidue a] (fun b => b.shareWrite (.mp n.toNat (b.val a))))

/-- Whether an unretired operation names one of the strand's tiles (R167). -/
def Bun.tileBusy (b : Bun) (mask : Nat) : Bool :=
  let t := b.strand
  b.core.mq.any (fun o => o.gang == t.gang && o.member == t.member && o.slot == t.slot && o.id ≤ b.cur.begun && o.tiles &&& mask != 0)

/-- The row pair an ACCRD or ACCWR names (R172). -/
def Bun.rowPair (b : Bun) (x : BitVec 6) (idx : BitVec 1) (pair : BitVec 5) : Nat :=
  if idx = 1#1 then (b.val x).toNat else pair.toNat
/-- A tile image with row pair `p` replaced. -/
def tilePut (m : Tile) (p : Nat) (v : Vec) : Tile := BitVec.ofNat 131072 (setBits m.toNat (4096 * p) 4096 v.toNat)

/-- The words with an uncorrectable error of row pair `p` of a tile (R358). -/
def Strand.badPair (t : Strand) (tile p : Nat) : List Nat := t.badAcc.filter (fun w => w / 64 == 32 * tile + p)

/-- Row pair `p` of a tile as an ACCRD reads it: the tile, but each element that an unretired operation names shows, by a free
choice, what it held before the operation or what it holds now. R167 allows any k-step's value and the final one too (log 72). -/
def Bun.shownPair (b : Bun) (t p : Nat) : Vec :=
  let s := b.strand
  let ops := b.core.mq.filter (fun o => o.gang == s.gang && o.member == s.member && o.slot == s.slot && o.id ≤ b.cur.begun && o.tiles &&& (1 <<< t) != 0)
  ops.foldl (fun v o =>
    match Tab.find? o.before t with
    | none => v
    | some old =>
      let old := old.extractLsb' (4096 * p) 4096
      let mask : Vec := (List.range 128).foldl (fun m e => if Config.freeChoice (64 * b.st.free + b.cur.slot) (128 * o.id + e) then m ||| (0xFFFFFFFF#4096 <<< (32 * e)) else m) 0
      (v &&& ~~~mask) ||| (old &&& mask)) ((s.tile t).image.extractLsb' (4096 * p) 4096)

/-- ACCRD (R167, R172). Where it includes an uncorrectable word the destination is undefined (R359). -/
def execAccrd (d : BitVec 6) (t : BitVec 3) (x : BitVec 6) (idx : BitVec 1) (pair : BitVec 5) (s : State) :
    Host.Outcome State Fault Refusal :=
  s.runSlot (.accrd d t x idx pair) (fun b =>
    let p := b.rowPair x idx pair
    b.check [stopIf (32 ≤ p) trapOperand] (fun b =>
      match b.strand.badPair t.toNat p with
      | [] => b.writeVec d (b.shownPair t.toNat p) 10
      | w :: _ => (b.writeVec d (Config.freeBits (64 * b.st.free + b.cur.slot) 4) 10).addDue
          { cause := 0x0D, sub := 1, addr := BitVec.ofNat 64 (8 * (w % 2048)), info := BitVec.ofNat 64 (2 ^ 63 + d.toNat * 2 ^ 32) }))

/-- ACCWR (R167, R172). -/
def execAccwr (t : BitVec 3) (a x : BitVec 6) (idx : BitVec 1) (pair : BitVec 5) (s : State) : Host.Outcome State Fault Refusal :=
  s.runSlot (.accwr t a x idx pair) (fun b =>
    let p := b.rowPair x idx pair
    b.check [stopIf (32 ≤ p) trapOperand, stopIf (b.tileBusy (1 <<< t.toNat)) (.stall .matrix .nothing)] (fun b =>
      let v := b.vec a
      b.withState (fun s => s.mapStrand b.cur.core b.cur.ctx (fun u =>
        let old := u.tile t.toNat
        { u.setTile t.toNat { old with image := tilePut old.image p v } with badAcc := u.badAcc.filter (fun w => !(u.badPair t.toNat p).contains w) }))))

/-- ACCZ (R167, R173). -/
def execAccz (mask : BitVec 8) (s : State) : Host.Outcome State Fault Refusal :=
  s.runSlot (.accz mask) (fun b =>
    b.check [stopIf (b.tileBusy mask.toNat) (.stall .matrix .nothing)] (fun b =>
      b.withState (fun s => s.mapStrand b.cur.core b.cur.ctx (fun u =>
        (List.range 8).foldl (fun u t => if mask.getLsbD t then { u.setTile t { u.tile t with image := 0 } with badAcc := u.badAcc.filter (fun w => w / 2048 ≠ t) } else u) u))))

/-! ### The queue -/

/-- Whether an operation shares a tile or a ring with an earlier one (R161). -/
def MatrixOp.blocks (e o : MatrixOp) : Bool :=
  e.id < o.id && ((e.rings &&& o.rings) != 0 ||
    (e.gang == o.gang && e.member == o.member && e.slot == o.slot && (e.tiles &&& o.tiles) != 0))
/-- The effective priority of an operation (R161, R168). -/
def Core.effective (k : Core) (o : MatrixOp) : Nat :=
  if o.running then o.eff else min 7 (o.saved.getD o.prio + (k.cycle - o.since) / (4 * k.age.toNat))
/-- Whether an operation may be chosen: an unstarted one while its gang is not being pre-empted (R168); none whose strand
has halted for the supply, or whose suspension waits for a TRET after a restart (R399, R423). -/
def State.mayRunOp (s : State) (c : Nat) (o : MatrixOp) : Bool :=
  let resumed := match (s.core c).find o.gang o.member o.slot with
    | some x => ((s.strand c x).map (·.resumed)).getD false
    | none => false
  s.engineRuns o.gang o.member o.slot && !(o.kept && resumed) &&
    (o.started || ((s.gang o.gang).map (·.mode)) == some GangMode.active)

/-- Whether an operation comes before another of equal effective priority: one restored as suspended first, then the earlier
issued (R161, R400). -/
def MatrixOp.earlier (o b : MatrixOp) : Bool := (o.kept && !b.kept) || (o.kept == b.kept && o.id < b.id)
/-- The operation of highest effective priority of those eligible, the earliest issued among equals (R161). -/
def State.bestOp (s : State) (c : Nat) : Option MatrixOp :=
  let k := s.core c
  (k.mq.filter (fun o => s.mayRunOp c o && !k.mq.any (fun e => e.blocks o))).foldl (fun best o =>
    match best with
    | none => some o
    | some b => if k.effective b < k.effective o || (k.effective b = k.effective o && o.earlier b) then some o else best) none

/-- The tiles an operation names, as they stand in its strand (R167). -/
def Core.found (k : Core) (o : MatrixOp) : Map Tile :=
  match k.find o.gang o.member o.slot with
  | none => []
  | some x => (List.range 8).filterMap (fun t => if o.tiles.testBit t then some (t, ((Tab.get k.ctxs {} x).tile t).image) else none)

/-- One operation of the queue replaced. -/
def Core.putOp (k : Core) (o : MatrixOp) : Core := { k with mq := k.mq.map (fun e => if e.id = o.id then o else e) }

/-- A running operation that may not go on is suspended (R399). -/
def State.stopOp (s : State) (c : Nat) : State :=
  s.mapCore c (fun k => { k with mq := k.mq.map (fun o => if o.running && !s.mayRunOp c o then { o with running := false, since := k.cycle } else o) })

/-- The choice of the engine (R161), which suspends a running operation that may not go on (R399). -/
def State.chooseOp (s : State) (c : Nat) : State :=
  let s1 := s.stopOp c
  match s1.bestOp c with
  | none => s1
  | some o =>
    let k := s1.core c
    let start := { o with running := true, kept := false, eff := k.effective o, saved := none, before := if o.started then o.before else k.found o }
    match k.mq.find? (·.running) with
    | none => s1.setCore c (k.putOp start)
    | some r =>
      if r.eff < k.effective o && o.id ≠ r.id then s1.setCore c ((k.putOp { r with running := false, since := k.cycle }).putOp start)
      else s1

/-- MATRIX_CHOOSE for an idle engine; at k-step boundaries KSTEP makes the choice itself (R157, R161). -/
def execMatrixChoose (core : Nat) (s : State) : Host.Outcome State Fault Refusal :=
  .next (if (s.core core).mq.any (·.running) then s else s.chooseOp core)

/-! ### Micro-ops -/

/-- The state, core and operation a micro-op acts on. -/
structure Micro where
  st : State
  core : Nat
  op : MatrixOp
  deriving DecidableEq, Repr

/-- A micro-op run for the running operation of the cursor's core: its first one starts the operation (R160). -/
def State.micro (s : State) (f : Micro → State) : Host.Outcome State Fault Refusal :=
  match s.cursor with
  | none => .fault .noOperation
  | some cur =>
    match (s.core cur.core).mq.find? (·.running) with
    | none => .fault .noOperation
    | some o => .next (f ⟨{ s with cursor := none }, cur.core, { o with started := true }⟩)

/-- The operation stored back. -/
def Micro.keep (m : Micro) : State := m.st.mapCore m.core (fun k => k.putOp m.op)
/-- The operation moved past its current micro-word. -/
def Micro.advance (m : Micro) : Micro := { m with op := { m.op with at_ := m.op.at_ + 1, stepDone := 0 } }

/-- The operation waits where it stands, no more started than it was, and the engine runs no other while it waits; one that
must stop for the supply is suspended there (R157, R160, R161, R164, R399). -/
def Micro.waits (m : Micro) : State := m.st.stopOp m.core

/-- The strand that issued the operation, where it is resident. -/
def Micro.ctx (m : Micro) : Option Nat := (m.st.core m.core).find m.op.gang m.op.member m.op.slot
/-- The tile a TILE field names (R153). -/
def Micro.tileNo (m : Micro) (t : BitVec 3) : Nat := (t.toNat + bits (Tab.get m.op.mp 0 0).toNat 22 20) % 8
/-- The ring a ring field names (R153). -/
def Micro.ringNo (m : Micro) (r : BitVec 3) : Nat := (r.toNat + bits (Tab.get m.op.mp 0 0).toNat 26 24) % 8
/-- A count (R153). -/
def Micro.count (m : Micro) (csel : BitVec 6) (imm : BitVec 32) : Nat :=
  let c := csel.toNat
  if c = 0 then imm.toNat % 65536
  else bits (Tab.get m.op.mp 0 ((c - 32) / 4)).toNat (16 * (c % 4) + 15) (16 * (c % 4))
/-- A tile of the operation: of its strand, or the one it keeps where its strand has ended (R318). -/
def Micro.tile (m : Micro) (t : Nat) : TileReg :=
  match m.op.orphan, m.ctx with
  | some o, _ => Tab.get o.1 {} t
  | none, some x => ((m.st.strand m.core x).map (·.tile t)).getD {}
  | none, none => {}
def Micro.setTile (m : Micro) (t : Nat) (v : TileReg) : Micro :=
  match m.op.orphan, m.ctx with
  | some o, _ => { m with op := { m.op with orphan := some (Tab.set o.1 {} t v, o.2) } }
  | none, some x => { m with st := m.st.mapStrand m.core x (·.setTile t v) }
  | none, none => m
/-- The owner of the operation, and its owner slot (R318). -/
def Micro.owner (m : Micro) : Nat := (m.op.orphan.map (·.2.1)).getD (m.st.gangOwner m.op.gang)
def Micro.slotOwner (m : Micro) : Nat := (m.op.orphan.map (·.2.2)).getD (m.st.gangSlot m.op.gang)

/-- The elements of a tile that `p` picks, by row and column, undefined (R359). -/
def TileReg.blur (t : TileReg) (free : Nat) (p : Nat → Nat → Bool) : TileReg :=
  { t with image := BitVec.ofNat 131072 ((List.range 4096).foldl (fun v e =>
      if p (e / 64) (e % 64) then setBits v (32 * e) 32 (bits (Config.freeBits free (256 + e / 64)).toNat (32 * (e % 64) + 31) (32 * (e % 64))) else v) t.image.toNat) }
/-- An uncorrectable word met by the operation: its strand traps, with BUNDLE 0 for an engine (R359, R361). -/
def Micro.torn (m : Micro) (addr : Nat) : Micro :=
  match m.ctx with
  | some x =>
    let s1 : State := { m.st with free := m.st.free + 1 }
    { m with st := s1.addDues m.core x [{ cause := 0x0D, sub := 2, addr := BitVec.ofNat 64 addr }] }
  | none => { m with st := { m.st with free := m.st.free + 1 } }
/-- The uncorrectable words of the operation's tiles (R318, R358). -/
def Micro.badAcc (m : Micro) : List Nat :=
  match m.op.orphan, m.ctx with
  | some _, _ => m.op.orphanBad
  | none, some x => ((m.st.strand m.core x).map (·.badAcc)).getD []
  | none, none => []
/-- A tile of the operation all whose words are written: none of them is uncorrectable (R358). -/
def Micro.renew (m : Micro) (t : Nat) : Micro :=
  match m.op.orphan, m.ctx with
  | some _, _ => { m with op := { m.op with orphanBad := m.op.orphanBad.filter (fun w => w / 2048 ≠ t) } }
  | none, some x => { m with st := m.st.mapStrand m.core x (fun u => { u with badAcc := u.badAcc.filter (fun w => w / 2048 ≠ t) }) }
  | none, none => m
/-- The tile as a micro-op reads it: elements that include an uncorrectable word are undefined (R359). -/
def Micro.readTile (m : Micro) (t : Nat) : Micro :=
  match m.badAcc.filter (fun w => w / 2048 == t) with
  | [] => m
  | w :: rest => ((m.setTile t ((m.tile t).blur m.st.free (fun i j => (w :: rest).contains (2048 * t + (64 * i + j) / 2)))).renew t).torn (8 * (w % 2048))
/-- The words of a ring as a micro-op reads them: one that is uncorrectable becomes zero, and the issuing strand traps, with
BUNDLE 0 for an engine (R359, R361). -/
def Micro.readRing (m : Micro) (r : Nat) : Micro :=
  match [32 + 2 * r, 33 + 2 * r].filter (m.st.core m.core).share.bad.contains with
  | [] => m
  | n :: rest =>
    let s1 := m.st.mapCore m.core (fun k => { k with share := (n :: rest).foldl Share.zeroed k.share })
    match m.ctx with
    | some x => { m with st := s1.addDues m.core x [{ cause := 0x0D, sub := 3, addr := BitVec.ofNat 64 n }] }
    | none => { m with st := s1 }

/-- Every ring whose cursor is nonzero popped (R158). -/
def popRing (k : Core) (o : MatrixOp) (r : Nat) : Core × MatrixOp :=
  let ring := Tab.get k.share.rings {} r
  let n := Tab.get o.cursors 0 r
  ({ k with share := { k.share with rings := Tab.set k.share.rings {} r { ring with head := ring.advance ring.head n } } },
    { o with cursors := Tab.set o.cursors 0 r 0 })
/-- The rings of a list popped. -/
def popRings (k : Core) (o : MatrixOp) (rs : List Nat) : Core × MatrixOp :=
  rs.foldl (fun p r => popRing p.1 p.2 r) (k, o)

/-- A format pair Curator executes (R102). -/
def curatorPair (fmt : Word) : Bool :=
  let a := bits fmt.toNat 63 60
  let b := bits fmt.toNat 59 56
  a == 6 || (a == 5 && b == 5)

/-- Curator's log of emulated formats, at most one entry in 1 ms for each core and pair (R357). -/
def State.logEmulated (s : State) (c owner : Nat) (fmt : Word) : State :=
  if !curatorPair fmt then s
  else
    let pair := bits fmt.toNat 63 56
    let e := Tab.get (s.core c).emulated (0, 0) pair
    if e.2 = 0 || e.2 - 1 + 1000000 ≤ s.now then
      (s.mapCore c (fun k => { k with emulated := Tab.set k.emulated (0, 0) pair (0, s.now + 1) })).log (coreCluster c) 0x0102 3 1 owner 0
        (BitVec.ofNat 64 (((e.1 + 1) % 2 ^ 32) <<< 32 ||| pair <<< 24 ||| c))
    else s.mapCore c (fun k => { k with emulated := Tab.set k.emulated (0, 0) pair (e.1 + 1, e.2) })

/-- The operation retires (R158, R164, R166, R169): its rings are popped, its flags and its retire record reach the
strand, and a nonzero STATUS is logged. -/
def Micro.retire (m : Micro) : State :=
  let k := m.st.core m.core
  let p := popRings k m.op (Tab.keys m.op.cursors)
  let s1 := m.st.setCore m.core { p.1 with mq := p.1.mq.filter (fun e => e.id != m.op.id) }
  let o := m.op
  let word := BitVec.ofNat 64 ((min o.excl (2 ^ 32 - 1)) <<< 32 ||| o.routine <<< 8 ||| o.status)
  let s2 := match m.ctx with
    | some x => s1.mapStrand m.core x (fun t => { t with flags := t.flags ||| (o.flags &&& 0x1E#6), retire := t.retire ++ [(o.tag, word)], checksums := if o.status = 0x15 then t.checksums ++ [o.tag] else t.checksums })
    | none => s1
  let owner := m.owner
  let s3 := s2.logEmulated m.core owner o.fmt
  let s4 := if o.status = 0 then s3
    else s3.log (coreCluster m.core) (coreSource m.core) 1 o.status owner 0 (BitVec.ofNat 64 o.tag)
  s4.chooseOp m.core

/-- The operation ended by a defect (R153, R154, R162): its first nonzero STATUS stands. -/
def Micro.fail (m : Micro) (status : Nat) : State :=
  { m with op := { m.op with status := if m.op.status = 0 then status else m.op.status } }.retire

/-- UOP_RESERVED: a micro-word that is no micro-op, or the end of the words (R152, R153). -/
def Micro.reserved (m : Micro) : State := m.fail 0x10
/-- Whether a tile is outside TILES (R154). -/
def Micro.offMask (m : Micro) (t : Nat) : Bool := !m.op.tiles.testBit t

/-- KEND (R154). -/
def execKend (s : State) : Host.Outcome State Fault Refusal := s.micro Micro.retire

/-- KZERO (R154). -/
def execKzero (tile : BitVec 3) (s : State) : Host.Outcome State Fault Refusal :=
  s.micro (fun m =>
    let t := m.tileNo tile
    if m.offMask t then m.fail 0x12
    else
      let m1 := (m.renew t).setTile t { isInt := bits m.op.fmt.toNat 51 48 == 1, image := 0 }
      let sums := (List.range 64).foldl (fun l r => Tab.erase l (64 * t + r)) m.op.sums
      ({ m1 with op := { m1.op with kpos := Tab.set m.op.kpos 0 t 0, zeroed := t :: m.op.zeroed.filter (· ≠ t), sums := sums } }).advance.keep)

/-- The micro-word after the KENDL that closes the block opened before word `i` (R154). -/
def skipLoop (words : List (BitVec 64)) (i depth : Nat) : Nat :=
  match words with
  | [] => i
  | w :: rest =>
    if bits w.toNat 63 60 = 3 then skipLoop rest (i + 1) (depth + 1)
    else if bits w.toNat 63 60 = 4 then (if depth = 0 then i + 1 else skipLoop rest (i + 1) (depth - 1))
    else skipLoop rest (i + 1) depth

/-- KLOOP (R154). -/
def execKloop (csel : BitVec 6) (imm : BitVec 32) (s : State) : Host.Outcome State Fault Refusal :=
  s.micro (fun m =>
    if (Instr.kloop csel imm).defect.isSome then m.reserved
    else if 2 ≤ m.op.loops.length then m.fail 0x11
    else
      let n := m.count csel imm
      if n = 0 then { m with op := { m.op with at_ := skipLoop (m.op.words.drop (m.op.at_ + 1)) (m.op.at_ + 1) 0 } }.keep
      else ({ m with op := { m.op with loops := (m.op.at_ + 1, n - 1) :: m.op.loops } }).advance.keep)

/-- KENDL (R154). -/
def execKendl (s : State) : Host.Outcome State Fault Refusal :=
  s.micro (fun m =>
    match m.op.loops with
    | [] => m.fail 0x11
    | (_, 0) :: rest => ({ m with op := { m.op with loops := rest } }).advance.keep
    | (w, n + 1) :: rest => { m with op := { m.op with at_ := w, loops := (w, n) :: rest } }.keep)

/-! ### K-steps (R96, R97, R157 to R159) -/

/-- Element width and 64-byte units of a step block of a format, in a k-group of `g` (Table 4). -/
def elemWidth (f : Nat) : Nat :=
  match f with
  | 0 => 16 | 1 => 8 | 2 => 8 | 3 => 4 | 4 => 2 | 5 => 8 | _ => 32
def kGroup (a b : Nat) : Nat := if a = 0 || a = 6 then 1 else if a = 1 || a = 2 then 2 else if a = 3 && b = 3 then 4 else 8
def stepUnits (f g : Nat) : Nat := elemWidth f * g / 8

/-- The bytes of `n` units of a ring from a position on, unit by unit (R54). -/
def Core.ringBlock (k : Core) (r p n : Nat) : Nat :=
  let ring := Tab.get k.share.rings {} r
  (List.range n).foldl (fun v i =>
    v ||| (readCells k.spad (64 * (ring.base + (p + i) % (2 * ring.size) % ring.size)) 64 <<< (512 * i))) 0

/-- The uncorrectable words of such a block: offset in the block, scratchpad offset (R358). -/
def State.ringTorn (s : State) (c r p n : Nat) : List (Nat × Nat) :=
  if s.badSpad.isEmpty then []
  else
    let ring := Tab.get (s.core c).share.rings {} r
    (List.range (8 * n)).filterMap (fun i =>
      let off := 64 * (ring.base + (p + i / 8) % (2 * ring.size) % ring.size) + 8 * (i % 8)
      if s.badSpad.contains (c, off / 8) then some (8 * i, off) else none)
/-- The uncorrectable words of the block scales of one side at position κ: row, scratchpad offset (R101, R358). -/
def State.scaleTorn (s : State) (c : Nat) (has : Bool) (base kappa : Nat) : List (Nat × Nat) :=
  if !has || s.badSpad.isEmpty then []
  else (List.range 64).filterMap (fun i =>
    let off := (64 * base + 64 * (kappa / 32) + i) / 8 * 8
    if s.badSpad.contains (c, off / 8) then some (i, off) else none)

/-- Element k′ of row `i` of a step block (R157). -/
def stepElem (block f g i k : Nat) : Nat := (block >>> (8 * stepUnits f g * i + elemWidth f * k)) % 2 ^ elemWidth f

/-- A code of an operand format as a value, its block scale applied (R84, R94, R96). -/
def stepValue (f code scale : Nat) : FVal :=
  let fmt := match f with
    | 0 => fmtBf16 | 1 => fmtF8a | 2 => fmtF8b | 3 => fmtF4 | _ => fmt32
  if scale = 0xFF then .nan false
  else match fmt.decode code with
    | .fin n m e => .fin n m (e + scale - 127)
    | v => v

/-- A code of an integer operand format, with TR for the reserved ternary code (R87). -/
def stepInt (f code : Nat) : Int × Flags := if f = 4 then ternValue code else (sint 8 code, 0)

/-- One FP32 element after a k-group (R96): the exact sum rounded, then added. -/
def stepFloat (c : Nat) (a b : List FVal) : Nat × Flags :=
  let prods := List.zipWith FVal.mul a b
  let s := match prods with
    | [] => (FVal.fin false 0 0, 0)
    | p :: rest => rest.foldl (fun (acc q : FVal × Flags) =>
        let r := acc.1.add q.1
        (r.1, acc.2 ||| q.2 ||| r.2)) p
  let r := fmt32.encode s.1 0 false
  let t := fmt32.add c r.1
  (t.1, s.2 ||| r.2 ||| t.2)

/-- One INT32 element after a k-group (R97); whether it saturated. -/
def stepSum (c : Nat) (a b : List (Int × Flags)) : Nat × Flags :=
  let v := sint 32 c + (List.zipWith (fun (x y : Int × Flags) => x.1 * y.1) a b).foldl (· + ·) 0
  let r := saturate 2 v
  (wrap 32 r.1, r.2)

/-- The block scales of one side for the k block of position κ, 127 where it has none (R101). -/
def Core.blockScales (k : Core) (has : Bool) (base kappa : Nat) : List Nat :=
  if has then (List.range 64).map (fun i => readCells k.spad (64 * base + 64 * (kappa / 32) + i) 1)
  else List.replicate 64 127

/-- The value of a finite step operand in units of 2^−300, for the exact sums of KSUM (R166). -/
def unitsOf (v : FVal) : Int :=
  match v with
  | .fin n m e => signedMag n (m <<< (e + 300).toNat)
  | _ => 0

/-- What a k-step adds to KSUM's sums of one row (R166). -/
def RowSum.step (r : RowSum) (a : List FVal) (colSum : List Int) (colAbs : List Nat) (colSpecial : Bool) (sat : Bool) : RowSum :=
  { e := r.e + (List.zipWith (fun (x : FVal) (y : Int) => unitsOf x * y) a colSum).foldl (· + ·) 0, m := r.m + (List.zipWith (fun (x : FVal) (y : Nat) => (unitsOf x).natAbs * y) a colAbs).foldl (· + ·) 0, special := r.special || colSpecial || a.any (fun v => v.isNan || v.isInf), saturated := r.saturated || sat }

/-- An integer as a value. -/
def intValue (v : Int) : FVal := .fin (v < 0) v.natAbs 0

/-- One k-step into a tile at position κ (R96, R97, R159): the new tile, its flags and the row sums. -/
def stepTile (fmt : Word) (k : Core) (kappa : Nat) (blockA blockB : Nat) (tile : TileReg) (sums : Nat → RowSum) :
    TileReg × Flags × List RowSum :=
  let w := fmt.toNat
  let fa := bits w 63 60
  let fb := bits w 59 56
  let g := kGroup fa fb
  let ks := List.range g
  let isInt := bits w 51 48 == 1
  let cols := List.range 64
  let sa := k.blockScales (bits w 55 54 == 1) (bits w 31 16) kappa
  let sb := k.blockScales (bits w 53 52 == 1) (w % 65536) kappa
  let codeA := fun i => ks.map (fun q => stepElem blockA fa g i q)
  let codeB := fun j => ks.map (fun q => stepElem blockB fb g j q)
  let intA := cols.map (fun i => (codeA i).map (stepInt fa))
  let intB := cols.map (fun j => (codeB j).map (stepInt fb))
  let valA := cols.map (fun i => if isInt then (intA.getD i []).map (fun v => intValue v.1) else (codeA i).map (fun x => stepValue fa x (sa.getD i 127)))
  let valB := cols.map (fun j => if isInt then (intB.getD j []).map (fun v => intValue v.1) else (codeB j).map (fun x => stepValue fb x (sb.getD j 127)))
  let old := fun i j => (tile.image.extractLsb' (32 * (64 * i + j)) 32).toNat
  let elems := cols.map (fun i => cols.map (fun j =>
    if isInt then stepSum (old i j) (intA.getD i []) (intB.getD j []) else stepFloat (old i j) (valA.getD i []) (valB.getD j [])))
  let tern := if isInt then (intA ++ intB).foldl (fun f l => l.foldl (fun f v => f ||| v.2) f) 0 else 0
  let flags := elems.foldl (fun f r => r.foldl (fun f e => f ||| e.2) f) tern
  let image := elems.flatten.foldr (fun e a => a <<< 32 ||| e.1) 0
  let colSum := ks.map (fun q => valB.foldl (fun n b => n + unitsOf (b.getD q (.fin false 0 0))) 0)
  let colAbs := ks.map (fun q => valB.foldl (fun n b => n + (unitsOf (b.getD q (.fin false 0 0))).natAbs) 0)
  let colSpecial := valB.any (fun b => b.any (fun v => v.isNan || v.isInf))
  ({ isInt := isInt, image := BitVec.ofNat 131072 image }, flags,
    cols.map (fun i => (sums i).step (valA.getD i []) colSum colAbs colSpecial (isInt && (elems.getD i []).any (fun e => e.2 != 0))))

/-- Whether the `count` k-steps a KSTEP has still to make would read a block scale at or beyond the scratchpad size: at
its first, and again where SPLIT has changed the size since (R52, R154; log 50). -/
def Micro.scaleRange (m : Micro) (kappa count : Nat) : Bool :=
  let w := m.op.fmt.toNat
  let g := kGroup (bits w 63 60) (bits w 59 56)
  let size := (m.st.core m.core).spadSize
  let last := (kappa + count * g - 1) / 32
  decide (0 < count) && ((bits w 55 54 == 1 && decide (size < 64 * bits w 31 16 + 64 * last + 64)) ||
    (bits w 53 52 == 1 && decide (size < 64 * (w % 65536) + 64 * last + 64)))

/-- The pops and rewinds that end a KSTEP (R158). -/
def Micro.finishStep (m : Micro) (a b : Nat) (ctl : BitVec 4) : Micro :=
  let p := popRings (m.st.core m.core) m.op ((if ctl.getLsbD 0 then [a] else []) ++ (if ctl.getLsbD 1 then [b] else []))
  let cursors := ((if ctl.getLsbD 2 then [a] else []) ++ (if ctl.getLsbD 3 then [b] else [])).foldl (fun c r => Tab.set c 0 r 0) p.2.cursors
  ({ m with st := m.st.setCore m.core p.1, op := { p.2 with cursors := cursors } }).advance

/-- The k-step made with the units of its two blocks present. -/
def Micro.makeStep (m : Micro) (t a b : Nat) : Micro :=
  let k := m.st.core m.core
  let w := m.op.fmt.toNat
  let fa := bits w 63 60
  let fb := bits w 59 56
  let g := kGroup fa fb
  let ua := stepUnits fa g
  let ub := stepUnits fb g
  let head := fun r => (Tab.get k.share.rings {} r).head
  let ca := Tab.get m.op.cursors 0 a
  let c1 := Tab.set m.op.cursors 0 a (ca + ua)
  let cb := Tab.get c1 0 b
  let kappa := Tab.get m.op.kpos 0 t
  let m := m.readTile t
  let r := stepTile m.op.fmt k kappa (k.ringBlock a (head a + ca) ua) (k.ringBlock b (head b + cb) ub) (m.tile t) (fun i => Tab.get m.op.sums {} (64 * t + i))
  let sums := (r.2.2.mapIdx (fun i x => (i, x))).foldl (fun l e => Tab.set l {} (64 * t + e.1) e.2) m.op.sums
  let ta := m.st.ringTorn m.core a (head a + ca) ua
  let tb := m.st.ringTorn m.core b (head b + cb) ub
  let xa := m.st.scaleTorn m.core (bits w 55 54 == 1) (bits w 31 16) kappa
  let xb := m.st.scaleTorn m.core (bits w 53 52 == 1) (w % 65536) kappa
  let meets := fun (u : Nat) (l x : List (Nat × Nat)) (i : Nat) => l.any (fun e => decide (e.1 < u * (i + 1) && u * i < e.1 + 8)) || x.any (fun e => e.1 == i)
  let m1 := match ta ++ tb ++ xa ++ xb with
    | [] => m.setTile t r.1
    | e :: _ => (m.setTile t (r.1.blur m.st.free (fun i j => meets ua ta xa i || meets ub tb xb j))).torn e.2
  { m1 with op := { m1.op with cursors := Tab.set c1 0 b (cb + ub), kpos := Tab.set m.op.kpos 0 t (kappa + g), sums := sums, flags := m.op.flags ||| r.2.1, stepDone := m.op.stepDone + 1 } }

/-- Whether the units of the next blocks are present (R157). -/
def Micro.present (m : Micro) (a b : Nat) : Bool :=
  let k := m.st.core m.core
  let w := m.op.fmt.toNat
  let fa := bits w 63 60
  let fb := bits w 59 56
  let g := kGroup fa fb
  let need := fun r => (if r = a then stepUnits fa g else 0) + (if r = b then stepUnits fb g else 0)
  let fits := fun r => decide (Tab.get m.op.cursors 0 r + need r ≤ (Tab.get k.share.rings {} r).occupancy)
  fits a && fits b

/-- KSTEP (R157 to R159): one k-step at each turn; the engine chooses again at each k-step boundary (R161). -/
def execKstep (tile ra rb : BitVec 3) (csel : BitVec 6) (ctl : BitVec 4) (imm : BitVec 32) (s : State) :
    Host.Outcome State Fault Refusal :=
  s.micro (fun m =>
    let t := m.tileNo tile
    let a := m.ringNo ra
    let b := m.ringNo rb
    if (Instr.kstep tile ra rb csel ctl imm).defect.isSome then m.reserved
    else if m.offMask t || !m.op.rings.testBit a || !m.op.rings.testBit b then m.fail 0x12
    else
      let m := (m.readRing a).readRing b
      let n := m.count csel imm
      if m.scaleRange (Tab.get m.op.kpos 0 t) (n - m.op.stepDone) then m.fail 0x16
      else if n = 0 then (m.finishStep a b ctl).keep
      else if !m.present a b then m.waits
      else
        let m1 := m.makeStep t a b
        let m2 := if m1.op.stepDone = n then m1.finishStep a b ctl else m1
        m2.keep.chooseOp m.core)

/-! ### Row scaling and checksums -/

/-- The elements of a tile, row by row (R44). -/
def tileRows (t : Tile) : List (List Nat) :=
  (List.range 64).map (fun i => (List.range 64).map (fun j => (t.extractLsb' (32 * (64 * i + j)) 32).toNat))

/-- KROWS (R154). -/
def execKrows (tile : BitVec 3) (mp : BitVec 3) (s : State) : Host.Outcome State Fault Refusal :=
  s.micro (fun m =>
    let t := m.tileNo tile
    let k := m.st.core m.core
    let d := (Tab.get m.op.mp 0 mp.toNat).toNat % 2 ^ 24
    if m.offMask t then m.fail 0x12
    else if (m.tile t).isInt then m.fail 0x13
    else if k.spadSize < d + 256 then m.fail 0x16
    else
      let m := m.readTile t
      let old := m.tile t
      let torn := (List.range 64).filter (fun i => m.st.badSpad.contains (m.core, (d + 4 * i) / 8))
      let rows := (tileRows old.image).mapIdx (fun i r =>
        let f := readCells k.spad (d + 4 * i) 4
        r.map (fun c => fmt32.mul c f))
      let flags := rows.foldl (fun f r => r.foldl (fun f e => f ||| e.2) f) 0
      let image := BitVec.ofNat 131072 (rows.flatten.foldr (fun e a => a <<< 32 ||| e.1) 0)
      let m1 := match torn with
        | [] => m.setTile t { old with image := image }
        | i :: _ => (m.setTile t (TileReg.blur { old with image := image } m.st.free (fun i _ => torn.contains i))).torn ((d + 4 * i) / 8 * 8)
      ({ m1 with op := { m1.op with flags := m.op.flags ||| flags } }).advance.keep)

/-- A row's test: excluded, failing or passing (R166). -/
def rowFails (isInt : Bool) (kn : Nat) (r : RowSum) (row : List Nat) : Bool × Bool :=
  let vals := row.map (fun c => if isInt then intValue (sint 32 c) else fmt32.decode c)
  let excluded := r.special || (isInt && r.saturated) || vals.any (fun v => v.isNan || v.isInf)
  -- in units of 2^-600: the sums of the operands are in units of 2^-300 on each side
  let total := vals.foldl (fun n v => n + unitsOf v * (2 ^ 300 : Nat)) (0 : Int)
  let diff := (total - r.e).natAbs
  let fails := if isInt then decide (0 < diff) else decide ((kn + 64) * r.m < diff * 2 ^ 23)
  (excluded, !excluded && fails)

/-- KSUM (R166). -/
def execKsum (tile : BitVec 3) (s : State) : Host.Outcome State Fault Refusal :=
  s.micro (fun m =>
    let t := m.tileNo tile
    if m.offMask t then m.fail 0x12
    else if !m.op.zeroed.contains t then m.fail 0x14
    else
      let m := m.readTile t
      let old := m.tile t
      let rs := (tileRows old.image).mapIdx (fun i r => rowFails old.isInt (Tab.get m.op.kpos 0 t) (Tab.get m.op.sums {} (64 * t + i)) r)
      let excl := m.op.excl + (rs.filter (·.1)).length
      let status := if m.op.status = 0 && rs.any (·.2) then 0x15 else m.op.status
      ({ m with op := { m.op with excl := excl, status := status } }).advance.keep)

/-! ### Epilogues -/

/-- QOUT's type code and element width (R100, R162); 0 leaves the tile's elements as they are. -/
def qoutType (q : Nat) : Nat := match q with | 1 => 8 | 2 => 9 | 3 => 10 | 4 => 11 | _ => 0
def qoutWidth (q : Nat) : Nat := match q with | 0 => 32 | 1 => 16 | 4 => 4 | _ => 8

/-- A row's codes, its two scales where it has them, and its flags (R162). -/
def epilogueRow (fmt : Word) (isInt : Bool) (row : List Nat) : List Nat × List Nat × Flags :=
  let q := bits fmt.toNat 47 44
  let rm := bits fmt.toNat 43 42
  let fold := fun (l : List (Nat × Flags)) => l.foldl (fun f e => f ||| e.2) (0 : Flags)
  if q = 0 then (row, [], 0)
  else if bits fmt.toNat 41 40 = 1 then
    let fl := if isInt then row.map (convertCode 2 12 0) else row.map (fun c => (c, 0))
    let vals := fl.map (fun e => fmt32.decode e.1)
    let f := (floatOf (qoutType q)).getD fmtF8a
    let lo := quantise f (vals.take 32) rm
    let hi := quantise f (vals.drop 32) rm
    (lo.2.1 ++ hi.2.1, [lo.1, hi.1], fold fl ||| lo.2.2 ||| hi.2.2)
  else
    let r := row.map (convertCode (if isInt then 2 else 12) (qoutType q) rm)
    (r.map (·.1), [], fold r)

/-- The result of an epilogue: data bytes, scale bytes, flags (R162). -/
def epilogue (fmt : Word) (t : TileReg) : List Byte × List Byte × Flags :=
  let w := qoutWidth (bits fmt.toNat 47 44)
  let rows := (tileRows t.image).map (epilogueRow fmt t.isInt)
  let pack := fun (r : List Nat) => bytesOf (8 * w) (r.foldr (fun c a => a <<< w ||| c % 2 ^ w) 0)
  (rows.flatMap (fun r => pack r.1), rows.flatMap (fun r => r.2.1.map (BitVec.ofNat 8)), rows.foldl (fun f r => f ||| r.2.2) 0)

/-- A list cut into pieces of `n`. -/
def pieces (fuel n : Nat) (l : List Byte) : List (List Byte) :=
  match fuel with
  | 0 => []
  | f + 1 => if l.isEmpty then [] else l.take n :: pieces f n (l.drop n)

/-- The writes of an epilogue: 32 bytes each, with their addresses. -/
def epilogueWrites (at_ : Nat) (l : List Byte) : List (Nat × List Byte) :=
  (pieces 600 32 l).mapIdx (fun i p => (at_ + 32 * i, p))

/-- A KEPI write that faults is the held request of Q0 (R370); that of an ended strand is discarded (R318). -/
def Micro.freeze (m : Micro) (space : Nat) (a : Nat) (p : List Byte) (sub : Nat) : State :=
  let o := m.op
  if o.orphan.isSome then m.st else
  let id := m.st.nextReq + 1
  let mark : FaultMark := { sub := sub, addr := BitVec.ofNat 64 a, retry := false, engine := true }
  let parts : List Part := (sectorRuns a p.length).map (fun u => { addr := u.1 / 32 * 32, mask := BitVec.ofNat 32 (maskRange (u.1 % 32) u.2.1), data := BitVec.ofNat 256 (((ofBytes p >>> (8 * u.2.2)) % 2 ^ (8 * u.2.1)) <<< (8 * (u.1 % 32))), fault := some mark })
  let r : Request := { core := m.core, ctx := (m.ctx).getD o.ctx, gang := o.gang, member := o.member, slot := o.slot, queue := 0, kind := .store, space := space, parts := parts, held := true }
  (m.st.addReq r).mapCore m.core (fun k => { k with frozen := Tab.set k.frozen [] 0 (Tab.get k.frozen [] 0 ++ [id]) })

/-- Route-0 writes, until one runs past the scratchpad (R163, R370). -/
def Micro.writeSpad (m : Micro) (l : List (Nat × List Byte)) : State :=
  match l with
  | [] => m.st
  | (a, p) :: rest =>
    if (m.st.core m.core).spadSize < a + p.length then m.freeze 1 a p 0
    else ({ m with st := m.st.spadWrite m.core a p.length (2 ^ p.length - 1) (ofBytes p) } : Micro).writeSpad rest
termination_by structural l

/-- Route-2 writes into a vitrine's shadow, until one faults (R165, R370, R439). -/
def Micro.writeView (m : Micro) (slot : Nat) (v : Vitrine) (l : List (Nat × List Byte)) : State :=
  match l with
  | [] => m.st
  | (o, p) :: rest =>
    if v.length < o + p.length then m.freeze 0 (v.shadow + o) p 0
    else match m.st.virtWrite m.core slot (v.shadow + o) p.length (ofBytes p) with
      | (s1, none) => ({ m with st := s1 } : Micro).writeView slot v rest
      | (s1, some e) => ({ m with st := s1 } : Micro).freeze 0 (v.shadow + o) p e.1
termination_by structural l

/-- Whether a KEPI's destination word is malformed (R162 to R165). -/
def badDest (route qout w : Nat) : Bool :=
  match route with
  | 0 => bits w 31 24 != 0 || bits w 63 56 != 0 || w % 64 != 0
  | 1 => bits w 59 56 != 0 || 3 ≤ bits w 63 60 || (bits w 63 60 != 0 && qout != 0)
  | _ => bits w 50 40 != 0 || w % 64 != 0

/-- KEPI (R162 to R165, R370). -/
def execKepi (tile : BitVec 3) (route : BitVec 2) (mp : BitVec 3) (s : State) : Host.Outcome State Fault Refusal :=
  s.micro (fun m =>
    let t := m.tileNo tile
    let w := (Tab.get m.op.mp 0 mp.toNat).toNat
    let q := bits m.op.fmt.toNat 47 44
    if (Instr.kepi tile route mp).defect.isSome then m.reserved
    else if m.offMask t then m.fail 0x12
    else if badDest route.toNat q w then m.fail 0x17
    else if route = 1#2 && m.op.reserved = 0 && (m.st.core m.core).collFree = 0 then m.waits
    else
      let m := m.readTile t
      let r := epilogue m.op.fmt (m.tile t)
      let m1 := ({ m with op := { m.op with flags := m.op.flags ||| r.2.2 } }).advance
      let k := m.st.core m.core
      if route = 0#2 then
        ({ m1 with st := m1.writeSpad (epilogueWrites (w % 2 ^ 24) r.1 ++ epilogueWrites (bits w 55 32) r.2.1) } : Micro).keep
      else if route = 1#2 then
          let chunk : CollChunk := { id := m.st.nextReq + 1, gang := m.op.gang, member := m.op.member, slot := m.op.slot, slotOwner := m.slotOwner, ctx := (m.ctx).getD m.op.ctx, comb := bits w 63 60, addr := w % 2 ^ 56, data := r.1 ++ r.2.1, reservedBy := m.op.id }
          ({ m1 with st := { m.st with nextReq := m.st.nextReq + 1 }.setCore m.core { k with collq := k.collq ++ [chunk] }, op := { m1.op with reserved := m.op.reserved - 1 } } : Micro).keep
      else
        let off := w % 2 ^ 40
        let writes := epilogueWrites off r.1 ++ epilogueWrites (off + r.1.length) r.2.1
        let view := match Tab.find? m.st.vitrines (routeIndex (BitVec.ofNat 64 w)) with
          | some v => if v.owner = m.owner then some v else none
          | none => none
        match view with
        | none => ({ m1 with st := m1.freeze 0 off (r.1.take 32) 0 } : Micro).keep
        | some v => ({ m1 with st := m1.writeView m.slotOwner v writes } : Micro).keep)

end Sys2Proof.Machine
end

