-- ==== Sys2Proof/Machine/Frames.lean ====
section
/-! DEFINITION. The full frame of a strand in the context save area, and the gang share a resume takes from it (R31, R44,
R57). -/
namespace Sys2Proof.Machine
open Sys2Proof

/-- A frame as it is built up: its length in bytes, and its bytes. -/
abbrev Frame := Nat × Nat
/-- `n` bytes added to a frame. -/
def Frame.add (f : Frame) (n v : Nat) : Frame := (f.1 + n, f.2 ||| ((v % 2 ^ (8 * n)) <<< (8 * f.1)))
/-- A section of `n` bytes that begins with 64-bit words; the rest of it is 0. -/
def Frame.words (f : Frame) (n : Nat) (l : List Nat) : Frame :=
  f.add n (l.zipIdx.foldl (fun v e => v ||| ((e.1 % 2 ^ 64) <<< (64 * e.2))) 0)

/-- The bytes of word `w` of a full frame's shared section (R57, Table 13). -/
def Core.sharedWords (k : Core) (binding : Nat → Nat) : List Nat :=
  let h := k.share
  let eight := List.range 8
  eight.map (fun n => (Tab.get h.mp 0 n).toNat) ++
  eight.flatMap (fun n => [binding n, 0, 0, 0]) ++
  eight.flatMap (fun n => let p := Tab.get h.spans {} n; [p.word 0, p.word 1]) ++
  eight.flatMap (fun n => let r := Tab.get h.rings {} n; [r.word 0, r.word 1]) ++
  [h.mdef, h.split, h.qcfg, h.dseed, h.fsel, h.patsel, k.age, k.role].map BitVec.toNat ++
  (List.range 16).map (fun n => (Tab.get h.fmts 0 n).toNat) ++
  List.replicate 32 0 ++
  (List.range 128).flatMap (fun n => let p := (Tab.get h.pats 0 n).toNat; [p % 2 ^ 64, p / 2 ^ 64])

/-- A 48-byte record: an address or name, what it is, and 32 bytes (R31). -/
def Frame.record (f : Frame) (addr mark data : Nat) : Frame := ((f.add 8 addr).add 8 mark).add 32 data

/-- A fault mark in a record: 1 more than its sub-cause, 0 for none (R323). -/
def faultWord (m : Option FaultMark) : Nat := (m.map (fun f => f.sub + 1)).getD 0

/-- The 32-byte sectors of the elements of the core's streams, landed and not consumed, that a strand asked for: stream and
place in it, fault, bytes (R31, R32). -/
def Core.landedSectors (k : Core) (t : Strand) : List (Nat × Nat × Nat) :=
  k.share.streams.flatMap (fun w => w.2.elems.zipIdx.flatMap (fun e =>
    if e.1.maker = some (t.member, t.slot) then
      (List.range ((elemBytes w.2.elemSz + 31) / 32)).map (fun i => (w.1 * 2 ^ 32 + e.2 * 16 + i, faultWord e.1.fault, bits e.1.data.toNat (256 * i + 255) (256 * i)))
    else []))

/-- The sectors that a strand's loads have read and that have not landed in a stream: name, fault, bytes (R31, R32). -/
def State.arrivedSectors (s : State) (t : Strand) : List (Nat × Nat × Nat) :=
  (s.reqs.filter (fun e => e.2.gang == t.gang && e.2.member == t.member && e.2.slot == t.slot && e.2.begun && !e.2.isStore)).flatMap (fun e =>
    e.2.parts.zipIdx.map (fun p => ((e.2.stream.getD 0) * 2 ^ 32 + p.2, faultWord p.1.fault, p.1.data.toNat)))

/-- The physical tiles of those a mask names by the strand's own numbers (R41, R170). -/
def Strand.physTiles (t : Strand) (tiles : Nat) : Nat :=
  (List.range 8).foldl (fun v i => if tiles.testBit i then v ||| (1 <<< t.phys.getD i i) else v) 0
/-- The full frame of a strand (R31, Table 8); `queued`: with its unstarted matrix operations, as a pre-emption seals it. Requests
not yet sent stand in it with those of published records, and held faulted stores with their marks (R323). READY of the folio
word in its header Table 7 gives a waiting folio alone: it is 1, the model's choice (log 156). Which words of a section hold what, where Table 8 gives only what it contains, is the device's own (R400; log 55). -/
def State.fullFrame (s : State) (c : Nat) (t : Strand) (seq iter : Nat) (queued : Bool) : Frame :=
  let k := s.core c
  let mine := fun (g m n : Nat) => g == t.gang && m == t.member && n == t.slot
  let ops := if queued then k.mq.filter (fun o => !o.started && mine o.gang o.member o.slot) else []
  let landed := k.landedSectors t ++ s.arrivedSectors t
  let unsent := s.reqs.filter (fun e => mine e.2.gang e.2.member e.2.slot && (e.2.held || !e.2.begun))
  let folio := folioImage t seq iter [] t.pc
  let retired := (List.range 16).map (fun n => (mergeRetire ((t.retire.filter (fun e => e.1 == n)).map (·.2))).toNat)
  let count := 256 + 256 + 128 + 128 + 64 + 512 * t.vregs + 16384 * t.accs + 4096 + 128 * ops.length + 48 * (landed.length + unsent.length + t.phase.length)
  let f0 : Frame := (0, 0)
  let f1 := f0.words 256 ([folio % 2 ^ 64, (folio >>> 64) % 2 ^ 64, count, ops.length, landed.length + unsent.length, t.phase.length] ++ retired)
  let f2 := (f1.words 256 ((List.range 32).map (fun n => (t.reg n).toNat))).words 128 ((List.range 16).map (fun n => (t.reg (32 + n)).toNat))
  let f3 := (List.range 8).foldl (fun f n => Frame.add f 16 (t.predRaw n).toNat) f2
  let f4 := f3.words 64 ((List.range 4).map (fun n => (t.lcRaw n).toNat) ++ [(t.ssr t.flags).toNat])
  let f5 := (List.range t.vregs).foldl (fun f n => Frame.add f 512 (t.vecRaw n).toNat) f4
  let f6 := (List.range t.accs).foldl (fun f n => Frame.add f 16384 (t.tile n).image.toNat) f5
  let f7 := f6.words 4096 (k.sharedWords (fun n => s.bindingWord c n))
  let f8 := ops.foldl (fun f o => Frame.words f 128 ([o.routine, o.tag, o.prio, k.effective o] ++ (List.range 8).map (fun n => (Tab.get o.mp 0 n).toNat) ++ [o.fmt.toNat, t.physTiles o.tiles])) f7
  let f9 := landed.foldl (fun f e => Frame.record f e.1 e.2.1 e.2.2) f8
  let f10 := unsent.foldl (fun f e => Frame.record f ((e.2.parts.head?.map Part.addr).getD 0) (faultWord e.2.faultOf) ((e.2.parts.head?.map (fun p => p.data.toNat)).getD 0)) f9
  t.phase.foldl (fun f b => Frame.record f (32 * b.sector) b.mask.toNat b.data.toNat) f10

/-- A frame written into the context save area for a context (R31). -/
def State.saveFrame (s : State) (c x : Nat) (queued : Bool) : State :=
  match s.strand c x with
  | none => s
  | some t =>
    let g := s.gang t.gang
    s.mapCore c (fun k => { k with frames := Tab.put k.frames x (s.fullFrame c t ((g.map Gang.nest).getD 0) ((g.map Gang.iter).getD 0) queued) })

/-- The frames of strands that `p` picks written, all at once, so that those of one core hold the same gang share; their requests
not yet sent are recorded (R31, R32, R57). -/
def State.sealFrames (s : State) (queued : Bool) (p : Strand → Bool) : State :=
  let s1 := s.cores.foldl (fun (s : State) e => e.2.ctxs.foldl (fun (s : State) x => if p x.2 then s.saveFrame e.1 x.1 queued else s) s) s
  let mine := fun (r : Request) => s.cores.any (fun e => e.2.ctxs.any (fun x => p x.2 && x.2.gang == r.gang && x.2.member == r.member && x.2.slot == r.slot))
  { s1 with reqs := s1.reqs.map (fun e => (e.1, if !e.2.begun && mine e.2 then { e.2 with recorded := true } else e.2)) }

/-- Where the shared section of a frame begins. -/
def sharedAt (t : Strand) : Nat := 832 + 512 * t.vregs + 16384 * t.accs
/-- The gang share, AGE and ROLE of a core restored from the frame of its lowest-numbered strand slot (R57). What engines
that go on during a pre-emption change stands as they leave it: LIVE of spans, TAIL of rings, elements of streams. -/
def Core.restoreShare (k : Core) : Core :=
  let low := k.ctxs.foldl (fun (b : Option (Nat × Strand)) e => match b with
    | none => some e
    | some y => if e.2.slot < y.2.slot then some e else some y) none
  match low.bind (fun e => (Tab.find? k.frames e.1).map (fun f => (f, e.2))) with
  | none => { k with frames := [] }
  | some (f, t) =>
    let word := fun (n : Nat) => BitVec.ofNat 64 (f.2 >>> (8 * (sharedAt t + n)))
    let table := fun (n base : Nat) => (List.range n).foldl (fun (m : Map Word) i => Tab.set m 0 i (word (base + 8 * i))) []
    let nat := fun (n : Nat) => (word n).toNat
    let streams := k.share.streams.map (fun (e : Nat × Stream) => (e.1, { e.2 with queue := bits (nat (0x40 + 32 * e.1)) 59 58, elemSz := bits (nat (0x40 + 32 * e.1)) 50 48 }))
    let spans := (List.range 8).foldl (fun (m : Map Span) i => Tab.set m {} i { start := word (0x140 + 16 * i), live := (Tab.get k.share.spans {} i).live, len := nat (0x148 + 16 * i) % 2 ^ 63 }) []
    let rings := (List.range 8).foldl (fun (m : Map Ring) i => Tab.set m {} i { base := nat (0x1C0 + 16 * i) % 65536, size := bits (nat (0x1C0 + 16 * i)) 31 16, head := nat (0x1C8 + 16 * i) % 65536, tail := (Tab.get k.share.rings {} i).tail }) []
    let pats := (List.range 128).foldl (fun (m : Map (BitVec 128)) i => Tab.set m 0 i (BitVec.ofNat 128 (f.2 >>> (8 * (sharedAt t + 0x400 + 16 * i))))) []
    { k with
      frames := [], age := word 0x270, role := word 0x278,
      share := { k.share with streams := streams, spans := spans, rings := rings, mp := table 8 0, mdef := word 0x240, split := word 0x248, qcfg := word 0x250, dseed := word 0x258, fsel := word 0x260, patsel := word 0x268, fmts := table 16 0x280, pats := pats } }

end Sys2Proof.Machine
end

