-- ==== Sys2Proof/Machine/Launch.lean ====
section
/-! DEFINITION. From launch to issue slot: work queues (R299), admission (R269 to R272), placement (R19, R20, R273 to
R276), folios (R29), pre-emption (R30, R279), retirement (R26), operating points and energy (R280 to R284, R414). -/
namespace Sys2Proof.Machine
open Sys2Proof

/-! ### The device's own and the owners' memory -/

/-- Bytes of an owner's virtual memory read by an agent of the I/O die or the control core, through the owner's page
table (R27): the value, or sub-cause and address. -/
def State.agentRead (s : State) (slot va n : Nat) : State × Except (Nat × Nat) Nat :=
  (sectorRuns va n).foldl (fun (a : State × Except (Nat × Nat) Nat) run =>
    match a with
    | (s, .error e) => (s, .error e)
    | (s, .ok acc) =>
      match s.walk slot (run.1 % 2 ^ 56) with
      | (s1, .error e) => (s1, .error (e, run.1))
      | (s1, .ok e) =>
        if !e.r then (s1, .error (2, run.1))
        else match s1.place (e.ppage + (run.1 - e.vpage)) with
          | .local_ off =>
            if s1.badRead off (s1.slotKey slot) (maskRange (off % 32) run.2.1) then (s1, .error (6, run.1))
            else
              let (s2, v) := s1.homeRead off run.2.1 (s1.slotKey slot) false
              (s2, .ok (acc ||| (v <<< (8 * run.2.2))))
          | .remote m off =>
            match s1.askRemote m off run.2.1 (s1.slotOwner slot) with
            | (s2, .error e) => (s2, .error (e, run.1))
            | (s2, .ok v) => (s2, .ok (acc ||| (v <<< (8 * run.2.2))))
          | .fault e => (s1, .error (e, run.1))
          | _ => (s1, .error (0, run.1))) (s, .ok 0)

/-- Bytes of an owner's virtual memory written by such an agent. -/
def State.agentWrite (s : State) (slot va n v : Nat) : State × Option (Nat × Nat) :=
  (sectorRuns va n).foldl (fun (a : State × Option (Nat × Nat)) run =>
    match a with
    | (s, some e) => (s, some e)
    | (s, none) =>
      let x := (v >>> (8 * run.2.2)) % 2 ^ (8 * run.2.1)
      match s.walk slot (run.1 % 2 ^ 56) with
      | (s1, .error e) => (s1, some (e, run.1))
      | (s1, .ok e) =>
        if !e.w then (s1, some (2, run.1))
        else match s1.place (e.ppage + (run.1 - e.vpage)) with
          | .local_ off => if run.2.1 < 32 && s1.badAt off (s1.slotKey slot) then (s1, some (6, run.1)) else (s1.engineWrite off run.2.1 (2 ^ run.2.1 - 1) x (s1.slotKey slot), none)
          | .remote m off =>
            let (s2, e) := s1.tellRemote m off run.2.1 x (s1.slotOwner slot)
            (s2, e.map (·, run.1))
          | .fault e => (s1, some (e, run.1))
          | _ => (s1, some (0, run.1))) (s, none)

/-- Where a virtual address that may be written lies on another module, if it does: module, and local offset there. -/
def State.writtenAway (s : State) (slot va : Nat) : Option (Nat × Nat) :=
  match s.walk slot (va % 2 ^ 56) with
  | (s1, .ok e) =>
    match (if e.w then s1.place (e.ppage + (va % 2 ^ 56 - e.vpage)) else .fault 2) with
    | .remote m off => some (m, off)
    | _ => none
  | _ => none
/-- A 64-byte record at a multiple of 64 written whole by such an agent: sub-cause and address of a fault. Another module answers it
as it does any write, before the machine goes on (R26, R27, R296; log 8). -/
def State.agentRecord (s : State) (slot va v : Nat) : State × Option (Nat × Nat) :=
  match s.writtenAway slot va with
  | some (m, off) =>
    let (s1, e) := ({ s with outbox := s.outbox ++ [OutMsg.record m (s.nextReq + 1) off (BitVec.ofNat 512 v) (s.slotOwner slot)], nextReq := s.nextReq + 1 }).freeReply m (s.slotOwner slot) (m * 2 ^ 44 + off)
    (s1, e.map (·, va))
  | none => s.agentWrite slot va 64 v

/-- Bytes of HBM4 read by the device itself under the device key (R444). Such a read fills nothing in the L2, the model's choice
(log 155). -/
def State.deviceRead (s : State) (off n : Nat) : Nat :=
  (sectorRuns off n).foldl (fun v run => v ||| (s.peek run.1 run.2.1 0 <<< (8 * run.2.2))) 0
/-- The lines of a read under a key, most recently used where the L2 holds them under it (R190). -/
def State.linesSeen (s : State) (off n key : Nat) : State :=
  (sectorRuns off n).foldl (fun (s : State) run => if s.holds (run.1 / 128) key 0 then s.touchLine (run.1 / 128) else s) s
/-- The lines of a read of the device. -/
def State.deviceSeen (s : State) (off n : Nat) : State := s.linesSeen off n 0
/-- Bytes of HBM4 written by the device itself under the device key. -/
def State.deviceWrite (s : State) (off n v : Nat) : State :=
  (sectorRuns off n).foldl (fun (s : State) run =>
    s.engineWrite run.1 run.2.1 (2 ^ run.2.1 - 1) ((v >>> (8 * run.2.2)) % 2 ^ (8 * run.2.1)) 0) s

/-! ### Host registers and refusals -/

/-- The register of work queue q (R298, Table 5). -/
def State.queueReg (s : State) (q off : Nat) : Nat := (s.hreg (0x100000 + 64 * q + off)).toNat
def State.setQueueReg (s : State) (q off v : Nat) : State := s.setHreg (0x100000 + 64 * q + off) (BitVec.ofNat 64 v)
def State.queueOwner (s : State) (q : Nat) : Nat := bits (s.queueReg q 8) 31 16
def State.queueEnabled (s : State) (q : Nat) : Bool := (s.queueReg q 8).testBit 15

/-- A refused host access (R421): address, first 8 bytes written, and the owner of the slot it named. -/
def State.refuse (s : State) (addr owner : Nat) (v : Word) : State :=
  s.log 0 0x0404 6 8 owner (BitVec.ofNat 64 addr) v
/-- Whether host writes are accepted: not from a supply warning until the restart (R395). -/
def State.hostWrites (s : State) : Bool := !(s.supply = 3 || s.supply = 4 || s.supply = 5)
/-- Whether bring-up has reached READY (R427). -/
def State.ready (s : State) : Bool := (s.hreg 0x1000).toNat % 256 == 6
/-- A host write: it waits while an invalidation is in progress (R433); it is refused from a supply warning until the
restart, and, of work-queue, owner and island registers, before READY (R395, R427). -/
def State.hostWrite (s : State) (addr owner : Nat) (v : Word) (early : Bool) (f : State → State) : State :=
  if s.hreg 0x3830 ≠ 0 then s
  else if !s.hostWrites || !(early || s.ready) then s.refuse addr owner v
  else f s

/-! ### Queues (R299) -/

/-- DOORBELL: a TAIL write (R299, R326). -/
def execDoorbell (queue tail : Nat) (s : State) : Host.Outcome State Fault Refusal :=
  .next (
    let q := queue % 2048
    let t := tail % 2 ^ 32
    s.hostWrite (0x100010 + 64 * q) 0 (BitVec.ofNat 64 tail) false (fun s =>
      let log2n := bits (s.queueReg q 8) 12 8
      if 2 ^ log2n < (t + 2 ^ 32 - s.queueReg q 0x18 % 2 ^ 32) % 2 ^ 32 then
        s.log 0 (0x800 + q) 4 1 (s.queueOwner q) 0 (BitVec.ofNat 64 t)
      else s.setQueueReg q 0x10 t))

/-- The source field and log source of a nest source (R26, R325). -/
def sourceField (n : Nat) : Nat := if n < 2048 then n else 0x8000 + (n - 2048)
def sourceLog (n : Nat) : Nat := if n < 2048 then 0x800 + n else 0x0102

/-- A host interrupt of a nest with IRQ (R26, R300, R301). -/
def State.nestIrq (s : State) (source : Nat) (r : NestRec) (feats : Word) : State :=
  if r.irq && feats.getLsbD 1 then
    { s with outbox := s.outbox ++ [OutMsg.interrupt (if source < 2048 then s.queueReg source 8 % 256 else (s.hreg 0x040).toNat % 256)] }
  else s

/-- A 64-byte record written into a completion ring of an owner: its slot and phase by how many the ring has had (R26). A
record whose write faults takes its place among them all the same, which the spec leaves open (log 52, DESIGN CHOICE). -/
def State.ringWrite (s : State) (slot addr log2n : Nat) (image : Nat) : State × Option (Nat × Nat) :=
  let ring := (s.slotOwner slot, addr)
  let k := ((s.launch.rings.find? (fun (e : (Nat × Nat) × Nat) => e.1 == ring)).map (·.2)).getD 0
  let ph := 1 - (k / 2 ^ log2n) % 2
  let s1 := { s with launch := { s.launch with rings := (s.launch.rings.filter (fun (e : (Nat × Nat) × Nat) => e.1 != ring)) ++ [(ring, k + 1)] } }
  s1.agentRecord slot (addr + 64 * (k % 2 ^ log2n)) (image ||| (ph <<< 63))

/-- What a nest reports when it retires (R26, Table 6). -/
structure Report where
  owner : Nat
  source : Nat
  rec_ : NestRec
  status : Nat
  gangs : Nat
  seq : Nat
  tStart : Option Nat := none
  energy : Nat := 0
  mhz : Nat := 0
  throttle : Map Nat := []
  feats : Word
  deriving DecidableEq, Repr

/-- A nest's completion record, its interrupt, and the log entry of a nonzero STATUS that a record holds (R26, R27, R324).
The COMPLETION_LOST of a spawned nest goes to cluster 0's log: which die's it is the spec leaves open (log 53, DESIGN
CHOICE). -/
def State.complete (s : State) (r : Report) : State :=
  let sat := fun (v : Nat) => min v (2 ^ 32 - 1)
  let thr := fun (n : Nat) => sat (Tab.get r.throttle 0 n)
  let slot := (s.slotOf r.owner).getD 32
  let words := [(r.status <<< 48) ||| (r.rec_.tag <<< 32) ||| r.gangs % 2 ^ 32,
    (sourceField r.source <<< 32) ||| r.seq % 2 ^ 30, r.tStart.getD s.now, s.now, min (r.energy / 1000) (2 ^ 64 - 1),
    (r.mhz % 65536) <<< 48, (thr 2 <<< 32) ||| thr 0, (thr 1 <<< 32) ||| thr 3]
  let image := ofBytes (words.flatMap (bytesOf 8))
  let where_ := r.rec_.compAddr
  let made := if r.rec_.log2n ≤ 20 then
      match s.ringWrite slot where_ r.rec_.log2n image with
      | (s1, none) => (s1, true)
      | (s1, some e) => (s1.log 0 (sourceLog r.source) 4 3 r.owner (BitVec.ofNat 64 e.2) (BitVec.ofNat 64 ((r.rec_.tag <<< 32) ||| r.seq % 2 ^ 30)), false)
    else (s, false)
  let s2 := made.1.nestIrq r.source r.rec_ r.feats
  if r.status = 0 || !made.2 then s2
  else s2.log (if r.source < 2048 then 0 else r.source - 2048) (sourceLog r.source) 1 r.status r.owner 0
    (BitVec.ofNat 64 ((r.rec_.tag <<< 32) ||| r.seq % 2 ^ 30))

/-- NEST_TAKE: the device reads record HEAD of an enabled queue (R17, R299, R324). What it reads of a record outside HBM4 R299
does not say: zeros, and so a malformed record, the model's choice (log 188). -/
def execNestTake (queue : Nat) (s : State) : Host.Outcome State Fault Refusal :=
  .next (
    let q := queue % 2048
    let head := s.queueReg q 0x18 % 2 ^ 32
    if !s.ready || s.memoryStill || !s.queueEnabled q || head = s.queueReg q 0x10 % 2 ^ 32 then s
    else
      let w := s.queueReg q 0
      let at_ := bits w 55 7 * 128 + 128 * (head % 2 ^ bits (s.queueReg q 8) 12 8)
      let (s1, raw) := if w.testBit 63 then { s with outbox := s.outbox ++ [OutMsg.fetch at_ 128] }.freeBytes 128
        else if inHbm at_ then s.homeRead at_ 128 0 true
        else (s, 0)
      let s2 := s1.setQueueReg q 0x18 ((head + 1) % 2 ^ 32)
      let r := nestRecord raw
      if r.wellFormed then s2.enqueueNest q r (s.queueOwner q)
      else (s2.log 0 (0x800 + q) 4 2 (s.queueOwner q) 0 (BitVec.ofNat 64 r.tag)).complete
        { owner := s.queueOwner q, source := q, rec_ := r, status := 1, gangs := 0, seq := 0, feats := s.hreg 0x020 })

/-! ### Admission (R269 to R272) -/

/-- An owner's work may start: its slot is valid, not suspending or suspended, and after a restart it has resumed; no
supply warning or thermal emergency is in force (R395, R411, R432). -/
def State.ownerStarts (s : State) (owner : Nat) : Bool :=
  (s.supply < 3 || (s.supply = 7 && !s.power.unresumed.contains owner)) &&
  match s.slotOf owner with
  | some q => !(s.slotReg q 0x38 % 8 == 2 || s.slotReg q 0x38 % 8 == 3 || s.slotReg q 0x38 % 8 == 4)
  | none => false

/-- The effective priority after a time at a place (R270, R273). -/
def effective (prio t : Nat) : Nat := min 7 (prio + t / 64000)

/-- Whether a cluster's cores passed self-test, or none has run: no partition receives those of another (R362). -/
def State.clusterPassed (s : State) (cl : Nat) : Bool :=
  let v := (s.hreg 0x1018).toNat
  s.untested || (v.testBit cl && v.testBit (4 + cl) && v.testBit (8 + cl))
/-- Whether a cluster's cores serve: they passed self-test and the cluster is not shed (R362, R407). -/
def State.clusterServes (s : State) (cl : Nat) : Bool := s.clusterPassed cl && !(s.cluster cl).shed

/-- The cores of a cluster that belong to an owner slot's partition, ascending (R272, R274, R362, R429). -/
def State.partition (s : State) (slot cl : Nat) : List Nat :=
  if !s.clusterPassed cl then [] else
  (List.range Config.clusterCores).filterMap (fun i =>
    let c := cl * Config.clusterCores + i
    if (s.slotIslands slot).testBit (coreIsland c) then some c else none)

/-- The heads of all sources that an owner may start, in the order in which they are offered (R270). -/
def State.heads (s : State) : List (Nat × Waiting) :=
  let before := fun (a b : Nat × Waiting) =>
    let ta := s.now - a.2.since
    let tb := s.now - b.2.since
    let pa := effective a.2.rec_.prio ta
    let pb := effective b.2.rec_.prio tb
    if pa = pb then (if ta = tb then decide (a.1 < b.1) else decide (tb < ta)) else decide (pb < pa)
  let insert := fun (l : List (Nat × Waiting)) (x : Nat × Waiting) =>
    l.takeWhile (fun y => before y x) ++ [x] ++ l.dropWhile (fun y => before y x)
  s.launch.sources.foldl (fun l e => match e.2 with
    | w :: _ => if s.ownerStarts w.owner then insert l (e.1, w) else l
    | [] => l) []

/-- NEST_OFFER: heads are offered in order; the first that conflicts with no nest in flight of its owner is admitted,
or retired where it can never run (R21, R270 to R272), under FEAT_ACT as it is then (R301). The first nest admitted has
sequence number 1: the spec gives no start (log 54, DESIGN CHOICE). -/
def execNestOffer (s : State) : Host.Outcome State Fault Refusal :=
  .next (
    if 4096 ≤ s.launch.nests.length then s
    else match s.heads.find? (fun h => s.launch.nests.all (fun n => n.2.owner != h.2.owner || !h.2.rec_.conflicts n.2.rec_)) with
      | none => s
      | some (src, w) =>
        let seq := s.launch.seq + 1
        let feats := s.hreg 0x020
        let s1 := { s.dropHead src with launch := { (s.dropHead src).launch with seq := seq, feats := feats } }
        let slot := (s.slotOf w.owner).getD 32
        if (List.range 4).all (fun cl => decide ((s.partition slot cl).length < w.rec_.gangCores)) then
          s1.complete { owner := w.owner, source := src, rec_ := w.rec_, status := 2, gangs := 0, seq := seq, feats := feats }
        else s1.setNest seq { rec_ := w.rec_, owner := w.owner, source := src, since := s.now, feats := feats })

/-! ### Placement (R19, R20, R273 to R276, R376) -/

/-- The nests with gangs to place, in placement order (R273). -/
def State.placementOrder (s : State) : List (Nat × Nest) :=
  let prio := fun (n : Nest) => effective n.rec_.prio (s.now - n.since)
  let insert := fun (l : List (Nat × Nest)) (x : Nat × Nest) =>
    let ahead := fun (y : Nat × Nest) => decide (prio x.2 ≤ prio y.2)
    l.takeWhile ahead ++ [x] ++ l.dropWhile ahead
  (s.launch.nests.filter (fun n => !n.2.stopped && decide (n.2.placed < n.2.rec_.total) && s.ownerStarts n.2.owner)).foldl insert []

/-- Whether every resident gang of an island belongs to an owner slot (R430). -/
def State.islandClear (s : State) (slot island : Nat) : Bool :=
  (List.range 24).all (fun i => match (s.core (24 * island + i)).gang with
    | some g => s.gangSlot g == slot
    | none => true)

/-- Whether a core may take a member of the next gang of a nest, or with `nest` none a folio: no gang is resident, no
operation of an ended one still runs, no copy of another owner's, and the core is not held for another gang (R37, R274,
R276, R318, R430; log 56). -/
def State.coreFree (s : State) (slot : Nat) (nest : Option Nat) (c : Nat) : Bool :=
  let k := s.core c
  k.gang.isNone && s.islandClear slot (coreIsland c) && !k.mq.any (fun o => o.started) && (k.lastOwner = s.ownerIn slot || k.copies.isEmpty) &&
  match (s.cluster (coreCluster c)).reservation with
  | some n => some n == nest || ((s.nest n).bind (fun v => s.slotOf v.owner)) != some slot
  | none => true
/-- The free cores of a partition in a cluster. -/
def State.freeCores (s : State) (slot : Nat) (nest : Option Nat) (cl : Nat) : List Nat :=
  if s.clusterServes cl then (s.partition slot cl).filter (fun c => s.coreFree slot nest c) else []

/-- Where an owner's window is held: the cores with a record for it (R275). `Holds W` names no owner: that a record of another
owner with the same number does not count is the model's choice (log 124). -/
def State.windowCores (s : State) (owner window : Nat) : List (Nat × WindowRec) :=
  s.cores.filterMap (fun e => match e.2.window with
    | some r => if r.window = window && r.owner = owner then some (e.1, r) else none
    | none => none)
/-- The cluster a window's gang must go to: that of its latest record (R275). -/
def State.windowCluster (s : State) (owner window : Nat) : Option Nat :=
  if window = 0 then none
  else ((s.windowCores owner window).foldl (fun (b : Option (Nat × WindowRec)) e => match b with
    | none => some e
    | some x => if x.2.last < e.2.last then some e else some x) none).map (fun e => coreCluster e.1)

/-- The member cores of a nest's next gang in a cluster, by member index: a core that holds the window for a member is
that member's; others are the lowest free ones (R274, R275). -/
def State.memberCores (s : State) (slot nest cl : Nat) (n : Nest) : Option (List Nat) :=
  let free := s.freeCores slot (some nest) cl
  let held := if n.rec_.window = 0 then [] else
    (s.windowCores n.owner n.rec_.window).filter (fun e => coreCluster e.1 == cl && decide (e.2.member < n.rec_.gangCores))
  let fixed := fun (m : Nat) => (held.find? (fun e => e.2.member == m)).map (·.1)
  let others := free.filter (fun c => !held.any (fun e => e.1 == c))
  let r := (List.range n.rec_.gangCores).foldl (fun (a : Option (List Nat × List Nat)) m =>
    match a with
    | none => none
    | some (cs, rest) => match fixed m with
      | some c => if free.contains c then some (cs ++ [c], rest) else none
      | none => match rest with
        | c :: rest => some (cs ++ [c], rest)
        | [] => none) (some ([], others))
  r.map (·.1)

/-- A waiting folio that goes before a new gang in a cluster (R29): of the same or a higher priority, and pickable. -/
def State.folioWaits (s : State) (cl prio : Nat) : Bool :=
  (s.cluster cl).folios.any (fun f => match s.gang f.2.1 with
    | some g => g.mode == .active && match s.nest g.nest with
      | some n => decide (prio ≤ n.rec_.prio) && s.ownerStarts n.owner &&
          (g.cores.any (fun c => coreCluster c == cl && decide ((s.core c).ctxs.length < 4) && (s.core c).gang == some f.2.1) ||
            !(s.freeCores ((s.slotOf n.owner).getD 32) none cl).isEmpty)
      | none => false
    | none => false)

/-- Whether a SERIAL nest's previous gang still runs: it has no next gang to place yet (R19, R273). -/
def Nest.serialBusy (n : Nest) : Bool := n.rec_.serial && decide (n.ended < n.placed)
/-- The cluster a nest's next gang is placed in, with its member cores (R273 to R275): of those where it is placeable,
the one with the most free cores, then the lowest. -/
def State.placeable (s : State) (nest : Nat) (n : Nest) : Option (Nat × List Nat) :=
  let slot := (s.slotOf n.owner).getD 32
  if n.serialBusy then none
  else
    let only := s.windowCluster n.owner n.rec_.window
    (List.range 4).foldl (fun (b : Option (Nat × List Nat)) cl =>
      if (only.isSome && only != some cl) || s.folioWaits cl n.rec_.prio then b
      else match s.memberCores slot nest cl n with
        | none => b
        | some cs => match b with
          | none => some (cl, cs)
          | some x => if (s.freeCores slot (some nest) x.1).length < (s.freeCores slot (some nest) cl).length then some (cl, cs) else some x) none

/-- RTSTAT once no core remains to be loaded with routines (R437). -/
def State.settleReload (s : State) : State := if s.cores.any (fun (e : Nat × Core) => e.2.reload) then s else s.setHreg 0x3888 0
/-- A core made ready for a gang that becomes resident on it: scrubbed where the owner of the last gang resident there was another,
its share zeroed, AGE and ROLE at reset, its window record brought up to date (R45, R48, R275, R376, R377). -/
def State.prepareCore (s : State) (c slot g owner window member : Nat) : State :=
  let k := s.core c
  let rec0 := match k.window with
    | some r => if r.owner ≠ owner || (window ≠ 0 && r.window ≠ window) then none else some r
    | none => none
  let rec1 := if window = 0 then rec0 else some { window := window, member := member, owner := owner, last := g }
  let k1 : Core := if k.lastOwner = some owner then { k with share := {}, l1 := [], age := 64, role := 0x1B, frames := [] }
    else { collq := k.collq, utlb := k.utlb, cycle := k.cycle, emulated := k.emulated, routines := (Tab.get s.owners {} slot).routines }
  let s1 := if k.lastOwner = some owner then s else { s with badSpad := s.badSpad.filter (fun e => e.1 != c) }
  let s2 := s1.setCore c { k1 with gang := some g, window := rec1, lastOwner := some owner }
  if k.reload && !k1.reload then s2.settleReload else s2

/-- The physical accumulator tiles allotted to a strand that starts beside others of its core: the lowest free ones, the
device's choice, which a full frame alone shows (R31, R41; log 183). -/
def allotTiles (ctxs : Map Strand) (accs : Nat) : List Nat :=
  ((List.range 8).filter (fun i => !ctxs.any (fun e => e.2.phys.contains i))).take accs
/-- A strand as it starts for the first time (R20, R41). It counts as having last issued in the cycle in which it is loaded, which
the tie of R277 leaves open: the model's choice (log 165). -/
def NestRec.strand (r : NestRec) (g iter member i cycle : Nat) : Strand :=
  let t : Strand := { gang := g, member := member, slot := i, role := r.role i, pc := r.entryPc (r.role i), vregs := r.vregs, accs := r.accs, phys := (List.range r.accs).map (r.accs * i + ·), readyAt := cycle, lastIssue := cycle }
  let t1 := (List.range 4).foldl (fun t l => t.setReg (1 + l) (r.offset iter l)) t
  ((t1.setReg 5 (BitVec.ofNat 64 r.arg)).setReg 6 (BitVec.ofNat 64 member)).setReg 7 (BitVec.ofNat 64 ((r.role i <<< 8) ||| i))

/-- Whether a gang noted as first is still its nest's next. -/
def State.stillNext (s : State) (f : Nat × Nat × Nat) : Bool :=
  match s.nest f.1 with
  | some v => !v.stopped && v.placed = f.2.1 && decide (v.placed < v.rec_.total)
  | none => false
/-- Whether a gang noted as first keeps its place while its nest may not start: a gang of that nest is pre-empted (R279). -/
def State.keepsPlace (s : State) (f : Nat × Nat × Nat) : Bool :=
  s.stillNext f && s.launch.gangs.any (fun g => g.2.nest == f.1 && (g.2.mode == .preempting || g.2.mode == .preempted))
/-- The nests of the placement order that have a next gang: a SERIAL one whose previous gang still runs is passed over (R273). -/
def State.nextGangs (s : State) : List (Nat × Nest) := s.placementOrder.filter (fun n => !n.2.serialBusy)
/-- The first gang of the placement order noted, with the time it became first (R276); one that comes back to a place it kept has
the time of that (R279). -/
def State.noteFirst (s : State) : State :=
  let head := s.nextGangs.head?.map (fun e => (e.1, e.2.placed))
  if s.launch.first.map (fun f => (f.1, f.2.1)) = head then s
  else
    let kept := s.launch.first.toList.filter s.keepsPlace ++ s.launch.kept.filter s.stillNext
    let back := fun (f : Nat × Nat × Nat) => decide (head = some (f.1, f.2.1))
    { s with launch := { s.launch with first := head.map (fun h => (kept.find? back).getD (h.1, h.2, s.now)), kept := kept.filter (!back ·) } }

/-- A gang placed: its cores prepared and its strands loaded before any of them issues (R20, R23, R274). -/
def State.placeGang (s : State) (nest : Nat) (n : Nest) (cl : Nat) (cs : List Nat) : State :=
  let g := s.launch.gangSeq + 1
  let slot := (s.slotOf n.owner).getD 32
  let s1 := { s with launch := { s.launch with gangSeq := g } }
  let s2 := s1.setGang g { nest := nest, iter := n.placed, cluster := cl, cores := cs, alive := cs.length * n.rec_.strands }
  let s3 := cs.zipIdx.foldl (fun (s : State) e =>
    (List.range n.rec_.strands).foldl (fun (s : State) i => s.setStrand e.1 i (n.rec_.strand g n.placed e.2 i (s.core e.1).cycle))
      (s.prepareCore e.1 slot g n.owner n.rec_.window e.2)) s2
  let s4 := s3.setNest nest { n with placed := n.placed + 1, since := s.now, tStart := some (n.tStart.getD s.now) }
  (List.range 4).foldl (fun (s : State) cl => if (s.cluster cl).reservation = some nest then s.setCluster cl { s.cluster cl with reservation := none } else s) s4

/-- GANG_PLACE: the first nest of the placement order with a placeable gang places it, in the cluster R274 gives. -/
def execGangPlace (cluster : Nat) (s : State) : Host.Outcome State Fault Refusal :=
  .next (
    let s0 := s.noteFirst
    match s0.placementOrder.findSome? (fun e => (s0.placeable e.1 e.2).map (fun p => (e, p))) with
    | none => s0
    | some ((nest, n), (cl, cs)) => if cl = cluster then (s0.placeGang nest n cl cs).noteFirst else s0)

/-- CLUSTER_RESERVE: the first gang of the order, not placeable for 16 µs, reserves a cluster (R276). -/
def execClusterReserve (cluster : Nat) (s : State) : Host.Outcome State Fault Refusal :=
  .next (
    let s0 := s.noteFirst
    match s0.nextGangs.head?, s0.launch.first with
    | some (nest, n), some (first, _, since) =>
      if first ≠ nest || (s0.placeable nest n).isSome || s0.now < since + 16000 then s0
      else
        let slot := (s0.slotOf n.owner).getD 32
        let fits := fun (cl : Nat) => s0.clusterServes cl && decide (n.rec_.gangCores ≤ (s0.partition slot cl).length)
        let best := match s0.windowCluster n.owner n.rec_.window with
          | some cl => some cl
          | none => (List.range 4).foldl (fun (b : Option Nat) cl =>
              if !fits cl then b
              else match b with
                | none => some cl
                | some x => if (s0.freeCores slot (some nest) x).length < (s0.freeCores slot (some nest) cl).length then some cl else some x) none
        if best = some cluster && (s0.cluster cluster).reservation.isNone &&
            (List.range 4).all (fun cl => (s0.cluster cl).reservation != some nest) then
          s0.setCluster cluster { s0.cluster cluster with reservation := some nest }
        else s0
    | _, _ => s0)

/-! ### Folios (R29) -/

/-- Whether an idle context of a core may take a folio (R29, R37, R41, R276). -/
def State.mayPick (s : State) (c : Nat) (f : Nat × Nat × Nat × Nat) : Bool :=
  let k := s.core c
  match s.gang f.2.1 with
  | none => false
  | some g =>
    match s.nest g.nest with
    | none => false
    | some n =>
      let slot := (s.slotOf n.owner).getD 32
      let used := fun (p : Strand → Nat) => k.ctxs.foldl (fun a e => a + p e.2) 0
      g.mode == .active && s.ownerStarts n.owner && s.clusterServes (coreCluster c) && decide (k.ctxs.length < 4) &&
      decide (used (·.vregs) + n.rec_.vregs ≤ 64) && decide (used (·.accs) + n.rec_.accs ≤ 8) &&
      (n.rec_.window = 0 || (match k.window with
        | some r => r.window = n.rec_.window && r.owner = n.owner && r.member = f.2.2.1
        | none => false)) &&
      (k.gang == some f.2.1 || (k.gang.isNone && (s.partition slot (coreCluster c)).contains c && s.coreFree slot none c))

/-- The folio a core picks up: of the greatest nest priority, the first in the queue (R29). -/
def State.pickFolio (s : State) (c : Nat) : Option (Nat × Nat × Nat × Nat) :=
  let prio := fun (f : Nat × Nat × Nat × Nat) => ((s.gang f.2.1).bind (fun g => s.nest g.nest)).elim 0 (·.rec_.prio)
  ((s.cluster (coreCluster c)).folios.filter (s.mayPick c)).foldl (fun b f => match b with
    | none => some f
    | some x => if prio x < prio f then some f else some x) none

/-- A strand as a folio resumes it (R29). A PC whose bit 0 software set is taken as it stands, and the bundle fetched there:
its fate the spec leaves open (log 58, DESIGN CHOICE). It counts as having last issued when it is loaded (log 165). -/
def folioStrand (g member slot : Nat) (r : NestRec) (image cycle : Nat) : Strand :=
  let word := fun (i : Nat) => bits image (64 * i + 63) (64 * i)
  let t : Strand := { gang := g, member := member, slot := slot, role := bits (word 0) 63 62, pc := BitVec.ofNat 64 (word 0 % 2 ^ 48), flags := BitVec.ofNat 6 (bits (word 0) 61 57 * 2), vregs := r.vregs, accs := r.accs, readyAt := cycle, lastIssue := cycle }
  (List.range 6).foldl (fun t i => t.setReg (1 + i) (BitVec.ofNat 64 (word (2 + i)))) t

/-- FOLIO_PICKUP (R29). SLOT and the member are those of the queue's entry, not of the folio's words as they then stand (log
57, DESIGN CHOICE); the TRAP entry of a fault has SOURCE 0x0102, which the spec does not name (log 59, DESIGN CHOICE), and
SLOT 0xFF stands nowhere in it, since Table 7 of R326 gives a TRAP entry no field for it (log 75). -/
def execFolioPickup (core : Nat) (s : State) : Host.Outcome State Fault Refusal :=
  .next (match s.pickFolio core with
    | none => s
    | some f =>
      let cl := coreCluster core
      let s0 := s.setCluster cl { s.cluster cl with folios := (s.cluster cl).folios.erase f }
      match s.gang f.2.1 with
      | none => s0
      | some g =>
        match s.nest g.nest with
        | none => s0
        | some n =>
          let slot := s.gangSlot f.2.1
          let failed := fun (s : State) => (s.log cl 0x0102 0 7 n.owner (BitVec.ofNat 64 f.1) 0).endGang f.2.1 3
          match s0.agentRead slot f.1 64 with
          | (s1, .error _) => failed s1
          | (s1, .ok image) =>
            let w0 := image % 2 ^ 64
            match s1.agentWrite slot f.1 8 (w0 - (w0 &&& 2 ^ 56)) with
            | (s2, some _) => failed s2
            | (s2, none) =>
              let s3 := if (s2.core core).gang = some f.2.1 then s2 else s2.prepareCore core slot f.2.1 n.owner n.rec_.window f.2.2.1
              let s4 := s3.setGang f.2.1 { g with cores := if g.cores.contains core then g.cores else g.cores ++ [core] }
              let x := ((List.range 4).find? (fun x => ((s4.core core).strand x).isNone)).getD 0
              (s4.setStrand core x { folioStrand f.2.1 f.2.2.1 f.2.2.2 n.rec_ image (s4.core core).cycle with phys := allotTiles (s4.core core).ctxs n.rec_.accs }).readerHalf core 2)

/-! ### Pre-emption (R30 to R32, R168, R279) -/

/-- Whether every resident strand of a gang stands at a boundary with nothing of it on its way: no held bundle, no trap that is due
once its results have landed, no started operation, no pattern load, no request sent and not answered (R30, R32, R148, R168,
R205, R312, R323). -/
def State.sealable (s : State) (g : Nat) (v : Gang) : Bool :=
  v.cores.all (fun c =>
    (s.core c).gang != some g || ((s.core c).ctxs.all (fun e => e.2.holds.isEmpty && !e.2.phasing && (s.dueTrap c e.1 true).isNone) &&
      (s.core c).mq.all (fun o => !o.started) && (s.core c).patlds.isEmpty)) &&
  s.reqs.all (fun e => e.2.gang != g || e.2.quiet)

/-- Every strand of a gang halted and its frame sealed: its waits are withdrawn, its unstarted operations saved with their
effective priorities (R30, R31, R168, R373). -/
def State.haltGang (s : State) (g : Nat) (v : Gang) : State :=
  let halt := fun (s : State) (c : Nat) => if (s.core c).gang != some g then s else (s.core c).ctxs.foldl (fun (s : State) e => s.haltStrand c e.1) s
  let keep := fun (s : State) (c : Nat) => if (s.core c).gang != some g then s
    else s.mapCore c (fun k => { k with mq := k.mq.map (fun o => if o.started then o else { o with running := false, saved := some (k.effective o) }) })
  v.cores.foldl keep ((v.cores.foldl halt s).sealFrames true (fun t => t.gang == g))

/-- A gang asked to halt at its next boundaries. -/
def State.requestPreempt (s : State) (g why : Nat) : State :=
  match s.gang g with
  | some v => if v.mode = .active then s.setGang g { v with mode := .preempting, why := why } else s
  | none => s

/-- Whether Curator must pre-empt a gang for the power limit: it is resident, and every island it occupies runs at point 7 and
POWER still demands it (R279). -/
def State.overPower (s : State) (g : Nat) (v : Gang) : Bool :=
  let cs := v.cores.filter (fun c => (s.core c).gang == some g)
  !cs.isEmpty && cs.all (fun c =>
    let i := Tab.get s.islands {} (coreIsland c)
    i.point == 7 && Tab.get i.caps 0 2 == 7)
/-- A strand of a gang that is to halt and has a trap to enter first (R312, R323). -/
def State.dueIn (s : State) (g : Nat) (v : Gang) : Option (Nat × Nat) :=
  (v.cores.filter (fun c => (s.core c).gang == some g)).findSome? (fun c =>
    ((s.core c).ctxs.find? (fun e => (s.dueTrap c e.1 true).isSome)).map (fun e => (c, e.1)))

/-- GANG_PREEMPT (R30, R279, R323): a gang asked to halt is sealed once it can be, the traps due to its strands entered first; an
active one is asked to where the power limit calls for it. -/
def execGangPreempt (gang : Nat) (s : State) : Host.Outcome State Fault Refusal :=
  .next (match s.gang gang with
    | none => s
    | some v =>
      match v.mode with
      | .active => if s.overPower gang v then s.requestPreempt gang 0 else s
      | .preempting =>
        if s.sealable gang v then
          let s1 := (s.haltGang gang v).setGang gang { v with mode := .preempted }
          { s1 with launch := { s1.launch with preempted := s1.launch.preempted ++ [gang] } }
        else match s.dueIn gang v with
          | some e => s.enterDue e.1 e.2 true
          | none => s
      | _ => s)

/-- Whether what a gang was pre-empted for has ended (R279). -/
def State.causeEnded (s : State) (g : Nat) : Bool :=
  match s.gang g with
  | none => true
  | some v =>
    let owner := s.gangOwner g
    (s.supply < 3 || (s.supply = 7 && !s.power.unresumed.contains owner)) && !(s.cluster v.cluster).shed &&
    (match s.slotOf owner with
      | some q => !(s.slotReg q 0x38 % 8 == 2 || s.slotReg q 0x38 % 8 == 3 || s.slotReg q 0x38 % 8 == 4)
      | none => false) &&
    (v.why != 0 || !s.overPower g v)

/-- A gang's strands run again: the gang share of each core restored, unstarted operations queued again (R32, R57, R168,
R279). -/
def State.runGang (s : State) (g : Nat) : State :=
  match s.gang g with
  | none => s
  | some v =>
    let s1 := v.cores.foldl (fun (s : State) c =>
      if (s.core c).gang != some g then s
      else (s.core c).ctxs.foldl (fun (s : State) e => s.mapStrand c e.1 (fun t => { t with halted := false, saved := false, stall := .none, readyAt := max t.readyAt (s.core c).cycle }))
        (s.mapCore c (fun k => { k.restoreShare with mq := k.mq.map (fun o => if o.saved.isSome then { o with since := k.cycle } else o) }))) s
    let s2 := s1.setGang g { v with mode := .active }
    { s2 with launch := { s2.launch with preempted := s2.launch.preempted.filter (· ≠ g) } }

/-- GANG_RESUME: gangs resume in the order in which they were pre-empted, once the cause has ended (R279). -/
def execGangResume (gang : Nat) (s : State) : Host.Outcome State Fault Refusal :=
  .next (if s.launch.preempted.find? (fun g => s.causeEnded g) = some gang then s.runGang gang else s)

/-! ### Retirement (R25, R26) -/

/-- NEST_RETIRE: every gang has ended and every store of them is acknowledged; not while HBM4 takes no write (R25, R26, R283, R404).
The last nest of an owner that is terminated ends that (R432). -/
def execNestRetire (nest : Nat) (s : State) : Host.Outcome State Fault Refusal :=
  .next (match s.nest nest with
    | none => s
    | some n =>
      let slot := (s.slotOf n.owner).getD 32
      let left := s.memoryStill || n.ended < n.placed || (!n.stopped && decide (n.placed < n.rec_.total)) ||
        s.reqs.any (fun e => e.2.isStore && e.2.slotOwner == slot && (s.gang e.2.gang).isNone)
      if left then s
      else
        let s1 := { s with launch := { s.launch with nests := Tab.erase s.launch.nests nest } }
        let s2 := s1.complete { owner := n.owner, source := n.source, rec_ := n.rec_, status := n.status, gangs := n.ended, seq := nest, tStart := n.tStart, energy := n.energy, mhz := if n.mhzCycles = 0 then 0 else n.mhzSum / n.mhzCycles, throttle := n.throttle, feats := n.feats }
        ((List.range 4).foldl (fun (s : State) cl =>
          if (s.cluster cl).reservation = some nest then s.setCluster cl { s.cluster cl with reservation := none } else s) s2).noteFirst.endTerminate slot)

/-! ### Operating points (R280 to R282, R414, R431) -/

/-- The clock of an operating point in MHz, and its voltage in hundredths of that of point 0 (R280, Table 3). -/
def pointMhz (p : Nat) : Nat :=
  match p with
  | 0 => 850 | 1 => 800 | 2 => 700 | 3 => 600 | 4 => 500 | 5 => 400 | 6 => 300 | _ => 200
def pointVolts (p : Nat) : Nat :=
  match p with
  | 0 => 100 | 1 => 96 | 2 => 90 | 3 => 84 | 4 => 79 | 5 => 74 | 6 => 70 | _ => 66
/-- The regulator an island takes its supply from: at reset that of its cluster (R14, R431). -/
def State.regulatorOf (s : State) (j : Nat) : Nat := (Tab.get s.islands {} j).regulator.getD (j / 8)
/-- The islands a regulator supplies. -/
def State.suppliedBy (s : State) (r : Nat) : List Nat := (List.range 32).filter (fun j => s.regulatorOf j == r)
/-- The voltage of a regulator: the highest any of its islands needs; one that supplies none is off (R280, R431). -/
def State.regulatorVolts (s : State) (r : Nat) : Nat :=
  (s.suppliedBy r).foldl (fun v j => max v (pointVolts (Tab.get s.islands {} j).point)) 0

/-- The gangs resident in an island with how many of its cores each holds. -/
def State.islandGangs (s : State) (j : Nat) : List (Nat × Nat) :=
  s.launch.gangs.filterMap (fun e =>
    let n := (e.2.cores.filter (fun c => coreIsland c == j && (s.core c).gang == some e.1)).length
    if n = 0 then none else some (e.1, n))
/-- The point an island runs at without throttles (R281). -/
def State.basePoint (s : State) (j : Nat) : Nat :=
  (s.islandGangs j).foldl (fun p g => min p (((s.gang g.1).bind (fun v => s.nest v.nest)).elim 7 (·.rec_.ceiling))) 7

/-- The sensors of an island: three thermal ones, then the current monitor (R414, R442). -/
def islandSensors (j : Nat) : List Nat := [4 * j, 4 * j + 1, 4 * j + 2, 4 * j + 3]
/-- Islands next to an island in its cluster, and itself. -/
def islandsNear (j : Nat) : List Nat := (List.range 32).filter (fun i => i / 8 == j / 8 && decide (i ≤ j + 1) && decide (j ≤ i + 1))
/-- Whether two retired sensors hold an island at point 7 (R414). -/
def State.degraded (s : State) (j : Nat) : Bool :=
  let retired := fun (i : Nat) => ((islandSensors i).filter (fun k => s.power.retired.contains k)).length
  1 < retired j || (0 < retired j && (islandsNear j).any (fun i => i != j && decide (0 < retired i)))
/-- The reading of a sensor register without its mark, signed where thermal. -/
def State.sensor (s : State) (k : Nat) : Int := sint 63 ((s.hreg (0x5300 + 8 * k)).toNat % 2 ^ 63)

/-- Whether the islands of an island's regulator draw what it can supply (R282, R431). -/
def State.overCurrent (s : State) (j : Nat) : Bool :=
  decide ((Config.regulatorLimit : Int) ≤ (s.suppliedBy (s.regulatorOf j)).foldl (fun v i => v + s.sensor (4 * i + 3)) 0)
/-- The demand of a throttle, at least a point of 1 while it is called for (R282): THERMAL past the mark of a sensor of the
island, CURRENT at the limit of its regulator, POWER as the input approaches 2,400 W and in SAG (R393), SENSOR_DEGRADED where a retired
sensor's substitute calls for it, and 7 where R414 holds the island there. Which point is Curator's, and Table 4 does not say
whether a reading of exactly the mark passes it: it does here, the model's choice (log 60). -/
def State.demand (s : State) (j reason asked : Nat) : Nat :=
  let gone := fun (k : Nat) => s.power.retired.contains k
  let hot := fun (retired : Bool) => [4 * j, 4 * j + 1, 4 * j + 2].any (fun k => gone k == retired && decide (100000 ≤ s.sensor k))
  let called := match reason with
    | 0 => hot false
    | 1 => !gone (4 * j + 3) && s.overCurrent j
    | 2 => s.supply = 1 || decide (min Config.powerMark Config.inputLimit ≤ (s.hreg 0x5208).toNat)
    | _ => s.degraded j || hot true || (gone (4 * j + 3) && s.overCurrent j)
  if !called then 0 else if reason = 3 && s.degraded j then 7 else max 1 (min asked 7)

/-- The DETAIL of a throttle's log entry, for which the spec gives no layout: island [47:40], point [39:32], and the points
POWER, THERMAL, CURRENT and SENSOR_DEGRADED demand, a byte each (log 60, DESIGN CHOICE). -/
def throttleDetail (j point : Nat) (caps : Map Nat) : Word :=
  BitVec.ofNat 64 ((j <<< 40) ||| (point <<< 32) ||| (List.range 4).foldl (fun v r => v ||| ((Tab.get caps 0 r % 256) <<< (8 * r))) 0)
/-- A throttle decision logged (R15, R326): the die of the island. -/
def State.logThrottle (s : State) (j point : Nat) : State := s.log (j / 8) 0x0102 3 2 0 0 (throttleDetail j point (Tab.get s.islands {} j).caps)

/-- OPERATING_POINT_CHANGE: an island moves to the point its gangs and throttles give, and to the regulator REGSEL names
(R281, R282, R431); a throttle that changes is logged (R15). The change takes up to 2 µs, a free time. -/
def execOperatingPointChange (island : Nat) (demands : List Nat) (s : State) : Host.Outcome State Fault Refusal :=
  .next (
    let j := island % 32
    let caps := (List.range 4).foldl (fun m r => Tab.set m 0 r (s.demand j r (demands.getD r 0))) []
    let point := (Tab.vals caps).foldl max (s.basePoint j)
    let reg := bits (s.hreg 0x3800).toNat (2 * j + 1) (2 * j)
    let old := Tab.get s.islands {} j
    let changing := if point = old.point && old.regulator.getD (j / 8) = reg then old.changing else some (old.point, s.now + (Config.freeBits s.free 20).toNat % 2001)
    let s1 := { s with free := s.free + 1, islands := Tab.set s.islands {} j { old with point := point, caps := caps, regulator := some reg, changing := changing } }
    if (List.range 4).all (fun r => Tab.get caps 0 r == Tab.get old.caps 0 r) then s1 else s1.logThrottle j point)

/-! ### Energy and sensors (R283, R284, R414, R415, R442) -/

/-- µJ added to an energy register, which stays at its greatest value (R415). -/
def State.addEnergy (s : State) (off uj : Nat) : State :=
  s.setHreg off (BitVec.ofNat 64 (min ((s.hreg off).toNat + uj) (2 ^ 64 - 1)))
/-- The reason an island's throttled cycles are charged to (R282). -/
def State.throttledBy (s : State) (j : Nat) : Option Nat :=
  let i := Tab.get s.islands {} j
  if s.basePoint j < i.point then (List.range 4).find? (fun r => decide (i.point ≤ Tab.get i.caps 0 r)) else none

/-- One island's energy of a tick divided among its gangs and its idle figure (R284). -/
def State.islandTick (s : State) (j nj : Nat) : State :=
  let gs := s.islandGangs j
  let shares := gs.map (fun g => (g.1, nj * g.2 / 24))
  let idle := nj - shares.foldl (fun n e => n + e.2) 0
  let i := Tab.get s.islands {} j
  let s1 := { s with islands := Tab.set s.islands {} j { i with rest := (i.rest + nj) % 1000, idleRest := (i.idleRest + idle) % 1000 } }
  let s2 := (s1.addEnergy (0x5000 + 8 * j) ((i.rest + nj) / 1000)).addEnergy (0x5100 + 8 * j) ((i.idleRest + idle) / 1000)
  shares.foldl (fun (s : State) e => match (s.gang e.1).bind (fun v => (s.nest v.nest).map (fun n => (v.nest, n))) with
    | some (k, n) => s.setNest k { n with energy := n.energy + e.2 }
    | none => s) s2

/-- `n` cycles of the 850 MHz reference charged to a gang's nest: throttled ones once for the gang, to the first reason in
charging order, and the clocks of its loaded strands, in a change of point the lower of the two; a strand of a gang asked to
halt that stands at its boundary has halted (R30, R282, R283; log 60). -/
def State.gangCycles (s : State) (g : Nat) (v : Gang) (n : Nat) : State :=
  match s.nest v.nest with
  | none => s
  | some x =>
    let cs := v.cores.filter (fun c => (s.core c).gang == some g)
    let reasons := cs.filterMap (fun c => s.throttledBy (coreIsland c))
    let throttle := match (List.range 4).find? reasons.contains with
      | some r => Tab.set x.throttle 0 r (Tab.get x.throttle 0 r + n)
      | none => x.throttle
    let runs := fun (t : Strand) => !t.halted && ((v.mode != .preempting && v.mode != .ending) || !t.holds.isEmpty || t.phasing)
    let sum := fun (c : Nat) =>
      let i := Tab.get s.islands {} (coreIsland c)
      match i.changing with
      | none => n * pointMhz i.point
      | some (old, over_) =>
        let slow := min n (over_ * 850 / 1000 - s.now * 850 / 1000)
        slow * min (pointMhz old) (pointMhz i.point) + (n - slow) * pointMhz i.point
    let sums := cs.flatMap (fun c => ((s.core c).ctxs.filter (fun e => runs e.2)).map (fun _ => sum c))
    s.setNest v.nest { x with throttle := throttle, mhzSum := x.mhzSum + sums.foldl (· + ·) 0, mhzCycles := x.mhzCycles + n * sums.length }
/-- The reference cycles of the time that passes up to `t` charged to every gang as things stand (R283). -/
def State.meter (s : State) (t : Nat) : State :=
  s.launch.gangs.foldl (fun (s : State) e => s.gangCycles e.1 e.2 (t * 850 / 1000 - s.now * 850 / 1000)) s

/-- The neighbours of a sensor: of its kind in its own island and in the islands next to it (R414). -/
def sensorNear (k : Nat) : List Nat :=
  (islandsNear (k / 4)).flatMap (fun i => if k % 4 = 3 then (if i = k / 4 then [] else [4 * i + 3]) else [4 * i, 4 * i + 1, 4 * i + 2].filter (· ≠ k))
/-- The substitute of a retired sensor: the greatest of its neighbours and 5 °C, or 10 % of current, more (R414). -/
def substitute (k : Nat) (reading : Nat → Int) : Int :=
  let g := (sensorNear k).foldl (fun (b : Option Int) i => match b with
    | none => some (reading i)
    | some x => some (max x (reading i))) none
  match g with
  | none => reading k
  | some v => if k % 4 = 3 then v + v / 10 else v + 5000

/-- A sensor's reading noted: since when it has not changed, and whether its island's point or residents have (R414). -/
def State.noteSensor (s : State) (k raw : Nat) : State :=
  let j := k / 4
  let point := (Tab.get s.islands {} j).point
  let res := (s.islandGangs j).foldl (fun n g => n + g.2) 0
  let e := match Tab.find? s.power.steady k with
    | some (r, t, p, o, changed) => if r = raw then (r, t, p, o, changed || p ≠ point || o ≠ res) else (raw, s.now, point, res, false)
    | none => (raw, s.now, point, res, false)
  { s with power := { s.power with steady := Tab.put s.power.steady k e } }

/-- RESERVE measured: at most 4.0 kJ; since when it has been discharging, and whether it charges, a full one among those that do
(R8, R393, R407, R415; log 168). -/
def State.setReserve (s : State) (uj : Nat) : State :=
  let new := min uj Config.reserveLimit
  let old := (s.hreg 0x2008).toNat
  ({ s with power := { s.power with dropSince := if new < old then some (s.power.dropSince.getD s.now) else if old < new then none else s.power.dropSince, charging := decide (old < new) || (s.power.charging && decide (new = old)) || decide (new = Config.reserveLimit) } }).setHreg 0x2008 (BitVec.ofNat 64 new)

/-- ENERGY_TICK: what the islands, sensors, input and reserve measured in 1 µs, the input at most 2,400 W and the reserve at
most 4.0 kJ (R8, R13, R284, R414, R415); INPUT_POWER is the mean of each whole 1 ms (R442). -/
def execEnergyTick (readings sensors : List Nat) (input reserve : Nat) (s : State) : Host.Outcome State Fault Refusal :=
  .next (
    let s1 := (List.range 32).foldl (fun s j => s.islandTick j (readings.getD j 0)) s
    let raw := fun (k : Nat) => sensors.getD k 0
    let s3 := (List.range 128).foldl (fun s k =>
      let v := if s.power.retired.contains k then wrap 63 (substitute k (fun i => sint 63 (raw i))) + 2 ^ 63 else raw k % 2 ^ 63
      (s.setHreg (0x5300 + 8 * k) (BitVec.ofNat 64 v)).noteSensor k (raw k)) s1
    let cool := (List.range 128).all (fun k => k % 4 == 3 || decide (s3.sensor k < 95000))
    let drawn := min input Config.inputLimit
    let nj := s3.power.inputRest + drawn
    let sum := s3.power.inputSum + drawn
    let whole := decide (999 ≤ s3.power.inputTicks)
    let s4 := { s3 with power := { s3.power with inputRest := nj % 1000, inputSum := if whole then 0 else sum, inputTicks := if whole then 0 else s3.power.inputTicks + 1, coolSince := if cool then some (s3.power.coolSince.getD s3.now) else none } }
    let s5 := s4.addEnergy 0x5200 (nj / 1000)
    (if whole then s5.setHreg 0x5208 (BitVec.ofNat 64 (sum / 1000)) else s5).setReserve reserve)

/-- The median of a list: the lower of the middle two of an even number. -/
def median (l : List Int) : Int :=
  let sorted := l.foldl (fun a x => a.takeWhile (fun y => decide (y ≤ x)) ++ [x] ++ a.dropWhile (fun y => decide (y ≤ x))) []
  sorted.getD ((sorted.length - 1) / 2) 0

/-- Whether a sensor's last reading fails the checks of R414. Current is compared per powered core: the islands of a cluster have 24
each, or none while it is shed. -/
def State.sensorFails (s : State) (k : Nat) : Bool :=
  match Tab.find? s.power.steady k with
  | none => false
  | some (raw, since, _, _, changed) =>
    let of := fun (i : Nat) => ((Tab.find? s.power.steady i).map (fun e => sint 63 e.1)).getD 0
    let v := sint 63 raw
    let m := median ((sensorNear k).map of)
    let powered := !(s.cluster (k / 32)).shed
    (changed && decide (since + 100000000 ≤ s.now)) ||
    (if k % 4 = 3 then decide (v < 0) || decide (3 * (Config.regulatorLimit : Int) < 2 * v) || (powered && (decide (20 * m < 100 * (v - m)) || decide (20 * m < 100 * (m - v))))
     else decide (v < -40000) || decide (150000 < v) || decide (12000 < v - m) || decide (12000 < m - v))

/-- SENSOR_RETIRED: a sensor that fails its checks is retired until the next warm reset (R414). -/
def execSensorRetired (sensor : Nat) (s : State) : Host.Outcome State Fault Refusal :=
  .next (if 128 ≤ sensor || s.power.retired.contains sensor || !s.sensorFails sensor then s
    else ({ s with power := { s.power with retired := s.power.retired ++ [sensor] } }).log (sensor / 32) 0x0102 3 4 0 0 (BitVec.ofNat 64 sensor))

/-- TRAP_ENTRY: the due trap of a strand is entered at its boundary (R314, R353). -/
def execTrapEntry (core ctx : Nat) (s : State) : Host.Outcome State Fault Refusal := .next (s.enterDue core ctx false)

end Sys2Proof.Machine
end

