-- ==== Sys2Proof/Machine/Fabric.lean ====
section
/-! DEFINITION. The Causeway: requests of other modules (R222, R380, R381, R384), links, paths and lost modules (R285,
R381 to R383), multicast groups (R438), and route-1 chunks (R297, R370, R424). -/
namespace Sys2Proof.Machine
open Sys2Proof

/-! ### Requests of other modules -/

/-- Whether a request for an owner is answered HIBERNATING (R395, R408, R411, R413): from DRAINING until restore is
done, while a thermal emergency keeps HBM4 in self-refresh, and then until the owner has resumed. -/
def State.answersHibernating (s : State) (owner : Nat) : Bool :=
  let st := s.supply
  st = 4 || st = 5 || s.power.off || (st = 7 && (!s.ready || s.power.unresumed.contains owner))

/-- An access performed at its home, waiting out a busy line. -/
def State.atHomeNow (s : State) (kind : ReqKind) (off key mask data : Nat) : HomeResult :=
  match s.atHome kind off key mask data false none with
  | .wait => (s.settleSet (off / 128)).atHome kind off key mask data false none
  | r => r

/-- What a request of another module asks, as the kind of an access at a home. -/
def remoteKind (k : RemoteKind) : Option ReqKind :=
  match k with
  | .load => some .load
  | .store => some .store
  | .amo fn size sgn y new => some (.amo fn size sgn y new)
  | .draw tag greedy key m w i n => some (.draw tag greedy key m w i n)
  | .barrive op v => some (.barrive op v)
  | .chunk comb phase => some (.chunk comb phase)
  | _ => none

/-- A request answered: status 0 with the bytes read where it was performed, 16 or 17 where a draw so performed diverged, else one
more than its sub-cause. What was performed is remembered, so that it is performed once (R353, R381). -/
def State.answerRemote (s : State) (msg : RemoteMsg) (status data : Nat) : State :=
  let d := BitVec.ofNat 256 data
  { s with outbox := s.outbox ++ [OutMsg.answer msg.source msg.seq status d], router := if status = 0 || 16 ≤ status then { s.router with seen := s.router.seen ++ [(msg.source, msg.queue, msg.seq, status, d)] } else s.router }

/-- The answer to a request that found `old` at its home, whose draw unit is `unit`: the bytes read, or what a draw's merge
there diverged by; `s` is the machine before it and `s1` the machine it left (R353). -/
def State.answerDone (s s1 : State) (msg : RemoteMsg) (kind : ReqKind) (unit old : Nat) : State :=
  match kind with
  | .draw _ _ _ _ _ _ _ =>
    let split := splitAnswer (s.drawSplits unit kind msg.mask.toNat old)
    (s1.spend unit 3 (· == 128)).answerRemote msg split.1 (if split.1 = 0 then old else split.2)
  | _ => s1.answerRemote msg 0 old

/-- A WAIT or BWAIT of another module as it is held here. -/
def remoteWaiter (q : Nat) (msg : RemoteMsg) (barrier : Option Nat) (cond : Nat) (mask cmp : Word) : Waiter :=
  { core := 0, ctx := 0, queue := msg.queue, spad := none, addr := msg.addr, size := msg.size, cond := cond, mask := mask, cmp := cmp, barrier := barrier, deadline := none, slotOwner := q, queued := false, asker := some (msg.source, msg.seq) }
/-- A wait that its module withdraws leaves its home; nothing is answered (R373). -/
def State.dropRemote (s : State) (msg : RemoteMsg) : State :=
  { s with waiters := s.waiters.filter (fun w => !(w.asker == some (msg.source, msg.seq) && w.queue == msg.queue)) }
/-- It is held, unless it is held already or the home is full (R374), and tested. -/
def State.holdRemote (s : State) (w : Waiter) : State :=
  if s.waiters.contains w || !s.maySend w then s
  else ({ s with waiters := s.waiters ++ [w] }).testWaiter w

/-- A request performed under the key of an owner slot of this module (R380); a load of policy L1 allocate that misses fills
the whole line, every other only its sector (R188). A counter is read as a core of this module would read it (R192). -/
def State.performRemote (s : State) (q : Nat) (msg : RemoteMsg) : State :=
  match s.place (s.modnum * 2 ^ 44 + msg.addr) with
  | .local_ off =>
    let key := s.slotKey q
    let sector := off / 32 * 32
    match msg.kind with
    | .wait cond mask cmp => s.holdRemote (remoteWaiter q msg none cond mask cmp)
    | .bwait gen => s.holdRemote (remoteWaiter q msg (some gen) 0 0 0)
    | .probe => s.answerRemote msg 0 (((s.cluster (homeCluster off)).find (off / 128)).elim 0 L2Line.stateWord)
    | k =>
      match remoteKind k with
      | none => s
      | some kind =>
        let s1 := if kind == .load then (s.homeRead sector 32 key msg.full).1 else s
        match s1.atHomeNow kind sector key msg.mask.toNat msg.data.toNat with
        | .done s2 d => s1.answerDone s2 msg kind (Config.cores + homeCluster off) d
        | .fault sub _ => s1.answerRemote msg (sub + 1) 0
        | .wait => s
  | .counter c off =>
    match (if msg.kind == .load then s.counterLoad c (off / 32 * 32) msg.mask.toNat msg.unit else none) with
    | some v => s.answerRemote msg 0 v
    | none => s.answerRemote msg 1 0
  | _ => s.answerRemote msg 1 0

/-- REMOTE_REQUEST (R373, R380, R381, R384, R395). -/
def execRemoteRequest (msg : RemoteMsg) (s : State) : Host.Outcome State Fault Refusal :=
  .next (
    if s.router.off || msg.sentAt + 2 ^ 19 < s.now then s
    else if msg.kind == .withdraw then s.dropRemote msg
    else match s.router.seen.find? (fun (e : Nat × Nat × Nat × Nat × BitVec 256) => e.1 == msg.source && e.2.1 == msg.queue && e.2.2.1 == msg.seq) with
      | some (_, _, _, status, data) => { s with outbox := s.outbox ++ [OutMsg.answer msg.source msg.seq status data] }
      | none =>
        if s.answersHibernating msg.owner then s.answerRemote msg 5 0
        else match s.slotOf msg.owner with
          | none => s.answerRemote msg 3 0
          | some q => s.performRemote q msg)

/-! ### Links and paths -/

/-- A path crosses one to three routers, and leaves by one of the module's 36 ports (R11, R285). -/
def pathGood (l : List Nat) : Bool := !l.isEmpty && decide (l.length ≤ 3) && decide (l.headD 0 < 36)

/-- The path counts that PATHS reports, of the first module of each group that has a path (R285, R438). -/
def State.notePaths (s : State) : State :=
  (List.range 3).foldl (fun s w =>
    s.setHreg (0x38A0 + 8 * w) (BitVec.ofNat 64 ((List.range 32).foldl (fun v g =>
      let n := match s.router.paths.find? (fun (e : Nat × Map (List Nat)) => e.1 / 32 == 32 * w + g && !e.2.isEmpty) with
        | some e => min 4 e.2.length - 1
        | none => 0
      v ||| (n <<< (2 * g))) 0))) s

/-- A module's paths by number: at most four, those that cross the fewest routers first (R285). -/
def numberPaths (l : List (List Nat)) : Map (List Nat) :=
  ((([1, 2, 3].flatMap (fun n => l.filter (fun p => p.length == n))).take 4).zipIdx).map (fun (e : List Nat × Nat) => (e.2, e.1))

/-- The flits that wait at a failed port go on, in their order, at a substitute port: which of those still up is free, since
the wiring is outside the model (R382; log 182). Where none is up they wait. -/
def Router.reroute (r : Router) (port free : Nat) : Router :=
  let up := (List.range 36).filter (fun p => !r.linksDown.contains p)
  match up[(Config.freeBits free 41).toNat % up.length]? with
  | some p => { r with waiting := Tab.put (Tab.erase r.waiting port) p (Tab.get r.waiting 0 p + Tab.get r.waiting 0 port) }
  | none => r
/-- An own link taken down (R382, R392). -/
def State.takeDown (s : State) (link : Nat) : State :=
  let r := { s.router with linksDown := s.router.linksDown ++ [link], failed := Tab.erase s.router.failed link }
  ({ s with router := r.reroute link s.free, free := s.free + 1 }).log 0 0x0400 5 1 0 0 (BitVec.ofNat 64 link)

/-- LINK_RETRY: a replay of a link's held flits is counted (R381, R442). Where it is the sixteenth in a row that fails, the
link is taken down (R382). Whether the replay is taken at the link's other end is a free choice (log 4). -/
def execLinkRetry (link : Nat) (s : State) : Host.Outcome State Fault Refusal :=
  .next (if 36 ≤ link || s.router.linksDown.contains link then s
    else
      let s0 : State := { s with free := s.free + 1 }
      let s1 := s0.setHreg (0x5900 + 8 * link) (s.hreg (0x5900 + 8 * link) + 1)
      let n := if Config.freeChoice s.free 40 then 0 else Tab.get s.router.failed 0 link + 1
      if 16 ≤ n then s1.takeDown link else { s1 with router := { s1.router with failed := Tab.set s1.router.failed 0 link n } })

/-- LINK_DOWN (R382, R392): a link loses lane lock, or, numbered from 36 on, another router's link that paths of this one
cross is down, which that router logs. -/
def execLinkDown (link : Nat) (s : State) : Host.Outcome State Fault Refusal :=
  .next (if s.router.linksDown.contains link then s
    else if 36 ≤ link then { s with router := { s.router with linksDown := s.router.linksDown ++ [link] } }
    else s.takeDown link)

/-- ROUTE_REMOVE: every path that used a link taken down leaves the route table (R382). -/
def execRouteRemove (link : Nat) (s : State) : Host.Outcome State Fault Refusal :=
  .next (
    if !s.router.linksDown.contains link then s
    else
      let paths := s.router.paths.map (fun (e : Nat × Map (List Nat)) => (e.1, e.2.filter (fun (p : Nat × List Nat) => !p.2.contains link)))
      let gone := (paths.filter (fun (e : Nat × Map (List Nat)) => e.2.isEmpty)).map (·.1)
      let pathless := gone.foldl (fun (m : Map Nat) k => if (Tab.find? m k).isSome then m else Tab.put m k s.now) s.router.pathless
      ({ s with router := { s.router with paths := paths.filter (fun (e : Nat × Map (List Nat)) => !e.2.isEmpty), pathless := pathless } }).notePaths)

/-- The modules that a sector of a request waits for: of a multicast store the members that have not answered (R385). -/
def Request.awaited (r : Request) (p : Part) : List Nat :=
  if !p.sent || p.done || p.fault.isSome then [] else if p.awaits.isEmpty then [r.module] else p.awaits
/-- Every sector of a request that waits for a module that `gone` picks faults with a sub-cause (R383, R385). -/
def State.failAway (s : State) (id sub : Nat) (gone : Nat → Bool) : State :=
  match Tab.find? s.reqs id with
  | none => s
  | some r => (List.range r.parts.length).foldl (fun s i =>
      match Tab.find? s.reqs id with
      | none => s
      | some r => match r.parts[i]? with
        | some p => if (r.awaited p).any gone then s.faultPart id r i sub true else s
        | none => s) s

/-- REMOTE_NO_ANSWER: a REACHABLE module, of a multicast store any member, has not answered within 2^20 ns of the sending
(R383, R384, R385, R392). -/
def execRemoteNoAnswer (req : Nat) (s : State) : Host.Outcome State Fault Refusal :=
  .next (match Tab.find? s.reqs req with
    | none => s
    | some r =>
      match r.sentAt with
      | none => s
      | some t =>
        let silent := fun (m : Nat) => Tab.get s.router.modules .lost m == .reachable
        match r.parts.findSome? (fun p => ((r.awaited p).find? silent).map (·, p.firstByte)) with
        | none => s
        | some (m, addr) =>
          if s.now < t + 2 ^ 20 then s
          else (s.failAway req 5 silent).log 0 0x0400 5 3 (s.gangOwner r.gang) (BitVec.ofNat 64 addr) (BitVec.ofNat 64 m))

/-! ### Multicast groups (R288, R438) -/

/-- MCLOAD (R438). -/
def execMcload (value : BitVec 64) (s : State) : Host.Outcome State Fault Refusal :=
  .next (
    let g := bits value.toNat 63 56
    let at_ := bits value.toNat 55 6 * 64
    s.hostWrite 0x3890 0 value true (fun s0 =>
      if !s0.hbmRange at_ 384 then s0
      else
        let map := s0.deviceRead at_ 384
        let s := s0.deviceSeen at_ 384
        { s with groups := Tab.set s.groups [] g ((List.range 3072).filter (fun m => map.testBit m)) }))

/-! ### Route-1 chunks (R164, R297, R370, R424) -/

/-- ROUTE1_CHUNK_APPLY: the collective engine takes the first chunk of a core's collective queue. It goes on as a store request
of Q0 of the strand that issued it, without a credit, in the place of its KEPI: to its home on this module, or to another
(R164, R297, R321, R424). After a restart a chunk of a strand inside its supply handler waits for its TRET (R423). -/
def execRoute1ChunkApply (core : Nat) (s : State) : Host.Outcome State Fault Refusal :=
  .next (match (s.core core).collq with
    | [] => s
    | k :: rest =>
      let strand := (s.locate k.gang k.member k.slot).bind (fun e => s.strand e.1 e.2)
      if (strand.map (·.resumed)).getD false || !s.engineRuns k.gang k.member k.slot then s
      else
        let s1 := s.mapCore core (fun c => { c with collq := rest })
        let away := match s1.place k.addr with
          | .remote _ _ => true
          | _ => false
        { s1 with reqs := Tab.put s1.reqs k.id { core := core, ctx := k.ctx, gang := k.gang, member := k.member, slot := k.slot, queue := 0, kind := .chunk k.comb (k.addr % 4), space := 3, parts := k.parts, remote := away, orphan := strand.isNone, slotOwner := k.slotOwner } })

end Sys2Proof.Machine
end

