-- ==== Sys2Proof/Machine/Collective.lean ====
section
/-! DEFINITION. Collective graphs: loading one (R289 to R292), replays (R266, R290 to R296), stragglers (R388), failures
(R386, R387, R389, R390), and what becomes of them with a module that is lost or hibernates (R383). -/
namespace Sys2Proof.Machine
open Sys2Proof

/-! ### Loading a graph (R289 to R292) -/

/-- The bytes of an element of a reduction (Table 3). -/
def combSize (comb d : Nat) : Nat := if comb = 7 || comb = 8 then 32 else if comb = 9 then 8 + 4 * d else 4

/-- The graph in an image: its number, and the graph, or none where the header or a record breaks a rule that its own
words show. -/
def graphHeader (image : Nat) : Nat × Graph × Nat :=
  let word := fun (i : Nat) => bits image (64 * i + 63) (64 * i)
  let w := word 0
  (bits w 55 48, { loose := bits w 47 46 = 1, texp := bits w 45 41, comb := bits w 40 37, dim := bits w 36 28, root := bits w 27 16, tag := w % 65536, vit := if (word 1).testBit 50 then some (bits (word 1) 63 51) else none, flag := word 2 % 2 ^ 56, comp := bits (word 3) 55 6 * 64, log2n := word 3 % 64, ops := [] }, word 1 % 1024)
/-- Whether a header keeps R289. -/
def headerGood (image : Nat) : Bool :=
  let word := fun (i : Nat) => bits image (64 * i + 63) (64 * i)
  let w := word 0
  let mode := bits w 47 46
  let comb := bits w 40 37
  let d := bits w 36 28
  bits w 63 56 == 1 && decide (mode ≤ 1) && (if mode = 1 then decide (10 ≤ bits w 45 41) else bits w 45 41 == 0) && decide (comb ≤ 9) &&
  (if comb = 9 then decide (1 ≤ d) && decide (d ≤ 256) else d == 0) && bits (word 1) 49 10 == 0 && word 1 % 1024 != 0 &&
  bits (word 2) 63 56 == 0 && word 2 % 8 == 0 && bits (word 3) 63 56 == 0 && bits image 511 256 == 0

/-- An operation record (R290, Table 2); a successor index of 0x3FF means none. -/
def collOp (image : Nat) : CollOp :=
  let word := fun (i : Nat) => bits image (64 * i + 63) (64 * i)
  { kind := bits (word 0) 63 60, peer := bits (word 0) 55 44, opx := bits (word 0) 41 32, len := bits (word 0) 31 16, dep := word 0 % 65536, sbase := bits (word 1) 63 61, soff := word 1 % 2 ^ 32, dbase := bits (word 2) 63 61, doff := word 2 % 2 ^ 32, ma := bits (word 3) 63 52, mb := bits (word 3) 51 40, succs := (([bits (word 3) 39 30, bits (word 3) 29 20, bits (word 3) 19 10, word 3 % 1024]).filter (· ≠ 0x3FF)).dedup }
/-- How many chunks an operation expects (R291). -/
def CollOp.expects (o : CollOp) (own : Nat) : Nat :=
  if o.kind = 1 then b2n (o.ma != own) + b2n (o.mb != own) else if o.kind = 3 then 1 else 0
/-- Whether an operation record keeps R290 to R292 in a graph. The group of a multicast is PEER [7:0]. LEN 1 under COMB 7 and 8
is asked of a REDUCE alone, since R292 is about the chunks that a REDUCE treats: whether the other kinds of such a graph
may carry longer chunks R292 does not say, and the model accepts them (log 178). -/
def opGood (image own : Nat) (mcast : Bool) (g : Graph) (i : Nat) (o : CollOp) : Bool :=
  let word := fun (k : Nat) => bits image (64 * k + 63) (64 * k)
  let size := combSize g.comb g.dim
  decide (o.kind ≤ 4) && bits (word 0) 59 56 == 0 && bits (word 0) 43 42 == 0 && decide (1 ≤ o.len) && decide (o.len ≤ 2048) &&
  bits (word 1) 60 32 == 0 && bits (word 2) 60 32 == 0 && o.soff % 32 == 0 && o.doff % 32 == 0 &&
  o.succs.all (fun k => decide (k < g.ops.length)) &&
  (if o.kind = 1 then o.ma != o.mb && g.comb != 0 && 32 * o.len % size == 0 && (!(g.comb == 7 || g.comb == 8) || o.len == 1)
   else o.ma == 0 && o.mb == 0) &&
  (o.kind != 0 || o.peer != own) && (o.kind != 2 || mcast) &&
  o.dep == (g.ops.filter (fun p => p.succs.contains i)).length + o.expects own

/-- GLOAD (R289, R301, R444): GSTAT 1 for an image that breaks a rule, 2 where the engine lacks room, 3 where a replay of its
number is held. -/
def execGload (addr : Nat) (s : State) : Host.Outcome State Fault Refusal :=
  .next (
    let at_ := bits addr 55 6 * 64
    let stat := fun (s : State) (v : Nat) => s.setHreg 0x038 (BitVec.ofNat 64 v)
    s.hostWrite 0x030 0 (BitVec.ofNat 64 addr) true (fun s0 =>
    if !s0.hbmRange at_ 64 then stat s0 1
    else
      let head := s0.deviceRead at_ 64
      let (num, g0, nops) := graphHeader head
      if !headerGood head || !s0.hbmRange at_ (64 + 32 * nops) then stat (s0.deviceSeen at_ 64) 1
      else
        let s := s0.deviceSeen at_ (64 + 32 * nops)
        let images := (List.range nops).map (fun i => s.deviceRead (at_ + 64 + 32 * i) 32)
        let g := { g0 with ops := images.map collOp }
        let good := images.zipIdx.all (fun (e : Nat × Nat) => opGood e.1 s.modnum ((s.hreg 0x020).getLsbD 6) g e.2 (collOp e.1))
        let used := s.coll.graphs.foldl (fun n e => if e.1 = num then n else n + e.2.ops.length) 0
        if !good then stat s 1
        else if 16384 < used + nops then stat s 2
        else if s.coll.replays.any (fun r => r.graph == num) then stat s 3
        else
          let c := s.coll
          stat { s with coll := { c with graphs := Tab.put c.graphs num g, steps := Tab.set c.steps 0 num 0, bad := c.bad.filter (· ≠ num), held := c.held.filter (fun m => m.graph != num), starts := c.starts.filter (fun (m : Nat × Nat × Word) => m.1 != num), aborts := c.aborts.filter (fun m => m.graph != num), flushed := c.flushed.filter (fun (m : Nat × Nat × Nat) => m.1 != num), lates := c.lates.filter (fun m => m.graph != num), forwarded := c.forwarded.filter (fun (m : Nat × Nat) => m.1 != num) } } 0))

/-! ### Replays -/

/-- Whether the engine works on a replay: it is the first of its graph, has not failed, and the module is not halted, or
its owner has resumed (R294, R399, R412). -/
def State.replayRuns (s : State) (r : Replay) : Bool :=
  r.status = 0 && ((s.coll.replays.find? (fun x => x.graph == r.graph)).map (·.step)) == some r.step &&
  (s.supply < 3 || (s.supply = 7 && !s.power.unresumed.contains r.ownerNum))

/-- The state of the router for a module; one that is not listed is LOST (R383). -/
def State.moduleState (s : State) (m : Nat) : ModuleState := Tab.get s.router.modules .lost m

/-- A replay that waits on a LOST module fails (R386); so does one whose graph has an uncorrectable word, with FAULT and
HOME_UNCORRECTABLE (R358; log 62). -/
def State.failLost (s : State) (graph step : Nat) : State :=
  match s.replayOf graph step with
  | none => s
  | some r =>
    if s.coll.bad.contains graph then s.failReplay r { s.abortOf r 3 0 0 with sub := 6 } else
    let unrun := (s.graphOf graph).ops.zipIdx.filter (fun (e : CollOp × Nat) => !r.ran.contains e.2)
    match unrun.findSome? (fun (e : CollOp × Nat) => ((s.opModules e.1).find? (fun m => s.moduleState m == .lost)).map (fun m => (m, e.2))) with
    | some (m, i) => s.failReplay r (s.abortOf r 5 m i)
    | none => s

/-! ### Operations -/

/-- An address of the base table with an offset; one beyond the address space is not mapped. -/
def Replay.address (r : Replay) (base off : Nat) : Nat := (r.bases.getD base 0).toNat + off
/-- A chunk read from its source for the replay's owner (R294). -/
def State.collRead (s : State) (r : Replay) (base off len : Nat) : State × Except (Nat × Nat) Nat :=
  let a := r.address base off
  if 2 ^ 56 < a + 32 * len then (s, .error (0, a)) else s.agentRead r.owner a (32 * len)
/-- Bytes a replay writes, sector by sector: those on another module are sent there, and the replay's completion waits for
their answers (R294, R296). -/
def State.replayWrite (s : State) (r : Replay) (op : Option Nat) (a n v : Nat) : State × Option (Nat × Nat) :=
  (sectorRuns a n).foldl (fun (x : State × Option (Nat × Nat)) run =>
    match x with
    | (s, some e) => (s, some e)
    | (s, none) =>
      let y := (v >>> (8 * run.2.2)) % 2 ^ (8 * run.2.1)
      match s.writtenAway r.owner run.1 with
      | none => s.agentWrite r.owner run.1 run.2.1 y
      | some (m, off) =>
        let part : Part := { addr := m * 2 ^ 44 + off / 32 * 32, mask := BitVec.ofNat 32 (maskRange (off % 32) run.2.1), data := BitVec.ofNat 256 (y <<< (8 * (off % 32))) }
        let q : Request := { core := r.strand.1, ctx := 4, gang := 0, member := 0, slot := 0, queue := 4, kind := .collWrite r.graph r.step op, space := 3, parts := [part], remote := true, module := m, slotOwner := r.owner }
        ({ s with reqs := Tab.put s.reqs (s.nextReq + 1) q, nextReq := s.nextReq + 1 }, none)) (s, none)
/-- A chunk written to the destination of operation `i`. -/
def State.collWrite (s : State) (r : Replay) (i base off len v : Nat) : State × Option (Nat × Nat) :=
  let a := r.address base off
  if 2 ^ 56 < a + 32 * len then (s, some (0, a)) else s.replayWrite r (some i) a (32 * len) v

/-- One element of a reduction (R292, Table 3): `a` is the side of the lower module number. -/
def combElem (comb u : Nat) (pick : Bool) (d a b : Nat) : Nat :=
  let words := fun (v : Nat) => (List.range (d + 2)).map (fun i => bits v (32 * i + 31) (32 * i))
  let triple := fun (v : Nat) => Triple.mk (bits v 63 32) (v % 2 ^ 32) (bits v 95 64)
  match comb with
  | 1 => (fmt32.add a b).1
  | 2 => (a + b) % 2 ^ 32
  | 3 => (fmt32.least false a b).1
  | 4 => (fmt32.least true a b).1
  | 5 => wrap 32 (min (sint 32 a) (sint 32 b))
  | 6 => wrap 32 (max (sint 32 a) (sint 32 b))
  | 9 => ofBytes ((rescaleMerge (words a) (words b)).flatMap (bytesOf 4))
  | _ =>
    let t := (mergeTriple (comb == 8) (triple a) (triple b) u pick).1
    t.high ||| (t.i <<< 64)
/-- Two chunks of `n` bytes reduced element by element. The elements of COMB 9 follow each other at 8 + 4D bytes, as R292's array
has them; with D odd every second one then starts off a multiple of 8, against the last sentence of R238. Which of the two
rules gives way is open: the array's spacing stands, the model's choice (log 179). -/
def combine (g : Graph) (u : Nat) (pick : Bool) (n a b : Nat) : Nat :=
  let size := combSize g.comb g.dim
  ofBytes ((List.range (n / size)).flatMap (fun e =>
    let x := fun (v : Nat) => bits v (8 * size * e + 8 * size - 1) (8 * size * e)
    bytesOf size (combElem g.comb u pick g.dim (x a) (x b))))
/-- A chunk of identities (R295). -/
def identityChunk (g : Graph) (n : Nat) : Nat :=
  let size := combSize g.comb g.dim
  let one := match g.comb with
    | 1 => 0x80000000
    | 3 => 0x7F800000
    | 4 => 0xFF800000
    | 5 => 0x7FFFFFFF
    | 6 => 0x80000000
    | 7 => Triple.empty.high ||| (Triple.empty.i <<< 64)
    | 8 => Triple.empty.high ||| (Triple.empty.i <<< 64)
    | 9 => 0xFF800000
    | _ => 0
  ofBytes ((List.range (n / size)).flatMap (fun _ => bytesOf size one))
/-- The coin of a COMB 7 merge (R293). -/
def Replay.coin (r : Replay) (g : Graph) (op module : Nat) : Nat :=
  drawU32 (r.key.getD 0).toNat (g.tag * 2 ^ 48 + r.step % 65536 * 2 ^ 32 + op * 2 ^ 16 + module)

/-- The root REDUCE of a graph on module ROOT (R388). -/
def State.rootOp (s : State) (g : Graph) : Option Nat :=
  if g.root = s.modnum then g.ops.findIdx? (fun o => o.kind == 1 && o.peer == g.root) else none

/-- An operation's count falls by 1 (R291). -/
def Replay.count (r : Replay) (g : Graph) (i : Nat) : Nat := Tab.get r.counts ((g.ops[i]?).elim 0 (·.dep)) i
def Replay.decrement (r : Replay) (g : Graph) (i : Nat) : Replay := { r with counts := Tab.put r.counts i (r.count g i - 1) }
/-- The successors of an operation are decremented. -/
def Replay.release (r : Replay) (g : Graph) (i : Nat) : Replay :=
  ((g.ops[i]?).elim [] (·.succs)).foldl (fun r k => r.decrement g k) r

/-- The operation of a replay that has begun and goes on. -/
def Replay.begun (r : Replay) : Option Nat := r.running.filter (fun i => !r.ran.contains i)

/-- An arriving chunk's place among an operation's inputs: 2 op for MA or a RECV, 2 op + 1 for MB. -/
def inputKey (g : Graph) (m : ChunkMsg) : Option Nat :=
  match g.ops[m.op]? with
  | none => none
  | some o =>
    if o.kind = 1 then (if m.source = o.ma then some (2 * m.op) else if m.source = o.mb then some (2 * m.op + 1) else none)
    else if o.kind = 3 then some (2 * m.op) else none

/-- A late addend at the root (R388): combined into the destination while the successors are held; held itself while the root
REDUCE has not run; else discarded, with its flush count and what it lacked noted (R390). -/
def State.addLate (s : State) (m : ChunkMsg) : State :=
  let hold := { s with coll := { s.coll with lates := s.coll.lates ++ [m] } }
  let word := BitVec.ofNat 64 (((m.source % 4096) <<< 52) ||| graphWord m.graph m.step)
  let discarded := fun (s : State) => s.log 0 0x0401 5 6 0 0 word
  match s.replayOf m.graph m.step with
  | none => if m.step ≤ Tab.get s.coll.steps 0 m.graph then discarded s else hold
  | some r =>
    let g := s.graphOf m.graph
    match s.rootOp g with
    | none => s
    | some i =>
      if r.status ≠ 0 then discarded s
      else if !r.ran.contains i then hold
      else
      let noted := { r with flushCount := r.flushCount + m.flushes, rootFlushes := r.rootFlushes + m.flushes, contrib := r.contrib ||| m.missing ||| (1#256 <<< (m.source % 256)) }
      match r.rootHeld, g.ops[i]? with
        | some (_, _), some o =>
          match s.collRead r o.dbase o.doff o.len with
          | (s1, .error e) => s1.failReplay r { s1.abortOf r 3 0 i with addr := BitVec.ofNat 64 e.2, sub := e.1, dside := true }
          | (s1, .ok old) =>
            let v := combine g (r.coin g i m.source) (Config.freeChoice s1.free 9) (32 * o.len) old (ofBytes m.data)
            match ({ s1 with free := s1.free + 1 }).collWrite r i o.dbase o.doff o.len v with
            | (s2, some e) => s2.failReplay r { s2.abortOf r 3 0 i with addr := BitVec.ofNat 64 e.2, sub := e.1, dside := true }
            | (s2, none) =>
              let r1 := { noted with added := r.added + 1 }
              let r2 := if r1.rootFlushes ≤ r1.added then { r1.release g i with rootHeld := none } else r1
              (s2.setReplay r2).log 0 0x0401 5 5 r.ownerNum 0 word
        | _, _ => discarded (s.setReplay { noted with discarded := r.discarded + 1 })

/-- An input that reached a REDUCE after its flush goes on as a late addend to the root (R388). -/
def State.forwardLate (s : State) (m : ChunkMsg) : State :=
  let root := (s.graphOf m.graph).root
  if root = s.modnum then s.addLate m else { s with outbox := s.outbox ++ [OutMsg.late root m] }

/-- A chunk given to the replay of its step. -/
def State.deliver (s : State) (r : Replay) (m : ChunkMsg) : State :=
  let g := s.graphOf m.graph
  match inputKey g m with
  | none => s
  | some k =>
    if (Tab.find? r.inputs k).isSome then s
    else if r.ran.contains m.op then s.forwardLate m
    else s.setReplay ({ r with inputs := Tab.put r.inputs k (m.data, m.flushes), missing := Tab.set r.missing 0 k m.missing }.decrement g m.op)

/-- A chunk sent to an operation of another module, or of every member of a group, under the replay's owner; the own copy of a
multicast arrives at once. -/
def State.sendChunk (s : State) (r : Replay) (o : CollOp) (group : Bool) (data flushes : Nat) (missing : BitVec 256) : State :=
  let m : ChunkMsg := { graph := r.graph, step := r.step, op := o.opx, source := s.modnum, owner := r.ownerNum, flushes := flushes, missing := missing, data := bytesOf (32 * o.len) data }
  if !group then { s with outbox := s.outbox ++ [OutMsg.chunk o.peer false m] }
  else
    let s1 := { s with outbox := s.outbox ++ [OutMsg.chunk (o.peer % 256) true m] }
    if (Tab.get s.groups [] (o.peer % 256)).contains s.modnum then
      match s1.replayOf r.graph r.step with
      | some r1 => s1.deliver r1 m
      | none => s1
    else s1

/-- An operation completes: its successors are decremented, the root's only when nothing flushed is outstanding; the late
addends that came before it are then taken (R291, R388). -/
def State.opDone (s : State) (graph step i : Nat) : State :=
  match s.replayOf graph step with
  | none => s
  | some r =>
    let g := s.graphOf graph
    let r1 := { r with ran := r.ran ++ [i] }
    if s.rootOp g = some i then
      let s1 := if r1.rootFlushes ≤ r1.added then s.setReplay (r1.release g i)
        else s.setReplay { r1 with rootHeld := some (i, s.now) }
      let mine := fun (m : ChunkMsg) => m.graph == graph && m.step == step
      (s.coll.lates.filter mine).foldl State.addLate { s1 with coll := { s1.coll with lates := s1.coll.lates.filter (!mine ·) } }
    else s.setReplay (r1.release g i)

/-- A failed access of an operation. -/
def State.opFault (s : State) (graph step i : Nat) (e : Nat × Nat) (dside : Bool) : State :=
  match s.replayOf graph step with
  | none => s
  | some r => s.failReplay r { s.abortOf r 3 0 i with addr := BitVec.ofNat 64 e.2, sub := e.1, dside := dside }

/-- An operation that has sent its chunks completes, or fails with FAULT where a module that they go to holds no slot of its
owner: whether one refuses is outside the model, free, and answered at once (R380; log 8). -/
def State.opSent (s : State) (graph step i : Nat) : State :=
  let s1 : State := { s with free := s.free + 1 }
  if Config.freeChoice s.free 12 then s1.opFault graph step i (2, 0) true else s1.opDone graph step i

/-- An input of a REDUCE: read from the source, arrived, or flushed: its value, its flush count, what it lacks. -/
def State.reduceInput (s : State) (r : Replay) (g : Graph) (i : Nat) (o : CollOp) (side : Nat) : State × Except (Nat × Nat) (Nat × Nat × BitVec 256) :=
  let m := if side = 0 then o.ma else o.mb
  if m = s.modnum then
    match s.collRead r o.sbase o.soff o.len with
    | (s1, .error e) => (s1, .error e)
    | (s1, .ok v) => (s1, .ok (v, 0, 0))
  else match Tab.find? r.inputs (2 * i + side) with
    | some (data, n) => (s, .ok (ofBytes data, n, Tab.get r.missing 0 (2 * i + side)))
    | none => (s, .ok (identityChunk g (32 * o.len), 1, 1#256 <<< (m % 256)))

/-- What a REDUCE makes of its two inputs: the value, its flush count, what it lacks (R292, R295, R388). -/
def State.reduced (s : State) (r : Replay) (g : Graph) (i : Nat) (o : CollOp) : State × Except (Nat × Nat) (Nat × Nat × BitVec 256) :=
  match s.reduceInput r g i o 0 with
  | (s1, .error e) => (s1, .error e)
  | (s1, .ok x) =>
    match s1.reduceInput r g i o 1 with
    | (s2, .error e) => (s2, .error e)
    | (s2, .ok y) =>
      let (a, b) := if o.ma ≤ o.mb then (x, y) else (y, x)
      ({ s2 with free := s2.free + 1 }, .ok (combine g (r.coin g i s.modnum) (Config.freeChoice s2.free 9) (32 * o.len) a.1 b.1, x.2.1 + y.2.1, x.2.2 ||| y.2.2))

/-- A REDUCE runs, with a missing input as the identity (R292, R295, R388). -/
def State.runReduce (s : State) (r : Replay) (g : Graph) (i : Nat) (o : CollOp) : State :=
  let flushes := (o.ma != s.modnum && (Tab.find? r.inputs (2 * i)).isNone) || (o.mb != s.modnum && (Tab.find? r.inputs (2 * i + 1)).isNone)
  match s.reduced r g i o with
  | (s1, .error e) => s1.opFault r.graph r.step i e false
  | (s1, .ok (v, n, missing)) =>
    let r1 := { r with flushCount := r.flushCount + n, rootFlushes := if o.peer = s.modnum then r.rootFlushes + n else r.rootFlushes, contrib := r.contrib ||| missing, flushed := if flushes then r.flushed ++ [i] else r.flushed }
    let s2 := s1.setReplay r1
    let s3 := if flushes then { s2 with coll := { s2.coll with flushed := s2.coll.flushed ++ [(r.graph, r.step, i)] } } else s2
    if o.peer = s.modnum then
      match s3.collWrite r i o.dbase o.doff o.len v with
      | (s4, some e) => s4.opFault r.graph r.step i e true
      | (s4, none) => s4.opDone r.graph r.step i
    else (s3.sendChunk r o false v n missing).opSent r.graph r.step i

/-- An operation runs (R290). A chunk that arrived with another length than the operation's LEN is cut, or continued with bytes
of 0: R290 says that every chunk is LEN × 32 bytes long and not what an engine does with one that is not, so this is
the model's choice (log 180). -/
def State.runOp (s : State) (r : Replay) (g : Graph) (i : Nat) (o : CollOp) : State :=
  let copied := fun (s : State) (v : Nat) => match s.collWrite r i o.dbase o.doff o.len v with
    | (s1, some e) => s1.opFault r.graph r.step i e true
    | (s1, none) => s1.opDone r.graph r.step i
  if o.kind = 1 then s.runReduce r g i o
  else if o.kind = 3 then copied s (ofBytes ((Tab.find? r.inputs (2 * i)).elim [] (·.1)))
  else match s.collRead r o.sbase o.soff o.len with
    | (s1, .error e) => s1.opFault r.graph r.step i e false
    | (s1, .ok v) => if o.kind = 4 then copied s1 v else (s1.sendChunk r o (o.kind == 2) v 0 0).opSent r.graph r.step i

/-- The operation of a replay that runs when a warning comes stops at a unit of 32 bytes, which one being free: the units before it
are written, and stay (R399). -/
def State.stopUnit (s : State) (r : Replay) : State :=
  let g := s.graphOf r.graph
  match r.begun.bind (fun i => (g.ops[i]?).map (i, ·)) with
  | none => s
  | some (i, o) =>
    let n := (Config.freeBits s.free 13).toNat % max 1 o.len
    let write := fun (x : State × Except (Nat × Nat) Nat) => match x with
      | (s, .ok v) => (s.collWrite r i o.dbase o.doff n v).1
      | (s, .error _) => s
    let s1 := { s with free := s.free + 1 }
    if o.kind = 3 then write (s1, .ok (ofBytes ((Tab.find? r.inputs (2 * i)).elim [] (·.1))))
    else if o.kind = 4 then write (s1.collRead r o.sbase o.soff n)
    else if o.kind = 1 && o.peer = s.modnum then
      let x := s1.reduced r g i o
      write (x.1, x.2.map (·.1))
    else s1

/-- The lowest operation of a replay that may run: its count is 0, and a COMB 7 REDUCE holds the start flit (R291,
R293). -/
def Replay.next (r : Replay) (g : Graph) : Option Nat :=
  (List.range g.ops.length).find? (fun i => !r.ran.contains i && r.count g i == 0 &&
    !(((g.ops[i]?).elim 0 (·.kind)) == 1 && g.comb == 7 && r.key.isNone))
/-- The time at which each REDUCE's local predecessors had completed is noted (R295). -/
def State.noteSince (s : State) (graph step : Nat) : State :=
  match s.replayOf graph step with
  | none => s
  | some r =>
    let g := s.graphOf graph
    s.setReplay (g.ops.zipIdx.foldl (fun (r : Replay) (e : CollOp × Nat) =>
      let i := e.2
      let away := b2n (e.1.ma != s.modnum && (Tab.find? r.inputs (2 * i)).isNone) + b2n (e.1.mb != s.modnum && (Tab.find? r.inputs (2 * i + 1)).isNone)
      if e.1.kind = 1 && r.count g i ≤ away && (Tab.find? r.since i).isNone then { r with since := Tab.put r.since i s.now } else r) r)
/-- Operations of a replay run as long as one may (R291, R294). How far the engine comes within a step is free: one that has begun may
still run when the step ends, and goes on with the next event of its graph, REPLAY_COMPLETE among them (log 171). -/
def State.runReplay (s : State) (graph step : Nat) : State :=
  let g := s.graphOf graph
  let s1 := s.failLost graph step
  ((List.range g.ops.length).foldl (fun (s : State) _ =>
    match s.replayOf graph step with
    | none => s
    | some r =>
      if !s.replayRuns r then s
      else match r.begun.or (r.next g) with
        | none => s
        | some i => match g.ops[i]? with
          | some o =>
            let s1 := { s with free := s.free + 1 }
            if Config.freeChoice s.free 13 then s1.setReplay { r with running := some i }
            else (s1.setReplay { r with running := none }).runOp { r with running := none } g i o
          | none => s) s1).noteSince graph step
/-- The first replay of a graph goes on. -/
def State.runGraph (s : State) (graph : Nat) : State :=
  match s.coll.replays.find? (fun r => r.graph == graph) with
  | some r => s.runReplay graph r.step
  | none => s

/-! ### Events -/

/-- Start flits sent to the inputs of a graph's REDUCEs (R293). -/
def State.sendStarts (s : State) (graph step : Nat) (key : Word) : State :=
  let ms := ((((s.graphOf graph).ops.filter (fun o => o.kind == 1)).flatMap (fun o => [o.ma, o.mb])).filter (· ≠ s.modnum)).dedup
  { s with outbox := s.outbox ++ ms.map (fun m => OutMsg.start m graph step key) }

/-- COLL_HANDOFF: a held COLL, its stores published, hands its replay to an engine with room for it (R266, R293, R294).
A replay handed over in a supply or thermal halt is stopped at once (R399). An uncorrectable word of the table read there
leaves COLL without effect, and one of DSEED becomes zero; the strand traps either way (R359; log 181). -/
def execCollHandoff (core ctx : Nat) (s : State) : Host.Outcome State Fault Refusal :=
  .next (match s.strand core ctx with
    | none => s
    | some t =>
      match t.holds with
      | .coll graph table bundle issued :: _ =>
        let (s0, done) := s.writerHalf core ctx 3
        let torn := fun (s : State) (i : TrapInfo) => s.mapStrand core ctx (fun t => { t with due := t.due ++ [{ i with cause := 0x0D, slot := 7, bundle := some bundle }] })
        if !done || (s0.heldTrap core ((s0.strand core ctx).getD t) (List.range 4) false).isSome || 64 ≤ s0.coll.replays.length || s0.supply = 4 || s0.supply = 5 then s0
        else match s0.badWord core table 64 with
        | some w => (torn (s0.release core ctx) { cause := 0x0D, addr := BitVec.ofNat 64 w }).settleEnding t.gang
        | none =>
          let s1 := if (s0.core core).share.bad.contains 7 then torn (s0.mapCore core (fun k => { k with share := k.share.zeroed 7 })) { cause := 0x0D, sub := 3, addr := 7 } else s0
          let step := Tab.get s1.coll.steps 0 graph + 1
          let g := s1.graphOf graph
          let bases := (List.range 8).map (fun i => BitVec.ofNat 64 (s1.spadRead core (table + 8 * i) 8))
          let dseed := (s1.core core).share.dseed
          let root := g.root = s1.modnum
          let c := s1.coll
          let key := if root then some dseed else (c.starts.find? (fun (e : Nat × Nat × Word) => e.1 == graph && e.2.1 == step)).map (·.2.2)
          let r : Replay := { graph := graph, step := step, owner := s1.gangSlot t.gang, ownerNum := s1.gangOwner t.gang, key := key, bases := bases, counts := [], loose := g.loose && s1.featOf t.gang 5, strand := (core, ctx), tStart := issued }
          let mine := fun (h step' : Nat) => h == graph && step' == step
          let s2 := { s1.release core ctx with coll := { c with steps := Tab.set c.steps 0 graph step, replays := c.replays ++ [r], held := c.held.filter (fun m => !mine m.graph m.step), starts := c.starts.filter (fun (e : Nat × Nat × Word) => !mine e.1 e.2.1), aborts := c.aborts.filter (fun m => !mine m.graph m.step) } }
          let s3 := if root then s2.sendStarts graph step dseed else s2
          let s4 := (c.held.filter (fun m => mine m.graph m.step)).foldl (fun (s : State) m =>
            match s.replayOf graph step with
            | some r => s.deliver r m
            | none => s) s3
          let s5 := match c.aborts.find? (fun m => mine m.graph m.step), s4.replayOf graph step with
            | some m, some r => s4.failReplay r m
            | _, _ => s4
          let s6 := if s5.supply = 3 || s5.supply = 6 then
              match s5.replayOf graph step with
              | some r => s5.failReplay r (s5.abortOf r 7 s5.modnum 0)
              | none => s5
            else s5
          (s6.runGraph graph).settleEnding t.gang
      | _ => s)

/-- Flits that only the engine takes are lost with the router off, and where the module does not answer for its memory (R395,
R408). -/
def State.engineAway (s : State) : Bool := s.router.off || s.answersHibernating 0

/-- START_FLIT (R293, R395): it is forwarded whatever its replay has come to. -/
def execStartFlit (graph step key : Nat) (s : State) : Host.Outcome State Fault Refusal :=
  .next (
    let k := BitVec.ofNat 64 key
    if s.engineAway then s
    else
      let s1 := s.sendStarts graph step k
      match s1.replayOf graph step with
      | some r => if r.key.isSome then s1 else (s1.setReplay { r with key := some k }).runGraph graph
      | none =>
        if step ≤ Tab.get s1.coll.steps 0 graph || s1.coll.starts.any (fun (e : Nat × Nat × Word) => e.1 == graph && e.2.1 == step) then s1
        else { s1 with coll := { s1.coll with starts := s1.coll.starts ++ [(graph, step, k)] } })

/-- A collective chunk of another module taken under the owner slot of its sender's number, or answered: HIBERNATING, or
PERMISSION where there is no such slot (R380, R395, R408, R412). -/
def State.takeChunk (s : State) (chunk : ChunkMsg) (take : State → State) : State :=
  let answer := fun (status : Nat) => { s with outbox := s.outbox ++ [OutMsg.answer chunk.source 0 status (BitVec.ofNat 256 (graphWord chunk.graph chunk.step))] }
  if s.router.off then s
  else if s.answersHibernating chunk.owner then answer 5
  else if (s.slotOf chunk.owner).isNone then answer 3
  else take s

/-- CHUNK_ARRIVAL (R291, R294, R387, R388, R412): a chunk is matched to the replay of its step, held for at most two steps
ahead, or discarded as stale; one to a REDUCE that flushed goes on to the root. -/
def execChunkArrival (chunk : ChunkMsg) (s : State) : Host.Outcome State Fault Refusal :=
  .next (
    let late := fun (s : State) =>
      if s.coll.flushed.contains (chunk.graph, chunk.step, chunk.op) then s.forwardLate chunk
      else s.log 0 0x0401 5 4 0 0 (BitVec.ofNat 64 (graphWord chunk.graph chunk.step))
    s.takeChunk chunk fun s =>
    if (Tab.find? s.coll.graphs chunk.graph).isNone then s
    else match s.replayOf chunk.graph chunk.step with
      | some r => if r.status ≠ 0 then late s else (s.deliver r chunk).runGraph chunk.graph
      | none =>
        let step := Tab.get s.coll.steps 0 chunk.graph
        if chunk.step ≤ step then late s
        else if chunk.step ≤ step + 2 then { s with coll := { s.coll with held := s.coll.held ++ [chunk] } }
        else s)

/-- LOOSE_FLUSH (R295). -/
def execLooseFlush (graph step op : Nat) (s : State) : Host.Outcome State Fault Refusal :=
  .next (match s.replayOf graph step with
    | none => s
    | some r =>
      let g := s.graphOf graph
      match g.ops[op]?, Tab.find? r.since op with
      | some o, some t =>
        if !r.loose || !s.replayRuns r || o.kind ≠ 1 || r.ran.contains op || s.now < t + 2 ^ g.texp || (g.comb = 7 && r.key.isNone) then s
        else (s.runReduce r g op o).runGraph graph
      | _, _ => s)

/-- LATE_ADDEND (R380, R388). -/
def execLateAddend (chunk : ChunkMsg) (s : State) : Host.Outcome State Fault Refusal :=
  .next (s.takeChunk chunk (fun s => (s.addLate chunk).runGraph chunk.graph))

/-- ROOT_RELEASE_TIMEOUT: 2^(TEXP + 2) ns after the root REDUCE's inputs became present its successors run (R388). -/
def execRootReleaseTimeout (graph step : Nat) (s : State) : Host.Outcome State Fault Refusal :=
  .next (match s.replayOf graph step with
    | none => s
    | some r =>
      let g := s.graphOf graph
      match r.rootHeld with
      | none => s
      | some (i, t) =>
        if s.now < t + 2 ^ (g.texp + 2) || !s.replayRuns r then s
        else (s.setReplay { r.release g i with rootHeld := none }).runGraph graph)

/-- ABORT_FLIT: the replay of its step ends with the status it carries; one that has not started yet ends when it starts.
The flit is forwarded whatever its replay has come to (R386). -/
def execAbortFlit (msg : AbortMsg) (s0 : State) : Host.Outcome State Fault Refusal :=
  .next (
    if s0.engineAway then s0
    else match s0.replayOf msg.graph msg.step with
      | some r => (s0.failReplay r msg).sendAbort msg
      | none =>
        let s := s0.sendAbort msg
        if msg.step ≤ Tab.get s.coll.steps 0 msg.graph || s.coll.aborts.any (fun m => m.graph == msg.graph && m.step == msg.step) then s
        else { s with coll := { s.coll with aborts := s.coll.aborts ++ [msg] } })

/-! ### Completion (R27, R296, R386, R389, R390) -/

/-- The DETAIL words of a completion record (Table 3). FLUSHED on ROOT is what ADDED is held against there (R388). -/
def Replay.detail (r : Replay) (root : Bool) (status : Nat) : List Nat :=
  if status = 0 then [0, 0, 0, 0, 0]
  else if status = 6 then
    ((min (if root then r.rootFlushes else r.flushCount) 65535 <<< 48) ||| (min r.added 65535 <<< 32) ||| (min r.discarded 65535 <<< 16)) ::
      (List.range 4).map (fun i => bits r.contrib.toNat (64 * i + 63) (64 * i))
  else
    let module := if status = 5 || status = 7 then r.module % 4096 else 0
    let w3 := ((r.origin % 4096) <<< 52) ||| (module <<< 40) ||| ((r.opIndex % 1024) <<< 30)
    if status = 3 then [w3, r.addr.toNat, (b2n r.dside <<< 8) ||| r.sub % 256, 0, 0] else [w3, 0, 0, 0, 0]

/-- The status of a replay that is complete: LATE where its engine flushed or added, or took a flushed input at the
root. -/
def State.replayStatus (s : State) (r : Replay) : Nat :=
  if r.status ≠ 0 then r.status
  else if !r.flushed.isEmpty || 0 < r.added || ((s.rootOp (s.graphOf r.graph)).isSome && 0 < r.flushCount) then 6 else 0

/-- COMPLETION_LOST of a replay's record or FLAG (R27, R392). -/
def State.logLost (s : State) (r : Replay) (a flag : Nat) : State :=
  s.log 0 0x0401 5 8 r.ownerNum (BitVec.ofNat 64 a) (BitVec.ofNat 64 ((flag <<< 63) ||| graphWord r.graph r.step))
/-- The first steps of a replay's end: its vitrine, then its FLAG (R296). -/
def State.closeReplay (s : State) (r : Replay) : State :=
  let g := s.graphOf r.graph
  let status := s.replayStatus r
  let good := status = 0 || status = 6
  let s1 := match g.vit with
    | some i => if good then s.swapVitrine i else s
    | none => s
  let s2 := if g.flag = 0 then s1
    else match s1.replayWrite r none g.flag 8 (if good then r.step else r.step + 2 ^ 63) with
      | (s2, none) => s2
      | (s2, some e) => s2.logLost r e.2 1
  s2.setReplay { r with closing := true }
/-- The last of it: its completion record and log entry (R296, R324). -/
def State.recordReplay (s2 : State) (r : Replay) : State :=
  let g := s2.graphOf r.graph
  let status := s2.replayStatus r
  let words := [(status <<< 48) ||| graphWord r.graph r.step, r.tStart, s2.now] ++ r.detail (s2.rootOp g).isSome status
  let (s3, made) := match s2.ringWrite r.owner g.comp g.log2n (ofBytes (words.flatMap (bytesOf 8))) with
    | (s3, none) => (s3, true)
    | (s3, some e) => (s3.logLost r e.2 0, false)
  let s4 := if status = 0 || !made then s3 else s3.log 0 0x0401 1 status r.ownerNum 0 (BitVec.ofNat 64 (graphWord r.graph r.step))
  ({ s4 with coll := { s4.coll with replays := s4.coll.replays.filter (fun x => !(x.graph == r.graph && x.step == r.step)) } }).runGraph r.graph
/-- The end of a replay: vitrine, FLAG, completion record and log, in that order; the record waits until a FLAG on another
module is answered (R296). -/
def State.endReplay (s : State) (r : Replay) : State :=
  let s1 := if r.closing then s else s.closeReplay r
  if s1.replayWrites r.graph r.step then s1 else s1.recordReplay r

/-- REPLAY_COMPLETE: the first replay of a graph has failed, or has made every operation and released the root's
successors, and every write of it has been performed (R296); until then its operations go on. A vitrine that is not the owner's, or has an uncorrectable
word, makes it end with FAULT (R358, R439). -/
def execReplayComplete (graph step : Nat) (s : State) : Host.Outcome State Fault Refusal :=
  .next (match s.replayOf graph step with
    | none => s
    | some r =>
      let g := s.graphOf graph
      let turn := ((s.coll.replays.find? (fun x => x.graph == graph)).map (·.step)) == some step
      let awake := s.supply < 3 || (s.supply = 7 && !s.power.unresumed.contains r.ownerNum)
      if !turn || !awake || s.replayWrites graph step then s
      else if r.closing || r.status ≠ 0 then s.endReplay r
      else if r.ran.length < g.ops.length || r.rootHeld.isSome then s.runGraph graph
      else
        let own := match g.vit with
          | none => true
          | some i => match Tab.find? s.vitrines i with
            | some v => v.owner == r.ownerNum && !v.bad
            | none => false
        if own then s.endReplay r
        else
          let s1 := s.failReplay r (s.abortOf r 3 0 0)
          match s1.replayOf graph step with
          | some r1 => s1.endReplay r1
          | none => s1)

/-! ### Modules that are lost, hibernate or come back (R383, R386) -/

/-- Every replay with an unrun operation that names a module fails. -/
def State.failPeers (s : State) (m status : Nat) : State :=
  s.coll.replays.foldl (fun (s : State) r =>
    let named := (s.graphOf r.graph).ops.zipIdx.find? (fun (e : CollOp × Nat) => !r.ran.contains e.2 && (s.opModules e.1).contains m)
    match named, s.replayOf r.graph r.step with
    | some e, some r1 => s.failReplay r1 (s.abortOf r1 status m e.2)
    | _, _ => s) s

/-- HIBERNATING_ANSWER (R383, R386). -/
def execHibernatingAnswer (module : Nat) (s : State) : Host.Outcome State Fault Refusal :=
  .next (if s.moduleState module == .lost then s
    else (({ s with router := { s.router with modules := Tab.put s.router.modules module .hibernating } }).failPeers module 7))

/-- MODULE_LOST: a module without a path for 100 µs; the router answers for what is on its way there (R383, R392). -/
def execModuleLost (module : Nat) (s : State) : Host.Outcome State Fault Refusal :=
  .next (match Tab.find? s.router.pathless module with
    | none => s
    | some t =>
      if s.now < t + 100000 then s
      else
        let s1 := ({ s with router := { s.router with modules := Tab.put s.router.modules module .lost, pathless := Tab.erase s.router.pathless module } }).log 0 0x0400 5 2 0 0 (BitVec.ofNat 64 module)
        let s2 := s1.reqs.foldl (fun (s : State) e => s.failAway e.1 3 (· == module)) s1
        s2.failPeers module 5)

/-- PATH_RESTORED (R383): Curator's wiring of paths also ends what was known of their links. -/
def execPathRestored (module : Nat) (paths : List (List Nat)) (s : State) : Host.Outcome State Fault Refusal :=
  .next (if paths.isEmpty || !paths.all pathGood || 3072 ≤ module || module = s.modnum then s
    else
      let ps := numberPaths paths
      let r := s.router
      ({ s with router := { r with modules := Tab.put r.modules module .reachable, paths := Tab.put r.paths module ps, linksDown := r.linksDown.filter (fun l => !ps.any (fun p => p.2.contains l)), failed := r.failed.filter (fun e => !ps.any (fun p => p.2.contains e.1)), pathless := Tab.erase r.pathless module } }).notePaths)

/-- ROUTER_OFF: in HIBERNATED the router goes off when the input cannot supply it (R408). -/
def execRouterOff (s : State) : Host.Outcome State Fault Refusal :=
  .next (if s.supply = 5 then { s with router := { s.router with off := true } } else s)

end Sys2Proof.Machine
end

