-- ==== Sys2Proof/Machine/Image.lean ====
section
/-! DEFINITION. The form in which lines are drained and checkpointed: groups of 32 line images behind a header, and what such a
group decodes to (R186, R402, R410, R418). -/
namespace Sys2Proof.Machine
open Sys2Proof

/-- A line as the drain takes it: its CODE, sectors and 128 bytes, and the uncorrectable words met in it, each with its
address and structure number (R361, R402, R404). -/
structure Drained where
  code : Nat := 15
  sectors : Nat := 4
  data : Nat := 0
  bad : List (Nat × Nat) := []
  deriving DecidableEq, Repr

/-- How many of its sectors are lost. -/
def Drained.lost (d : Drained) : Nat := ((d.bad.map (·.1 / 32)).dedup).length
/-- The bytes of one line of a group: its image in whole sectors. -/
def Drained.image (d : Drained) : List Byte :=
  let image := if d.code = 15 then bytesOf 128 d.data else lineImage d.code d.data
  image ++ List.replicate (32 * d.sectors - image.length) 0#8
/-- A group: its header, then its lines (R402). -/
def groupImage (l : List Drained) : List Byte :=
  bytesOf 32 (l.zipIdx.foldl (fun (v : Nat) (e : Drained × Nat) => v ||| (e.1.code <<< (4 * e.2))) 0) ++ l.flatMap Drained.image

/-- A line from its image (R186). -/
def decodeLine (code : Nat) (image : List Byte) : Nat :=
  let v := ofBytes image
  let bd := fun (x k : Nat) =>
    let base := v % 2 ^ (8 * x)
    (List.range (128 / x)).foldl (fun (d : Nat) e =>
      let delta := sint (8 * k) (bits v (8 * (x + k * e) + 8 * k - 1) (8 * (x + k * e)))
      d ||| (wrap (8 * x) ((base : Int) + delta) <<< (8 * x * e))) 0
  match code with
  | 0 => 0
  | 1 => (List.range 16).foldl (fun (d : Nat) e => d ||| ((v % 2 ^ 64) <<< (64 * e))) 0
  | 2 => bd 8 1
  | 3 => bd 8 2
  | 4 => bd 8 4
  | 5 => bd 4 1
  | 6 => bd 4 2
  | 7 => bd 2 1
  | 8 => ((List.range 32).foldl (fun (a : Nat × Nat) w =>
      if v.testBit w then (a.1 ||| (bits v (32 * a.2 + 31) (32 * a.2) <<< (32 * w)), a.2 + 1) else a) (0, 1)).1
  | _ => v % 2 ^ 1024
/-- The sectors an image of a CODE takes, by its first bytes (R402). -/
def imageLength (code : Nat) (image : List Byte) : Nat :=
  match code with
  | 0 => 0
  | 1 => 1
  | 2 => 1
  | 3 => 2
  | 4 => 3
  | 5 => 2
  | 6 => 3
  | 7 => 3
  | 8 => imageSectors (4 + 4 * popCount 32 (ofBytes (image.take 4)))
  | _ => 4
/-- The lines of a group at the head of a stream, and the rest of the stream. -/
def decodeGroup (stream : List Byte) : List Nat × List Byte :=
  let hdr := ofBytes (stream.take 32)
  (List.range 32).foldl (fun (a : List Nat × List Byte) l =>
    let code := bits hdr (4 * l + 3) (4 * l)
    let n := 32 * imageLength code a.2
    (a.1 ++ [decodeLine code (a.2.take n)], a.2.drop n)) ([], stream.drop 32)
/-- The lines of so many groups at the head of an image. -/
def decodeGroups (n : Nat) (image : List Byte) : List Nat :=
  ((List.range n).foldl (fun (a : List Nat × List Byte) _ =>
    let g := decodeGroup a.2
    (a.1 ++ g.1, g.2)) ([], image)).1

end Sys2Proof.Machine
end

