-- ==== Sys2Proof/Machine/Supply.lean ====
section
/-! DEFINITION. Loss of supply: warnings, the supply trap and halts (R393 to R399), the drain and the Catalogue (R400 to
R406, R422), brown-out (R407), restart (R408 to R412, R423) and thermal emergencies (R413). -/
namespace Sys2Proof.Machine
open Sys2Proof

/-- E_WARN of an accession list in µJ, rounded up (R394). -/
def warnLevel (list : List (Nat × Nat × Nat × Nat)) : Nat :=
  190000000 + (107 * 64 * list.foldl (fun (n : Nat) (e : Nat × Nat × Nat × Nat) => n + e.2.2.2) 0 + 99) / 100
def State.eWarn (s : State) : Nat := (s.hreg 0x2078).toNat

/-! ### Warnings and halts -/

/-- Every replay the engine holds stops, its running operation at one of its units, with an abort flit that names this module
(R395, R399). -/
def State.stopReplays (s : State) : State :=
  s.coll.replays.foldl (fun (s : State) r =>
    match s.replayOf r.graph r.step with
    | some r1 => (if r1.status = 0 then s.stopUnit r1 else s).failReplay r1 (s.abortOf r1 7 s.modnum 0)
    | none => s) s

/-- SUPPLY_WARNING (R394, R395): the power-fail input, or a reserve below E_WARN. -/
def execSupplyWarning (input : Bool) (reserve : Nat) (s : State) : Host.Outcome State Fault Refusal :=
  .next (
    let st := s.supply
    if st = 3 || st = 4 || st = 5 || !(input || decide (reserve < s.eWarn)) then s
    else
      let s1 := (s.setReserve reserve).setSupply 3
      let s2 := { s1 with power := { s1.power with warnedAt := s1.now, inputBack := false, inputSince := if input then none else s1.power.inputSince, regions := [], charge := 0, off := false } }
      (s2.log 0 0x0102 6 1 0 0 (BitVec.ofNat 64 (b2n input))).stopReplays)

/-- A strand stands at a bundle boundary with nothing of its bundles left to do. -/
def Strand.atBoundary (t : Strand) : Bool := !t.halted && t.holds.isEmpty && !t.phasing
/-- A supply handler's 40 µs have passed (R397). -/
def Strand.overrun (t : Strand) (now : Nat) : Bool := !t.resumed && t.supplyBy.any (fun d => d != 0 && decide (d ≤ now))
/-- The nest priority of a gang. -/
def State.gangPrio (s : State) (g : Nat) : Nat := ((s.gang g).bind (fun v => s.nest v.nest)).elim 0 (·.rec_.prio)
/-- In a thermal emergency gangs are taken in descending nest priority: no strand of one above it still has to meet the supply
trap (R413). -/
def State.gangTurn (s : State) (g : Nat) : Bool :=
  s.supply ≠ 6 || s.cores.all (fun e => e.2.ctxs.all (fun x =>
    x.2.halted || x.2.saved || (x.2.supplyBy.isSome && !x.2.resumed) || decide (s.gangPrio x.2.gang ≤ s.gangPrio g)))
/-- A gang whose last running strand has halted joins those that resume in the order in which they halted (R411). -/
def State.noteHalted (s : State) (g : Nat) : State :=
  let all := s.cores.all (fun e => e.2.ctxs.all (fun x => x.2.gang != g || x.2.halted))
  if all && !s.launch.halts.contains g then { s with launch := { s.launch with halts := s.launch.halts ++ [g] } } else s

/-- What the supply trap does at a strand's boundary (R312, R323, R396, R397, R413): a trap that is due is entered first; the
handler is entered where the owner enables it and the strand is in none; a supply handler goes on until it has executed HIBER
or TRET, or until its time is over, which is logged; any other strand halts. -/
def State.meetSupply (s : State) (c x : Nat) : State :=
  match s.strand c x with
  | none => s
  | some t =>
    let q := s.gangSlot t.gang
    let halt := (s.haltStrand c x).noteHalted t.gang
    if !t.atBoundary then s
    else if (s.dueTrap c x true).isSome then s.enterDue c x true
    else if t.saved then halt
    else if t.overrun s.now then halt.log (coreCluster c) 0x0102 6 2 (s.gangOwner t.gang) t.pc (BitVec.ofNat 64 ((x <<< 10) ||| c))
    else if (t.supplyBy.isSome && !t.resumed) || !s.gangTurn t.gang then s
    else if t.resumed || s.inHandler q t.pc.toNat || !(s.slotReg q 0).testBit 62 then halt
    else (s.takeTrap c x { cause := 0x10 } 0 t.pc).mapStrand c x (fun t => { t with supplyBy := some 0 })

/-- SUPPLY_TRAP (R395, R396). -/
def execSupplyTrap (core ctx : Nat) (s : State) : Host.Outcome State Fault Refusal :=
  .next (if s.supply = 3 || s.supply = 6 then s.meetSupply core ctx else s)

/-- HANDLER_OVERRUN (R397): a handler whose time is over halts at its boundary. -/
def execHandlerOverrun (core ctx : Nat) (s : State) : Host.Outcome State Fault Refusal :=
  .next (if (s.supply = 3 || s.supply = 6) && (s.strand core ctx).any (·.overrun s.now) then s.meetSupply core ctx else s)

/-! ### The Catalogue (R405, R406) -/

/-- The bytes of a Catalogue before its signature (Tables 4 and 5, R419). -/
def Catalogue.body (c : Catalogue) (module : Nat) : List Byte :=
  let words := fun (l : List Nat) => l.flatMap (bytesOf 8)
  words [(1 <<< 56) ||| (c.kind <<< 48) ||| ((module % 4096) <<< 36) ||| (c.slot <<< 32) ||| (c.shards.length <<< 16) ||| c.regions.length, c.seq, c.tWarn, c.tSeal] ++
  bytesOf 48 c.prev.toNat ++ words [c.selftest.toNat, c.feat.toNat, c.energy, 0, 0, 0] ++
  c.regions.flatMap (fun r => words [(r.id <<< 32) ||| (r.owner <<< 16) ||| (r.status <<< 8) ||| (if c.kind = 2 then min r.uncorr 255 else 0), r.base, r.length, r.done, r.scmOff, r.scmLen] ++ bytesOf 48 r.digest.toNat) ++
  c.steps.flatMap (fun (e : Bool × Nat) => words [(b2n e.1 <<< 63) ||| e.2 % 2 ^ 32]) ++
  c.shards.flatMap (fun e => words [(e.module <<< 52) ||| (b2n e.parity <<< 40) ||| e.index % 2 ^ 32, e.addr] ++ bytesOf 48 e.digest.toNat)
/-- A signature as it is stored, most significant byte first. -/
def signatureBytes (v : BitVec 768) : List Byte := (bytesOf 96 v.toNat).reverse
def Catalogue.bytes (c : Catalogue) (module : Nat) : List Byte := c.body module ++ signatureBytes c.signature
/-- The seal verifies (R406). -/
def Catalogue.valid (c : Catalogue) (module : Nat) : Bool := Config.verifies (Config.sha384 (c.body module)) c.signature
def Catalogue.signed (c : Catalogue) (module : Nat) : Catalogue := { c with signature := Config.sign (Config.sha384 (c.body module)) }

/-- The Catalogue slots by descending SEQ. -/
def State.slotsBySeq (s : State) : List (Nat × Catalogue) :=
  match Tab.find? s.power.catalogues 0, Tab.find? s.power.catalogues 1 with
  | some a, some b => if a.seq < b.seq then [(1, b), (0, a)] else [(0, a), (1, b)]
  | some a, none => [(0, a)]
  | none, some b => [(1, b)]
  | none, none => []
/-- The greatest SEQ of any Catalogue of the module. -/
def State.lastSeq (s : State) : Nat :=
  ((Tab.vals s.power.catalogues) ++ s.power.chain).foldl (fun n c => max n c.seq) 0
/-- INFLIGHT and STEP of each graph (R405). -/
def State.graphSteps (s : State) : List (Bool × Nat) :=
  (List.range 256).map (fun g => (s.coll.replays.any (fun r => r.graph == g), Tab.get s.coll.steps 0 g))

/-! ### The drain (R402 to R404, R422) -/

/-- A line as the drain takes it: a held one in its image and CODE; one held in part, or not, with what is missing from HBM4, as
CODE 15; a sector that cannot be corrected as zeros (R402, R404). -/
def State.drainLine (s : State) (key line : Nat) : Drained :=
  let held := (s.cluster (homeCluster (line * 128))).find line
  let valid := held.elim 0#4 (·.valid)
  let bad := (List.range 16).filterMap (fun w =>
    if valid.getLsbD (w / 4) then (if s.badL2.contains (16 * line + w) then some (128 * line + 8 * w, 2) else none)
    else if s.bad.contains (16 * line + w) then some (128 * line + 8 * w, 3) else none)
  let fill := fun (data : Nat) => (List.range 4).foldl (fun v i =>
    if bad.any (fun e => e.1 / 32 == 4 * line + i) then setBits v (256 * i) 256 0
    else if valid.getLsbD i then v
    else setBits v (256 * i) 256 (s.hbmSector (line * 128 + 32 * i) key)) data
  match held with
  | some l => if l.full && bad.isEmpty then { code := l.code, sectors := l.sectors, data := l.data.toNat } else { data := fill l.data.toNat, bad := bad }
  | none => { data := fill 0, bad := bad }

/-- The 32 lines of a group: those held under another key are evicted first (R379, R402). -/
def State.drainGroup (s : State) (key base : Nat) : State × List Drained :=
  (List.range 32).foldl (fun (a : State × List Drained) l =>
    let line := base / 128 + l
    let s1 := a.1.claimLine line key
    (s1, a.2 ++ [s1.drainLine key line])) (s, [])

/-- A drain on its way: the machine, whether it has stopped, the charge, and the groups the reserve still allows. -/
structure Drain where
  st : State
  stopped : Bool := false
  charge : Nat := 0
  left : Nat
  regions : List Region := []
  deriving DecidableEq, Repr

/-- The groups of a region in ascending address, until the limit stops the drain (R402, R403). Region 0 is read past the
L2 as RAW lines, and its bytes are the device's own (R400, R422). -/
def Drain.groups (d : Drain) (budget key : Nat) (first : Bool) (r : Region) (l : List Nat) : Drain × Region :=
  match l with
  | [] => (d, r)
  | i :: rest =>
    let (s1, lines) := if first then (d.st, List.replicate 32 {}) else d.st.drainGroup key (r.base + 4096 * i)
    let image := groupImage lines
    let n := image.length
    let cost := (n + 1023) / 1024
    if (if budget = 0 then d.left = 0 else budget < d.charge + cost) then ({ d with stopped := true }, r)
    else
      let s2 := (lines.flatMap (·.bad)).foldl (fun (s : State) e => s.log 0 0x0402 2 4 r.owner (BitVec.ofNat 64 e.1) (BitVec.ofNat 64 e.2)) s1
      Drain.groups { d with st := s2, charge := d.charge + cost, left := d.left - 1 } budget key first
        { r with done := r.done + 4096, scmLen := r.scmLen + n, uncorr := r.uncorr + lines.foldl (fun n e => n + e.lost) 0, image := if first then [] else r.image ++ image } rest
termination_by structural l

/-- The image of a region as it decrypts under a key: under another than its own, anything (R402; log 12). -/
def Region.decrypted (r : Region) (key : Nat) : List Byte :=
  if key = r.key then r.image else r.image.zipIdx.map (fun (e : Byte × Nat) => Config.garbled (r.scmOff + e.2) key r.key)
/-- The decoded lines of a region that were written, as they read under a key (R410). -/
def Region.lines (r : Region) (key : Nat) : List Nat := decodeGroups (r.done / 4096) (r.decrypted key)
def Region.bytes (r : Region) (key : Nat) : List Byte := (r.lines key).flatMap (bytesOf 128)
/-- The key of a region's owner (R402). -/
def State.regionKey (s : State) (r : Region) : Nat := if r.owner = 0 then 0 else s.slotKey ((s.slotOf r.owner).getD 32)

/-- One region drained after those before it into its slot's half of SCM, or INCOMPLETE with DONE 0 once the drain has stopped;
SCMOFF counts from the half's first byte (R402, R403, R405, R422). The image is padded to whole blocks of 512 bytes. -/
def Drain.region (d : Drain) (budget : Nat) (r : Region) : Drain :=
  let off := d.regions.foldl (fun n x => n + x.scmLen) 0
  let index := d.regions.length
  if d.stopped then { d with regions := d.regions ++ [{ r with status := 0x20, scmOff := off, digest := Config.sha384 [] }] }
  else
    let key := d.st.regionKey r
    let (d1, r1) := d.groups budget key (index == 0) { r with key := key } (List.range (r.length / 4096))
    let digest := if index = 0 then (Config.freeBits d1.st.free 10).setWidth 384 else Config.sha384 (r1.bytes key)
    let size := (r1.scmLen + 511) / 512 * 512
    let r2 := { r1 with status := if r1.done = r1.length then 0 else 0x20, scmOff := off, scmLen := size, digest := digest, image := if index = 0 then [] else r1.image ++ List.replicate (size - r1.scmLen) 0#8 }
    let s1 := if d1.stopped then d1.st.log 0 0x0402 6 3 0 0 (BitVec.ofNat 64 (((r2.done / 1024) <<< 16) ||| index)) else d1.st
    { d1 with st := { s1 with free := s1.free + 1 }, regions := d1.regions ++ [r2] }

/-- Region 0 and the regions of the accession list (R401). -/
def State.drainRegions (s : State) : List Region :=
  ({ base := (s.hreg 0x2040).toNat, length := (s.hreg 0x2048).toNat } : Region) ::
    s.power.list.map (fun (e : Nat × Nat × Nat × Nat) => { id := e.2.2.1, owner := e.1, base := e.2.1, length := 65536 * e.2.2.2 })

/-- The slot a Catalogue is sealed into: the one that does not hold the newest valid one (R405). -/
def State.sealSlot (s : State) : Nat :=
  match (s.slotsBySeq.find? (fun e => e.2.valid s.modnum)).map (·.1) with
  | some n => 1 - n
  | none => 0

/-- The drain: `groups` is how many the measured reserve allows where DBUDGET is 0; nothing where SCM or the reserve
failed its self-test (R362, R403). -/
def State.drain (s : State) (groups : Nat) : State :=
  let v := (s.hreg 0x1018).toNat
  let works := s.untested || (v.testBit 25 && v.testBit 26)
  let d := s.drainRegions.foldl (fun (d : Drain) r => d.region (s.hreg 0x2020).toNat r) { st := s, stopped := !works, left := groups }
  { d.st with power := { d.st.power with regions := d.regions, charge := d.charge } }

/-- Whether every save is complete: no strand runs, nothing of one is on its way, and no operation runs (R32, R399). -/
def State.saveDone (s : State) : Bool :=
  s.cores.all (fun (e : Nat × Core) => e.2.ctxs.all (fun (x : Nat × Strand) => x.2.halted) && !e.2.mq.any (fun o => o.running)) &&
  s.reqs.all (fun (e : Nat × Request) => e.2.quiet)
/-- The frames of the strands that halted sealed (R31, R32, R399); those of a gang already pre-empted stand, and a gang that was
ending has ended (R318). -/
def State.sealHalted (s0 : State) : State :=
  let s := s0.launch.gangs.foldl (fun (s : State) e => s.settleEnding e.1) s0
  s.sealFrames false (fun t => ((s.gang t.gang).map (·.mode)) != some GangMode.preempted)

/-- What a halt leaves of strands' waits: those of this module are withdrawn, those of other modules are answered
HIBERNATING (R373, R395). -/
def State.dismissWaiters (s : State) : State :=
  s.waiters.foldl (fun (s : State) w => match w.asker with
    | some (m, seq) => { s with outbox := s.outbox ++ [OutMsg.answer m seq 5 0] }
    | none => s) { s with waiters := [] }

/-- SAVE_COMPLETE (R393, R399, R402): with every save complete the module drains the list, or in a thermal emergency
notes region 0 alone (R413). -/
def execSaveComplete (groups : Nat) (s : State) : Host.Outcome State Fault Refusal :=
  .next (
    if !s.saveDone then s
    else if s.supply = 3 then ((s.sealHalted.dismissWaiters).setSupply 4).drain groups
    else if s.supply = 6 && s.power.regions.isEmpty then
      let s1 := s.sealHalted.dismissWaiters
      let r : Region := { base := (s.hreg 0x2040).toNat, length := (s.hreg 0x2048).toNat, done := (s.hreg 0x2048).toNat, digest := (Config.freeBits s.free 10).setWidth 384 }
      { s1 with free := s1.free + 1, power := { s1.power with regions := [r] } }
    else s)

/-! ### What the Catalogue holds, and its seal (R400, R405, R406) -/

/-- A nonzero STATUS of a region logged with CLASS STATUS (R324). -/
def State.logStatus (s : State) (r : Region) (index status : Nat) : State :=
  if status = 0 then s else s.log 0 0x0402 1 status r.owner (BitVec.ofNat 64 r.base) (BitVec.ofNat 64 index)
/-- The UNCORR count of a region, which a Catalogue of KIND 0 or 1 does not hold, logged (R405). The spec names no entry for it: it
goes with CLASS INTEGRITY and CODE ECC_UNCORRECTABLE, ADDR the region's base, DETAIL its count in [63:16] and its index in
[15:0] (log 167, DESIGN CHOICE). -/
def State.logUncorr (s : State) (r : Region) (index : Nat) : State :=
  if r.uncorr = 0 then s else s.log 0 0x0402 2 4 r.owner (BitVec.ofNat 64 r.base) (BitVec.ofNat 64 ((r.uncorr <<< 16) ||| index))
/-- The replay status of a region logged (R324, R410). -/
def State.logRegion (s : State) (r : Region) (index status : Nat) : State :=
  (s.log 0 0x0402 6 5 r.owner (BitVec.ofNat 64 r.base) (BitVec.ofNat 64 ((status <<< 16) ||| index))).logStatus r index status

/-- The host registers that region 0 keeps: owner slots, REGSEL, work queues and FEAT_DRV (Table 2). -/
def keptRegister (off : Nat) : Bool :=
  (0x3000 ≤ off && off < 0x3800) || off = 0x3800 || (0x100000 ≤ off && off < 0x120000) || off = 0x010 || off = 0x018
/-- An owner's key wrapped under the module's sealing key, or unwrapped: an exclusive or stands for both (R400, R435; log 169). -/
def Owner.sealed (o : Owner) : Owner := { o with key := o.key.map (· ^^^ Config.sealingPad) }
/-- A core as region 0 keeps it: not its scratchpad, TLBs, L1, path counters, routines and counts of its own. -/
def Core.saved (k : Core) : Core :=
  { k with spad := [], l1 := [], utlb := [], emulated := [], paths := [], copied := [], routines := [], reload := false, tornWords := [] }
/-- What region 0 keeps (R400, Table 2). -/
def State.savedState (s : State) : Saved :=
  let frames := s.cores.flatMap (fun (e : Nat × Core) => e.2.ctxs.filterMap (fun (x : Nat × Strand) =>
    if s.inHandler (s.gangSlot x.2.gang) x.2.pc.toNat then
      match (s.readFrame e.1 x.1 x.2).2 with
      | .ok v => some (e.1, x.1, v)
      | .error _ => none
    else none))
  { cores := s.cores.map (fun (e : Nat × Core) => (e.1, e.2.saved)), reqs := s.reqs, walks := s.walks, vitrines := s.vitrines, groups := s.groups, coll := { graphs := s.coll.graphs, steps := s.coll.steps, replays := s.coll.replays, bad := s.coll.bad }, launch := s.launch, folios := (List.range 4).map (fun c => (s.cluster c).folios), owners := s.owners.map (fun (e : Nat × Owner) => (e.1, e.2.sealed)), host := s.host.filter (fun (e : Nat × Word) => keptRegister e.1), dirty := s.dirtyMap, frames := frames, reservations := (List.range 4).map (fun c => (s.cluster c).reservation) }

/-- Every dirty line of the L2 written back and every line dropped. -/
def State.flushL2 (s : State) : State :=
  (List.range 4).foldl (fun s c => (s.cluster c).lines.foldl (fun (s : State) l => s.evictLine l true) s) s

/-- SEALED (R405, R406, R413): the Catalogue is signed and sealed into the slot that does not hold the newest valid one;
`energy` is what the reserve gave, in µJ. -/
def execSealed (energy : Nat) (s : State) : Host.Outcome State Fault Refusal :=
  .next (
    let thermal := s.supply = 6
    if !(s.supply = 4 || (thermal && !s.power.regions.isEmpty && !s.power.off)) then s
    else
      let slot := s.sealSlot
      let budget := (s.hreg 0x2020).toNat
      let c : Catalogue := { kind := if thermal then 1 else 0, slot := slot, seq := s.lastSeq + 1, tWarn := s.power.warnedAt, tSeal := s.now, selftest := s.hreg 0x1018, feat := s.hreg 0x020, energy := if budget = 0 || thermal then min energy (2 ^ 64 - 1) else s.power.charge, regions := s.power.regions, steps := s.graphSteps, save := some s.savedState }
      let s1 := { s with power := { s.power with catalogues := Tab.put s.power.catalogues slot (c.signed s.modnum) } }
      let s2 := (s.power.regions.zipIdx.foldl (fun (s : State) (e : Region × Nat) => (s.logUncorr e.1 e.2).logStatus e.1 e.2 e.1.status) s1).log 0 0x0402 6 4 0 0 (BitVec.ofNat 64 c.seq)
      if thermal then
        let s3 := s2.flushL2
        ({ s3 with power := { s3.power with off := true } }).setHreg 0x2000 0x206
      else s2.setHreg 0x2000 0x105)

/-! ### Brown-out (R393, R407) -/

/-- ENTER_SAG: the reserve has discharged for 20 µs. -/
def execEnterSag (s : State) : Host.Outcome State Fault Refusal :=
  .next (if s.supply = 0 && s.power.dropSince.any (fun t => decide (t + 20000 ≤ s.now)) then { s.setSupply 1 with power := { s.power with sagSince := s.now } } else s)
/-- ENTER_SHED: in SAG, with less than 3,000 J or after 500 ms. -/
def execEnterShed (reserve : Nat) (s : State) : Host.Outcome State Fault Refusal :=
  .next (if s.supply = 1 && (decide (reserve < 3000000000) || decide (s.power.sagSince + 500000000 ≤ s.now)) then
      let s1 := (s.setReserve reserve).setSupply 2
      { s1 with power := { s1.power with shedAt := 0 } } else s)

/-- The greatest nest priority of the gangs resident in a cluster, and 1; 0 where none is. -/
def State.residentRank (s : State) (cl : Nat) : Nat :=
  s.launch.gangs.foldl (fun n e =>
    if e.2.cores.any (fun c => coreCluster c == cl && (s.core c).gang == some e.1) then max n (((s.nest e.2.nest).elim 0 (·.rec_.prio)) + 1) else n) 0
/-- The order in which Curator would shed the clusters (R407): equal ones in ascending number. -/
def State.shedOrd (s : State) : Nat :=
  let sorted := (List.range 4).foldl (fun (l : List Nat) c =>
    l.takeWhile (fun d => decide (s.residentRank d ≤ s.residentRank c)) ++ [c] ++ l.dropWhile (fun d => decide (s.residentRank d ≤ s.residentRank c))) []
  sorted.foldr (fun c v => (v <<< 2) ||| c) 0
/-- SHEDORD kept current outside SHED (R407). -/
def State.noteShedOrd (s : State) : State :=
  if s.supply = 2 then s else s.setHreg 0x2038 (BitVec.ofNat 64 s.shedOrd)

/-- SHED: while the reserve keeps falling, the next cluster of SHEDORD is shed, one each 100 ms (R407). -/
def execShed (reserve : Nat) (s0 : State) : Host.Outcome State Fault Refusal :=
  .next (
    let s := s0.setReserve reserve
    let ord := (s.hreg 0x2038).toNat
    if s.supply ≠ 2 || s.power.dropSince.isNone || (s.power.shedAt ≠ 0 && decide (s.now < s.power.shedAt + 100000000)) then s
    else match ((List.range 4).map (fun i => bits ord (2 * i + 1) (2 * i))).find? (fun c => !(s.cluster c).shed) with
      | none => s
      | some c =>
        let s1 := (s.launch.gangs.foldl (fun (s : State) e => if e.2.cluster = c then s.requestPreempt e.1 2 else s) s)
        let s2 := s1.setCluster c { s1.cluster c with shed := true }
        ({ s2 with power := { s2.power with shedAt := max 1 s2.now, shedOrder := c :: s2.power.shedOrder } }).log c 0x0102 3 3 0 0 (BitVec.ofNat 64 c))
/-- CLUSTER_RESTORE: with the reserve charging and 3,500 J, the cluster shed last serves again; its gangs then resume (R279, R407). -/
def execClusterRestore (reserve : Nat) (s0 : State) : Host.Outcome State Fault Refusal :=
  .next (
    let s1 := s0.setReserve reserve
    if reserve < 3500000000 || !s1.power.charging then s1
    else match s1.power.shedOrder with
      | [] => s1
      | c :: rest =>
        let s2 := s1.setCluster c { s1.cluster c with shed := false }
        { s2 with power := { s2.power with shedOrder := rest } })
/-- RETURN_NORMAL: the reserve is charging and holds 3,500 J (R393). -/
def execReturnNormal (reserve : Nat) (s : State) : Host.Outcome State Fault Refusal :=
  .next (
    let s1 := s.setReserve reserve
    if (s1.supply = 1 || s1.supply = 2) && s1.power.charging && decide (3500000000 ≤ reserve) then s1.enterNormal else s1)

/-- INPUT_RETURN: the input is back after a warning, so that power-on may follow the seal (R394, R409). -/
def execInputReturn (s : State) : Host.Outcome State Fault Refusal :=
  .next (if s.supply = 3 || s.supply = 4 || s.supply = 5 then { s with power := { s.power with inputBack := true, inputSince := some (s.power.inputSince.getD s.now) } } else s)

/-- THERMAL (R413): a sensor, or a substitute, reads 110 °C. -/
def execThermal (s : State) : Host.Outcome State Fault Refusal :=
  .next (
    if s.supply = 3 || s.supply = 4 || s.supply = 5 || s.supply = 6 then s
    else match (List.range 128).find? (fun k => k % 4 != 3 && decide (110000 ≤ s.sensor k)) with
      | none => s
      | some k =>
        let s1 := s.setSupply 6
        (({ s1 with power := { s1.power with warnedAt := s1.now, regions := [], off := false } }).log 0 0x0102 6 7 0 0 (BitVec.ofNat 64 ((1 <<< 56) ||| k))).stopReplays)

/-! ### Restart (R408 to R412, R423) -/

/-- A strand as a restart leaves it: one that stood in its supply handler resumes inside it (R397, R423). -/
def Strand.restarted (t : Strand) : Strand := { t with resumed := t.supplyBy.isSome, saved := false }
/-- An operation restored: a suspended one is queued first at the effective priority it had, and waits for the TRET of a strand that
resumes inside its supply handler; an unstarted one counts on from the priority it had (R400, R423). -/
def Core.restoredOp (k : Core) (o : MatrixOp) : MatrixOp := { o with running := false, kept := o.started, saved := some (k.effective o), since := k.cycle }
/-- The routines that the store of a core takes: those of the owner whose valid slot names its island (R437). -/
def State.islandRoutines (s : State) (c : Nat) : Map (Nat × List (BitVec 64)) :=
  (((List.range 32).find? (fun q => s.slotValid q && (s.slotIslands q).testBit (coreIsland c))).map (fun q => (Tab.get s.owners {} q).routines)).getD []
/-- The state of Table 2 restored: every scratchpad is zero, nothing of the L1s and TLBs is kept, the routine image sets are
loaded again, and FEAT_ACT follows FEAT_DRV (R400, R423). -/
def State.restoreSaved (s : State) (v : Saved) : State :=
  let cores := v.cores.map (fun (e : Nat × Core) => (e.1, { e.2 with spad := [], mq := e.2.mq.map e.2.restoredOp, ctxs := e.2.ctxs.map (fun (x : Nat × Strand) => (x.1, x.2.restarted)) }))
  let host := v.host.foldl (fun (m : Map Word) e => Tab.put m e.1 e.2) s.host
  let s1 := { s with cores := cores, reqs := v.reqs, nextReq := max s.nextReq ((Tab.keys v.reqs).foldl max 0), walks := v.walks, vitrines := v.vitrines, groups := v.groups, coll := v.coll, launch := v.launch, owners := v.owners.map (fun (e : Nat × Owner) => (e.1, e.2.sealed)), host := host, dirtyMap := v.dirty, waiters := [], badSpad := [] }
  let s2 := (List.range 4).foldl (fun (s : State) c => s.setCluster c { s.cluster c with folios := v.folios.getD c [], reservation := v.reservations.getD c none })
    { s1 with cores := s1.cores.map (fun (e : Nat × Core) => (e.1, { e.2 with routines := s1.islandRoutines e.1 })) }.showFeatures
  let owners := ((List.range 32).filter (fun q => s2.slotValid q)).map (fun q => s2.slotOwner q)
  { s2 with power := { s2.power with frames := v.frames, unresumed := owners } }

/-- The replay status of a region: DIGEST_MISMATCH where a block cannot be corrected or the digest differs (R358, R410). Region 0's
bytes are the device's own: its digest is that of what it holds. -/
def Region.replayStatus (r : Region) (index key : Nat) : Nat :=
  if r.torn || (index ≠ 0 && Config.sha384 (r.bytes key) ≠ r.digest) then 0x21 else r.status
/-- A region written back under its owner's key: its verified DONE bytes and zeros after them, or zeros throughout (R410). -/
def State.replayRegion (s : State) (r : Region) (status : Nat) : State :=
  let key := s.regionKey r
  let lines := if status = 0x21 then [] else r.lines key
  (List.range (r.length / 32)).foldl (fun (s : State) i =>
    s.setHbmSector (r.base + 32 * i) key (bits (lines.getD (i / 4) 0) (256 * (i % 4) + 255) (256 * (i % 4)))) s

/-- The granules that `ok` does not pick marked dirty (R416). -/
def State.markLost (s : State) (ok : Nat → Bool) : State :=
  { s with dirtyMap := s.dirtyMap ++ (List.range (2 ^ 24)).filter (fun g => !ok g && !s.dirtyMap.contains g) }
/-- Nothing of Table 2 is held: every partition is empty (R411). -/
def State.emptied (s : State) : State :=
  let s1 : State := { s with cores := [], reqs := [], walks := [], waiters := [], vitrines := [], groups := [], coll := {}, launch := {}, owners := [], badSpad := [], host := s.host.filter (fun e => !keptRegister e.1) }
  (List.range 4).foldl (fun (s : State) c => s.setCluster c { s.cluster c with folios := [], reservation := none, tlb := [] }) s1.showFeatures

/-- A Catalogue replayed: its regions in rank order with their statuses logged, the copy at CATBASE, the state of Table 2,
and the dirty map (R410, R411, R416). A KIND 1 Catalogue reads nothing from SCM (R409). Keys that region 0 did not bring back
decrypt no image. -/
def State.replayCatalogue (s : State) (c : Catalogue) : State :=
  let whole := c.regions.head?.any (fun r => r.replayStatus 0 0 = 0)
  let s0 := match c.save with
    | some v => if whole then s.restoreSaved v else s.emptied
    | none => s.emptied
  let statuses := c.regions.zipIdx.map (fun (e : Region × Nat) => e.1.replayStatus e.2 (s0.regionKey e.1))
  let s1 := if c.kind = 1 then s0 else ((c.regions.zip statuses).drop 1).foldl (fun (s : State) e => s.replayRegion e.1 e.2) s0
  let s2 := (c.regions.zip statuses).zipIdx.foldl (fun (s : State) (e : (Region × Nat) × Nat) => s.logRegion e.1.1 e.2 e.1.2) s1
  let at_ := (s2.hreg 0x2028).toNat
  let image := c.bytes s.modnum ++ statuses.flatMap (bytesOf 8)
  let s3 := if at_ = 0 then s2 else s2.deviceWrite at_ image.length (ofBytes image)
  let ok := (c.regions.zip statuses).filter (fun (e : Region × Nat) => e.2 == 0)
  let s4 := s3.markLost (fun g => ok.any (fun (e : Region × Nat) => decide (e.1.base ≤ 32768 * g) && decide (32768 * g < e.1.base + e.1.length)))
  let s5 := (List.range 4).foldl (fun (s : State) k => s.setCluster k { s.cluster k with lines := [], counters := [], fills := [] }) s4.flushL2
  if whole && c.save.isSome then (s5.setSupply 7).settleRestore else s5.enterNormal

/-- Power is back: what is volatile is at reset, what SCM and the time base hold is kept (R400, R427), and, after a power-on, the
error logs with it (R426, log 71). -/
def State.powerCycle (s : State) (selftest : Word) (logs : Bool) : State :=
  let p : Power := { catalogues := s.power.catalogues, chain := s.power.chain, inputSince := some (s.power.inputSince.getD s.now) }
  let s1 : State := { power := p, now := s.now, nextReq := s.nextReq, agenda := s.agenda, turnNo := s.turnNo, free := s.free, outbox := s.outbox }
  let s2 := if !logs then s1 else s.clusters.foldl (fun (s : State) (e : Nat × Cluster) => s.setCluster e.1 { s.cluster e.1 with log := e.2.log }) s1
  let s3 := if !logs then s2 else (List.range 8).foldl (fun (t : State) i => t.setHreg (0x4000 + 8 * i) (s.hreg (0x4000 + 8 * i))) s2
  ((s3.setHreg 0x2000 (BitVec.ofNat 64 ((s.hreg 0x2000).toNat / 256 * 256))).setHreg 0x1008 (s.hreg 0x1008)).setHreg 0x1018 selftest

/-- SELFTEST_FAIL is logged where a part failed (R362). -/
def State.logSelftest (s : State) : State :=
  let v := (s.hreg 0x1018).toNat
  if v &&& 0x07FF0FFF = 0x07FF0FFF then s else s.log 0 0x0102 2 8 0 0 (BitVec.ofNat 64 v)

/-- Whether a Catalogue is to be replayed: one was sealed after the module last entered NORMAL (R409). -/
def State.catalogueDue (s : State) : Bool := bits (s.hreg 0x2000).toNat 11 8 != 0 && !s.slotsBySeq.isEmpty

/-- A phase of bring-up entered, which BOOTSTAT reports (R427). -/
def State.enterPhase (s : State) (n : Nat) : State := { s.setHreg 0x1000 (BitVec.ofNat 64 n) with power := { s.power with phaseFresh := true } }
/-- Bring-up at its phase 1: phases 1, 2 and 4 pass by themselves, phase 3 ends with RESTORE_BEGIN (R427). -/
def State.bringUp (s : State) : State :=
  let s1 := s.enterPhase 1
  (if s1.catalogueDue then s1.setSupply 7 else s1.enterNormal).logSelftest

/-- A phase whose work is done gives way to the next (R427): self-test and memory, whose outcomes POWER_ON and WARM_RESET bring,
and the restore, done with RESTORE_BEGIN. Each phase shows in BOOTSTAT for a step at least. -/
def State.bootTick (s : State) : State :=
  if s.power.phaseFresh then { s with power := { s.power with phaseFresh := false } }
  else match (s.hreg 0x1000).toNat with
  | 1 => s.setHreg 0x1000 2
  | 2 => s.setHreg 0x1000 3
  | 4 => { s.setHreg 0x1000 5 with power := { s.power with phaseSince := s.now } }
  | _ => s

/-- POWER_ON (R362, R383, R408, R427, R428): from no power, or from HIBERNATED once the input is back. The routes are those
Curator finds; a module that is not among them is LOST. -/
def execPowerOn (firmware : Bool) (modnum : Nat) (selftest : BitVec 64) (routes : List Route) (s : State) : Host.Outcome State Fault Refusal :=
  .next (
    let first := s.supply = 0 && s.hreg 0x1000 = 0
    if !(first || (s.supply = 5 && s.power.inputBack)) then s
    else
      let s1 := (s.powerCycle (selftest &&& 0x07FF0FFF#64) true).setHreg 0x1008 (BitVec.ofNat 64 (modnum % 3072))
      if !firmware then s1.setHreg 0x1000 0xF0
      else
        let table := routes.foldl (fun (m : Map (Map (List Nat))) r =>
          let paths := r.paths.filter pathGood
          if paths.isEmpty || 3072 ≤ r.module || r.module = modnum % 3072 then m
          else Tab.put m r.module (numberPaths paths)) []
        let s2 := { s1 with router := { paths := table, modules := table.map (fun (e : Nat × Map (List Nat)) => (e.1, ModuleState.reachable)) } }
        s2.notePaths.bringUp)

/-- The newer slot's Catalogue where it does not verify: logged, and its status SIGNATURE_BAD with CLASS STATUS, for which the
spec names no field (R324, R409; log 63, DESIGN CHOICE). -/
def State.logBadSlot (s : State) : State :=
  match s.slotsBySeq with
  | e :: _ => if e.2.valid s.modnum then s else (s.log 0 0x0403 6 6 0 0 (BitVec.ofNat 64 e.1)).log 0 0x0403 1 0x22 0 0 (BitVec.ofNat 64 e.1)
  | [] => s
/-- The Catalogue to replay: the newest of KIND 0 or 1 whose seal verifies (R409). -/
def State.newestValid (s : State) : Option Catalogue := (s.slotsBySeq.find? (fun e => e.2.valid s.modnum && decide (e.2.kind ≤ 1))).map (·.2)

/-- RESTORE_BEGIN (R409 to R412, R416, R427): with the input held for 1 s and E_WARN + 1,000 J the newest Catalogue whose seal
verifies is replayed where one is due; bring-up goes on to phase 4. -/
def execRestoreBegin (reserve : Nat) (s : State) : Host.Outcome State Fault Refusal :=
  .next (
    if s.hreg 0x1000 ≠ 3 || reserve < s.eWarn + 1000000000 || !s.power.inputSince.any (fun t => decide (t + 1000000000 ≤ s.now)) then s
    else
      let s1 := ((s.setReserve reserve).enterPhase 4).logBadSlot
      match (if s1.catalogueDue then s1.newestValid else none) with
      | some c => s1.replayCatalogue c
      | none => (s1.markLost (fun _ => false)).enterNormal)

/-- A halted gang goes on: its cores' shares are restored from the frames, and its strands run (R57, R411). -/
def State.resumeHalted (s : State) (g : Nat) : State :=
  s.cores.foldl (fun (s : State) e => if e.2.gang != some g then s
    else e.2.ctxs.foldl (fun (s : State) x => s.mapStrand e.1 x.1 (fun t => { t with halted := false, stall := .none, readyAt := e.2.cycle })) (s.mapCore e.1 Core.restoreShare)) s
/-- An owner's strands and engines run again, gangs in the order in which they halted, its trap frames first written back to
their places (R400, R411). -/
def State.resumeOwner (s : State) (owner : Nat) : State :=
  let mine := fun (s : State) (g : Nat) => s.gangOwner g == owner
  let back := fun (s : State) (f : Nat × Nat × Nat) => match s.strand f.1 f.2.1 with
    | some t => if mine s t.gang then (s.virtWrite f.1 (s.gangSlot t.gang) (s.frameAddr (s.gangSlot t.gang) f.1 f.2.1) 256 f.2.2).1 else s
    | none => s
  let s1 := s.power.frames.foldl back s
  let active := fun (s : State) (g : Nat) => ((s.gang g).map (·.mode)) == some GangMode.active
  let order := s1.launch.halts ++ (Tab.keys s1.launch.gangs).filter (fun g => !s1.launch.halts.contains g)
  let s3 := (order.filter (fun g => mine s1 g && active s1 g)).foldl State.resumeHalted s1
  let s2 : State := { s3 with launch := { s3.launch with halts := s3.launch.halts.filter (fun g => !mine s1 g) } }
  ({ s2 with power := { s2.power with unresumed := s2.power.unresumed.filter (· ≠ owner), frames := s2.power.frames.filter (fun f =>
      match s2.strand f.1 f.2.1 with
      | some t => !mine s2 t.gang
      | none => false) } }).settleRestore

/-- RESTORE_RESUME: a write of RESUME (R411). -/
def execRestoreResume (owner : Nat) (s : State) : Host.Outcome State Fault Refusal :=
  .next (
    s.hostWrite 0x2030 0 (BitVec.ofNat 64 owner) false (fun s =>
      if s.supply ≠ 7 then s
      else
        let o := owner % 65536
        (s.power.unresumed.filter (fun k => o = 0xFFFF || k = o)).foldl (fun (s : State) k => s.resumeOwner k) s))

/-- THERMAL_END (R413): the module restores without reading SCM and every owner resumes; where the emergency's Catalogue does not
verify, nothing is restored (R409, R411). -/
def execThermalEnd (s : State) : Host.Outcome State Fault Refusal :=
  .next (
    match s.power.coolSince with
    | none => s
    | some t =>
      if s.supply ≠ 6 || !s.power.off || s.now < t + 1000000000 then s
      else
        let s1 := { s with power := { s.power with off := false, regions := [] } }
        let s2 := (s1.log 0 0x0102 6 7 0 0 0).logBadSlot
        match s2.newestValid with
        | some c =>
          if c.kind ≠ 1 then s2.emptied.enterNormal
          else
            let s3 := s2.replayCatalogue c
            s3.power.unresumed.foldl (fun (s : State) k => s.resumeOwner k) s3
        | none => s2.emptied.enterNormal)

/-! ### The accession list (R401) -/

/-- The entries of a list in memory, up to one with LENGTH 0: two words each, at most 1,024. -/
def State.listEntries (s : State) (at_ : Nat) (l : List Nat) : List (Nat × Nat) :=
  match l with
  | [] => []
  | i :: rest =>
    let v := s.deviceRead (at_ + 16 * i) 16
    if bits v 95 64 = 0 then [] else (v % 2 ^ 64, v / 2 ^ 64) :: s.listEntries at_ rest
termination_by structural l

/-- ACCLIST (R394, R401, R420): ACCSTAT 0 loaded, 1 malformed, 2 too many or too large, 3 overlap. -/
def execAcclist (addr : Nat) (s : State) : Host.Outcome State Fault Refusal :=
  .next (
    let at_ := bits addr 55 6 * 64
    let stat := fun (s : State) (n code : Nat) => s.setHreg 0x2018 (BitVec.ofNat 64 ((n <<< 32) ||| code))
    let kept := bits (s.hreg 0x2018).toNat 47 32
    s.hostWrite 0x2010 0 (BitVec.ofNat 64 addr) true (fun s0 =>
    if !s0.hbmRange at_ 16 then stat s0 kept 1
    else
      let es := s0.listEntries at_ (List.range 1024)
      let s := s0.deviceSeen at_ (16 * min 1024 (es.length + 1))
      let list := es.map (fun (e : Nat × Nat) => (bits e.1 63 48, e.1 % 2 ^ 44, bits e.2 63 32, e.2 % 2 ^ 32))
      let ends := fun (e : Nat × Nat × Nat × Nat) => e.2.1 + 65536 * e.2.2.2
      let mapped := fun (e : Nat × Nat × Nat × Nat) => decide (ends e ≤ 2 ^ 39) &&
        (List.range 8).all (fun h => s.stackServes h || decide (ends e ≤ h * 2 ^ 36) || decide ((h + 1) * 2 ^ 36 ≤ e.2.1))
      let save := (0, (s.hreg 0x2040).toNat, 0, ((s.hreg 0x2048).toNat + 65535) / 65536)
      let meets := fun (a b : Nat × Nat × Nat × Nat) => decide (a.2.1 < ends b) && decide (b.2.1 < ends a)
      let total := list.foldl (fun (n : Nat) (e : Nat × Nat × Nat × Nat) => n + e.2.2.2) 0
      if es.any (fun (e : Nat × Nat) => bits e.1 47 44 != 0 || bits e.1 15 0 != 0) || !list.all mapped then stat s kept 1
      else if 1023 < list.length || 500 * 16384 < total then stat s kept 2
      else if list.zipIdx.any (fun (a : (Nat × Nat × Nat × Nat) × Nat) => meets a.1 save ||
          list.zipIdx.any (fun (b : (Nat × Nat × Nat × Nat) × Nat) => decide (a.2 < b.2) && meets a.1 b.1)) then stat s kept 3
      else stat (({ s with power := { s.power with list := list } }).setHreg 0x2078 (BitVec.ofNat 64 (warnLevel list))) list.length 0))

end Sys2Proof.Machine
end

