-- ==== Sys2Proof/Machine/Management.lean ====
section
/-! DEFINITION. Management (chapter 24): warm reset and attestation (R428, R436), owner slots (R429 to R432), translation
invalidation (R433), keys (R434), routine images (R437), vitrines (R439), features (R301), the trigger (R441), energy
reads (R415), time (R443), the scrubber (R360), and the host's registers and memory window (R298, R300, R444). -/
namespace Sys2Proof.Machine
open Sys2Proof

/-! ### Time (R443) -/

/-- The end of bring-up phase 5 (R427). -/
def State.timeSet (s : State) : State := if s.hreg 0x1000 = 5 then s.setHreg 0x1000 6 else s
/-- TIME_EXCHANGE: `error` is the own counter's offset from the master's, which the counter makes good as time passes, at most 1 ns
for each µs, whichever way, and never stepping back (`Power.slewed`; log 126). -/
def execTimeExchange (master : Nat) (error : BitVec 32) (s : State) : Host.Outcome State Fault Refusal :=
  .next (
    let own := (s.hreg 0x1100).getLsbD 63 && decide (s.modnum ≤ master)
    let current := match s.power.master with
      | some (m, t) => decide (master ≤ m) || decide (t + 1000000 ≤ s.now)
      | none => true
    if own || s.moduleState master != .reachable || !current || s.hreg 0x1000 = 0 then s
    else
      let e := sint 32 error.toNat
      let locked := decide (-20 ≤ e) && decide (e ≤ 20)
      let word := ((s.hreg 0x1100).toNat / 2 ^ 63 * 2 ^ 63) ||| (b2n locked <<< 62) ||| error.toNat
      let s1 := { s.setHreg 0x1100 (BitVec.ofNat 64 word) with power := { s.power with master := some (master, s.now), slew := -e } }
      if locked then s1.timeSet else s1)
/-- MASTER_LOST: after 1 ms without it the counter runs free until another master answers. -/
def execMasterLost (master : Nat) (s : State) : Host.Outcome State Fault Refusal :=
  .next (match s.power.master with
    | none => s
    | some (m, t) =>
      if m ≠ master || s.now < t + 1000000 then s
      else { s.setHreg 0x1100 (s.hreg 0x1100 &&& ~~~(1#64 <<< 62)) with power := { s.power with master := none, slew := 0 } })
/-- TIME_PHASE_TIMEOUT: phase 5 ends after 10 ms with no master (R427). -/
def execTimePhaseTimeout (s : State) : Host.Outcome State Fault Refusal :=
  .next (if s.power.master.isNone && decide (s.power.phaseSince + 10000000 ≤ s.now) then s.timeSet else s)

/-! ### Warm reset and attestation (R428, R436) -/

/-- WARM_RESET: dirty lines are written back; cores, engines, queues, slots, keys and logs are at reset; HBM4, SCM and both
Catalogue slots stay, and so do the router's table and the dirty map; bring-up restarts at phase 1. A module whose firmware
does not verify stays where it is (R427). -/
def execWarmReset (key : BitVec 64) (selftest : BitVec 64) (s : State) : Host.Outcome State Fault Refusal :=
  .next (
    if key ≠ 0x5741524D#64 || s.hreg 0x1000 = 0xF0 then s
    else s.hostWrite 0x1010 0 key true (fun s =>
      let s0 := s.flushL2
      let s1 := s0.powerCycle (selftest &&& 0x07FF0FFF#64) false
      let s2 := { s1 with mem := s0.mem, keys := s0.keys, barriers := s0.barriers, bad := s0.bad, dirtyMap := s0.dirtyMap, router := s0.router }
      s2.notePaths.bringUp))

/-- The attestation report before its signature (Table 4). -/
def State.report (s : State) (nonce : Nat) : List Byte :=
  bytesOf 8 ((1 <<< 56) ||| s.modnum) ++ [0x47#8, 0x4A#8, 0x34#8, 0x30#8, 0x2D#8, 0x41#8, 0x31#8, 0#8] ++ bytesOf 48 nonce ++
  bytesOf 48 Config.curatorDigest.toNat ++ bytesOf 8 (s.hreg 0x1018).toNat ++ bytesOf 8 (s.hreg 0x000).toNat ++ bytesOf 8 (s.hreg 0x008).toNat ++
  bytesOf 8 s.now ++ bytesOf 96 Config.identityKey.toNat ++ bytesOf 96 Config.catalogueKey.toNat ++ bytesOf 16 0
/-- ATTESTATION_REQUEST (R436). -/
def execAttestationRequest (addr : Nat) (s : State) : Host.Outcome State Fault Refusal :=
  .next (s.hostWrite 0x1020 0 (BitVec.ofNat 64 addr) true (fun s =>
    let at_ := bits addr 55 6 * 64
    if !s.hbmRange at_ 64 then s.setHreg 0x1028 3
    else
      let v := s.deviceRead at_ 64
      let out := bits v 447 384
      if !s.hbmRange out 448 then (s.deviceSeen at_ 64).setHreg 0x1028 3
      else
        let body := s.report (v % 2 ^ 384)
        let image := body ++ signatureBytes (Config.signIdentity (Config.sha384 body))
        ((s.deviceSeen at_ 64).deviceWrite out image.length (ofBytes image)).setHreg 0x1028 2))

/-! ### Owner slots (R429, R430, R432) -/

/-- A command of an owner slot: refused as every owner register, discarded while one is being carried out. -/
def State.ownerCommand (s : State) (slot cmd : Nat) (f : State → State) : State :=
  s.hostWrite (0x3030 + 64 * slot) (s.slotOwner slot) (BitVec.ofNat 64 cmd) false (fun s =>
    let st := s.slotReg slot 0x38
    if 32 ≤ slot || !s.slotValid slot || st = 2 || st = 4 then s else f s)
/-- The gangs of an owner. -/
def State.ownerGangs (s : State) (owner : Nat) : List Nat := (Tab.keys s.launch.gangs).filter (fun g => s.gangOwner g == owner)

/-- SUSPEND. -/
def execSuspend (slot : Nat) (s : State) : Host.Outcome State Fault Refusal :=
  .next (s.ownerCommand slot 1 (fun s =>
    (s.ownerGangs (s.slotOwner slot)).foldl (fun (s : State) g => s.requestPreempt g 1) (s.setSlotReg slot 0x38 2)))
/-- OWNER_SUSPENDED: every frame of the suspension is sealed. -/
def execOwnerSuspended (slot : Nat) (s : State) : Host.Outcome State Fault Refusal :=
  .next (
    let sealed := (s.ownerGangs (s.slotOwner slot)).all (fun g => ((s.gang g).map (·.mode)) == some GangMode.preempted)
    if slot < 32 && s.slotReg slot 0x38 = 2 && sealed then s.setSlotReg slot 0x38 3 else s)
/-- RESUME: the gangs resume in pre-emption order (GANG_RESUME). -/
def execResume (slot : Nat) (s : State) : Host.Outcome State Fault Refusal :=
  .next (s.ownerCommand slot 2 (fun s => if s.slotReg slot 0x38 = 3 then s.setSlotReg slot 0x38 1 else s))

/-- A vitrine entry's removal begins; a VWAIT held on it answers with FRONT 0 and GEN 0 (R439). -/
def State.removeVitrine (s : State) (i : Nat) : State :=
  match Tab.find? s.vitrines i with
  | none => s
  | some v =>
    let s1 := { s with vitrines := Tab.put s.vitrines i { v with removing := true } }
    let s2 := { s1 with cores := s1.cores.map (fun (e : Nat × Core) => (e.1, { e.2 with ctxs := e.2.ctxs.map (fun (x : Nat × Strand) => (x.1, if x.2.vheld = some i then { x.2 with answer := some (0, 0) } else x.2)) })) }
    s2.setHreg 0x38C8 4

/-- The nests of an owner that wait at a source retire ABORTED (R432); a nest that so becomes the head is head from now on
(R270). -/
def State.abortWaiting (s : State) (owner : Nat) : State :=
  s.launch.sources.foldl (fun (s : State) (e : Nat × List Waiting) =>
    let rest := e.2.filter (fun w => w.owner != owner)
    let kept := if (e.2.head?.map (·.owner)) = some owner then (match rest with
      | [] => []
      | w :: l => { w with since := s.now } :: l) else rest
    let s1 := { s with launch := { s.launch with sources := Tab.set s.launch.sources [] e.1 kept } }
    (e.2.filter (fun w => w.owner == owner)).foldl (fun (s : State) w =>
      s.complete { owner := owner, source := e.1, rec_ := w.rec_, status := 4, gangs := 0, seq := 0, feats := s.hreg 0x020 }) s1) s

/-- The held replays of an owner end ABORTED (R386, R412). -/
def State.abortReplays (s : State) (owner : Nat) : State :=
  (s.coll.replays.filter (fun r => r.ownerNum == owner)).foldl (fun (s : State) r =>
    match s.replayOf r.graph r.step with
    | none => s
    | some r0 =>
      let s1 := if r0.status = 7 then s.setReplay { r0 with status := 4, module := 0 } else s.failReplay r0 (s.abortOf r0 4 0 0)
      match s1.replayOf r.graph r.step with
      | some r1 => (if r1.closing then s1 else s1.closeReplay r1).recordReplay r1
      | none => s1) s
/-- The nests of an owner in flight place no further gang, hold no cluster and retire ABORTED, once the stores sent have been
acknowledged (R276, R318, R432). -/
def State.abortNests (s : State) (owner : Nat) : State :=
  let mine := fun (k : Nat) => (s.nest k).any (fun n => n.owner == owner)
  let s1 : State := { s with launch := { s.launch with nests := s.launch.nests.map (fun (e : Nat × Nest) => if e.2.owner = owner then (e.1, { e.2 with stopped := true, status := 4 }) else e) } }
  ((List.range 4).foldl (fun (s : State) c => if (s.cluster c).reservation.any mine then s.setCluster c { s.cluster c with reservation := none } else s) s1).noteFirst

/-- TERMINATE (R318, R386, R432, R439): STATE and VALID become 0 when the owner's last nest has retired. -/
def execTerminate (slot : Nat) (s : State) : Host.Outcome State Fault Refusal :=
  .next (s.ownerCommand slot 3 (fun s =>
    let owner := s.slotOwner slot
    let s1 := (s.ownerGangs owner).foldl (fun (s : State) g => s.endGang g 4) (s.setSlotReg slot 0x38 4)
    let s4 := ((s1.abortNests owner).abortWaiting owner).abortReplays owner
    let s5 := (List.range 2048).foldl (fun (s : State) q =>
      if s.queueOwner q = owner && s.queueEnabled q then s.setQueueReg q 8 (s.queueReg q 8 - 32768) else s) s4
    let s6 := (s5.vitrines.filter (fun v => v.2.owner == owner)).foldl (fun (s : State) (v : Nat × Vitrine) => s.removeVitrine v.1) s5
    ({ s6 with power := { s6.power with unresumed := s6.power.unresumed.filter (· ≠ owner) } }.settleRestore).endTerminate slot))

/-- Whether islands would belong to another valid slot (R430). -/
def State.islandsTaken (s : State) (slot islands : Nat) : Bool :=
  (List.range 32).any (fun q => q != slot && s.slotValid q && s.slotIslands q &&& islands != 0)
/-- ISLANDS_WRITE (R430): what it clears leaves the partition at once; what it sets joins once no gang of another owner is
resident there. -/
def execIslandsWrite (slot : Nat) (value : BitVec 64) (s : State) : Host.Outcome State Fault Refusal :=
  .next (
    let addr := 0x3028 + 64 * slot
    s.hostWrite addr (s.slotOwner slot) value false (fun s =>
      if 32 ≤ slot then s
      else if s.islandsTaken slot (value.toNat % 2 ^ 32) then s.refuse addr (s.slotOwner slot) value
      else s.setSlotReg slot 0x28 (value.toNat % 2 ^ 32)))
/-- REGSEL_WRITE (R431). -/
def execRegselWrite (value : BitVec 64) (s : State) : Host.Outcome State Fault Refusal :=
  .next (s.hostWrite 0x3800 0 value false (fun s => s.setHreg 0x3800 value))

/-! ### Translation invalidation (R365, R433) -/

/-- The range INVADDR names: base and size; every address for size 3. -/
def State.invRange (s : State) : Nat × Nat :=
  let v := (s.hreg 0x3820).toNat
  let n := match v % 4 with
    | 0 => 16
    | 1 => 21
    | 2 => 28
    | _ => 64
  (v / 2 ^ n * 2 ^ n, 2 ^ n)
/-- The entries of owner slot `q` that overlap the named range leave every TLB. -/
def State.dropEntries (s : State) (q : Nat) : State :=
  let (lo, n) := s.invRange
  let drop := fun (l : List TlbEntry) => l.filter (fun e => !(e.slot == q && decide (e.vpage < lo + n) && decide (lo < e.vpage + e.size)))
  { s with cores := s.cores.map (fun (e : Nat × Core) => (e.1, { e.2 with utlb := drop e.2.utlb })), clusters := s.clusters.map (fun (e : Nat × Cluster) => (e.1, { e.2 with tlb := drop e.2.tlb })) }
/-- INVCMD: the slot it names is kept until the invalidation completes. -/
def execInvcmd (value : BitVec 64) (s : State) : Host.Outcome State Fault Refusal :=
  .next (s.hostWrite 0x3828 (s.slotOwner (value.toNat % 32)) value true (fun s =>
    ((s.dropEntries (value.toNat % 32)).setHreg 0x3828 (BitVec.ofNat 64 (value.toNat % 32))).setHreg 0x3830 1))
/-- INVALIDATION_COMPLETE: what walks have installed in the range since INVCMD leaves the TLBs too, so that what is translated
from now on reads the page table as it stands (R365). -/
def execInvalidationComplete (s : State) : Host.Outcome State Fault Refusal :=
  .next (if s.hreg 0x3830 = 0 then s else (s.dropEntries (s.hreg 0x3828).toNat).setHreg 0x3830 0)

/-! ### Keys, routines and vitrines (R434, R437, R439) -/

/-- KEYLOAD: KEYSTAT 0 installed, 1 refused by the unwrap check, 2 the slot is valid. -/
def execKeyload (addr : Nat) (s : State) : Host.Outcome State Fault Refusal :=
  .next (s.hostWrite 0x3840 0 (BitVec.ofNat 64 addr) true (fun s0 =>
    if !s0.hbmRange addr 176 then s0.setHreg 0x3848 1
    else
      let v := s0.deviceRead addr 176
      let s := s0.deviceSeen addr 176
      let q := v % 2 ^ 64
      if q < 32 && s.slotValid q then (s.refuse 0x3840 (s.slotOwner q) (BitVec.ofNat 64 addr)).setHreg 0x3848 2
      else match (if q < 32 then Config.unwrapKey (bytesOf 168 (v >>> 64)) else none) with
        | none => s.setHreg 0x3848 1
        | some k => { s with owners := Tab.set s.owners {} q { Tab.get s.owners {} q with key := some k } }.setHreg 0x3848 0))

/-- The routine records of an image set from an offset: none where one is malformed or the words exceed 2,048 (R155,
R437). -/
def State.routineSet (s : State) (at_ total : Nat) (fuel : List Nat) (m : Map (Nat × List Word)) : Option (Map (Nat × List Word)) :=
  match fuel with
  | [] => none
  | _ :: rest =>
    if !s.hbmRange at_ 8 then none
    else
      let h := s.deviceRead at_ 8
      let n := h % 65536
      if h = 0 then some m
      else if bits h 49 16 ≠ 0 || 32 < bits h 55 50 || n = 0 || 2048 < total + n || !s.hbmRange at_ (8 + 8 * n) then none
      else
        let words := (List.range n).map (fun i => BitVec.ofNat 64 (s.deviceRead (at_ + 8 + 8 * i) 8))
        s.routineSet (at_ + 8 + 8 * n) (total + n) rest (Tab.put m (bits h 63 56) (bits h 55 50, words))
termination_by structural fuel
/-- How many bytes of the set are read: up to its end, or through the record that is malformed (R190). -/
def State.routineBytes (s : State) (at_ total : Nat) (fuel : List Nat) : Nat :=
  match fuel with
  | [] => 0
  | _ :: rest =>
    if !s.hbmRange at_ 8 then 0
    else
      let h := s.deviceRead at_ 8
      let n := h % 65536
      if h = 0 || bits h 49 16 ≠ 0 || 32 < bits h 55 50 || n = 0 || 2048 < total + n || !s.hbmRange at_ (8 + 8 * n) then 8
      else 8 + 8 * n + s.routineBytes (at_ + 8 + 8 * n) (total + n) rest
termination_by structural fuel
/-- RTLOAD (R437): RTSTAT 1 while cores remain to be loaded, 2 for a malformed set. Each core of the islands that the slot names is
to be loaded: R430 lets an island join a partition only for placement while a gang of its old owner is resident, and
R437 says `each core of the partition`, so that such a core is loaded too, as soon as it holds no unretired operation, is
the model's choice (log 184). -/
def execRtload (value : BitVec 64) (s : State) : Host.Outcome State Fault Refusal :=
  .next (s.hostWrite 0x3880 (if value.toNat % 64 < 32 then s.slotOwner (value.toNat % 64) else 0) value true (fun s0 =>
    let q := value.toNat % 64
    let at_ := bits value.toNat 55 6 * 64
    match (if q < 32 then s0.routineSet at_ 0 (List.range 2049) [] else none) with
    | none => (if q < 32 then s0.deviceSeen at_ (s0.routineBytes at_ 0 (List.range 2049)) else s0).setHreg 0x3888 2
    | some m =>
      let s := s0.deviceSeen at_ (s0.routineBytes at_ 0 (List.range 2049))
      let cores := if s.slotValid q then (List.range 4).flatMap (fun cl => s.partition q cl) else []
      let s1 := { s with owners := Tab.set s.owners {} q { Tab.get s.owners {} q with routines := m } }
      let s2 := cores.foldl (fun (s : State) c => s.mapCore c (fun k => { k with reload := true })) s1
      s2.setHreg 0x3888 (if cores.isEmpty then 0 else 1)))
/-- CORE_ROUTINE_LOAD: a core that holds no unretired matrix operation takes the set of the owner whose valid slot names its
island, whichever owner's gang is still resident (log 184). -/
def execCoreRoutineLoad (core : Nat) (s : State) : Host.Outcome State Fault Refusal :=
  .next (
    let k := s.core core
    if !k.reload || !k.mq.isEmpty then s
    else
      let q := (List.range 32).find? (fun q => s.slotValid q && (s.slotIslands q).testBit (coreIsland core))
      let m := if q.isSome then s.islandRoutines core else k.routines
      (s.setCore core { k with routines := m, reload := false, tornWords := [] }).settleReload)

/-- VITLOAD (R439). -/
def execVitload (value : BitVec 64) (s : State) : Host.Outcome State Fault Refusal :=
  .next (s.hostWrite 0x38C0 (if value.toNat % 64 < 32 then s.slotOwner (value.toNat % 64) else 0) value true (fun s0 =>
    let stat := fun (s : State) (v : Nat) => s.setHreg 0x38C8 (BitVec.ofNat 64 v)
    let q := value.toNat % 64
    let at_ := bits value.toNat 55 6 * 64
    let v := s0.deviceRead at_ 32
    let s := s0.deviceSeen at_ 32
    let word := fun (i : Nat) => bits v (64 * i + 63) (64 * i)
    let (front, shadow, len, index) := (word 0, word 1, word 2, word 3)
    if s.vitrines.any (fun (e : Nat × Vitrine) => e.2.removing) then stat s 4
    else if 32 ≤ q || !s.slotValid q then stat s 3
    else if !s.hbmRange at_ 32 || 8191 < index || len = 0 || front % 64 ≠ 0 || shadow % 64 ≠ 0 || (front < shadow + len && shadow < front + len) then stat s 1
    else if (Tab.find? s.vitrines index).isSome then stat s 2
    else stat { s with vitrines := Tab.put s.vitrines index { front := front, shadow := shadow, length := len, owner := s.slotOwner q } } 0))
/-- VITCLR (R439). -/
def execVitclr (index : Nat) (s : State) : Host.Outcome State Fault Refusal :=
  .next (s.hostWrite 0x38D0 0 (BitVec.ofNat 64 index) true (fun s => s.removeVitrine index))
/-- VITRINE_REMOVED (R439): every copy into the entry, PUBLISH of it and replay that names it has completed. -/
def execVitrineRemoved (index : Nat) (s : State) : Host.Outcome State Fault Refusal :=
  .next (match Tab.find? s.vitrines index with
    | none => s
    | some v =>
      let copied := s.cores.any (fun (e : Nat × Core) => e.2.copies.any (fun y => y.into.contains index))
      let publishing := s.cores.any (fun (e : Nat × Core) => e.2.ctxs.any (fun (x : Nat × Strand) => x.2.holds.contains (.publish index)))
      let replayed := s.coll.replays.any (fun r => (s.graphOf r.graph).vit == some index)
      if !v.removing || copied || publishing || replayed then s
      else
        let s1 := { s with vitrines := Tab.erase s.vitrines index }
        if s1.vitrines.any (fun (e : Nat × Vitrine) => e.2.removing) then s1 else s1.setHreg 0x38C8 0)

/-! ### Features, trigger, energy (R298, R301, R415, R441) -/

/-- FEAT_DRV_WRITE: FEAT_ACT is FEAT_DEV AND FEAT_DRV over the features of Table 6, with BASE always 1; a reserved bit is
discarded. -/
def execFeatDrvWrite (word : Nat) (value : BitVec 64) (s : State) : Host.Outcome State Fault Refusal :=
  .next (
    let off := 8 * (word % 2)
    s.hostWrite (0x010 + off) 0 value true (fun s =>
      let s1 := if off = 0 then s.setHreg 0x010 (value &&& 0x7F#64) else s
      if off = 0 then s1.showFeatures else s1))

/-- TRIGCTL_ARM: MASK is written; a 1 in ARMED arms and releases the snapshots, which read 0. -/
def execTrigctlArm (value : BitVec 64) (s : State) : Host.Outcome State Fault Refusal :=
  .next (s.hostWrite 0x4100 0 value true (fun s =>
    let arm := value.getLsbD 63
    let armed := arm || (s.hreg 0x4100).getLsbD 63
    let s1 := if arm then { s with host := s.host.filter (fun (e : Nat × Word) => !(decide (0x200000 ≤ e.1) && decide (e.1 < 0x220000))) } else s
    s1.setHreg 0x4100 (BitVec.ofNat 64 ((b2n armed <<< 63) ||| value.toNat % 256))))
/-- TRIGFIRE. -/
def execTrigfire (s : State) : Host.Outcome State Fault Refusal :=
  .next (s.hostWrite 0x4108 0 0 true (fun s => s.fire 0x0404))

/-- A host's 8-byte read of a register: the whole of it at one moment (R298, R415). A read in the log window answers what its entry
holds from there on: one of 32 bytes the whole entry (R440). -/
def State.hostRead (s : State) (off : Nat) : State :=
  let v := if 0x400000 ≤ off && off < 0x500000 then s.logSlot (off - 0x400000) >>> (8 * (off / 8 * 8 % 32)) else (s.hreg (off / 8 * 8)).toNat
  { s with power := { s.power with answer := v } }

/-- ENERGY_LOW_READ: a 4-byte read of a register's low half, which latches the high half (R415). -/
def execEnergyLowRead (off : Nat) (s : State) : Host.Outcome State Fault Refusal :=
  .next (
    let v := s.hreg (off / 8 * 8)
    { s with power := { s.power with answer := v.toNat % 2 ^ 32, latched := Tab.put s.power.latched (off / 8 * 8) (v.extractLsb' 32 32) } })
/-- ENERGY_HIGH_READ: the latched high half, which is released; the register's own where none is latched. -/
def execEnergyHighRead (off : Nat) (s : State) : Host.Outcome State Fault Refusal :=
  .next (
    let a := off / 8 * 8
    match Tab.find? s.power.latched a with
    | some h => { s with power := { s.power with answer := h.toNat, latched := Tab.erase s.power.latched a } }
    | none => { s with power := { s.power with answer := (s.hreg a).toNat / 2 ^ 32 } })

/-! ### The scrubber (R360, R361) -/

/-- PATROL_SCRUB: `finding` is 0 nothing, 1 a corrected word in HBM4, 2 an uncorrectable one there, 3 a corrected word in
the L2, 4 an uncorrectable one there. The scrubber is paused while the module drains and afterwards (R404). -/
def execPatrolScrub (addr finding : Nat) (s : State) : Host.Outcome State Fault Refusal :=
  .next (
    let c := homeCluster addr
    let word := addr / 8
    let source := if 3 ≤ finding then 0x0100 else 0x0240 + addr / 2 ^ 36 % 2
    let structure_ := if 3 ≤ finding then 2 else 3
    if !inHbm addr || s.supply = 4 || s.supply = 5 || s.power.off then s
    else if finding = 1 || finding = 3 then s.correct c source (addr / 32)
    else if finding = 2 || (finding = 4 && ((s.cluster c).find (addr / 128)).any (fun l => l.valid.getLsbD (addr % 128 / 32))) then
      let s1 := if finding = 2 then { s with bad := if s.bad.contains word then s.bad else s.bad ++ [word] }
        else { s with badL2 := if s.badL2.contains word then s.badL2 else s.badL2 ++ [word] }
      s1.log c source 2 4 0 (BitVec.ofNat 64 (8 * word)) (BitVec.ofNat 64 structure_)
    else s)

/-! ### The host's memory window and registers (R298, R300, R444) -/

/-- The key HOSTKEY selects; none where its slot holds no key. -/
def State.hostKey (s : State) : Option Nat :=
  let v := (s.hreg 0x048).toNat
  if !v.testBit 7 then some 0
  else if (Tab.get s.owners {} (v % 32)).key.isSome then some (s.slotKey (v % 32)) else none

/-- A sector as a host load sees it: from a line held under its key, else from HBM4. -/
def State.hostSector (s : State) (pa key : Nat) : Nat :=
  let i := pa % 128 / 32
  match (s.cluster (homeCluster pa)).find (pa / 128) with
  | some l => if l.key = key && l.valid.getLsbD i then bits l.data.toNat (256 * i + 255) (256 * i) else s.hbmSector pa key
  | none => s.hbmSector pa key
/-- HOST_LOAD: its answer stands in `power.answer`. A refused load, and one outside the local map, answers all ones. -/
def execHostLoad (addr size : Nat) (s : State) : Host.Outcome State Fault Refusal :=
  .next (
    let n := min size 32
    let ans := fun (s : State) (v : Nat) => { s with power := { s.power with answer := v } }
    let refused := fun (s : State) => ans (s.refuse addr 0 0) (2 ^ (8 * n) - 1)
    match s.hostKey with
    | none => refused s
    | some key =>
      if inHbm (addr + n - 1) && s.stackServes (addr / 2 ^ 36) && !s.power.off && s.supply ≠ 5 then
        let runs := sectorRuns addr n
        if runs.any (fun (r : Nat × Nat × Nat) => s.badRead r.1 key (maskRange (r.1 % 32) r.2.1)) then
          let r := s.freeBytes n
          ans (r.1.linesSeen addr n key) r.2
        else ans (s.linesSeen addr n key) (runs.foldl (fun v (r : Nat × Nat × Nat) => v ||| (((s.hostSector r.1 key >>> (8 * (r.1 % 32))) % 2 ^ (8 * r.2.1)) <<< (8 * r.2.2))) 0)
      else match s.place (s.modnum * 2 ^ 44 + addr) with
        | .counter c off => if off % 8 = 0 && n = 8 then ans s (s.counterPage c off) else refused s
        | _ => refused s)

/-- HOST_STORE of bytes of one sector (R300, R416). What becomes of a store outside the mapped memory R300 does not say: it
changes nothing, the model's choice (log 142). -/
def execHostStore (addr : Nat) (mask : BitVec 32) (data : BitVec 256) (s : State) : Host.Outcome State Fault Refusal :=
  .next (
    let a := addr / 32 * 32
    let bytes := mask.toNat
    let written := BitVec.ofNat 64 (data.toNat >>> (8 * (lowest 32 (fun i => bytes.testBit i)).getD 0))
    s.hostWrite addr 0 written true (fun s =>
      match s.hostKey with
      | none => s.refuse addr 0 written
      | some key =>
        if !inHbm a || !s.stackServes (a / 2 ^ 36) || s.power.off || bytes = 0 then s
        else
          let s1 := s.claimLine (a / 128) key
          let s2 := if ((s1.cluster (homeCluster a)).find (a / 128)).isSome then s1.engineWrite a 32 bytes data.toNat key
            else
              let s3 := if bytes ≠ 0xFFFFFFFF && s1.badAt a key then s1
                else s1.setHbmSector a key (mergeBytes 32 bytes data.toNat (s1.hbmSector a key))
              ((s3.clearTags a 32 bytes key).testGlobal a 32).markDirty a
          s2))

/-- A write of word 0 of an owner slot: OWNER is kept while the slot is valid, no number belongs to two valid slots, and
no island to two (R429, R430). A slot that becomes valid is running, and its owner has used no ring address yet (R26); one
that is cleared is idle. -/
def State.writeSlot (s : State) (q : Nat) (value : Word) : State :=
  let old := s.slotReg q 0
  let v := value.toNat
  let owner := v % 65536
  let valid := v.testBit 63
  let refused := (s.slotValid q && owner ≠ old % 65536) ||
    (valid && ((List.range 32).any (fun k => k != q && s.slotValid k && s.slotOwner k == owner) || owner = 0 || owner = 0xFFFF || s.islandsTaken q (s.slotIslands q)))
  if refused then s.refuse (0x3000 + 64 * q) (old % 65536) value
  else
    let s1 := s.setSlotReg q 0 (v / 2 ^ 62 * 2 ^ 62 + owner)
    if valid then (if s.slotValid q then s1 else
      { s1.setSlotReg q 0x38 1 with launch := { s1.launch with rings := s1.launch.rings.filter (fun (e : (Nat × Nat) × Nat) => e.1.1 != owner) } })
    else if s.slotValid q then s1.setSlotReg q 0x38 0 else s1

/-- The writable bits of a host register that has no behaviour of its own. -/
def writableBits (off : Nat) : Nat :=
  if off = 0x040 then 0xFF
  else if off = 0x048 then 0x9F
  else if off = 0x2020 then 2 ^ 64 - 1
  else if off = 0x2028 then 2 ^ 56 - 2 ^ 12
  else if off = 0x2060 || off = 0x2068 then 2 ^ 56 - 2 ^ 16
  else if off = 0x3820 then 2 ^ 56 - 2 ^ 16 + 3
  else if off = 0x1100 then 2 ^ 63
  else 0
/-- Work-queue registers (Table 5): BASE and LOG2N stay while ENABLE is 1, a LOG2N above 16 leaves it unchanged; a driver's
write leaves OWNER (RO), and one that names an owner while the queue is disabled is the hypervisor's (log 70). -/
def State.writeQueue (s : State) (q off : Nat) (value : Word) : State :=
  let v := value.toNat
  let on := s.queueEnabled q
  if off = 0 then
    let base := bits (if on then s.queueReg q 0 else v) 55 7
    s.setQueueReg q 0 ((v / 2 ^ 63 * 2 ^ 63) ||| (base <<< 7))
  else if off = 8 then
    let old := s.queueReg q 8
    let log2n := if on || 16 < bits v 12 8 then bits old 12 8 else bits v 12 8
    let owner := if on || bits v 31 16 = 0 then bits old 31 16 else bits v 31 16
    s.setQueueReg q 8 ((owner <<< 16) ||| (bits v 15 15 <<< 15) ||| (log2n <<< 8) ||| v % 256)
  else s

/-- REGISTER_WRITE: a host write to a register whose write does nothing else (R3, R298, R420, R427 to R443). -/
def execRegisterWrite (off : Nat) (value : BitVec 64) (s : State) : Host.Outcome State Fault Refusal :=
  .next (
    let slot := (off - 0x3000) / 64
    let inSlot := decide (0x3000 ≤ off) && decide (off < 0x3800)
    let inQueue := decide (0x100000 ≤ off) && decide (off < 0x120000)
    let owner := if inSlot then s.slotOwner slot else 0
    s.hostWrite off owner value (!(inSlot || inQueue)) (fun s =>
      let put := fun (s : State) (mask : Nat) => s.setSlotReg slot (off % 64) (value.toNat &&& mask)
      if inSlot then
        match off % 64 with
        | 0x00 => s.writeSlot slot value
        | 0x08 => if s.slotValid slot then s.refuse off owner value else put s (2 ^ 56 - 2 ^ 13)
        | 0x10 => put s (2 ^ 48 - 2)
        | 0x18 => put s (2 ^ 24 - 1)
        | 0x20 => put s (2 ^ 56 - 2 ^ 8)
        | _ => s
      else if inQueue then s.writeQueue ((off - 0x100000) / 64) (off % 64) value
      else
        let m := BitVec.ofNat 64 (writableBits off)
        s.setHreg off ((value &&& m) ||| (s.hreg off &&& ~~~m))))

end Sys2Proof.Machine
end

