-- ==== Sys2Proof/Machine/Checkpoint.lean ====
section
/-! DEFINITION. Differential checkpoints (R416 to R419): capture into stripes of shards, sealing, receiving shards of other
modules, and restoring a chain. -/
namespace Sys2Proof.Machine
open Sys2Proof

def State.setCkstat (s : State) (seq code : Nat) : State := s.setHreg 0x2058 (BitVec.ofNat 64 (((seq % 2 ^ 32) <<< 32) ||| code))

/-! ### Capture (R417, R418) -/

/-- A granule captured: its dirty bit is cleared, and its header and eight groups join the stream. -/
def State.captureGranule (s : State) (key region off : Nat) : State × List Byte × Nat :=
  let s0 := { s with dirtyMap := s.dirtyMap.filter (· ≠ off / 32768) }
  (List.range 8).foldl (fun (a : State × List Byte × Nat) i =>
    let (s1, lines) := a.1.drainGroup key (off + 4096 * i)
    (s1, a.2.1 ++ groupImage lines, a.2.2 + lines.foldl (fun n e => n + e.lost) 0))
    (s0, bytesOf 32 (off ||| (region <<< 64)), 0)

/-- The regions captured in their order: the machine, the stream, and their entries, whose DONE is LENGTH as their STATUS is OK
(Table 5). -/
def State.captureRegions (s : State) (diff : Bool) : State × List Byte × List Region :=
  (s.drainRegions.drop 1).zipIdx.foldl (fun (a : State × List Byte × List Region) (e : Region × Nat) =>
    let r := e.1
    let key := if r.owner = 0 then 0 else a.1.slotKey ((a.1.slotOf r.owner).getD 32)
    let gs := ((List.range (r.length / 32768)).map (fun i => r.base + 32768 * i)).filter (fun o => !diff || s.dirtyMap.contains (o / 32768))
    let lines := gs.flatMap (fun o => (List.range 256).flatMap (fun i => bytesOf 128 (a.1.peekLine (o / 128 + i) key)))
    let (s1, image, bad) := gs.foldl (fun (b : State × List Byte × Nat) o =>
      let c := b.1.captureGranule key (e.2 + 1) o
      (c.1, b.2.1 ++ c.2.1, b.2.2 + c.2.2)) (a.1, ([], 0))
    (s1, a.2.1 ++ image, a.2.2 ++ [{ r with done := r.length, scmOff := a.2.1.length, scmLen := image.length, digest := Config.sha384 lines, uncorr := bad }]))
    (s, ([], []))

/-- Shards of 64 KiB, the last padded with zeros. -/
def shardsOf (stream : List Byte) : List (List Byte) :=
  (List.range ((stream.length + 65535) / 65536)).map (fun i =>
    let d := (stream.drop (65536 * i)).take 65536
    d ++ List.replicate (65536 - d.length) 0#8)
/-- The XOR of shards. -/
def parityOf (l : List (List Byte)) : List Byte :=
  l.foldl (fun a d => List.zipWith (fun (x y : Byte) => x ^^^ y) a d) (List.replicate 65536 0#8)
/-- The shards of a stream with the member each goes to: member, parity, shard number, bytes (R418). -/
def placeShards (g own : Nat) (data : List (List Byte)) : List (Nat × Bool × Nat × List Byte) :=
  (List.range ((data.length + g - 2) / (g - 1))).flatMap (fun s =>
    let part := (data.drop (s * (g - 1))).take (g - 1)
    let p := (s + own) % g
    let others := (List.range g).filter (· ≠ p)
    (others.zip part).zipIdx.map (fun (e : (Nat × List Byte) × Nat) => (e.1.1, false, s * (g - 1) + e.2, e.1.2)) ++ [(p, true, s, parityOf part)])

/-- The owner a shard travels under: that of the region in which its first byte lies, of a parity shard that of its stripe's first
(R380, R418; log 170, DESIGN CHOICE). -/
def shardOwner (regions : List Region) (g : Nat) (parity : Bool) (i : Nat) : Nat :=
  let at_ := 65536 * (if parity then i * (g - 1) else i)
  ((regions.find? (fun r => decide (at_ < r.scmOff + r.scmLen))).map (·.owner)).getD 0
/-- CKREQ (R417, R418): the regions are captured, and every shard is sent to its member. -/
def execCkreq (addr : Nat) (s : State) : Host.Outcome State Fault Refusal :=
  .next (s.hostWrite 0x2050 0 (BitVec.ofNat 64 addr) true (fun s0 =>
    let at_ := bits addr 55 6 * 64
    let v := if s0.hbmRange at_ 64 then s0.deviceRead at_ 64 else 0
    let s := s0.deviceSeen at_ 64
    let w := v % 2 ^ 64
    let g := bits w 51 48 + 1
    let own := bits w 47 40
    let members := (List.range g).map (fun k => bits v (64 + 12 * k + 11) (64 + 12 * k))
    let good := bits w 63 56 == 1 && decide (3 ≤ g) && decide (own < g) && bits w 55 52 == 0 && bits w 39 1 == 0 && bits v (64 + 191) (64 + 12 * g) == 0 &&
      bits v 511 256 == 0 && members.getD own 4096 == s.modnum && members.all (fun m => decide (m < 3072)) && decide (members.dedup.length = g)
    if s.power.checkpoint.isSome then s
    else if !good then s.setCkstat s.lastSeq 5
    else
      let diff := w.testBit 0
      let (s1, stream, regions) := s.captureRegions diff
      let shards := placeShards g own (shardsOf stream)
      let sent := (shards.filter (fun (e : Nat × Bool × Nat × List Byte) => e.1 != own)).map (fun e => OutMsg.shard (members.getD e.1 0) e.2.2.2 (shardOwner regions g e.2.1 e.2.2.1))
      ({ s1 with outbox := s1.outbox ++ sent, power := { s1.power with checkpoint := some { members := members, own := own, diff := diff, t := s.now, regions := regions, shards := shards } } }).setCkstat s.lastSeq 1))

/-! ### Receiving and sealing (R418, R419) -/

/-- Bytes appended to the own checkpoint area: the local offset used, or none where the area is full. -/
def State.appendArea (s : State) (data : List Byte) : State × Option Nat :=
  let base := (s.hreg 0x2060).toNat
  let at_ := base + s.power.areaUsed
  if (s.hreg 0x2068).toNat < s.power.areaUsed + data.length || !s.hbmRange at_ data.length then (s, none)
  else
    let s1 := s.deviceWrite at_ data.length (ofBytes data)
    ({ s1 with power := { s1.power with areaUsed := s1.power.areaUsed + data.length } }, some at_)

/-- SHARD_RECEIVE: the shard's offset is returned to its sender, or that the area is full; a shard of an owner that has no slot here is
refused with PERMISSION (R380, R395, R418). The device's own, a Catalogue among them, carry owner 0. `source` is what the
message's header says of it: the sending module's number in [11:0], the owner number above it (log 170). -/
def execShardReceive (source : Nat) (data : List Byte) (s : State) : Host.Outcome State Fault Refusal :=
  .next (
    let module := source % 4096
    let owner := source / 4096
    let answer := fun (s : State) (status v : Nat) => { s with outbox := s.outbox ++ [OutMsg.answer module 0 status (BitVec.ofNat 256 v)] }
    if s.router.off then s
    else if s.answersHibernating owner then answer s 5 0
    else if owner ≠ 0 && (s.slotOf owner).isNone then answer s 3 0
    else match s.appendArea data with
      | (s1, some off) => answer s1 0 off
      | (s1, none) => answer s1 1 0)

/-- The shard entries of a checkpoint, its own shards appended to its own area; `answers` are the offsets the other
members returned, in the order in which shards were sent. -/
def State.placeEntries (s : State) (members : List Nat) (own : Nat) (answers : List Nat) (l : List (Nat × Bool × Nat × List Byte)) : State × Option (List Shard) :=
  match l with
  | [] => (s, some [])
  | (m, parity, i, data) :: rest =>
    let (s1, off) := if m = own then s.appendArea data else (s, answers.head?)
    match off with
    | none => (s1, none)
    | some o =>
      match s1.placeEntries members own (if m = own then answers else answers.drop 1) rest with
      | (s2, some es) => (s2, some ({ module := members.getD m 0, parity := parity, index := i, addr := members.getD m 0 * 2 ^ 44 + o, digest := Config.sha384 data } :: es))
      | (s2, none) => (s2, none)
termination_by structural l

/-- CHECKPOINT_SEAL (R404, R419). An answer of 2^44 is a full area, a greater one a member that refuses or does not answer. -/
def execCheckpointSeal (answers : List Nat) (s : State) : Host.Outcome State Fault Refusal :=
  .next (match s.power.checkpoint with
    | none => s
    | some k =>
      let sent := (k.shards.filter (fun (e : Nat × Bool × Nat × List Byte) => e.1 != k.own)).length
      let ended := fun (s : State) (code : Nat) => ({ s with power := { s.power with checkpoint := none } }).setCkstat s.lastSeq code
      if answers.length < sent || s.memoryStill then s
      else if answers.any (fun a => decide (2 ^ 44 < a)) then ended s 4
      else if answers.any (fun a => a == 2 ^ 44) then ended s 3
      else match s.placeEntries k.members k.own answers k.shards with
        | (s1, none) => ended s1 3
        | (s1, some shards) =>
          let prev := if k.diff then (s1.power.chain.getLast?).elim 0 (fun c => Config.sha384 (c.bytes s.modnum)) else 0
          let c0 : Catalogue := { kind := 2, slot := 0, seq := s1.lastSeq + 1, tWarn := k.t, tSeal := s1.now, prev := prev, selftest := s1.hreg 0x1018, feat := s1.hreg 0x020, energy := 0, regions := k.regions, steps := s1.graphSteps, shards := shards }
          let c := c0.signed s.modnum
          match s1.appendArea (c.bytes s.modnum) with
          | (s2, none) => ended s2 3
          | (s2, some at_) =>
            let away := (k.members.filter (· ≠ s.modnum)).map (fun m => OutMsg.shard m (c.bytes s.modnum) 0)
            let s3 := { s2 with outbox := s2.outbox ++ away, power := { s2.power with chain := (if k.diff then s2.power.chain else []) ++ [{ c with addr := at_ }] } }
            ended s3 2)

/-! ### Restoring (R419) -/

/-- The granules of a stream: local offset, region, lines. -/
def decodeStream (fuel : List Nat) (stream : List Byte) : List (Nat × Nat × List Nat) :=
  match fuel with
  | [] => []
  | _ :: rest =>
    if stream.length < 32 then []
    else
      let hdr := ofBytes (stream.take 32)
      let region := bits hdr 79 64
      if region = 0 then []
      else
        let r := (List.range 8).foldl (fun (a : List Nat × List Byte) _ =>
          let g := decodeGroup a.2
          (a.1 ++ g.1, g.2)) ([], stream.drop 32)
        (hdr % 2 ^ 64, region, r.1) :: decodeStream rest r.2
termination_by structural fuel

/-- The data shards of a checkpoint from what its members returned, at most one of a stripe rebuilt from parity; none
for a shard that is lost. -/
def rebuildShards (g : Nat) (entries : List Shard) (got : List (List Byte)) : List (Option (List Byte)) :=
  let whole := (entries.zip got).map (fun (e : Shard × List Byte) => (e.1, if Config.sha384 e.2 = e.1.digest then some e.2 else none))
  let n := (entries.filter (fun e => !e.parity)).length
  (List.range n).map (fun i =>
    let find := fun (parity : Bool) (k : Nat) => (whole.find? (fun (e : Shard × Option (List Byte)) => e.1.parity == parity && e.1.index == k)).bind (·.2)
    match find false i with
    | some d => some d
    | none =>
      let stripe := i / (g - 1)
      let mates := ((List.range (g - 1)).map (fun k => stripe * (g - 1) + k)).filter (fun k => k != i && decide (k < n))
      match find true stripe with
      | none => none
      | some p =>
        if mates.all (fun k => (find false k).isSome) then some (parityOf (p :: mates.map (fun k => (find false k).getD []))) else none)

/-- One checkpoint of a chain applied to memory: the machine, and the regions whose bytes are lost. -/
def State.applyCheckpoint (s : State) (c : Catalogue) (got : List (List Byte)) : State × List Nat :=
  let g := (((c.shards.map (·.module)).dedup).length)
  let data := rebuildShards (max g 2) c.shards got
  let total := c.regions.foldl (fun n r => n + r.scmLen) 0
  let stream := (data.flatMap (fun d => d.getD (List.replicate 65536 0#8))).take total
  let lost := ((List.range data.length).filter (fun i => (data.getD i none).isNone))
  let hurt := (c.regions.zipIdx.filter (fun (e : Region × Nat) => decide (0 < e.1.scmLen) && lost.any (fun i => decide (65536 * i < e.1.scmOff + e.1.scmLen) && decide (e.1.scmOff < 65536 * (i + 1))))).map (·.2)
  let key := fun (s : State) (r : Region) => if r.owner = 0 then 0 else s.slotKey ((s.slotOf r.owner).getD 32)
  let s1 := c.regions.zipIdx.foldl (fun (s : State) (e : Region × Nat) =>
    if hurt.contains e.2 then s
    else (decodeStream (List.range (total / 32 + 1)) ((stream.drop e.1.scmOff).take e.1.scmLen)).foldl (fun (s : State) (x : Nat × Nat × List Nat) =>
      x.2.2.zipIdx.foldl (fun (s : State) (l : Nat × Nat) => s.engineWrite (x.1 + 128 * l.2) 128 (2 ^ 128 - 1) l.1 (key s e.1)) s) s) s
  (s1, hurt)

/-- How many bytes a Catalogue has whose FORMAT word is `f` (R405). -/
def catalogueSize (f : Nat) : Nat := 128 + 96 * (f % 65536) + 2048 + 64 * bits f 31 16 + 96
/-- A Catalogue of KIND 2 in bytes, where they are whole and its seal verifies (R405, R406, R419). -/
def parseCatalogue (l : List Byte) : Option Catalogue :=
  let word := fun (off : Nat) => ofBytes ((l.drop off).take 8)
  let digest := fun (off : Nat) => BitVec.ofNat 384 (ofBytes ((l.drop off).take 48))
  let f := word 0
  let n := f % 65536
  let size := catalogueSize f
  let signature := BitVec.ofNat 768 (ofBytes ((l.drop (size - 96)).take 96).reverse)
  if bits f 63 56 ≠ 1 || bits f 55 48 ≠ 2 || l.length < size || !Config.verifies (Config.sha384 (l.take (size - 96))) signature then none
  else
    let regions := (List.range n).map (fun i =>
      let b := 128 + 96 * i
      ({ id := word b / 2 ^ 32, owner := bits (word b) 31 16, status := bits (word b) 15 8, uncorr := word b % 256, base := word (b + 8), length := word (b + 16), done := word (b + 24), scmOff := word (b + 32), scmLen := word (b + 40), digest := digest (b + 48) } : Region))
    let steps := (List.range 256).map (fun i => let w := word (128 + 96 * n + 8 * i); (w.testBit 63, w % 2 ^ 32))
    let shards := (List.range (bits f 31 16)).map (fun i =>
      let b := 128 + 96 * n + 2048 + 64 * i
      ({ module := bits (word b) 63 52, parity := (word b).testBit 40, index := word b % 2 ^ 32, addr := word (b + 8), digest := digest (b + 16) } : Shard))
    some { kind := 2, slot := bits f 35 32, seq := word 8, tWarn := word 16, tSeal := word 24, prev := digest 32, selftest := BitVec.ofNat 64 (word 80), feat := BitVec.ofNat 64 (word 88), energy := word 96, regions := regions, steps := steps, shards := shards, signature := signature }
/-- The bytes of what may be a Catalogue at a local offset. -/
def State.catalogueAt (s : State) (at_ : Nat) : List Byte :=
  let n := if s.hbmRange at_ 128 then catalogueSize (s.deviceRead at_ 8) else 0
  if n ≠ 0 && s.hbmRange at_ n then bytesOf n (s.deviceRead at_ n) else []
/-- The line of such bytes, most recently used where they are read (R190). -/
def State.catalogueSeen (s : State) (at_ : Nat) : State :=
  if s.hbmRange at_ 128 then s.deviceSeen at_ (max 8 (s.catalogueAt at_).length) else s
/-- Where in the own checkpoint area the Catalogue of a digest lies. -/
def State.ownCatalogue (s : State) (digest : BitVec 384) : Option Nat :=
  ((List.range ((s.hreg 0x2068).toNat / 32)).map (fun i => (s.hreg 0x2060).toNat + 32 * i)).find? (fun o =>
    Config.sha384 (s.catalogueAt o) = digest)
/-- The Catalogue of a digest, from the own checkpoint area or, where that lacks it, from a member's, which holds a copy of it:
`got` is what the members return (R419). -/
def State.findCatalogue (s : State) (got : List (List Byte)) (digest : BitVec 384) : Option Catalogue :=
  parseCatalogue (match s.ownCatalogue digest with
    | some o => s.catalogueAt o
    | none => (got.find? (fun l => Config.sha384 l = digest)).getD [])
/-- The chain that ends at a Catalogue, the full checkpoint first: each but that names the one before it by its digest. -/
def State.chainOf (s : State) (got : List (List Byte)) (fuel : Nat) (c : Catalogue) : Option (List Catalogue) :=
  match fuel with
  | 0 => none
  | n + 1 => if c.prev = 0 then some [c] else ((s.findCatalogue got c.prev).bind (s.chainOf got n)).map (· ++ [c])
termination_by structural fuel
/-- Of what the members return, the shards: what is no earlier Catalogue of the chain. -/
def chainShards (chain : List Catalogue) (got : List (List Byte)) : List (List Byte) :=
  got.filter (fun l => !chain.any (fun c => c.prev != 0 && Config.sha384 l == c.prev))

/-- CKRESTORE (R419): the chain that ends at the Catalogue of an address is applied in SEQ order; one that is not there whole, or whose
seal does not verify, is malformed. `shards` are what the members return: where the address is on a member, first the Catalogue,
then the shards of the chain's entries, in that order, an empty one for none, and among them the chain's earlier Catalogues that
the own area lacks. The search touches no line of the area but those of Catalogues that it takes, the model's choice (log 185). A region that cannot be rebuilt is filled with
zeros. -/
def execCkrestore (addr : Nat) (shards : List (List Byte)) (s : State) : Host.Outcome State Fault Refusal :=
  .next (s.hostWrite 0x2070 0 (BitVec.ofNat 64 addr) true (fun s0 =>
    let at_ := bits addr 55 6 * 64
    let away := decide (2 ^ 44 ≤ at_) && at_ / 2 ^ 44 != s.modnum
    let (image, got) := if away then (shards.headD [], shards.drop 1) else (s0.catalogueAt (at_ % 2 ^ 44), shards)
    let s1 := if away then s0 else s0.catalogueSeen (at_ % 2 ^ 44)
    match (parseCatalogue image).bind (s0.chainOf got ((s0.hreg 0x2068).toNat / 32 + got.length + 1)) with
    | none => s1.setCkstat s1.lastSeq 5
    | some chain =>
      let s := chain.foldl (fun (s : State) c => if c.prev = 0 then s else (s.ownCatalogue c.prev).elim s s.catalogueSeen) s1
      if s.power.checkpoint.isSome then s.setCkstat s.lastSeq 5
      else
      let (s1, _, hurt) := chain.foldl (fun (a : State × List (List Byte) × List Nat) c =>
        let r := a.1.applyCheckpoint c (a.2.1.take c.shards.length)
        (r.1, a.2.1.drop c.shards.length, a.2.2 ++ r.2)) (s, chainShards chain got, [])
      let regions := (chain.getLast?).elim [] (·.regions)
      let s2 := regions.zipIdx.foldl (fun (s : State) (e : Region × Nat) =>
        let status := if hurt.contains e.2 then 0x21 else 0
        let key := if e.1.owner = 0 then 0 else s.slotKey ((s.slotOf e.1.owner).getD 32)
        let s1 := if status = 0 then s else (List.range (e.1.length / 128)).foldl (fun (s : State) i => s.engineWrite (e.1.base + 128 * i) 128 (2 ^ 128 - 1) 0 key) s
        s1.logRegion e.1 (e.2 + 1) status) s1
      s2.setCkstat ((chain.getLast?).elim 0 (·.seq)) 2))

end Sys2Proof.Machine
end

