-- ==== Sys2Proof/Machine/Vector.lean ====
section
/-! DEFINITION. The V0 and V1 slots (R130 to R145, R231) and the shuffles and cross-group copies of the X slot
(R146 to R151). -/
namespace Sys2Proof.Machine
open Sys2Proof

/-! ### Element-wise forms (R131) -/

/-- A vector image from its elements of width `w`, the first lowest. -/
def packElems (w : Nat) (l : List Nat) : Vec := BitVec.ofNat 4096 (l.foldr (fun x a => a <<< w ||| x % 2 ^ w) 0)
/-- The elements of width `w` of an image. -/
def unpackElems (w : Nat) (v : Vec) : List Nat := (List.range (4096 / w)).map (elem v w)
/-- The flags of a list of results together. -/
def allFlags (l : List (Nat × Flags)) : Flags := l.foldl (fun f r => f ||| r.2) 0

/-- The lanes of the active elements of width `w`: of a lane pair, both (R42, R131). -/
def activeLanes (p : Pred) (w : Nat) : Pred :=
  if w ≤ 32 then p else BitVec.ofNat 128 ((List.range 128).foldl (fun m l => if p.getLsbD (l / 2 * 2) then m ||| (1 <<< l) else m) 0)
/-- The 16 lanes of the groups that `p` picks. -/
def groupLanes (p : Nat → Bool) : Pred := BitVec.ofNat 128 ((List.range 8).foldl (fun m g => if p g then m ||| (65535 <<< (16 * g)) else m) 0)
/-- Active elements of `d` replaced by `f e`; inactive elements keep their value (R131). -/
def Bun.elements (b : Bun) (d : BitVec 6) (w : Nat) (k : BitVec 3) (bound : Nat) (f : Nat → Nat × Flags) : Bun :=
  let old := b.vec d
  let p := b.pred k
  let rs := (List.range (4096 / w)).map (fun e => if activeElem p w e then f e else (elem old w e, 0))
  (b.writeLanes d (packElems w (rs.map (·.1))) (activeLanes p w) bound).raise (allFlags rs) bound

/-- A code of an element of width `w` that begins at bit `pos` of the register, as the lane's unit makes it: under a
floating format that unit has a shadow (R351). -/
def Bun.mainElem (b : Bun) (unit : Nat) (f : Option Fmt) (pos : Nat) (r : Nat × Flags) : Nat × Flags × List Split :=
  match f with
  | some f =>
    let m := b.st.mainResult b.cur.core unit f (pos / 32) (pos / 32) (pos % 32) r.1
    (m.1, r.2, m.2)
  | none => (r.1, r.2, [])
/-- Active elements of `d` replaced by the results of shadowed units; inactive elements keep their value (R131, R351). -/
def Bun.shadowedElements (b : Bun) (unit : Nat) (d : BitVec 6) (w : Nat) (k : BitVec 3) (bound : Nat)
    (f : Nat → Nat × Flags × List Split) : Bun :=
  let p := b.pred k
  let b1 := b.elements d w k bound (fun e => ((f e).1, (f e).2.1))
  if b.st.strikes.isEmpty then b1
  else b1.shadowed unit d.toNat (fun lane => activeElem p w (lane * 32 / w))
    ((List.range (4096 / w)).flatMap (fun e => if activeElem p w e then (f e).2.2 else []))

/-- An operation of R133 on two elements: exact and wrapped for an integer type, rounded for a floating one. -/
def elemOp (ty : BitVec 4) (fi : Int → Int → Int) (ff : Fmt → Nat → Nat → Nat × Flags) (x y : Nat) : Nat × Flags :=
  match floatOf ty.toNat with
  | some f => ff f x y
  | none => (wrap (typeWidth ty.toNat) (fi (typeInt ty.toNat x) (typeInt ty.toNat y)), 0)
/-- The latency bound of an element-wise instruction (R73, R133). -/
def elemBound (ty : BitVec 4) : Nat := if ty.toNat < 8 then 2 else 4

/-- A two-source element-wise instruction (R131). -/
def Bun.binary (b : Bun) (d a x : BitVec 6) (ty : BitVec 4) (k : BitVec 3) (bw : BitVec 1)
    (fi : Int → Int → Int) (ff : Fmt → Nat → Nat → Nat × Flags) : Bun :=
  let w := typeWidth ty.toNat
  let va := b.vec a
  let vb := b.vecB x bw
  b.elements d w k (elemBound ty) (fun e => elemOp ty fi ff (elem va w e) (elem vb w e))
/-- A two-source instruction of the lanes' FP units, which have shadows (R131, R351). -/
def Bun.binaryShadowed (b : Bun) (d a x : BitVec 6) (ty : BitVec 4) (k : BitVec 3) (bw : BitVec 1)
    (fi : Int → Int → Int) (ff : Fmt → Nat → Nat → Nat × Flags) : Bun :=
  let w := typeWidth ty.toNat
  let va := b.vec a
  let vb := b.vecB x bw
  b.shadowedElements 1 d w k (elemBound ty) (fun e =>
    b.mainElem 1 (floatOf ty.toNat) (w * e) (elemOp ty fi ff (elem va w e) (elem vb w e)))
/-- A two-source bitwise or shift instruction on raw elements. -/
def Bun.bitwise (b : Bun) (d a x : BitVec 6) (ty : BitVec 4) (k : BitVec 3) (bw : BitVec 1) (f : Nat → Nat → Nat → Nat) : Bun :=
  let w := typeWidth ty.toNat
  let va := b.vec a
  let vb := b.vecB x bw
  b.elements d w k 2 (fun e => (f w (elem va w e) (elem vb w e), 0))
/-- A one-source element-wise instruction. -/
def Bun.unary (b : Bun) (d a : BitVec 6) (ty : BitVec 4) (k : BitVec 3) (bound : Nat) (f : Nat → Nat × Flags) : Bun :=
  let w := typeWidth ty.toNat
  let va := b.vec a
  b.elements d w k bound (fun e => f (elem va w e))

/-- An element with its sign cleared or inverted; a NaN becomes the default NaN (R135). -/
def signFlip (f : Fmt) (invert : Bool) (x : Nat) : Nat × Flags :=
  let v := f.decode x
  if v.isNan then (f.nanCode, flagIf v.signals flagNV)
  else (if invert then x ^^^ 2 ^ f.signBit else x % 2 ^ f.signBit, 0)
/-- VABS and VNEG on one element (R134, R135). -/
def signElem (ty : BitVec 4) (invert : Bool) (x : Nat) : Nat × Flags :=
  match floatOf ty.toNat with
  | some f => signFlip f invert x
  | none =>
    let v := typeInt ty.toNat x
    (wrap (typeWidth ty.toNat) (if invert then -v else v.natAbs), 0)

def execVadd (d a b : BitVec 6) (ty : BitVec 4) (k : BitVec 3) (bw : BitVec 1) (s : State) : Host.Outcome State Fault Refusal :=
  s.scalar (.vadd d a b ty k bw) (fun q => q.binaryShadowed d a b ty k bw (· + ·) Fmt.add)
def execVsub (d a b : BitVec 6) (ty : BitVec 4) (k : BitVec 3) (bw : BitVec 1) (s : State) : Host.Outcome State Fault Refusal :=
  s.scalar (.vsub d a b ty k bw) (fun q => q.binaryShadowed d a b ty k bw (· - ·) Fmt.sub)
def execVmul (d a b : BitVec 6) (ty : BitVec 4) (k : BitVec 3) (bw : BitVec 1) (s : State) : Host.Outcome State Fault Refusal :=
  s.scalar (.vmul d a b ty k bw) (fun q => q.binaryShadowed d a b ty k bw (· * ·) Fmt.mul)
/-- VFMA (R136). -/
def execVfma (d a b : BitVec 6) (ty : BitVec 4) (k : BitVec 3) (bw : BitVec 1) (c : BitVec 6) (s : State) :
    Host.Outcome State Fault Refusal :=
  s.scalar (.vfma d a b ty k bw c) (fun q =>
    let w := typeWidth ty.toNat
    let va := q.vec a
    let vb := q.vecB b bw
    let vc := q.vec c
    q.shadowedElements 1 d w k (elemBound ty) (fun e => q.mainElem 1 (floatOf ty.toNat) (w * e)
      (elemOp ty (fun x y => x * y + typeInt ty.toNat (elem vc w e)) (fun f x y => f.fma x y (elem vc w e)) (elem va w e) (elem vb w e))))
def execVmin (d a b : BitVec 6) (ty : BitVec 4) (k : BitVec 3) (bw : BitVec 1) (s : State) : Host.Outcome State Fault Refusal :=
  s.scalar (.vmin d a b ty k bw) (fun q => q.binary d a b ty k bw Min.min (fun f x y => f.least false x y))
def execVmax (d a b : BitVec 6) (ty : BitVec 4) (k : BitVec 3) (bw : BitVec 1) (s : State) : Host.Outcome State Fault Refusal :=
  s.scalar (.vmax d a b ty k bw) (fun q => q.binary d a b ty k bw Max.max (fun f x y => f.least true x y))
def execVabs (d a : BitVec 6) (ty : BitVec 4) (k : BitVec 3) (s : State) : Host.Outcome State Fault Refusal :=
  s.scalar (.vabs d a ty k) (fun q => q.unary d a ty k (elemBound ty) (signElem ty false))
def execVneg (d a : BitVec 6) (ty : BitVec 4) (k : BitVec 3) (s : State) : Host.Outcome State Fault Refusal :=
  s.scalar (.vneg d a ty k) (fun q => q.unary d a ty k (elemBound ty) (signElem ty true))
def execVand (d a b : BitVec 6) (ty : BitVec 4) (k : BitVec 3) (bw : BitVec 1) (s : State) : Host.Outcome State Fault Refusal :=
  s.scalar (.vand d a b ty k bw) (fun q => q.bitwise d a b ty k bw (fun _ x y => x &&& y))
def execVor (d a b : BitVec 6) (ty : BitVec 4) (k : BitVec 3) (bw : BitVec 1) (s : State) : Host.Outcome State Fault Refusal :=
  s.scalar (.vor d a b ty k bw) (fun q => q.bitwise d a b ty k bw (fun _ x y => x ||| y))
def execVxor (d a b : BitVec 6) (ty : BitVec 4) (k : BitVec 3) (bw : BitVec 1) (s : State) : Host.Outcome State Fault Refusal :=
  s.scalar (.vxor d a b ty k bw) (fun q => q.bitwise d a b ty k bw (fun _ x y => x ^^^ y))
def execVnot (d a : BitVec 6) (ty : BitVec 4) (k : BitVec 3) (s : State) : Host.Outcome State Fault Refusal :=
  s.scalar (.vnot d a ty k) (fun q => q.unary d a ty k 2 (fun x => (2 ^ typeWidth ty.toNat - 1 - x, 0)))
/-- VSHL (R134). -/
def execVshl (d a b : BitVec 6) (ty : BitVec 4) (k : BitVec 3) (bw : BitVec 1) (s : State) : Host.Outcome State Fault Refusal :=
  s.scalar (.vshl d a b ty k bw) (fun q => q.bitwise d a b ty k bw (fun w x n => wrap w (shift108 0 w x n)))
/-- VSHR (R134): logical for an .n type, arithmetic for an .i type. -/
def execVshr (d a b : BitVec 6) (ty : BitVec 4) (k : BitVec 3) (bw : BitVec 1) (s : State) : Host.Outcome State Fault Refusal :=
  s.scalar (.vshr d a b ty k bw) (fun q =>
    q.bitwise d a b ty k bw (fun w x n => wrap w (shift108 (if typeSigned ty.toNat then 2 else 1) w x n)))

/-! ### Compare, select and convert (R137 to R139) -/

/-- The condition of VCMP on two elements (R137). -/
def vcmpElem (cond : BitVec 3) (ty : BitVec 4) (x y : Nat) : Bool × Flags :=
  match floatOf ty.toNat with
  | some f => f.test cond.toNat x y
  | none =>
    let a := typeInt ty.toNat x
    let b := typeInt ty.toNat y
    (match cond.toNat with
      | 0 => a == b
      | 1 => a != b
      | 2 => decide (a < b)
      | _ => decide (a ≤ b), 0)

/-- VCMP (R137): lanes inactive under the governing predicate receive 0. -/
def execVcmp (cond p : BitVec 3) (a b : BitVec 6) (ty : BitVec 4) (k : BitVec 3) (bw : BitVec 1) (s : State) :
    Host.Outcome State Fault Refusal :=
  s.scalar (.vcmp cond p a b ty k bw) (fun q =>
    let w := typeWidth ty.toNat
    let va := q.vec a
    let vb := q.vecB b bw
    let kp := q.pred k
    let rs := (List.range 128).map (fun l =>
      if kp.getLsbD l then vcmpElem cond ty (elem va w (32 * l / w)) (elem vb w (32 * l / w)) else (false, 0))
    let bits := rs.foldr (fun r a => 2 * a + b2n r.1) 0
    (q.writePred p (BitVec.ofNat 128 bits) (elemBound ty)).raise (rs.foldl (fun f r => f ||| r.2) 0) (elemBound ty))

/-- VSEL (R138): the predicate selects. -/
def execVsel (d a b : BitVec 6) (ty : BitVec 4) (k : BitVec 3) (bw : BitVec 1) (s : State) : Host.Outcome State Fault Refusal :=
  s.scalar (.vsel d a b ty k bw) (fun q =>
    let w := typeWidth ty.toNat
    let va := q.vec a
    let vb := q.vecB b bw
    let kp := q.pred k
    q.writeVec d (packElems w ((List.range (4096 / w)).map (fun e => if activeElem kp w e then elem va w e else elem vb w e))) 2)

/-- One lane, or lane pair, of VCVT: its converted elements packed low (R139, R342); `main` gives each as its unit makes
it (R351). -/
def convertUnit (sty ty rm unit n x : Nat) (main : Nat → Nat × Flags → Nat × Flags × List Split) : Nat × Flags × List Split :=
  let ws := typeWidth sty
  let wd := typeWidth ty
  let rs := (List.range n).map (fun e => main (wd * e) (convert sty ty rm ((x >>> (ws * e)) % 2 ^ ws)))
  ((rs.map (·.1)).foldr (fun r a => a <<< wd ||| r % 2 ^ wd) 0 % 2 ^ unit, rs.foldl (fun f r => f ||| r.2.1) 0, rs.flatMap (·.2.2))

/-- VCVT (R139). -/
def execVcvt (d a : BitVec 6) (rm : BitVec 2) (sty ty : BitVec 4) (k : BitVec 3) (s : State) : Host.Outcome State Fault Refusal :=
  s.scalar (.vcvt d a rm sty ty k) (fun q =>
    let wm := max (typeWidth sty.toNat) (typeWidth ty.toNat)
    let unit := if wm ≤ 32 then 32 else 64
    let va := q.vec a
    q.shadowedElements 1 d unit k 4 (fun e => convertUnit sty.toNat ty.toNat rm.toNat unit (unit / wm) (elem va unit e)
      (fun pos => q.mainElem 1 (floatOf ty.toNat) (unit * e + pos))))

/-! ### Block quantisation (R140, R141) -/

/-- The codes of a block packed from byte 0 (R92). -/
def packCodes (w : Nat) (l : List Nat) : Nat := l.foldr (fun x a => a <<< w ||| x % 2 ^ w) 0

/-- VQUANT (R140). -/
def execVquant (d a b : BitVec 6) (ty : BitVec 4) (k : BitVec 3) (bw : BitVec 1) (c : BitVec 6) (rm : BitVec 2) (s : State) :
    Host.Outcome State Fault Refusal :=
  s.scalar (.vquant d a b ty k bw c rm) (fun q =>
    let f := (floatOf ty.toNat).getD fmtF8a
    let va := q.vec a
    let vb := q.vecB b bw
    let old := q.vec d
    let kp := q.pred k
    let group := fun (g : Nat) =>
      let xs := (List.range 32).map (fun j => fmt32.decode (elem (if j < 16 then va else vb) 32 (16 * g + j % 16)))
      quantise f xs rm.toNat
    let active := fun (g : Nat) => kp.getLsbD (16 * g)
    let slices := (List.range 8).map (fun g => if active g then packCodes f.width (group g).2.1 else elem old 512 g)
    let sc := (List.range 8).foldl (fun v g => if active g then setBits v (8 * g) 8 (group g).1 else v) (q.val c).toNat
    let fl := (List.range 8).foldl (fun x g => if active g then x ||| (group g).2.2 else x) 0
    ((q.writeLanes d (packElems 512 slices) (groupLanes active) 8).writeReg c (BitVec.ofNat 64 sc) 8).raise fl 8)

/-- A code of a type dequantised under a scale to FP32 (R94): under scale 0xFF no flag is set. -/
def dequantiseCode (ty code scale : Nat) : Nat × Flags :=
  match floatOf ty with
  | some f => dequantise (f.decode code) scale
  | none =>
    let t := ternValue code
    let r := dequantise (.fin (t.1 < 0) t.1.natAbs 0) scale
    (r.1, if scale = 0xFF then 0 else r.2 ||| t.2)

/-- VDEQ (R141, R94). -/
def execVdeq (d a : BitVec 6) (ty : BitVec 4) (k : BitVec 3) (c : BitVec 6) (half : BitVec 1) (s : State) :
    Host.Outcome State Fault Refusal :=
  s.scalar (.vdeq d a ty k c half) (fun q =>
    let w := typeWidth ty.toNat
    let va := q.vec a
    let sc := (q.val c).toNat
    q.shadowedElements 1 d 32 k 4 (fun l =>
      let g := l / 16
      let code := (elem va 512 g >>> (w * (16 * half.toNat + l % 16))) % 2 ^ w
      q.mainElem 1 (some fmt32) (32 * l) (dequantiseCode ty.toNat code (bits sc (8 * g + 7) (8 * g)))))

/-! ### Reductions and scans (R142, R143) -/

/-- The combining operation of VRED and VSCAN: 0 sum, 1 minimum, 2 maximum (R142). -/
def reduceOp (fn : BitVec 2) (ty : BitVec 4) (x y : Nat) : Nat × Flags :=
  match fn.toNat with
  | 0 => elemOp ty (· + ·) Fmt.add x y
  | 1 => elemOp ty Min.min (fun f x y => f.least false x y) x y
  | _ => elemOp ty Max.max (fun f x y => f.least true x y) x y
/-- The identity an inactive element enters as (R142). -/
def reduceId (fn : BitVec 2) (ty : BitVec 4) : Nat :=
  match floatOf ty.toNat with
  | some f =>
    match fn.toNat with
    | 0 => 2 ^ f.signBit
    | 1 => f.infCode
    | _ => f.infCode + 2 ^ f.signBit
  | none =>
    match fn.toNat with
    | 0 => 0
    | 1 => wrap (typeWidth ty.toNat) (typeMax ty.toNat)
    | _ => wrap (typeWidth ty.toNat) (typeMin ty.toNat)

/-- Adjacent pairs combined, one level of the tree of R98. -/
def pairLevel (op : Nat → Nat → Nat × Flags) (l : List Nat) : List Nat × Flags :=
  match l with
  | x :: y :: rest =>
    let r := op x y
    let t := pairLevel op rest
    (r.1 :: t.1, r.2 ||| t.2)
  | l => (l, 0)
/-- The tree of R98 over 2^levels values. -/
def pairTree (op : Nat → Nat → Nat × Flags) (levels : Nat) (l : List Nat) : Nat × Flags :=
  match levels with
  | 0 => (l.headD 0, 0)
  | n + 1 =>
    let r := pairLevel op l
    let t := pairTree op n r.1
    (t.1, r.2 ||| t.2)
/-- The elements of a group as they enter a reduction. -/
def Bun.entering (b : Bun) (v : Vec) (fn : BitVec 2) (ty : BitVec 4) (k : BitVec 3) (g : Nat) : List Nat :=
  let w := typeWidth ty.toNat
  let n := 512 / w
  (List.range n).map (fun e => if activeElem (b.pred k) w (n * g + e) then elem v w (n * g + e) else reduceId fn ty)

/-- VRED (R142). -/
def execVred (d a : BitVec 6) (all : BitVec 1) (fn : BitVec 2) (ty : BitVec 4) (k : BitVec 3) (s : State) :
    Host.Outcome State Fault Refusal :=
  s.scalar (.vred d a all fn ty k) (fun q =>
    let v := q.vec a
    let rs := (List.range 8).map (fun g => pairTree (reduceOp fn ty) (Nat.log2 (512 / typeWidth ty.toNat)) (q.entering v fn ty k g))
    let top := pairTree (reduceOp fn ty) 3 (rs.map (·.1))
    let out := if all = 1#1 then List.replicate 8 top.1 else rs.map (·.1)
    let fl := allFlags rs ||| (if all = 1#1 then top.2 else 0)
    (q.writeVec d (packElems 512 out) 10).raise fl 10)

/-- An inclusive scan (R99): the result so far and the elements to come. -/
def scanFrom (op : Nat → Nat → Nat × Flags) (acc : Nat) (l : List Nat) : List (Nat × Flags) :=
  match l with
  | [] => []
  | x :: rest =>
    let r := op acc x
    r :: scanFrom op r.1 rest
/-- A scan of a group: result 0 is element 0, a NaN of it written as the default NaN (R84, R99). -/
def scanGroup (fn : BitVec 2) (ty : BitVec 4) (l : List Nat) : List (Nat × Flags) :=
  match l with
  | [] => []
  | x :: rest =>
    let first := match floatOf ty.toNat with
      | some f => if (f.decode x).isNan then (f.nanCode, flagIf (f.decode x).signals flagNV) else (x, 0)
      | none => (x, 0)
    first :: scanFrom (reduceOp fn ty) first.1 rest

/-- VSCAN (R143). -/
def execVscan (d a : BitVec 6) (fn : BitVec 2) (ty : BitVec 4) (k : BitVec 3) (s : State) : Host.Outcome State Fault Refusal :=
  s.scalar (.vscan d a fn ty k) (fun q =>
    let v := q.vec a
    let rs := (List.range 8).flatMap (fun g => scanGroup fn ty (q.entering v fn ty k g))
    (q.writeVec d (packElems (typeWidth ty.toNat) (rs.map (·.1))) 10).raise (allFlags rs) 10)

/-! ### Special functions (R144, R145) -/

/-- A special function on the active elements, by units that have shadows (R144, R351). -/
def Bun.function (b : Bun) (fn : Nat) (d a : BitVec 6) (ty : BitVec 4) (k : BitVec 3) : Bun :=
  let w := typeWidth ty.toNat
  let f := (floatOf ty.toNat).getD fmt32
  let va := b.vec a
  b.shadowedElements 2 d w k 8 (fun e => b.mainElem 2 (some f) (w * e) (f.special fn (elem va w e)))

def execVexp2 (d a : BitVec 6) (ty : BitVec 4) (k : BitVec 3) (s : State) : Host.Outcome State Fault Refusal :=
  s.scalar (.vexp2 d a ty k) (fun q => q.function 0 d a ty k)
def execVlog2 (d a : BitVec 6) (ty : BitVec 4) (k : BitVec 3) (s : State) : Host.Outcome State Fault Refusal :=
  s.scalar (.vlog2 d a ty k) (fun q => q.function 1 d a ty k)
def execVrcp (d a : BitVec 6) (ty : BitVec 4) (k : BitVec 3) (s : State) : Host.Outcome State Fault Refusal :=
  s.scalar (.vrcp d a ty k) (fun q => q.function 2 d a ty k)
def execVrsq (d a : BitVec 6) (ty : BitVec 4) (k : BitVec 3) (s : State) : Host.Outcome State Fault Refusal :=
  s.scalar (.vrsq d a ty k) (fun q => q.function 3 d a ty k)
def execVsqrt (d a : BitVec 6) (ty : BitVec 4) (k : BitVec 3) (s : State) : Host.Outcome State Fault Refusal :=
  s.scalar (.vsqrt d a ty k) (fun q => q.function 4 d a ty k)
def execVtanh (d a : BitVec 6) (ty : BitVec 4) (k : BitVec 3) (s : State) : Host.Outcome State Fault Refusal :=
  s.scalar (.vtanh d a ty k) (fun q => q.function 5 d a ty k)
def execVsig (d a : BitVec 6) (ty : BitVec 4) (k : BitVec 3) (s : State) : Host.Outcome State Fault Refusal :=
  s.scalar (.vsig d a ty k) (fun q => q.function 6 d a ty k)
def execVsin (d a : BitVec 6) (ty : BitVec 4) (k : BitVec 3) (s : State) : Host.Outcome State Fault Refusal :=
  s.scalar (.vsin d a ty k) (fun q => q.function 7 d a ty k)
def execVcos (d a : BitVec 6) (ty : BitVec 4) (k : BitVec 3) (s : State) : Host.Outcome State Fault Refusal :=
  s.scalar (.vcos d a ty k) (fun q => q.function 8 d a ty k)

/-! ### Draws (R227, R231) -/

/-- The leaves of a group with their flags, as the draw unit makes them: inactive lanes are empty (R231, R351). -/
def Bun.leaves (b : Bun) (v : Vec) (k : BitVec 3) (weight : Bool) (t g : Nat) : List (Triple × Flags × List Split) :=
  (List.range 16).map (fun j =>
    let l := 16 * g + j
    if (b.pred k).getLsbD l then
      let r := leafTriple weight (elem v 32 l) l t
      let m := b.mainTriple l l r.1
      (m.1, r.2, m.2)
    else (.empty, 0, []))
/-- A logit temperature of ±0: greedy mode (R225). -/
def greedyTemp (weight : Bool) (t : Nat) : Bool := !weight && (fmt32.decode t).isZero
/-- A tree of merges of a VDRAW from a counter base; a divergence of a merge is reported at the first lane of its group, or
at lane 0 across groups (R353, log 48). -/
def Bun.drawTree (b : Bun) (greedy : Bool) (tag seq base levels : Nat) (l : List Triple) : Triple × Flags × List Split :=
  let count := fun node => (tag <<< 48) ||| (seq <<< 16) ||| (base + node)
  mergeTree greedy
    { u := fun node => drawU32 b.share.dseed.toNat (count node)
      pick := fun node => Config.freeChoice b.st.free (4194304 + 256 * b.cur.slot + base + node)
      main := fun node t => b.mainTriple (128 + base + node) (base % 128) t } levels l 0

/-- VDRAW (R231, R229). -/
def execVdraw (d a : BitVec 6) (g k : BitVec 3) (c : BitVec 6) (tag : BitVec 8) (mode all : BitVec 1) (s : State) :
    Host.Outcome State Fault Refusal :=
  s.scalar (.vdraw d a g k c tag mode all) (fun q =>
    let t := bits (q.val c).toNat 63 32
    let seq := (q.val c).toNat % 2 ^ 32
    let weight := mode == 1#1
    let greedy := greedyTemp weight t
    let v := q.vec a
    let group := fun (i : Nat) =>
      let ls := q.leaves v k weight t i
      let r := q.drawTree greedy tag.toNat seq (16 * i) 4 (ls.map (·.1))
      (r.1, ls.foldl (fun f l => f ||| l.2.1) r.2.1, ls.flatMap (·.2.2) ++ r.2.2)
    if all = 1#1 then
      let gs := (List.range 8).map group
      let r := q.drawTree greedy tag.toNat seq 128 3 (gs.map (·.1))
      ((q.writePair d r.1.canonical 12).raiseZm (gs.foldl (fun f x => f ||| x.2.1) r.2.1) r.1.zero 12).shadowed 3 d.toNat (fun _ => true) (gs.flatMap (·.2.2) ++ r.2.2)
    else
      let r := group g.toNat
      ((q.writePair d r.1.canonical 6).raiseZm r.2.1 r.1.zero 6).shadowed 3 d.toNat (fun x => x % 128 / 16 == g.toNat) r.2.2)

/-! ### Shuffles and the pattern store (R146 to R148) -/

/-- One lane of SHUF from a pattern (R56, R146). -/
def shuffleLane (p : BitVec 128) (a b : Vec) (l : Nat) : Nat :=
  let g := l / 16
  let j := l % 16
  let sel := bits p.toNat (5 * j + 4) (5 * j)
  if p.getLsbD (80 + j) then 0
  else if sel < 16 then elem a 32 (16 * g + sel)
  else elem b 32 (16 * g + (sel - 16))

/-- SHUF (R146). -/
def execShuf (d a b c : BitVec 6) (s : State) : Host.Outcome State Fault Refusal :=
  s.scalar (.shuf d a b c) (fun q =>
    let p := Tab.get q.share.pats 0 (64 * (q.share.patsel.toNat % 2) + c.toNat)
    let va := q.vec a
    let vb := q.vec b
    q.writeVec d (packElems 32 ((List.range 128).map (shuffleLane p va vb))) 3)

/-- PATLD (R147); `count` is the field's count − 1. The register that an uncorrectable word leaves undefined is the pattern entry it
lies in, whose number INFO holds as its field (R359; log 187). -/
def execPatld (first a count : BitVec 6) (s : State) : Host.Outcome State Fault Refusal :=
  s.runSlot (.patld first a count) (fun b =>
    let n := count.toNat + 1
    let off := (b.val a).toNat
    let bad := b.badWord off (16 * n)
    b.check [b.regAddrStop a 1 (16 * n) 16] (fun b =>
      let b1 := b.withState (fun s => s.mapCore b.cur.core (fun k =>
        { k with patlds := k.patlds ++ [{ gang := b.strand.gang, due := k.cycle + 7 + n, bank := 1 - b.share.patsel.toNat % 2, first := first.toNat, offset := off, count := n }] }))
      match bad with
      | some w => b1.addDue { cause := 0x0D, addr := BitVec.ofNat 64 w, info := BitVec.ofNat 64 (2 ^ 63 + ((first.toNat + (w - off) / 16) % 64) * 2 ^ 32) }
      | none => b1))

/-- PATSW (R148). -/
def execPatsw (s : State) : Host.Outcome State Fault Refusal :=
  s.runSlot .patsw (fun b =>
    b.check [stopIf (!b.core.patlds.isEmpty) (.stall .engine .nothing)] (fun b => b.shareWrite .patsw))

/-! ### Moving data between lane groups (R149, R150) -/

/-- XCOPY (R149). -/
def execXcopy (d a : BitVec 6) (mode : BitVec 2) (dst n : BitVec 3) (s : State) : Host.Outcome State Fault Refusal :=
  s.scalar (.xcopy d a mode dst n) (fun q =>
    let va := q.vec a
    let old := q.vec d
    let slice := fun (g : Nat) =>
      match mode.toNat with
      | 0 => elem va 512 ((g + n.toNat) % 8)
      | 1 => elem va 512 (g ^^^ n.toNat)
      | _ => if g = dst.toNat then elem va 512 n.toNat else elem old 512 g
    q.writeLanes d (packElems 512 ((List.range 8).map slice)) (groupLanes (fun g => decide (mode.toNat < 2) || g == dst.toNat)) 6)
/-- XBCAST (R150). -/
def execXbcast (d a : BitVec 6) (lane : BitVec 1) (j : BitVec 4) (g : BitVec 3) (s : State) : Host.Outcome State Fault Refusal :=
  s.scalar (.xbcast d a lane j g) (fun q =>
    let va := q.vec a
    if lane = 1#1 then q.writeVec d (packElems 32 (List.replicate 128 (elem va 32 (16 * g.toNat + j.toNat)))) 6
    else q.writeVec d (packElems 512 (List.replicate 8 (elem va 512 g.toNat))) 6)

/-- PATLD_COMPLETE: the first pattern load of a core completes (R147). -/
def execPatldComplete (core : Nat) (s : State) : Host.Outcome State Fault Refusal := .next (s.completePatld core)

end Sys2Proof.Machine
end

