-- ==== Sys2Proof/Machine/Dispatch.lean ====
section
/-! DEFINITION. One arm for each instruction: its meaning. -/
namespace Sys2Proof.Machine
open Sys2Proof

/-- The meaning of one instruction: a slot instruction joins the bundle being issued, a micro-op acts on the running
matrix operation, an event is one step of an engine, a unit or the host. -/
def exec (i : Instr) (s : State) : Host.Outcome State Fault Refusal :=
  match i with
  | .add d a b ty sat => Sys2Proof.Machine.execAdd d a b ty sat s
  | .sub d a b ty sat => Sys2Proof.Machine.execSub d a b ty sat s
  | .mul d a b ty sat => Sys2Proof.Machine.execMul d a b ty sat s
  | .mulh d a b ty => Sys2Proof.Machine.execMulh d a b ty s
  | .divs d a b ty => Sys2Proof.Machine.execDivs d a b ty s
  | .divn d a b ty => Sys2Proof.Machine.execDivn d a b ty s
  | .rem d a b ty => Sys2Proof.Machine.execRem d a b ty s
  | .and d a b ty => Sys2Proof.Machine.execAnd d a b ty s
  | .or d a b ty => Sys2Proof.Machine.execOr d a b ty s
  | .xor d a b ty => Sys2Proof.Machine.execXor d a b ty s
  | .not d a ty => Sys2Proof.Machine.execNot d a ty s
  | .shl d a b ty => Sys2Proof.Machine.execShl d a b ty s
  | .shr d a b ty => Sys2Proof.Machine.execShr d a b ty s
  | .sar d a b ty => Sys2Proof.Machine.execSar d a b ty s
  | .rot d a b ty => Sys2Proof.Machine.execRot d a b ty s
  | .min d a b ty => Sys2Proof.Machine.execMin d a b ty s
  | .max d a b ty => Sys2Proof.Machine.execMax d a b ty s
  | .cmp d a b ty cond => Sys2Proof.Machine.execCmp d a b ty cond s
  | .sel d a b c => Sys2Proof.Machine.execSel d a b c s
  | .popc d a ty => Sys2Proof.Machine.execPopc d a ty s
  | .clz d a ty => Sys2Proof.Machine.execClz d a ty s
  | .ctz d a ty => Sys2Proof.Machine.execCtz d a ty s
  | .pack d a b ty => Sys2Proof.Machine.execPack d a b ty s
  | .addi d a imm => Sys2Proof.Machine.execAddi d a imm s
  | .movi d imm => Sys2Proof.Machine.execMovi d imm s
  | .movh d a imm => Sys2Proof.Machine.execMovh d a imm s
  | .bfx d a sx pos len => Sys2Proof.Machine.execBfx d a sx pos len s
  | .bfi d a pos len => Sys2Proof.Machine.execBfi d a pos len s
  | .fadd d a b ty => Sys2Proof.Machine.execFadd d a b ty s
  | .fsub d a b ty => Sys2Proof.Machine.execFsub d a b ty s
  | .fmul d a b ty => Sys2Proof.Machine.execFmul d a b ty s
  | .ffma d a b ty c => Sys2Proof.Machine.execFfma d a b ty c s
  | .fmin d a b ty => Sys2Proof.Machine.execFmin d a b ty s
  | .fmax d a b ty => Sys2Proof.Machine.execFmax d a b ty s
  | .fcmp d a b ty cond => Sys2Proof.Machine.execFcmp d a b ty cond s
  | .fcvt d a sty ty rm => Sys2Proof.Machine.execFcvt d a sty ty rm s
  | .dmerge d a b c greedy => Sys2Proof.Machine.execDmerge d a b c greedy s
  | .dscale d a b mode => Sys2Proof.Machine.execDscale d a b mode s
  | .br zs src off => Sys2Proof.Machine.execBr zs src off s
  | .brk k cond off => Sys2Proof.Machine.execBrk k cond off s
  | .call src off => Sys2Proof.Machine.execCall src off s
  | .ret src => Sys2Proof.Machine.execRet src s
  | .loop n off c imm cnt => Sys2Proof.Machine.execLoop n off c imm cnt s
  | .endl n off => Sys2Proof.Machine.execEndl n off s
  | .yield a => Sys2Proof.Machine.execYield a s
  | .spawn d a => Sys2Proof.Machine.execSpawn d a s
  | .exit => Sys2Proof.Machine.execExit s
  | .trap code => Sys2Proof.Machine.execTrap code s
  | .tret => Sys2Proof.Machine.execTret s
  | .hiber => Sys2Proof.Machine.execHiber s
  | .crr d cr => Sys2Proof.Machine.execCrr d cr s
  | .crw a cr => Sys2Proof.Machine.execCrw a cr s
  | .nop => Sys2Proof.Machine.execNop s
  | .ld d a sz off => Sys2Proof.Machine.execLd d a sz off s
  | .st d a sz off => Sys2Proof.Machine.execSt d a sz off s
  | .vld d a k off c reg simm => Sys2Proof.Machine.execVld d a k off c reg simm s
  | .vst d a k off c reg simm => Sys2Proof.Machine.execVst d a k off c reg simm s
  | .ldq d a sz off => Sys2Proof.Machine.execLdq d a sz off s
  | .stq d a sz off => Sys2Proof.Machine.execStq d a sz off s
  | .ldsec d a off => Sys2Proof.Machine.execLdsec d a off s
  | .gatherq d a sz off c shift k => Sys2Proof.Machine.execGatherq d a sz off c shift k s
  | .scatterq d a sz off c shift k => Sys2Proof.Machine.execScatterq d a sz off c shift k s
  | .stf d a sz off => Sys2Proof.Machine.execStf d a sz off s
  | .amo d a fn off c ret sgn sz newv => Sys2Proof.Machine.execAmo d a fn off c ret sgn sz newv s
  | .amoDraw a off c tag greedy => Sys2Proof.Machine.execAmoDraw a off c tag greedy s
  | .pref a ext off => Sys2Proof.Machine.execPref a ext off s
  | .vadd d a b ty k bw => Sys2Proof.Machine.execVadd d a b ty k bw s
  | .vsub d a b ty k bw => Sys2Proof.Machine.execVsub d a b ty k bw s
  | .vmul d a b ty k bw => Sys2Proof.Machine.execVmul d a b ty k bw s
  | .vfma d a b ty k bw c => Sys2Proof.Machine.execVfma d a b ty k bw c s
  | .vmin d a b ty k bw => Sys2Proof.Machine.execVmin d a b ty k bw s
  | .vmax d a b ty k bw => Sys2Proof.Machine.execVmax d a b ty k bw s
  | .vabs d a ty k => Sys2Proof.Machine.execVabs d a ty k s
  | .vneg d a ty k => Sys2Proof.Machine.execVneg d a ty k s
  | .vand d a b ty k bw => Sys2Proof.Machine.execVand d a b ty k bw s
  | .vor d a b ty k bw => Sys2Proof.Machine.execVor d a b ty k bw s
  | .vxor d a b ty k bw => Sys2Proof.Machine.execVxor d a b ty k bw s
  | .vnot d a ty k => Sys2Proof.Machine.execVnot d a ty k s
  | .vshl d a b ty k bw => Sys2Proof.Machine.execVshl d a b ty k bw s
  | .vshr d a b ty k bw => Sys2Proof.Machine.execVshr d a b ty k bw s
  | .vcmp cond p a b ty k bw => Sys2Proof.Machine.execVcmp cond p a b ty k bw s
  | .vsel d a b ty k bw => Sys2Proof.Machine.execVsel d a b ty k bw s
  | .vcvt d a rm sty ty k => Sys2Proof.Machine.execVcvt d a rm sty ty k s
  | .vquant d a b ty k bw c rm => Sys2Proof.Machine.execVquant d a b ty k bw c rm s
  | .vdeq d a ty k c half => Sys2Proof.Machine.execVdeq d a ty k c half s
  | .vred d a all fn ty k => Sys2Proof.Machine.execVred d a all fn ty k s
  | .vscan d a fn ty k => Sys2Proof.Machine.execVscan d a fn ty k s
  | .vexp2 d a ty k => Sys2Proof.Machine.execVexp2 d a ty k s
  | .vlog2 d a ty k => Sys2Proof.Machine.execVlog2 d a ty k s
  | .vrcp d a ty k => Sys2Proof.Machine.execVrcp d a ty k s
  | .vrsq d a ty k => Sys2Proof.Machine.execVrsq d a ty k s
  | .vsqrt d a ty k => Sys2Proof.Machine.execVsqrt d a ty k s
  | .vtanh d a ty k => Sys2Proof.Machine.execVtanh d a ty k s
  | .vsig d a ty k => Sys2Proof.Machine.execVsig d a ty k s
  | .vsin d a ty k => Sys2Proof.Machine.execVsin d a ty k s
  | .vcos d a ty k => Sys2Proof.Machine.execVcos d a ty k s
  | .vdraw d a g k c tag mode all => Sys2Proof.Machine.execVdraw d a g k c tag mode all s
  | .shuf d a b c => Sys2Proof.Machine.execShuf d a b c s
  | .patld first a count => Sys2Proof.Machine.execPatld first a count s
  | .patsw => Sys2Proof.Machine.execPatsw s
  | .xcopy d a mode dst n => Sys2Proof.Machine.execXcopy d a mode dst n s
  | .xbcast d a lane j g => Sys2Proof.Machine.execXbcast d a lane j g s
  | .mcall tag prio n => Sys2Proof.Machine.execMcall tag prio n s
  | .mpset n a => Sys2Proof.Machine.execMpset n a s
  | .accrd d t b idx pair => Sys2Proof.Machine.execAccrd d t b idx pair s
  | .accwr t a b idx pair => Sys2Proof.Machine.execAccwr t a b idx pair s
  | .accz mask => Sys2Proof.Machine.execAccz mask s
  | .phase scope => Sys2Proof.Machine.execPhase scope s
  | .publish a => Sys2Proof.Machine.execPublish a s
  | .vwait d a b => Sys2Proof.Machine.execVwait d a b s
  | .fence d mask kind => Sys2Proof.Machine.execFence d mask kind s
  | .copy a span => Sys2Proof.Machine.execCopy a span s
  | .drain => Sys2Proof.Machine.execDrain s
  | .span d a b => Sys2Proof.Machine.execSpan d a b s
  | .barrive a b queue fn => Sys2Proof.Machine.execBarrive a b queue fn s
  | .bwait d a b queue texp => Sys2Proof.Machine.execBwait d a b queue texp s
  | .wait d a b cond texp c space sz queue masked => Sys2Proof.Machine.execWait d a b cond texp c space sz queue masked s
  | .mwait d all tag => Sys2Proof.Machine.execMwait d all tag s
  | .sbind d elemsz queue => Sys2Proof.Machine.execSbind d elemsz queue s
  | .sunbind d => Sys2Proof.Machine.execSunbind d s
  | .ringp ring a reg count => Sys2Proof.Machine.execRingp ring a reg count s
  | .ringa ring a reg count => Sys2Proof.Machine.execRinga ring a reg count s
  | .walk a => Sys2Proof.Machine.execWalk a s
  | .coll a b => Sys2Proof.Machine.execColl a b s
  | .lprobe d a => Sys2Proof.Machine.execLprobe d a s
  | .tsread d => Sys2Proof.Machine.execTsread d s
  | .kzero tile => Sys2Proof.Machine.execKzero tile s
  | .kstep tile ra rb csel ctl imm => Sys2Proof.Machine.execKstep tile ra rb csel ctl imm s
  | .kloop csel imm => Sys2Proof.Machine.execKloop csel imm s
  | .kendl => Sys2Proof.Machine.execKendl s
  | .kepi tile route mp => Sys2Proof.Machine.execKepi tile route mp s
  | .krows tile mp => Sys2Proof.Machine.execKrows tile mp s
  | .ksum tile => Sys2Proof.Machine.execKsum tile s
  | .kend => Sys2Proof.Machine.execKend s
  | .matrixChoose core => Sys2Proof.Machine.execMatrixChoose core s
  | .trapEntry core ctx => Sys2Proof.Machine.execTrapEntry core ctx s
  | .elementLand req => Sys2Proof.Machine.execElementLand req s
  | .storeAck req => Sys2Proof.Machine.execStoreAck req s
  | .homeRequest req status data => Sys2Proof.Machine.execHomeRequest req status data s
  | .l2Fill line => Sys2Proof.Machine.execL2Fill line s
  | .setWaitRetry req => Sys2Proof.Machine.execSetWaitRetry req s
  | .waitTimeout core ctx => Sys2Proof.Machine.execWaitTimeout core ctx s
  | .barrierArrival req => Sys2Proof.Machine.execBarrierArrival req s
  | .pageWalk req => Sys2Proof.Machine.execPageWalk req s
  | .copyComplete core span => Sys2Proof.Machine.execCopyComplete core span s
  | .patldComplete core => Sys2Proof.Machine.execPatldComplete core s
  | .walkHop walk => Sys2Proof.Machine.execWalkHop walk s
  | .remoteRequest msg => Sys2Proof.Machine.execRemoteRequest msg s
  | .hibernatingAnswer module => Sys2Proof.Machine.execHibernatingAnswer module s
  | .remoteNoAnswer req => Sys2Proof.Machine.execRemoteNoAnswer req s
  | .linkRetry link => Sys2Proof.Machine.execLinkRetry link s
  | .linkDown link => Sys2Proof.Machine.execLinkDown link s
  | .routeRemove link => Sys2Proof.Machine.execRouteRemove link s
  | .moduleLost module => Sys2Proof.Machine.execModuleLost module s
  | .collHandoff core ctx => Sys2Proof.Machine.execCollHandoff core ctx s
  | .startFlit graph step key => Sys2Proof.Machine.execStartFlit graph step key s
  | .chunkArrival chunk => Sys2Proof.Machine.execChunkArrival chunk s
  | .looseFlush graph step op => Sys2Proof.Machine.execLooseFlush graph step op s
  | .lateAddend chunk => Sys2Proof.Machine.execLateAddend chunk s
  | .rootReleaseTimeout graph step => Sys2Proof.Machine.execRootReleaseTimeout graph step s
  | .abortFlit msg => Sys2Proof.Machine.execAbortFlit msg s
  | .replayComplete graph step => Sys2Proof.Machine.execReplayComplete graph step s
  | .route1ChunkApply core => Sys2Proof.Machine.execRoute1ChunkApply core s
  | .doorbell queue tail => Sys2Proof.Machine.execDoorbell queue tail s
  | .nestTake queue => Sys2Proof.Machine.execNestTake queue s
  | .nestOffer => Sys2Proof.Machine.execNestOffer s
  | .gangPlace cluster => Sys2Proof.Machine.execGangPlace cluster s
  | .clusterReserve cluster => Sys2Proof.Machine.execClusterReserve cluster s
  | .folioPickup core => Sys2Proof.Machine.execFolioPickup core s
  | .gangPreempt gang => Sys2Proof.Machine.execGangPreempt gang s
  | .gangResume gang => Sys2Proof.Machine.execGangResume gang s
  | .nestRetire nest => Sys2Proof.Machine.execNestRetire nest s
  | .operatingPointChange island demands => Sys2Proof.Machine.execOperatingPointChange island demands s
  | .energyTick readings sensors input reserve => Sys2Proof.Machine.execEnergyTick readings sensors input reserve s
  | .sensorRetired sensor => Sys2Proof.Machine.execSensorRetired sensor s
  | .patrolScrub addr finding => Sys2Proof.Machine.execPatrolScrub addr finding s
  | .supplyWarning input reserve => Sys2Proof.Machine.execSupplyWarning input reserve s
  | .supplyTrap core ctx => Sys2Proof.Machine.execSupplyTrap core ctx s
  | .handlerOverrun core ctx => Sys2Proof.Machine.execHandlerOverrun core ctx s
  | .saveComplete groups => Sys2Proof.Machine.execSaveComplete groups s
  | .sealed energy => Sys2Proof.Machine.execSealed energy s
  | .enterSag => Sys2Proof.Machine.execEnterSag s
  | .enterShed reserve => Sys2Proof.Machine.execEnterShed reserve s
  | .shed reserve => Sys2Proof.Machine.execShed reserve s
  | .clusterRestore reserve => Sys2Proof.Machine.execClusterRestore reserve s
  | .returnNormal reserve => Sys2Proof.Machine.execReturnNormal reserve s
  | .inputReturn => Sys2Proof.Machine.execInputReturn s
  | .thermal => Sys2Proof.Machine.execThermal s
  | .thermalEnd => Sys2Proof.Machine.execThermalEnd s
  | .powerOn firmware modnum selftest routes => Sys2Proof.Machine.execPowerOn firmware modnum selftest routes s
  | .restoreBegin reserve => Sys2Proof.Machine.execRestoreBegin reserve s
  | .timeExchange master error => Sys2Proof.Machine.execTimeExchange master error s
  | .masterLost master => Sys2Proof.Machine.execMasterLost master s
  | .warmReset key selftest => Sys2Proof.Machine.execWarmReset key selftest s
  | .attestationRequest addr => Sys2Proof.Machine.execAttestationRequest addr s
  | .suspend slot => Sys2Proof.Machine.execSuspend slot s
  | .ownerSuspended slot => Sys2Proof.Machine.execOwnerSuspended slot s
  | .resume slot => Sys2Proof.Machine.execResume slot s
  | .terminate slot => Sys2Proof.Machine.execTerminate slot s
  | .islandsWrite slot value => Sys2Proof.Machine.execIslandsWrite slot value s
  | .regselWrite value => Sys2Proof.Machine.execRegselWrite value s
  | .invcmd value => Sys2Proof.Machine.execInvcmd value s
  | .invalidationComplete => Sys2Proof.Machine.execInvalidationComplete s
  | .keyload addr => Sys2Proof.Machine.execKeyload addr s
  | .rtload value => Sys2Proof.Machine.execRtload value s
  | .coreRoutineLoad core => Sys2Proof.Machine.execCoreRoutineLoad core s
  | .mcload value => Sys2Proof.Machine.execMcload value s
  | .vitload value => Sys2Proof.Machine.execVitload value s
  | .vitclr index => Sys2Proof.Machine.execVitclr index s
  | .vitrineRemoved index => Sys2Proof.Machine.execVitrineRemoved index s
  | .gload addr => Sys2Proof.Machine.execGload addr s
  | .featDrvWrite word value => Sys2Proof.Machine.execFeatDrvWrite word value s
  | .acclist addr => Sys2Proof.Machine.execAcclist addr s
  | .restoreResume owner => Sys2Proof.Machine.execRestoreResume owner s
  | .ckreq addr => Sys2Proof.Machine.execCkreq addr s
  | .shardReceive source data => Sys2Proof.Machine.execShardReceive source data s
  | .checkpointSeal answers => Sys2Proof.Machine.execCheckpointSeal answers s
  | .ckrestore addr shards => Sys2Proof.Machine.execCkrestore addr shards s
  | .trigctlArm value => Sys2Proof.Machine.execTrigctlArm value s
  | .trigfire => Sys2Proof.Machine.execTrigfire s
  | .energyLowRead off => Sys2Proof.Machine.execEnergyLowRead off s
  | .energyHighRead off => Sys2Proof.Machine.execEnergyHighRead off s
  | .hostLoad addr size => Sys2Proof.Machine.execHostLoad addr size s
  | .hostStore addr mask data => Sys2Proof.Machine.execHostStore addr mask data s
  | .registerWrite off value => Sys2Proof.Machine.execRegisterWrite off value s
  | .pathRestored module paths => Sys2Proof.Machine.execPathRestored module paths s
  | .routerOff => Sys2Proof.Machine.execRouterOff s
  | .timePhaseTimeout => Sys2Proof.Machine.execTimePhaseTimeout s

end Sys2Proof.Machine
end

