-- ==== Sys2Proof/Machine/Upsets.lean ====
section
/-! DEFINITION. Physical upsets, an input from outside (log 13): what each leaves in the storage it meets (R346, R348, R351,
R358). -/
namespace Sys2Proof.Machine
open Sys2Proof

/-- The residue of a value stays as it was stored while the value beside it changes (R347). -/
def Strand.keepResidue (t : Strand) (key old new : Nat) : Strand :=
  let r := t.residueAt key old
  let rest := t.residues.filter (fun e => e.1 != key)
  { t with residues := if r = res new then rest else Tab.put rest key r }

/-- Bits of a register flipped. The hard-wired s0 and k0 hold none; predicates and flags carry no residue (R346, R347). -/
def Strand.flip (t : Strand) (d : Dest) (f : BitVec 4096) : Strand :=
  match d with
  | .reg n =>
    let v := t.reg n ^^^ f.setWidth 64
    if n = 0 then t else (t.setReg n v).keepResidue n (t.reg n).toNat v.toNat
  | .pred n => if n = 0 then t else t.setPred n (t.predRaw n ^^^ f.setWidth 128)
  | .lc n =>
    let v := t.lcRaw n ^^^ f.setWidth 32
    (t.setLc n v).keepResidue (48 + n) (t.lcRaw n).toNat v.toNat
  | .vec n =>
    let old := (t.vecRaw n).toNat
    let v := t.vecRaw n ^^^ f
    (List.range 128).foldl (fun (u : Strand) l => u.keepResidue (64 + 128 * n + l) (bits old (32 * l + 31) (32 * l)) (bits v.toNat (32 * l + 31) (32 * l))) (t.setVec n v)
  | .flags => { t with flags := t.flags ^^^ f.setWidth 6 }

/-- A number put among others. -/
def insertNew (n : Nat) (l : List Nat) : List Nat := if l.contains n then l else l ++ [n]

/-- A landed element whose data can no longer be corrected: faulted, HOME_UNCORRECTABLE (R359). -/
def Element.torn (e : Element) : Element :=
  let addr := (e.again.bind (fun r => r.parts.head?)).elim 0 Part.addr
  { e with data := 0, fault := some { sub := 6, addr := BitVec.ofNat 64 addr } }

/-- What an upset leaves (R346, R358): a word with an uncorrectable error is marked where it is held; a parity error in the L1
or a TLB discards the entry; a tag error in the L2 discards its set; a corrected error is counted (R360). -/
def State.upset (s : State) (u : Upset) : State :=
  match u with
  | .register c x d f => s.mapStrand c x (fun t => t.flip d f)
  | .result c unit lane f shadow => { s with strikes := s.strikes ++ [(c, unit, lane, f, shadow)] }
  | .spad c w => { s with badSpad := if s.badSpad.contains (c, w) then s.badSpad else s.badSpad ++ [(c, w)] }
  | .l1Data c line w => s.mapCore c (fun k => { k with l1 := k.l1.map (fun l => if l.line = line && l.valid.getLsbD (w / 4) then { l with bad := l.bad ||| (1#16 <<< w) } else l) })
  | .corrected die source sector => s.correct (die % 4) source sector
  | .accumulator c x tile w => s.mapStrand c x (fun t => { t with badAcc := insertNew (2048 * tile + w) t.badAcc })
  | .l2Data n =>
    if ((s.cluster (homeCluster (8 * n))).find (n / 16)).any (fun l => l.valid.getLsbD (n % 16 / 4)) then { s with badL2 := insertNew n s.badL2 } else s
  | .l2Tag line =>
    let k := s.cluster (homeCluster (128 * line))
    let hit := fun (n : Nat) => homeCluster (128 * n) == homeCluster (128 * line) && l2Set n == l2Set line
    { s.setCluster (homeCluster (128 * line)) { k with lines := k.lines.filter (fun l => !hit l.line) } with badL2 := s.badL2.filter (fun n => !hit (n / 16)) }
  | .hbm n => { s with bad := insertNew n s.bad }
  | .l1Line c line => s.mapCore c (fun k => { k with l1 := k.l1.filter (fun l => l.line != line) })
  | .microTlb c i => s.mapCore c (fun k => { k with utlb := k.utlb.eraseIdx i })
  | .dieTlb c i => s.setCluster c { s.cluster c with tlb := (s.cluster c).tlb.eraseIdx i }
  | .microprogram c routine => s.mapCore c (fun k => { k with tornWords := insertNew routine k.tornWords })
  | .gangShare c r => s.mapCore c (fun k => { k with share := { k.share with bad := insertNew r k.share.bad } })
  | .phaseRecord c x sector => s.mapStrand c x (fun t => { t with phase := t.phase.map (fun b => if b.sector = sector then { b with bad := true } else b) })
  | .queueRecord id => match Tab.find? s.reqs id with
    | some r => { s with reqs := Tab.put s.reqs id { r with bad := true } }
    | none => s
  | .element c w i => s.mapCore c (fun k => match Tab.find? k.share.streams w with
    | some st => { k with share := { k.share with streams := Tab.put k.share.streams w { st with elems := st.elems.modify i Element.torn } } }
    | none => k)
  | .collective graph => { s with coll := { s.coll with bad := insertNew graph s.coll.bad } }
  | .vitrine i => match Tab.find? s.vitrines i with
    | some v => { s with vitrines := Tab.put s.vitrines i { v with bad := true } }
    | none => s
  | .scm slot i => match Tab.find? s.power.catalogues slot with
    | some c => { s with power := { s.power with catalogues := Tab.put s.power.catalogues slot { c with regions := c.regions.modify i (fun r => { r with torn := true }) } } }
    | none => s

/-- A torn micro-word met by an operation: Curator reloads the routine from its image, and logs it; the micro-op is then
fetched again (R358, R361). -/
def State.reloadWords (s : State) (c routine : Nat) : State :=
  (s.mapCore c (fun k => { k with tornWords := k.tornWords.filter (· ≠ routine) })).log (coreCluster c) 0x0102 2 7 0 0 (BitVec.ofNat 64 ((routine <<< 16) ||| c))

end Sys2Proof.Machine
end

