-- ==== Sys2Proof/Machine/Turns.lean ====
section
/-! DEFINITION. Who moves: the issue of one bundle of a core (R35, R60, R62, R277), one micro-op of a matrix engine
(R157), one event of an engine, a unit or the host; the agenda, and the choice of the next turn where the agenda is
empty (log 5). -/
namespace Sys2Proof.Machine
open Sys2Proof

/-- An outcome carried on where it is a next state. -/
def andThen (o : Host.Outcome State Fault Refusal) (f : State → Host.Outcome State Fault Refusal) :
    Host.Outcome State Fault Refusal :=
  match o with
  | .next s => f s
  | .fault r => .fault r
  | .refused r => .refused r

/-! ### Examining a bundle -/

/-- The cursor set at the bundle of a strand (R62). -/
def State.openBundle (s : State) (c x : Nat) (t : Strand) (len wcnt : Nat) : State :=
  { s with cursor := some { core := c, ctx := x, pc := t.pc, len := len, wcnt := wcnt, begun := s.nextReq, unsent := !t.phase.isEmpty } }

/-- The cursor moved to one slot, with what the decoder found wrong in its words (R71, R330). -/
def Cursor.atSlot (k : Cursor) (p : Staged) (word : Option Defect) : Cursor :=
  { k with slot := p.slot, pfx := p.pfx, defect := p.defect word }

/-- One slot of the bundle: its word is decoded and its instruction executed (R62, R75, R330). -/
def State.runStaged (s : State) (p : Staged) : Host.Outcome State Fault Refusal :=
  match s.cursor with
  | none => .fault .noBundle
  | some k =>
    match readSlot (slotClass p.slot) p.word p.parcel with
    | some r => exec r.instr { s with cursor := some (k.atSlot p r.defect) }
    | none =>
      let k1 := k.atSlot p (some .cell)
      .next (match k1.verdict, k1.defect with
        | .trap _, _ => s
        | _, some t => { s with cursor := some { k1 with verdict := .trap t } }
        | _, none => s)

/-- The slots of a bundle in their order. -/
def State.runSlots (s : State) (l : List Staged) : Host.Outcome State Fault Refusal :=
  match l with
  | [] => .next s
  | p :: rest => andThen (s.runStaged p) (fun s1 => s1.runSlots rest)
termination_by structural l

/-- What the examination of a strand's next bundle comes to. -/
inductive Exam
  | idle
  | ready (s : State) (k : Cursor)
  | trapped (t : TrapInfo)
  | stalled (why : Stall) (a : StallAct)
  | stopped (f : Fault)
  | refused (r : Refusal)
  deriving DecidableEq, Repr

/-- A strand's next bundle examined (R60, R62): what it would do, and nothing done. -/
def State.examine (s : State) (c x : Nat) : Exam :=
  match s.strand c x with
  | none => .idle
  | some t =>
    match s.fetch c t with
    | (_, .refused i) => .trapped i
    | (_, .padding) => .idle
    | (s1, .bundle slots len wcnt) =>
      match (s1.openBundle c x t len wcnt).runSlots slots with
      | .fault f => .stopped f
      | .refused r => .refused r
      | .next s2 =>
        match s2.cursor with
        | none => .idle
        | some k =>
          match k.verdict with
          | .go => .ready s2 k
          | .trap i => .trapped i
          | .stall w a => .stalled w a

/-- A strand moved past padding headers, which take no issue cycle (R60): at most `fuel` lines. -/
def State.skipPadding (s : State) (c x fuel : Nat) : State :=
  match fuel with
  | 0 => s
  | n + 1 =>
    match s.strand c x with
    | none => s
    | some t =>
      match s.fetch c t with
      | (s1, .padding) =>
        (s1.setStrand c x { t with pc := BitVec.ofNat 64 ((t.pc.toNat / 64 + 1) * 64) }).skipPadding c x n
      | _ => s
termination_by structural fuel

/-! ### The issue turn of a core -/

/-- Whether a core's island issues nothing, its point changing (R281). -/
def State.pointChanging (s : State) (c : Nat) : Bool := (Tab.get s.islands {} (coreIsland c)).changing.any (fun e => decide (s.now < e.2))
/-- Whether a strand's next bundle may be examined as its gang stands: active, or asked to halt or ending while the strand is
inside a PHASE, which completes first (R30, R205, R318). -/
def State.gangIssues (s : State) (t : Strand) : Bool :=
  match s.gang t.gang with
  | some v => v.mode == .active || ((v.mode == .preempting || v.mode == .ending) && t.phasing)
  | none => false
/-- The contexts whose next bundle is examined in this cycle (R30, R277, R281). -/
def State.candidates (s : State) (c : Nat) : List Nat :=
  if s.pointChanging c then [] else (s.core c).examinable.filter (fun x => (s.strand c x).any s.gangIssues)

/-- The lines of the 48-bit code space: as many padding headers as may follow one another (R60). -/
def codeLines : Nat := 2 ^ 42

/-- What comes before a core's bundle of this cycle: held bundles go on, due traps and the supply trap are entered,
results and pattern loads land, and padding is passed (R60, R72, R147, R314, R396). -/
def State.beginCycle (s : State) (c : Nat) : State :=
  let xs := Tab.keys (s.core c).ctxs
  let s1 := s.continueHolds c
  let s2 := xs.foldl (fun (s : State) x => s.enterDue c x false) s1
  let s3 := if s2.supply = 3 || s2.supply = 6 then xs.foldl (fun (s : State) x => s.meetSupply c x) s2 else s2
  let s4 := (s3.settlePatlds c).mapCore c (fun k => { k with ctxs := k.ctxs.map (fun (e : Nat × Strand) => (e.1, e.2.settle k.cycle)) })
  (s4.candidates c).foldl (fun (s : State) x => s.skipPadding c x codeLines) s4

/-- A strand that did not issue in a cycle: a ready one counts the cycle (R277), a stalled one makes what its stall
starts. -/
def State.passOver (s : State) (c : Nat) (e : Nat × Exam) : State :=
  match s.strand c e.1, e.2 with
  | some _, .ready _ _ => s.mapStrand c e.1 (fun t => { t with missed := t.missed + 1 })
  | some _, .trapped _ => s.mapStrand c e.1 (fun t => { t with missed := t.missed + 1 })
  | some _, .stalled w a => s.stalled c e.1 w a
  | _, _ => s

/-- A cycle of the core that no commit has counted. -/
def State.idleCycle (s : State) (c : Nat) : State := s.mapCore c (fun k => { k with cycle := k.cycle + 1 })

/-- Whether a strand's gang has been asked to halt, or is ending. -/
def State.preempting (s : State) (t : Strand) : Bool := (s.gang t.gang).any (fun v => v.mode == .preempting) || s.ending t
/-- A precise trap of the bundle at a strand's PC (R148, R311, R316); it was ready and has not issued (R277). An after-kind
trap that is due once results have landed is entered first (R312, R354); a strand whose gang is asked to halt takes no such
trap, and its bundle is examined again after the resume (R323). -/
def State.trapBundle (s : State) (c x : Nat) (i : TrapInfo) : State :=
  match s.strand c x with
  | none => s
  | some t =>
    let s1 := s.mapStrand c x (fun t => { t with missed := t.missed + 1 })
    (if s.preempting t then s1.mapStrand c x (fun t => { t with phasing := false })
      else if (s.dueTrap c x true).isSome then s1.enterDue c x true
      else s1.takeTrap c x i t.pc t.pc).idleCycle c

/-- The chosen strand issues or traps. -/
def State.issueOne (s : State) (c x : Nat) (e : Exam) : State :=
  match e with
  | .ready s1 k => s1.commit k
  | .trapped i => s.trapBundle c x i
  | _ => s

/-- A fault or a refusal met while bundles were examined. -/
def firstFailure (l : List (Nat × Exam)) : Option (Host.Outcome State Fault Refusal) :=
  l.findSome? (fun e =>
    match e.2 with
    | .stopped f => some (.fault f)
    | .refused r => some (.refused r)
    | _ => none)

/-- Whether an examined strand is ready: its bundle issues or traps (R277, R316). -/
def Exam.isReady (e : Exam) : Bool :=
  match e with
  | .ready _ _ => true
  | .trapped _ => true
  | _ => false

/-- The exam of a context. -/
def examOf (l : List (Nat × Exam)) (x : Nat) : Exam := ((l.find? (fun e => e.1 == x)).map (·.2)).getD .idle

/-- One cycle of a core: at most one bundle issues (R35, R277). -/
def State.issueTurn (s : State) (c : Nat) : Host.Outcome State Fault Refusal :=
  let s0 := s.beginCycle c
  let exams := (s0.candidates c).map (fun x => (x, s0.examine c x))
  match firstFailure exams with
  | some o => o
  | none =>
    let ready := (s0.core c).ctxs.filter (fun e => (examOf exams e.1).isReady)
    match (s0.core c).choose ready with
    | none => .next ((exams.foldl (fun (s : State) e => s.passOver c e) s0).idleCycle c)
    | some x => .next ((exams.filter (fun e => e.1 != x)).foldl (fun (s : State) e => s.passOver c e) (s0.issueOne c x (examOf exams x)))

/-! ### The turn of a matrix engine -/

/-- The cursor for a micro-op of core `c`. -/
def microCursor (c : Nat) : Cursor := { core := c, ctx := 0, pc := 0, len := 0 }

/-- One micro-op of the running operation of a core; one that may not go on is suspended (R152, R153, R157, R168, R399). -/
def State.microTurn (s : State) (c : Nat) : Host.Outcome State Fault Refusal :=
  match (s.core c).mq.find? (·.running) with
  | none => .next s
  | some o =>
    if !s.mayRunOp c o then .next (s.chooseOp c)
    else if (s.core c).tornWords.contains o.routine then .next (s.reloadWords c o.routine)
    else
    let s1 := { s with cursor := some (microCursor c) }
    match o.words[o.at_]? with
    | none => s1.micro Micro.reserved
    | some w =>
      match decodeMicro w with
      | .ok i => exec i s1
      | .error _ => s1.micro Micro.reserved

/-! ### Turns -/

/-- One turn; an 8-byte read of a register by the host takes one of its own (R298, R415). -/
def Turn.run (t : Turn) (s : State) : Host.Outcome State Fault Refusal :=
  match t with
  | .issue c => s.issueTurn c
  | .micro c => s.microTurn c
  | .event i => exec i s
  | .upset u => .next (s.upset u)
  | .read off => .next (s.hostRead off)

/-- What a remote module answers is outside this model (log 8). -/
def State.freeAnswer (s : State) (id : Nat) : Turn :=
  let v := (Config.freeBits s.free 9).toNat
  let status := if Config.freeChoice s.free 9 then 0 else v % 8
  .event (.homeRequest id (if Config.freeChoice s.free 11 then status + 16 else status) ((Config.freeBits s.free 10).setWidth 256))

/-- The turns of a context. -/
def State.contextTurns (s : State) (c : Nat) (e : Nat × Strand) : List Turn :=
  (if e.2.due.isEmpty then [] else [.event (.trapEntry c e.1)]) ++
  (match e.2.holds with
    | .coll _ _ _ _ :: _ => [.event (.collHandoff c e.1)]
    | _ => []) ++
  (if s.supply = 3 || s.supply = 6 then [.event (.supplyTrap c e.1), .event (.handlerOverrun c e.1)] else [])

/-- The turns of a core. -/
def State.coreTurns (s : State) (e : Nat × Core) : List Turn :=
  let k := e.2
  (if k.ctxs.isEmpty then [] else [.issue e.1]) ++
  (if k.mq.any (·.running) then [.micro e.1] else if k.mq.isEmpty then [] else [.event (.matrixChoose e.1)]) ++
  (if k.patlds.isEmpty then [] else [.event (.patldComplete e.1)]) ++
  k.copies.map (fun y => .event (.copyComplete e.1 y.span)) ++
  (if k.collq.isEmpty then [] else [.event (.route1ChunkApply e.1)]) ++
  (if k.reload then [.event (.coreRoutineLoad e.1)] else []) ++
  k.ctxs.flatMap (fun x => s.contextTurns e.1 x)

/-- The turns of a request. -/
def State.requestTurns (s : State) (e : Nat × Request) : List Turn :=
  let r := e.2
  (if r.settled then (if r.isStore then [.event (.storeAck e.1)] else [.event (.elementLand e.1)])
    else [.event (.pageWalk e.1), if r.remote then s.freeAnswer e.1 else .event (.homeRequest e.1 0 0)]) ++
  (if r.setWait then [.event (.setWaitRetry e.1)] else []) ++
  (match r.kind with
    | .barrive _ _ => [.event (.barrierArrival e.1)]
    | _ => []) ++
  (if r.sentAt.isSome then [.event (.remoteNoAnswer e.1)] else [])

/-- The turns of the launch path. -/
def State.launchTurns (s : State) : List Turn :=
  ((List.range 2048).filter (fun q => s.queueEnabled q)).map (fun q => .event (.nestTake q)) ++
  (if s.launch.sources.isEmpty then [] else [.event .nestOffer]) ++
  (if s.launch.nests.isEmpty then [] else (List.range 4).flatMap (fun cl => [.event (.gangPlace cl), .event (.clusterReserve cl)])) ++
  (List.range 4).flatMap (fun cl => if (s.cluster cl).folios.isEmpty then []
    else (List.range Config.clusterCores).map (fun i => .event (.folioPickup (Config.clusterCores * cl + i)))) ++
  s.launch.gangs.flatMap (fun (e : Nat × Gang) => [.event (.gangPreempt e.1), .event (.gangResume e.1)]) ++
  s.launch.nests.map (fun (e : Nat × Nest) => .event (.nestRetire e.1))

/-- The turns of the collective engine and the router. -/
def State.fabricTurns (s : State) : List Turn :=
  s.coll.replays.flatMap (fun r =>
    [.event (.rootReleaseTimeout r.graph r.step), .event (.replayComplete r.graph r.step)] ++
    (List.range (s.graphOf r.graph).ops.length).map (fun i => .event (.looseFlush r.graph r.step i))) ++
  s.router.linksDown.map (fun l => .event (.routeRemove l)) ++
  s.router.pathless.map (fun (e : Nat × Nat) => .event (.moduleLost e.1))

/-- The points that Curator's throttles demand: which, the spec leaves to it (R282; log 60). -/
def State.freeDemands (s : State) : List Nat := (List.range 4).map (fun r => (Config.freeBits s.free (16 + r)).toNat % 8)

/-- The turns of Curator. -/
def State.curatorTurns (s : State) : List Turn :=
  ((List.range 32).filter (fun q => s.slotValid q)).map (fun q => .event (.ownerSuspended q)) ++
  (if s.hreg 0x3830 = 0 then [] else [.event .invalidationComplete]) ++
  (s.vitrines.filter (fun (e : Nat × Vitrine) => e.2.removing)).map (fun (e : Nat × Vitrine) => .event (.vitrineRemoved e.1)) ++
  (match s.power.master with
    | some m => [.event (.masterLost m.1)]
    | none => []) ++
  (if s.hreg 0x1000 = 5 then [.event .timePhaseTimeout] else []) ++
  (if s.hreg 0x1000 = 6 then [.event .thermal, .event .thermalEnd] ++ (List.range 32).map (fun j => .event (.operatingPointChange j s.freeDemands)) else [])

/-- Every turn that may come next without anything from outside (log 5). -/
def State.turns (s : State) : List Turn :=
  s.cores.flatMap s.coreTurns ++ s.reqs.flatMap s.requestTurns ++
  s.clusters.flatMap (fun (e : Nat × Cluster) => e.2.fills.map (fun f => Turn.event (.l2Fill f.line))) ++
  (s.waiters.filter (fun w => w.asker.isNone)).map (fun w => Turn.event (.waitTimeout w.core w.ctx)) ++
  s.walks.map (fun (e : Nat × Walk) => Turn.event (.walkHop e.1)) ++
  s.launchTurns ++ s.fabricTurns ++ s.curatorTurns

/-- The Causeway port a message leaves by: of a request, the first link of its path; of any other, that of path 0 (R286). -/
def State.portOf (s : State) (m : OutMsg) : Option Nat :=
  let first := fun (module path : Nat) => ((Tab.find? (s.pathsTo module) path).getD []).head?
  match m with
  | .request module path _ _ _ _ _ _ _ _ => first module path
  | .record module _ _ _ _ => first module 0
  | .answer module _ _ _ => first module 0
  | .chunk module group _ => if group then none else first module 0
  | .start module _ _ _ => first module 0
  | .abort module _ => first module 0
  | .late module _ => first module 0
  | .hold module _ _ _ _ _ _ _ _ => first module 0
  | .withdraw module _ => first module 0
  | .probe module _ _ _ => first module 0
  | .time module => first module 0
  | .shard module _ _ => first module 0
  | .fetch _ _ => none
  | .interrupt _ => none
/-- The flits of the messages from the `sent`-th on join those that wait at their ports, and some leave (R286, log 6). -/
def State.moveFlits (s : State) (sent : Nat) : State :=
  let joined := (s.outbox.drop sent).zipIdx.foldl (fun (w : Map Nat) (e : OutMsg × Nat) =>
    match s.portOf e.1 with
    | some p => Tab.put w p (Tab.get w 0 p + Config.flits (sent + e.2))
    | none => w) s.router.waiting
  { s with router := { s.router with waiting := joined.map (fun (e : Nat × Nat) => (e.1, e.2 - Config.drained s.turnNo e.1)) } }

/-- So many ns passed: by how much the time stamp counter advances, slewed by at most 1 ns for each µs, and what is left to make
good (R443). -/
def Power.slewed (p : Power) (d : Nat) : Power × Nat :=
  let n := min (min ((p.slewRest + d) / 1000) p.slew.natAbs) d
  if p.slew = 0 then ({ p with slewRest := 0 }, d)
  else if p.slew < 0 then ({ p with slew := p.slew + n, slewRest := (p.slewRest + d) % 1000 }, d - n)
  else ({ p with slew := p.slew - n, slewRest := (p.slewRest + d) % 1000 }, d + n)

/-- What every step does beside its turn: entries of the logs become readable, SHEDORD is current, bring-up goes on, flits
move, and time passes, its cycles charged to the nests, and a gang that so becomes first is noted (R276, R283, R286, R327,
R407, R427, log 6). `sent` is how many messages had
been sent before. -/
def State.tick (s : State) (sent : Nat) : State :=
  let s1 := (s.settleLogs.noteShedOrd.bootTick).moveFlits sent
  let (p, d) := s1.power.slewed (Config.elapsed s1.turnNo)
  let t := s1.now + d
  ({ ({ s1 with power := p }).meter t with turnNo := s1.turnNo + 1, now := t }).noteFirst

/-- A turn and what goes with it. -/
def State.take (s : State) (t : Turn) : Host.Outcome State Fault Refusal := andThen (t.run s) (fun s1 => .next (s1.tick s.outbox.length))

/-- Whether a turn is a write of the host. -/
def Turn.isHostWrite (t : Turn) : Bool :=
  match t with
  | .event (.doorbell _ _) => true
  | .event (.gload _) => true
  | .event (.featDrvWrite _ _) => true
  | .event (.trigctlArm _) => true
  | .event .trigfire => true
  | .event (.mcload _) => true
  | .event (.vitload _) => true
  | .event (.vitclr _) => true
  | .event (.keyload _) => true
  | .event (.rtload _) => true
  | .event (.islandsWrite _ _) => true
  | .event (.regselWrite _) => true
  | .event (.invcmd _) => true
  | .event (.suspend _) => true
  | .event (.resume _) => true
  | .event (.terminate _) => true
  | .event (.restoreResume _) => true
  | .event (.acclist _) => true
  | .event (.ckreq _) => true
  | .event (.ckrestore _ _) => true
  | .event (.warmReset _ _) => true
  | .event (.attestationRequest _) => true
  | .event (.registerWrite _ _) => true
  | .event (.hostStore _ _ _) => true
  | _ => false

/-- The next step of the module: the head of the agenda; a write of the host there waits, in its place, for an invalidation
in progress to complete (R433). Where the agenda is empty, one of the turns that may come, in rotation; where there is none,
time alone passes (log 5). -/
def State.turn (s : State) : Host.Outcome State Fault Refusal :=
  match s.agenda with
  | t :: rest => if t.isHostWrite && s.hreg 0x3830 ≠ 0 then s.take (.event .invalidationComplete) else ({ s with agenda := rest }).take t
  | [] =>
    match s.turns[s.turnNo % max 1 s.turns.length]? with
    | some t => s.take t
    | none => .next (s.tick s.outbox.length)

/-! ### A word placed where the next step runs it (log 10) -/

/-- The address the placed bundle lies at. -/
def placedAt : Nat := 0x10000

/-- The slot number whose mask bit presents a slot class. -/
def classSlot (c : SlotClass) : Nat :=
  match c with
  | .s => 0
  | .b => 1
  | .m => 2
  | .v => 4
  | .x => 6
  | .e => 7

/-- The bundle of one slot: its header, its word and its parcel (R59). -/
def bundleOf (c : SlotClass) (word : BitVec 32) (parcel : BitVec 16) : Nat :=
  2 ^ classSlot c + 65536 * (word.toNat + 2 ^ 32 * parcel.toNat)

/-- The bundle of a table word. -/
def placedBundle (nbits w : Nat) : Nat :=
  bundleOf (((tableWord nbits w).map (·.1)).getD .s) (BitVec.ofNat 32 w) (if nbits ≤ 32 then 0#16 else BitVec.ofNat 16 (w >>> 32))

/-- The nest of the placed strand: one gang of one core and one strand. -/
def placedNest : NestRec :=
  { hdr := 0, shape := 0x0000000108400000, levels := [0, 0, 0, 0], codeBase := BitVec.ofNat 64 placedAt, entry := 0, comp := 0, rbase := 0, reads := [], writes := [] }

/-- A strand placed alone on core 0, of an owner whose slot 0 maps the first 256 MiB onto the module's own memory, with
every register and tile it may name, and a handler for its traps. -/
def State.withStrand (s : State) (regs : Map Word) : State :=
  let g := s.launch.gangSeq + 1
  let n := s.launch.seq + 1
  let s1 := ((s.setSlotReg 0 0 (2 ^ 63 + 1)).setSlotReg 0 0x10 (placedAt + 0x10000)).setSlotReg 0 0x20 (placedAt + 0x20000)
  let s2 := { s1 with launch := { s1.launch with gangSeq := g, seq := n } }
  let s3 := (s2.setNest n { rec_ := placedNest, owner := 1, source := 0, placed := 1 }).setGang g { nest := n, iter := 0, cluster := 0, cores := [0], alive := 1 }
  let page : TlbEntry := { slot := 0, vpage := 0, size := 2 ^ 28, ppage := s.modnum * 2 ^ 44, r := true, w := true, x := true }
  s3.mapCore 0 (fun k => { k with gang := some g, lastOwner := some 1, utlb := page :: k.utlb, ctxs := [(0, { gang := g, member := 0, slot := 0, pc := BitVec.ofNat 64 placedAt, vregs := 64, accs := 8, readyAt := k.cycle, lastIssue := k.cycle, regs := regs })] })

/-- 64 bytes of HBM4 stored at the placed address under the owner's key, no line of the L2 in front of them. -/
def State.withLine (s : State) (v : Nat) : State :=
  let line := placedAt / 128
  let cl := homeCluster placedAt
  let s1 := s.setCluster cl { (s.cluster cl).without line with fills := (s.cluster cl).fills.filter (fun f => f.line != line) }
  let key := s1.slotKey 0
  let s2 := (s1.setHbmSector placedAt key (v % 2 ^ 256)).setHbmSector (placedAt + 32) key (v / 2 ^ 256)
  { s2 with badL2 := s2.badL2.filter (fun b => b / 16 != placedAt / 128) }

/-- The placed strand's registers: those of the strand that stood in its place. -/
def State.placedRegs (s : State) : Map Word := ((s.strand 0 0).map (·.regs)).getD []

/-- A bundle of one slot, placed as the next that core 0 issues. -/
def State.withBundle (s : State) (nbits w : Nat) : State :=
  { (s.withStrand s.placedRegs).withLine (placedBundle nbits w) with agenda := [.issue 0], cursor := none }

/-- A micro-word, placed as the next that core 0's matrix engine executes: the first of a running operation. -/
def State.withMicroWord (s : State) (w : Nat) : State :=
  let s1 := s.withStrand s.placedRegs
  let o : MatrixOp := { id := s.nextReq + 1, routine := 0, tag := 0, prio := 0, mp := [], fmt := 0, ctx := 0, gang := s1.launch.gangSeq, member := 0, slot := 0, tiles := 255, rings := 255, words := [BitVec.ofNat 64 w], reserved := 0, started := true, running := true }
  { s1.mapCore 0 (fun k => { k with mq := [o] }) with nextReq := s.nextReq + 1, agenda := [.micro 0], cursor := none }

end Sys2Proof.Machine
end

