-- ==== Sys2Proof/Machine/Step.lean ====
section
/-! DEFINITION. The step of the module, and the placing of one instruction where it runs next. Both only call
Machine/Turns.lean. -/
namespace Sys2Proof.Machine
open Sys2Proof

/-- One step: one turn of one agent (log 5). -/
def step (s : State) : Host.Outcome State Fault Refusal := s.turn

/-- The machine with an instruction of `nbits` bits placed so that the next step runs it (log 10). -/
def State.withFetchWord (s : State) (nbits w : Nat) : State :=
  if 64 ≤ nbits then s.withMicroWord w else s.withBundle nbits w

end Sys2Proof.Machine
end

