-- ==== Sys2Proof/Safety.lean ====
section
/-! DEFINITION. What claims call a safe step and a safe run, the forms of the state that every step keeps, and the
words claims about one slot of a bundle are stated in. -/
namespace Sys2Proof
open Sys2Proof.Machine

/-- An outcome that is a next state: the machine has neither stopped nor met an instruction without a meaning. -/
def Goes (o : Host.Outcome State Fault Refusal) : Prop := ∃ t, o = .next t

/-- A run of `n` steps that meets no fault and no refusal. -/
def SafeRun (n : Nat) (s : State) : Prop := ∃ t, core.run n s = .next t

/-- Every memory stands in its canonical form: HBM4 and each scratchpad listed (R2, R52). -/
def Machine.State.MemoryOk (s : State) : Prop :=
  Memory.wf s.mem = true ∧ ∀ e ∈ s.cores, Memory.wf e.2.spad = true

/-- The keys of a table of cores rise, and those of each one's contexts and patterns. -/
def Machine.CoresOk (m : Map Core) : Prop :=
  Tab.rising m = true ∧ ∀ e ∈ m, Tab.rising e.2.ctxs = true ∧ Tab.rising e.2.share.pats = true

/-- The keys of the tables that single updates are read back from rise, in the state a sealed Catalogue holds as well. -/
def Machine.State.TablesOk (s : State) : Prop :=
  CoresOk s.cores ∧ Tab.rising s.host = true ∧ Tab.rising s.islands = true ∧ Tab.rising s.reqs = true ∧
    ∀ e ∈ s.power.catalogues, ∀ v, e.2.save = some v → CoresOk v.cores ∧ Tab.rising v.reqs = true

/-- The byte of HBM4 at a local offset. -/
def Machine.State.byte (s : State) (a : Nat) : Byte := Tab.get s.mem 0#8 a

/-- The byte of a core's scratchpad at an offset. -/
def Machine.State.spadByte (s : State) (c a : Nat) : Byte := Tab.get (s.core c).spad 0#8 a

/-! ### One slot of the bundle being issued -/

/-- Instruction `i` stands in the slot being examined of the bundle being issued, and nothing that every slot checks
stops it: no earlier slot trapped or stalled, its words have no defect (R330), it shares no destination (R63), and its
streams, vector registers and tiles may be read (R41, R53).  `q` is the bundle with its gang-share registers read (R359)
and the streams it reads popped. -/
def Machine.State.AtSlot (s : State) (i : Instr) (q : Bun) : Prop :=
  ∃ c, s.cursor = some c ∧ c.verdict = .go ∧ c.defect = none ∧ i.defect = none ∧
    conflict c.dests (slotDests i (((⟨s, c⟩ : Bun).readShare i).space == 2)) = none ∧
    firstStop (((⟨s, c⟩ : Bun).readShare i).operandStops i) = none ∧
    q = ((⟨s, c⟩ : Bun).readShare i).pop (instrSources i)

/-- The machine once a slot holding `i` is part of the bundle `q` with the effect `b`: its destinations are noted for
the slots after it (R63). -/
def Machine.Bun.joined (q : Bun) (i : Instr) (b : Bun) : State :=
  { b.st with cursor := some { b.cur with dests := q.cur.dests ++ (slotDests i (q.space == 2)).map (fun d => (d.1, q.cur.slot, d.2)) } }

/-- The machine once the slot being examined has trapped: the bundle's verdict, and nothing else (R62, R316). -/
def Machine.State.trapped (s : State) (t : TrapInfo) : Host.Outcome State Fault Refusal :=
  match s.cursor with
  | none => .fault .noBundle
  | some c => .next { s with cursor := some { c with verdict := .trap { t with slot := c.slot } } }

/-- The low bits of a value at the width of an integer type, extended by its signedness (R105). -/
def extended (ty : BitVec 4) (v : Word) : Word :=
  if typeSigned ty.toNat then (v.setWidth (typeWidth ty.toNat)).signExtend 64 else (v.setWidth (typeWidth ty.toNat)).setWidth 64

/-- A micro-op is at its turn: a matrix operation of the cursor's core runs, and `m` is what the micro-op acts on, its
operation started (R157, R160). -/
def Machine.State.AtMicro (s : State) (m : Micro) : Prop :=
  ∃ cur o, s.cursor = some cur ∧ (s.core cur.core).mq.find? (·.running) = some o ∧
    m = ⟨{ s with cursor := none }, cur.core, { o with started := true }⟩

/-! ### Elements of a vector register (R131) -/

/-- Instruction `i` writes vector register `d` element by element at width `w`: an active element takes the value `op`
gives it, an inactive one keeps its own, which is not written, and the flags of the active elements are raised (R131). -/
def Elementwise (s : State) (q : Bun) (i : Instr) (d : BitVec 6) (k : BitVec 3) (w bound : Nat) (op : Nat → Nat × Flags) : Prop :=
  s.AtSlot i q → ∃ r : Vec,
    exec i s = .next (q.joined i ((q.writeLanes d r (activeLanes (q.pred k) w) bound).raise
      ((List.range (4096 / w)).foldl (fun f e => if activeElem (q.pred k) w e then f ||| (op e).2 else f) 0) bound)) ∧
    ∀ e < 4096 / w, elem r w e = if activeElem (q.pred k) w e then (op e).1 % 2 ^ w else elem (q.vec d) w e

/-- Instruction `i` writes vector register `d` as `Elementwise`, each active element as a unit with a shadow makes it: what
diverges is reported, and the strikes on the active lanes are spent (R131, R351, R353). -/
def ElementwiseShadowed (s : State) (q : Bun) (i : Instr) (d : BitVec 6) (k : BitVec 3) (w bound unit : Nat)
    (op : Nat → Nat × Flags × List Split) : Prop :=
  s.AtSlot i q → ∃ r : Vec,
    exec i s = .next (q.joined i (((q.writeLanes d r (activeLanes (q.pred k) w) bound).raise
      ((List.range (4096 / w)).foldl (fun f e => if activeElem (q.pred k) w e then f ||| (op e).2.1 else f) 0) bound).shadowed unit d.toNat
        (fun lane => activeElem (q.pred k) w (lane * 32 / w))
        ((List.range (4096 / w)).flatMap (fun e => if activeElem (q.pred k) w e then (op e).2.2 else [])))) ∧
    ∀ e < 4096 / w, elem r w e = if activeElem (q.pred k) w e then (op e).1 % 2 ^ w else elem (q.vec d) w e

/-- Instruction `i` writes vector register `d` with the elements of width `w` that `f` gives, raising no flag. -/
def WritesElements (s : State) (q : Bun) (i : Instr) (d : BitVec 6) (w bound : Nat) (f : Nat → Nat) : Prop :=
  s.AtSlot i q → ∃ r : Vec, exec i s = .next (q.joined i (q.writeVec d r bound)) ∧ ∀ e < 4096 / w, elem r w e = f e

end Sys2Proof
end

