-- ==== Sys2Proof/WellFormed.lean ====
section
/-! DEFINITION. The instructions a program may hold: those whose operand and field values their entries
allow (R104, R130, R330). The checks themselves stand in Machine/Legal.lean. -/
namespace Sys2Proof

/-- An instruction with no defect of its own (R330). -/
def Instr.WellFormed (i : Instr) : Prop := i.defect = none

/-- The same as a Bool, for tests. -/
def Instr.wellFormed (i : Instr) : Bool := i.defect.isNone

/-- Whether an instruction is one of a slot (the others are micro-ops and events). -/
def Instr.isSlot (i : Instr) : Bool := (encodeSlot i).isSome

/-- Whether an instruction is a micro-op of the matrix engine. -/
def Instr.isMicro (i : Instr) : Bool := (encodeMicro i).isSome

end Sys2Proof
end

