-- ==== Sys2Proof/Certificates/Slice0/Obligations.lean ====
section
/-! DEFINITION. The statements for the provers. -/
open Sys2Proof Sys2Proof.Machine


/-! ### The S slot -/

/-- ADD, SUB, MUL and ADDI without `.sat` wrap: the low w bits of the 64-bit result, extended; with `.sat` ADD, SUB and MUL clamp
the exact result to the type's range and raise OF where they do. AND, OR, XOR and NOT act on the low w bits and extend the
result (R105, R106, R111).  ADDI, and the other three at 64 bits without `.sat`, write the residue predicted from their
sources' residues, INVALID where one is INVALID, and for residues that match the values it matches the result (R348). -/
def Obligations.IntegerArithmetic : Prop :=
  ∀ (d a b : BitVec 6) (ty : BitVec 4) (imm : BitVec 14) (s : State) (q : Bun),
    let x := (q.val a).toNat
    let y := (q.val b).toNat
    let ra := q.residueOf a
    let rb := q.residueOf b
    let predicted := fun (p : Nat) => if typeWidth ty.toNat = 64 then some p else none
    let clamp := fun (v : Int) => max (typeMin ty.toNat) (min v (typeMax ty.toNat))
    let result := fun (v : Int) (bound : Nat) =>
      (q.writeReg d (BitVec.ofInt 64 (clamp v)) bound).raise (flagIf (clamp v ≠ v) flagOF) bound
    (s.AtSlot (.add d a b ty 0#1) q → exec (.add d a b ty 0#1) s =
      .next (q.joined (.add d a b ty 0#1) (q.writePredicted d (extended ty (q.val a + q.val b)) 1 (predicted (predictAdd ra rb x y))))) ∧
    (s.AtSlot (.sub d a b ty 0#1) q → exec (.sub d a b ty 0#1) s =
      .next (q.joined (.sub d a b ty 0#1) (q.writePredicted d (extended ty (q.val a - q.val b)) 1 (predicted (predictSub ra rb x y))))) ∧
    (s.AtSlot (.mul d a b ty 0#1) q → exec (.mul d a b ty 0#1) s =
      .next (q.joined (.mul d a b ty 0#1) (q.writePredicted d (extended ty (q.val a * q.val b)) 3 (predicted (predictMul ra rb (x * y / 2 ^ 64)))))) ∧
    (s.AtSlot (.addi d a imm) q → exec (.addi d a imm) s =
      .next (q.joined (.addi d a imm) (q.writePredicted d (q.val a + imm.signExtend 64) 1
        (some (predictAdd ra (res (imm.signExtend 64).toNat) x (imm.signExtend 64).toNat))))) ∧
    (∀ u v : Word, predictAdd (res u.toNat) (res v.toNat) u.toNat v.toNat = res (u + v).toNat ∧
      predictSub (res u.toNat) (res v.toNat) u.toNat v.toNat = res (u - v).toNat ∧
      predictMul (res u.toNat) (res v.toNat) (u.toNat * v.toNat / 2 ^ 64) = res (u * v).toNat ∧
      predictAdd invalidRes (res v.toNat) u.toNat v.toNat = invalidRes ∧
      predictSub (res u.toNat) invalidRes u.toNat v.toNat = invalidRes ∧
      predictMul invalidRes (res v.toNat) u.toNat = invalidRes) ∧
    (s.AtSlot (.add d a b ty 1#1) q →
      exec (.add d a b ty 1#1) s = .next (q.joined (.add d a b ty 1#1) (result (q.int a ty + q.int b ty) 1))) ∧
    (s.AtSlot (.sub d a b ty 1#1) q →
      exec (.sub d a b ty 1#1) s = .next (q.joined (.sub d a b ty 1#1) (result (q.int a ty - q.int b ty) 1))) ∧
    (s.AtSlot (.mul d a b ty 1#1) q →
      exec (.mul d a b ty 1#1) s = .next (q.joined (.mul d a b ty 1#1) (result (q.int a ty * q.int b ty) 3))) ∧
    (s.AtSlot (.and d a b ty) q → exec (.and d a b ty) s =
      .next (q.joined (.and d a b ty) (q.writeReg d (extended ty (q.val a &&& q.val b)) 1))) ∧
    (s.AtSlot (.or d a b ty) q → exec (.or d a b ty) s =
      .next (q.joined (.or d a b ty) (q.writeReg d (extended ty (q.val a ||| q.val b)) 1))) ∧
    (s.AtSlot (.xor d a b ty) q → exec (.xor d a b ty) s =
      .next (q.joined (.xor d a b ty) (q.writeReg d (extended ty (q.val a ^^^ q.val b)) 1))) ∧
    (s.AtSlot (.not d a ty) q → exec (.not d a ty) s =
      .next (q.joined (.not d a ty) (q.writeReg d (extended ty (~~~(q.val a))) 1)))

/-- MULH gives the high half of the exact product; division truncates towards zero, and its corners are ordinary
results (R106, R107). -/
def Obligations.MultiplyHighAndDivide : Prop :=
  ∀ (d a b : BitVec 6) (ty : BitVec 4) (s : State) (q : Bun),
    let x := q.int a ty
    let y := q.int b ty
    let quotient := if y = 0 then extended ty (BitVec.allOnes 64) else extended ty (BitVec.ofInt 64 (x.tdiv y))
    let remainder := if y = 0 then BitVec.ofInt 64 x else BitVec.ofInt 64 (x.tmod y)
    (s.AtSlot (.mulh d a b ty) q → exec (.mulh d a b ty) s =
      .next (q.joined (.mulh d a b ty) (q.writeReg d (extended ty (BitVec.ofInt 64 (x * y / 2 ^ typeWidth ty.toNat))) 3))) ∧
    (s.AtSlot (.divs d a b ty) q → exec (.divs d a b ty) s = .next (q.joined (.divs d a b ty) (q.writeReg d quotient 24))) ∧
    (s.AtSlot (.divn d a b ty) q → exec (.divn d a b ty) s = .next (q.joined (.divn d a b ty) (q.writeReg d quotient 24))) ∧
    (s.AtSlot (.rem d a b ty) q → exec (.rem d a b ty) s = .next (q.joined (.rem d a b ty) (q.writeReg d remainder 24)))

/-- SHL, SHR, SAR and ROT shift the w-bit operand by the whole value of OPB: by w or more, SHL and SHR give 0, SAR the
sign; ROT rotates right by n mod w (R108). -/
def Obligations.Shifts : Prop :=
  ∀ (d a b : BitVec 6) (ty : BitVec 4) (s : State) (q : Bun),
    let w := typeWidth ty.toNat
    let n := (q.val b).toNat
    let x := (q.val a).setWidth w
    (s.AtSlot (.shl d a b ty) q → exec (.shl d a b ty) s =
      .next (q.joined (.shl d a b ty) (q.writeReg d (extended ty ((x <<< n).setWidth 64)) 1))) ∧
    (s.AtSlot (.shr d a b ty) q → exec (.shr d a b ty) s =
      .next (q.joined (.shr d a b ty) (q.writeReg d (extended ty ((x >>> n).setWidth 64)) 1))) ∧
    (s.AtSlot (.sar d a b ty) q → exec (.sar d a b ty) s =
      .next (q.joined (.sar d a b ty) (q.writeReg d (extended ty ((x.sshiftRight n).setWidth 64)) 1))) ∧
    (s.AtSlot (.rot d a b ty) q → exec (.rot d a b ty) s =
      .next (q.joined (.rot d a b ty) (q.writeReg d (extended ty ((x.rotateRight n).setWidth 64)) 1)))

/-- MIN and MAX compare by the type's signedness; CMP by its condition at width w, writing 1 or 0; SEL takes all 64 bits
of OPA where the register of OPC is nonzero, else of OPB (R106, R109, R110). -/
def Obligations.CompareAndSelect : Prop :=
  ∀ (d a b c : BitVec 6) (ty cond : BitVec 4) (s : State) (q : Bun),
    let x := (q.val a).setWidth (typeWidth ty.toNat)
    let y := (q.val b).setWidth (typeWidth ty.toNat)
    let holds := match cond.toNat with
      | 0 => x == y
      | 1 => x != y
      | 2 => x.slt y
      | 3 => x.sle y
      | 4 => x.ult y
      | _ => x.ule y
    (s.AtSlot (.min d a b ty) q → exec (.min d a b ty) s =
      .next (q.joined (.min d a b ty) (q.writeReg d (BitVec.ofInt 64 (min (q.int a ty) (q.int b ty))) 1))) ∧
    (s.AtSlot (.max d a b ty) q → exec (.max d a b ty) s =
      .next (q.joined (.max d a b ty) (q.writeReg d (BitVec.ofInt 64 (max (q.int a ty) (q.int b ty))) 1))) ∧
    (s.AtSlot (.cmp d a b ty cond) q → exec (.cmp d a b ty cond) s =
      .next (q.joined (.cmp d a b ty cond) (q.writeReg d (if holds then 1 else 0) 1))) ∧
    (s.AtSlot (.sel d a b c) q → exec (.sel d a b c) s =
      .next (q.joined (.sel d a b c) (q.writeReg d (if q.val c = 0 then q.val b else q.val a) 1)))

/-- POPC counts the 1 bits of the low w bits, CLZ the 0 bits above the highest 1, CTZ those below the lowest, each w
where the operand is 0 (R106). -/
def Obligations.BitCounts : Prop :=
  ∀ (d a : BitVec 6) (ty : BitVec 4) (s : State) (q : Bun),
    let w := typeWidth ty.toNat
    let x := (q.val a).toNat
    (s.AtSlot (.popc d a ty) q → exec (.popc d a ty) s =
      .next (q.joined (.popc d a ty) (q.writeReg d (BitVec.ofNat 64 ((List.range w).countP x.testBit)) 1))) ∧
    (s.AtSlot (.clz d a ty) q → ∃ n ≤ w, exec (.clz d a ty) s =
        .next (q.joined (.clz d a ty) (q.writeReg d (BitVec.ofNat 64 n) 1)) ∧
      (∀ i, w - n ≤ i → i < w → x.testBit i = false) ∧ (n < w → x.testBit (w - 1 - n) = true)) ∧
    (s.AtSlot (.ctz d a ty) q → ∃ n ≤ w, exec (.ctz d a ty) s =
        .next (q.joined (.ctz d a ty) (q.writeReg d (BitVec.ofNat 64 n) 1)) ∧
      (∀ i < n, x.testBit i = false) ∧ (n < w → x.testBit n = true))

/-- MOVI, MOVH, BFX, BFI and PACK: immediates, fields and the two low halves joined (R111, R112, R113). -/
def Obligations.ImmediatesAndFields : Prop :=
  ∀ (d a b pos len : BitVec 6) (ty : BitVec 4) (sx : BitVec 1) (imm : BitVec 30) (s : State) (q : Bun),
    let field := (q.val a).extractLsb' pos.toNat (len.toNat + 1)
    let w := typeWidth ty.toNat
    (s.AtSlot (.movi d imm) q → exec (.movi d imm) s =
      .next (q.joined (.movi d imm) (q.writeReg d (imm.signExtend 64) 1))) ∧
    (s.AtSlot (.movh d a imm) q → exec (.movh d a imm) s =
      .next (q.joined (.movh d a imm) (q.writeReg d ((q.val a <<< 30) ||| imm.setWidth 64) 1))) ∧
    (s.AtSlot (.bfx d a sx pos len) q → exec (.bfx d a sx pos len) s =
      .next (q.joined (.bfx d a sx pos len) (q.writeReg d (if sx = 1#1 then field.signExtend 64 else field.setWidth 64) 1))) ∧
    (s.AtSlot (.bfi d a pos len) q → ∃ r : Word, exec (.bfi d a pos len) s =
        .next (q.joined (.bfi d a pos len) (q.writeReg d r 1)) ∧
      ∀ i < 64, r.getLsbD i = if pos.toNat ≤ i ∧ i ≤ pos.toNat + len.toNat then (q.val a).getLsbD (i - pos.toNat)
        else (q.val d).getLsbD i) ∧
    (s.AtSlot (.pack d a b ty) q → exec (.pack d a b ty) s =
      .next (q.joined (.pack d a b ty) (q.writeReg d (((q.val b).setWidth w ++ (q.val a).setWidth w).setWidth 64) 1)))

/-- FADD, FSUB, FMUL, FFMA, FMIN, FMAX and FCMP write what their type's `add`, `sub`, `mul`, `fma`, `least` and `test` give,
zero-extended, with the flags these raise, at bound 4; a NaN operand makes any arithmetic result the default NaN, and a
comparison other than .ne and .un false. FCVT writes its source converted: an integer result extended, any other
zero-extended, with its flags; between equal integer types the low bits pass through (R84, R91, R114 to R116).  FADD, FSUB,
FMUL, FFMA and FCVT to a float take their result from a unit with a shadow, and report where the two diverge (R351); that
the two agree where nothing strikes them is the model's choice (log 48).  Two keys diverge when exactly one is a NaN's or
they differ by more than 2 (R352). A NaN as FFMA's third operand makes its result the default NaN too. -/
def Obligations.ScalarFloat : Prop :=
  ∀ (d a b c : BitVec 6) (ty sty cond : BitVec 4) (rm : BitVec 2) (s : State) (q : Bun),
    let f := scalarFmt ty
    let x := q.low a ty
    let y := q.low b ty
    let z := q.low c ty
    let writes := fun (i : Instr) (r : Nat × Flags) => s.AtSlot i q → exec i s =
      .next (q.joined i ((q.writeReg d (BitVec.ofNat 64 r.1) 4).raise r.2 4))
    let main := fun (f : Fmt) (r : Nat × Flags) => q.st.mainResult q.cur.core 0 f 0 0 0 r.1
    let shadowed := fun (i : Instr) (f : Fmt) (r : Nat × Flags) => s.AtSlot i q → exec i s =
      .next (q.joined i (((q.writeReg d (BitVec.ofNat 64 (main f r).1) 4).raise r.2 4).shadowed 0 d.toNat (· == 0) (main f r).2))
    let nan := (f.decode x).isNan ∨ (f.decode y).isNan
    let r := convert sty.toNat ty.toNat rm.toNat (q.val a).toNat
    (shadowed (.fadd d a b ty) f (f.add x y) ∧ shadowed (.fsub d a b ty) f (f.sub x y) ∧
      shadowed (.fmul d a b ty) f (f.mul x y) ∧ shadowed (.ffma d a b ty c) f (f.fma x y z) ∧
      writes (.fmin d a b ty) (f.least false x y) ∧ writes (.fmax d a b ty) (f.least true x y) ∧
      writes (.fcmp d a b ty cond) (b2n (f.test cond.toNat x y).1, (f.test cond.toNat x y).2)) ∧
    (nan → (f.add x y).1 = f.nanCode ∧ (f.sub x y).1 = f.nanCode ∧ (f.mul x y).1 = f.nanCode ∧
      (f.fma x y z).1 = f.nanCode ∧ (f.least false x y).1 = f.nanCode ∧ (f.least true x y).1 = f.nanCode ∧
      ((f.test cond.toNat x y).1 = true → cond ≠ 0#4 ∧ cond ≠ 2#4 ∧ cond ≠ 3#4)) ∧
    ((f.decode z).isNan = true → (f.fma x y z).1 = f.nanCode) ∧
    (∀ g, floatOf ty.toNat = some g → shadowed (.fcvt d a sty ty rm) g r) ∧
    (floatOf ty.toNat = none → s.AtSlot (.fcvt d a sty ty rm) q → exec (.fcvt d a sty ty rm) s = .next (q.joined (.fcvt d a sty ty rm)
      ((q.writeReg d (if ty.toNat < 8 then extended ty (BitVec.ofNat 64 r.1) else BitVec.ofNat 64 r.1) 4).raise r.2 4))) ∧
    (q.st.strikes = [] → ∀ g r, main g r = (r.1, [])) ∧
    (∀ u v : Int, diverges (some u) (some v) = true ↔ u + 2 < v ∨ v + 2 < u) ∧
    (∀ u : Int, diverges (some u) none = true ∧ diverges none (some u) = true) ∧
    (sty.toNat < 8 → sty = ty → r = ((q.val a).toNat % 2 ^ typeWidth ty.toNat, 0))

/-- Rounding to nearest, ties to even: the count of units is within half a unit of the exact magnitude, even at a tie,
and inexact exactly where it differs (R90). -/
def Obligations.RoundNearestEven : Prop :=
  ∀ (neg : Bool) (m k : Nat) (q : Int), let r := roundUnits neg m (q - k) false q 0
    2 * (r.1 * 2 ^ k) ≤ 2 * m + 2 ^ k ∧ 2 * m ≤ 2 * (r.1 * 2 ^ k) + 2 ^ k ∧
    (2 * (r.1 * 2 ^ k) = 2 * m + 2 ^ k ∨ 2 * m = 2 * (r.1 * 2 ^ k) + 2 ^ k → r.1 % 2 = 0) ∧
    (r.2 = false ↔ r.1 * 2 ^ k = m)

/-- DMERGE and DSCALE write a register pair with a triple, canonical after a merge, and set ZM to whether its mass is zero (R224, R229,
R232, R233); its m and W come from units with a shadow (R351). That a unit nothing strikes and its shadow agree, and which of
their lanes are the scalar merge's, is the model's choice (log 48). -/
def Obligations.ScalarDraws : Prop :=
  ∀ (d a b c : BitVec 6) (mode : BitVec 1) (s : State) (q : Bun),
    let merged := mergeTriple (mode == 1#1) (q.pair a) (q.pair b) (drawU32 q.share.dseed.toNat (q.val c).toNat)
      (Config.freeChoice q.st.free 4194304)
    let m := q.mainTriple 128 0 merged.1
    let x := (q.val a).toNat
    let leaf := if x / 2 ^ 32 = 0xFFFFFFFF then (Triple.empty, flagNV)
      else leafTriple (mode == 1#1) (x % 2 ^ 32) (x / 2 ^ 32) ((q.val b).toNat % 2 ^ 32)
    let l := q.mainTriple 0 0 leaf.1
    (s.AtSlot (.dmerge d a b c mode) q → exec (.dmerge d a b c mode) s = .next (q.joined (.dmerge d a b c mode)
      (((((q.writeReg d (BitVec.ofNat 64 m.1.canonical.high) 4).writeReg (d + 1)
        (BitVec.ofNat 64 m.1.canonical.i) 4)).raiseZm merged.2 m.1.zero 4).shadowed 3 d.toNat (· == 128) m.2))) ∧
    (s.AtSlot (.dscale d a b mode) q → exec (.dscale d a b mode) s = .next (q.joined (.dscale d a b mode)
      (((((q.writeReg d (BitVec.ofNat 64 l.1.high) 8).writeReg (d + 1)
        (BitVec.ofNat 64 l.1.i) 8)).raiseZm leaf.2 l.1.zero 8).shadowed 3 d.toNat (· == 0) l.2))) ∧
    (q.st.strikes = [] → ∀ place lane t, q.mainTriple place lane t = (t, []))

/-! ### The B slot -/

/-- BR and BRK change the flow to the bundle's address plus twice the offset where they are taken, and do nothing where
they are not; a target taken beyond 2^48 raises the address-range trap (R64, R117, R337). -/
def Obligations.Branches : Prop :=
  ∀ (zs : BitVec 1) (r : BitVec 5) (k cond : BitVec 3) (off : BitVec 20) (s : State) (q : Bun),
    let target := q.cur.pc + off.signExtend 64 * 2
    let branches := fun (i : Instr) (taken : Prop) => s.AtSlot i q →
      (taken → target.toNat < 2 ^ 48 → exec i s = .next (q.joined i { q with cur := { q.cur with flow := .jump target } })) ∧
      (taken → 2 ^ 48 ≤ target.toNat → exec i s = s.trapped { cause := 5, addr := target }) ∧
      (¬ taken → exec i s = .next (q.joined i q))
    branches (.br zs r off) (if zs = 1#1 then q.val (r.setWidth 6) = 0 else q.val (r.setWidth 6) ≠ 0) ∧
    branches (.brk k cond off) (match cond.toNat with
      | 0 => q.pred k ≠ 0
      | 1 => q.pred k = BitVec.allOnes 128
      | 2 => q.pred k = 0
      | _ => q.pred k ≠ BitVec.allOnes 128)

/-- CALL writes the address of the next bundle and jumps, and raises the address-range trap where its target is 2^48 or
beyond (R64, R337); RET jumps to its register, and raises the address-range trap
where bits [63:48] or bit 0 of it are not 0 (R118). -/
def Obligations.CallAndReturn : Prop :=
  ∀ (r : BitVec 5) (off : BitVec 20) (s : State) (q : Bun),
    let target := q.cur.pc + off.signExtend 64 * 2
    let back := q.val (r.setWidth 6)
    let jumped := fun (b : Bun) (t : Word) => { b with cur := { b.cur with flow := .jump t } }
    (s.AtSlot (.call r off) q → target.toNat < 2 ^ 48 → exec (.call r off) s = .next (q.joined (.call r off)
      (jumped (q.writeReg (r.setWidth 6) (q.cur.pc + BitVec.ofNat 64 q.cur.len) 1) target))) ∧
    (s.AtSlot (.call r off) q → 2 ^ 48 ≤ target.toNat → exec (.call r off) s = s.trapped { cause := 5, addr := target }) ∧
    (s.AtSlot (.ret r) q → back.toNat < 2 ^ 48 → back.getLsbD 0 = false →
      exec (.ret r) s = .next (q.joined (.ret r) (jumped q back))) ∧
    (s.AtSlot (.ret r) q → 2 ^ 48 ≤ back.toNat ∨ back.getLsbD 0 = true →
      exec (.ret r) s = s.trapped { cause := 5, addr := back })

/-- LOOP puts count − 1 in LCn, or 0 and leaves the loop where the count is 0; a count of 2^32 or more raises the
illegal-operand trap. ENDL goes back and counts down while LCn is not 0 (R119, R120).  The count less 1 carries the residue
predicted from its source's (R348).  Where either goes to a target of 2^48 or beyond, it raises the address-range trap (R64,
R337). -/
def Obligations.HardwareLoops : Prop :=
  ∀ (n : BitVec 2) (off : BitVec 20) (c : BitVec 6) (imm : BitVec 1) (cnt : BitVec 9) (s : State) (q : Bun),
    let target := q.cur.pc + off.signExtend 64 * 2
    let jumped := fun (b : Bun) => { b with cur := { b.cur with flow := .jump target } }
    let count : Word := if imm = 1#1 then cnt.setWidth 64 else q.val c
    let lc := q.strand.readLc n.toNat
    let held := if q.strand.inflight.all (fun l => l.dst != .lc n.toNat) then q.strand.residueAt (48 + n.toNat) lc.toNat
      else res lc.toNat
    (s.AtSlot (.loop n off c imm cnt) q →
      (count ≠ 0 → count.toNat < 2 ^ 32 → exec (.loop n off c imm cnt) s = .next (q.joined (.loop n off c imm cnt)
        (q.writeLc n ((count - 1).setWidth 32)
          (some (predictSub (if imm = 1#1 then res count.toNat else q.residueOf c) 1 count.toNat 1))))) ∧
      (count = 0 → target.toNat < 2 ^ 48 → exec (.loop n off c imm cnt) s = .next (q.joined (.loop n off c imm cnt)
        (jumped (q.writeLc n 0 none)))) ∧
      (count = 0 → 2 ^ 48 ≤ target.toNat → exec (.loop n off c imm cnt) s = s.trapped { cause := 5, addr := target }) ∧
      (2 ^ 32 ≤ count.toNat → exec (.loop n off c imm cnt) s = s.trapped { cause := 3 })) ∧
    (s.AtSlot (.endl n off) q →
      (lc ≠ 0 → target.toNat < 2 ^ 48 → exec (.endl n off) s = .next (q.joined (.endl n off)
        (jumped (q.writeLc n (lc - 1) (some (predictSub held 1 lc.toNat 1)))))) ∧
      (lc ≠ 0 → 2 ^ 48 ≤ target.toNat → exec (.endl n off) s = s.trapped { cause := 5, addr := target }) ∧
      (lc = 0 → exec (.endl n off) s = .next (q.joined (.endl n off) q)))

/-- NOP does nothing; TRAP makes the TRAP cause with its code due after the bundle; HIBER holds its bundle inside a
supply handler and TRET inside any handler, and each raises the illegal-operand trap outside one (R124 to R127, R398). -/
def Obligations.NopTrapHiberTret : Prop :=
  ∀ (code : BitVec 8) (s : State) (q : Bun),
    (s.AtSlot .nop q → exec .nop s = .next (q.joined .nop q)) ∧
    (s.AtSlot (.trap code) q → exec (.trap code) s = .next (q.joined (.trap code) (q.addDue { cause := 0x0C, code := code.toNat }))) ∧
    (s.AtSlot .hiber q → q.strand.supplyBy.isSome = true → exec .hiber s = .next (q.joined .hiber (q.addHold .hiber))) ∧
    (s.AtSlot .hiber q → q.strand.supplyBy = none → exec .hiber s = s.trapped { cause := 3 }) ∧
    (s.AtSlot .tret q → q.handler = true → exec .tret s = .next (q.joined .tret (q.addHold .tret))) ∧
    (s.AtSlot .tret q → q.handler = false → exec .tret s = s.trapped { cause := 3 })

/-- EXIT, with no CHECKSUM trap and no store fault due, lets its bundle take effect and holds the strand; YIELD is held once
its matrix operations have retired, its folio's address can be written and its earlier stores are done, with s1 to s6 and
the next bundle's address (R25, R28, R121, R123); in its handler YIELD raises the illegal-operand trap. -/
def Obligations.ExitAndYield : Prop :=
  ∀ (a : BitVec 6) (pa : Nat) (s s1 : State) (q : Bun),
    let t := q.strand
    let clear := t.checksums = [] ∧ ∀ r < 4, q.st.frozenTrap q.cur.core r t = none
    (s.AtSlot .exit q → clear → exec .exit s = .next (q.joined .exit (q.addHold .exit))) ∧
    (s.AtSlot (.yield a) q → clear → q.handler = true → exec (.yield a) s = s.trapped { cause := 3 }) ∧
    (s.AtSlot (.yield a) q → clear → q.cur.unsent = false →
      q.st.writerDone t.gang t.member t.slot (q.cur.begun + 1) everyStore = true → q.st.unretired q.cur.core t = false →
      t.inflight = [] → q.handler = false → q.regAddrStop a 0 64 64 = none →
      (∀ i < 6, q.dataResidue (BitVec.ofNat 6 (1 + i)) = none) →
      q.st.translate q.cur.core q.slotNo (q.val a).toNat .store = (s1, .ok pa) →
      (match q.st.place pa with
        | .local_ _ => true
        | .remote _ _ => true
        | _ => false) = true →
      exec (.yield a) s = .next (q.joined (.yield a) ((q.withState (fun _ => s1)).addHold
        (.yield (q.val a).toNat pa q.live (q.cur.pc + BitVec.ofNat 64 q.cur.len)))))

/-- SPAWN reads the 128-byte record at its address and writes to its destination what handing it over answers once every
earlier store of its strand is done (R33, R34, R122). -/
def Obligations.Spawn : Prop :=
  ∀ (d a : BitVec 6) (record : Nat) (s s1 : State) (q : Bun),
    let t := q.strand
    let r := s1.spawnRecord (coreCluster q.cur.core) (q.st.gangOwner t.gang) (nestRecord record)
    s.AtSlot (.spawn d a) q → q.regAddrStop a 0 128 128 = none → (∀ x < 4, q.st.frozenTrap q.cur.core x t = none) →
    q.cur.unsent = false → q.st.writerDone t.gang t.member t.slot (q.cur.begun + 1) everyStore = true →
    q.st.virtRead q.cur.core q.slotNo (q.val a).toNat 128 = (s1, .ok record) →
    exec (.spawn d a) s = .next (q.joined (.spawn d a) ((q.withState (fun _ => r.1)).writeReg d (BitVec.ofNat 64 r.2) 1))

/-- CRR reads a control register at bound 2: SSR as the flags with the strand's slot and role, DSEED and the format
entries as they were written. CRW writes one when its bundle issues, an LC at bound 1; a value the register refuses
raises the illegal-operand trap (R40, R47, R128). -/
def Obligations.ControlRegisters : Prop :=
  ∀ (d a : BitVec 6) (cr : BitVec 14) (s : State) (q : Bun),
    (s.AtSlot (.crr d cr) q → exec (.crr d cr) s = .next (q.joined (.crr d cr) (q.writeReg d (q.control cr.toNat) 2))) ∧
    (q.control 1 = BitVec.ofNat 64 ((q.strand.slot % 4) <<< 10 ||| (q.strand.role % 4) <<< 8 ||| q.strand.readFlags.toNat) ∧
      q.control 7 = q.share.dseed ∧ (∀ n < 16, q.control (16 + n) = Tab.get q.share.fmts 0 n)) ∧
    (s.AtSlot (.crw a cr) q → q.crwRefused cr.toNat (q.val a) = false → q.badReg a = false → q.crwStall cr.toNat = none →
      exec (.crw a cr) s = .next (q.joined (.crw a cr)
        (if 10 ≤ cr.toNat ∧ cr.toNat < 14 then q.writeMarked (.lc (cr.toNat - 10)) ((q.val a).setWidth 4096) 1 none
         else q.shareWrite (.crw cr.toNat (q.val a))))) ∧
    (s.AtSlot (.crw a cr) q → q.crwRefused cr.toNat (q.val a) = true → exec (.crw a cr) s = s.trapped { cause := 3 })

/-- A CRW once its bundle issues: AGE keeps 8 bits and is at least 8, ROLE, MDEF, QCFG, DSEED and FSEL keep their defined
bits, SPLIT empties the L1 and moves the end of the scratchpad, and SSR keeps its six flags, those in flight to it ending
undefined (R3, R40, R47 to R52, R72). -/
def Obligations.ControlWritten : Prop :=
  ∀ (s : State) (c x : Nat) (t : Strand) (v : Word), Tab.rising s.cores = true →
    let after := fun (cr : Nat) => (s.writeControl c x cr v).core c
    (after 2).age = (if v.toNat % 256 < 8 then 8 else v &&& 0xFF) ∧ (after 3).role = v &&& 0x3F ∧
    (after 5).share.mdef = v &&& 0xFE7 ∧ (after 6).share.qcfg = v &&& 0xFFFF ∧ (after 7).share.dseed = v ∧
    (after 8).share.fsel = v &&& 0x7F ∧ (after 4).share.split = v &&& 7 ∧ (after 4).l1 = [] ∧
    (∀ o, (after 4).spadSize ≤ o → (s.writeControl c x 4 v).spadByte c o = 0) ∧
    (s.strand c x = some t → (s.writeControl c x 1 v).strand c x = some
      { t with flags := v.setWidth 6, inflight := t.inflight.map (fun l => if l.dst = .flags then { l with clash := true } else l) })

/-! ### The memory slots -/

/-- LD and ST of the own scratchpad: aligned and inside it, a load enters the bytes it will read when the bundle issues
and a store the bytes it will write; of the cluster window, a request of the queue, a load's element going to its stream.
SN is raised for a scope wider than cluster; s0 as destination loads nothing (R202, R220, R242). An address of the own
scratchpad that is not a multiple of the size raises the misaligned trap with it, and nothing of the bundle takes effect
(R239, R335). -/
def Obligations.ScratchpadLoadStore : Prop :=
  ∀ (d : BitVec 6) (a : BitVec 4) (sz : BitVec 2) (off : BitVec 12) (s : State) (q : Bun),
    let ea := q.ea a off
    let n := Machine.sizeOf sz
    let plain := q.mods.space ≤ 1 ∧ q.mods.order = 0 ∧ q.mods.oflag = false
    let fits := (q.val (areg a)).toNat < 2 ^ 56 ∧ q.badReg (areg a) = false ∧ ea.toNat % n = 0 ∧ ea.toNat + n ≤ q.core.spadSize
    let load : SpadLoad := { slot := q.cur.slot, dst := .reg d.toNat, old := 0, bytes := (List.range n).map (fun i => (i, ea.toNat + i)) }
    let bytes := (List.range n).map (fun i => (q.cur.slot, ea.toNat + i, byteOf (q.val d).toNat i))
    let m : Mods := { q.mods with scope := min q.mods.scope 2 }
    let window := q.mods.space = 2 ∧ q.mods.order = 0 ∧ q.mods.oflag = false ∧ (q.val (areg a)).toNat < 2 ^ 56 ∧
      q.badReg (areg a) = false ∧ ea.toNat % n = 0 ∧ ea.toNat < 2 ^ 29 ∧ ea.toNat / 2 ^ 21 ≤ 191
    let crooked := plain ∧ (q.val (areg a)).toNat < 2 ^ 56 ∧ ea.toNat < 2 ^ 56 ∧ ea.toNat % n ≠ 0
    (s.AtSlot (.ld d a sz off) q → plain → fits → isDest d = true → (∀ i < n, q.badWord (ea.toNat + i) 1 = none) →
      exec (.ld d a sz off) s = .next (q.joined (.ld d a sz off) (if d = 0#6 then q.narrow else
        { q.narrow with cur := { q.narrow.cur with loads := q.cur.loads ++ [load] } }))) ∧
    (s.AtSlot (.st d a sz off) q → plain → fits → q.badReg d = false → q.copyStop 1 ea.toNat n = none →
      exec (.st d a sz off) s = .next (q.joined (.st d a sz off)
        { q.narrow with cur := { q.narrow.cur with stores := q.cur.stores ++ bytes } })) ∧
    (s.AtSlot (.ld d a sz off) q → window → q.targetStop d 0 m 1 = none → exec (.ld d a sz off) s =
      .next (q.joined (.ld d a sz off) (q.narrow.enter { q.request (q.streamQueue d) .load (loadParts (loadRun ea.toNat 0 n)) m with
        stream := some (d.toNat % 8), unit := n }))) ∧
    (s.AtSlot (.st d a sz off) q → window → q.badReg d = false → q.copyStop 2 ea.toNat n = none → q.creditStop m.queue 1 = none →
      exec (.st d a sz off) s = .next (q.joined (.st d a sz off)
        (q.narrow.enter (q.request m.queue .store (storeParts (storeRun ea.toNat n (q.val d).toNat)) m)))) ∧
    (s.AtSlot (.ld d a sz off) q → crooked → isDest d = true → exec (.ld d a sz off) s = s.trapped { cause := 6, addr := ea }) ∧
    (s.AtSlot (.st d a sz off) q → crooked → exec (.st d a sz off) s = s.trapped { cause := 6, addr := ea })

/-- VLD and VST of the own scratchpad: 32 units of 16 bytes at a stride, each aligned and inside it; lanes inactive under
the predicate are neither read nor written, and an inactive lane of a VLD keeps its value; the bundle has waited a cycle
for each unit of a bank beyond the first.  Of the cluster window the active bytes are one request of the queue, a VLD's
element going to its stream, and SN is raised for a scope wider than cluster (R182, R202, R220, R241, R243). -/
def Obligations.ScratchpadVectors : Prop :=
  ∀ (d : BitVec 6) (a : BitVec 4) (k : BitVec 3) (off : BitVec 12) (c : BitVec 6) (reg : BitVec 1) (simm : BitVec 9)
    (s : State) (q : Bun),
    let ea := q.ea a off
    let stride : Word := if reg = 1#1 then q.val c else simm.signExtend 64 * 16
    let unit := fun (u : Nat) => (ea + BitVec.ofNat 64 u * stride).toNat
    let bytes := (List.range 32).flatMap (fun u => (List.range 16).filterMap (fun i =>
      if (q.pred k).getLsbD (4 * u + i / 4) then some (16 * u + i, unit u + i) else none))
    let load : SpadLoad := { slot := q.cur.slot, dst := .vec d.toNat, old := q.vec d, bytes := bytes }
    let stored := bytes.map (fun e => (q.cur.slot, e.2, byteOf (q.vec d).toNat e.1))
    let plain := q.mods.space ≤ 1 ∧ q.mods.order = 0 ∧ q.mods.oflag = false
    let fits := (q.val (areg a)).toNat < 2 ^ 56 ∧ q.badReg (areg a) = false ∧ (reg = 1#1 → stride.toNat % 16 = 0) ∧
      (∀ u < 32, unit u % 16 = 0 ∧ unit u + 16 ≤ q.core.spadSize) ∧
      ∀ bank < 32, ((List.range 32).countP (fun u => decide ((q.pred k).extractLsb' (4 * u) 4 ≠ 0#4 ∧ unit u / 16 % 32 = bank))) ≤
        1 + q.strand.bankSince.elim 0 (q.core.cycle - ·)
    let m : Mods := { q.mods with scope := min q.mods.scope 2 }
    let window := q.mods.space = 2 ∧ q.mods.order = 0 ∧ q.mods.oflag = false ∧ (q.val (areg a)).toNat < 2 ^ 56 ∧ q.badReg (areg a) = false ∧
      (reg = 1#1 → stride.toNat % 16 = 0) ∧ ∀ u < 32, unit u % 16 = 0 ∧ unit u < 2 ^ 29 ∧ unit u / 2 ^ 21 ≤ 191
    let read := loadParts (bytes.map (fun e => (e.2, e.1)))
    let written := storeParts (bytes.map (fun e => (e.2, byteOf (q.vec d).toNat e.1)))
    (s.AtSlot (.vld d a k off c reg simm) q → window → q.targetStop d 2 m read.length = none →
      exec (.vld d a k off c reg simm) s = .next (q.joined (.vld d a k off c reg simm)
        (q.narrow.enter { q.request (q.streamQueue d) .load read m with stream := some (d.toNat % 8), unit := 16 }))) ∧
    (s.AtSlot (.vst d a k off c reg simm) q → window → q.vecResidue d (fun l => (q.pred k).getLsbD l) = none →
      (∀ p ∈ written, q.copyStop 2 p.addr 32 = none) → q.creditStop m.queue written.length = none →
      exec (.vst d a k off c reg simm) s = .next (q.joined (.vst d a k off c reg simm)
        (if written = [] then q.narrow else q.narrow.enter (q.request m.queue .store written m)))) ∧
    (s.AtSlot (.vld d a k off c reg simm) q → plain → fits → (∀ e ∈ bytes, q.badWord e.2 1 = none) →
      exec (.vld d a k off c reg simm) s = .next (q.joined (.vld d a k off c reg simm)
        { q.narrow with cur := { q.narrow.cur with loads := q.cur.loads ++ [load] } })) ∧
    (s.AtSlot (.vst d a k off c reg simm) q → plain → fits → q.core.copies = [] →
      q.vecResidue d (fun l => (q.pred k).getLsbD l) = none →
      exec (.vst d a k off c reg simm) s = .next (q.joined (.vst d a k off c reg simm)
        { q.narrow with cur := { q.narrow.cur with stores := q.cur.stores ++ stored } }))

/-- The scratchpad accesses of a bundle when it issues: a byte that only one slot stores holds its last store, a byte
that no slot stores is unchanged, and a load takes its bytes from the scratchpad where no other slot of the bundle
stores them (R202). -/
def Obligations.ScratchpadIssue : Prop :=
  ∀ (s : State) (c id : Nat) (loads : List SpadLoad) (stores : List (Nat × Nat × Byte)),
    Tab.rising s.cores = true → Tab.rising (s.core c).spad = true →
    let after := (s.performSpad c loads stores id).1
    (∀ o, (∀ e ∈ stores, e.2.1 ≠ o) → after.spadByte c o = s.spadByte c o) ∧
    (∀ pre slot o v post, stores = pre ++ (slot, o, v) :: post → (slot = 2 ∨ slot = 3) → (∀ e ∈ post, e.2.1 ≠ o) →
      (∀ e ∈ pre, e.1 ≠ slot → e.2.1 ≠ o) → after.spadByte c o = v) ∧
    (∀ l ∈ loads, (∀ e ∈ l.bytes, ∀ x ∈ stores, x.1 ≠ l.slot → x.2.1 ≠ e.2) →
      ∃ r ∈ (s.performSpad c loads stores id).2, r.dst = l.dst ∧ r.due = (s.core c).cycle + 7 ∧
        r.val = BitVec.ofNat 4096 (l.bytes.foldl (fun v e => setBits v (8 * e.1) 8 (s.spadByte c e.2).toNat) l.old.toNat))

/-- LDQ, LDSEC, GATHERQ and PREF of global memory enter one request for the sectors they touch, with the bytes of the
strand's own buffered stores laid over what a load reads; its element goes to the stream named.  An acquire load is sent
after the buffered records of its sector, with nothing laid over it.  LDQ and LDSEC of the cluster window enter theirs with
the scope narrowed and SN raised where it was wider (R194, R203, R204, R220, R241, R244, R245, R248). -/
def Obligations.QueuedLoads : Prop :=
  ∀ (d : BitVec 6) (a : BitVec 4) (sz : BitVec 2) (off : BitVec 12) (c : BitVec 6) (shift : BitVec 2) (k : BitVec 3)
    (ext : BitVec 2) (s : State) (q : Bun),
    let m := q.mods
    let ea := q.ea a off
    let n := Machine.sizeOf sz
    let plain := m.space = 0 ∧ m.order = 0 ∧ m.oflag = false
    let based := (q.val (areg a)).toNat < 2 ^ 56 ∧ q.badReg (areg a) = false
    let load := fun (i : Instr) (parts : List Part) (sectors : Bool) (unit : Nat) => exec i s = .next (q.joined i (q.enter
      { q.request (q.streamQueue d) .load (q.overlaid parts) m with stream := some (d.toNat % 8), secOnly := sectors, unit := unit }))
    let parts := loadParts (loadRun ea.toNat 0 n)
    let sent := q.beforeImmediate parts m
    let lanes := q.laneAddrs ea c sz shift k
    let sector := loadParts (loadRun ea.toNat 0 32)
    let mw : Mods := { m with scope := min m.scope 2 }
    let window := m.space = 2 ∧ m.order ≤ 1 ∧ m.oflag = false ∧ based ∧ ea.toNat < 2 ^ 29 ∧ ea.toNat / 2 ^ 21 ≤ 191
    let gathered := loadParts (lanes.flatMap (fun e => loadRun e.2.toNat (laneOffset sz e.1) (laneBytes sz)))
    (s.AtSlot (.ldq d a sz off) q → plain → based → ea.toNat < 2 ^ 56 → ea.toNat % n = 0 → q.targetStop d 0 m 1 = none →
      load (.ldq d a sz off) parts false n) ∧
    (s.AtSlot (.ldq d a sz off) q → m.space = 0 → m.order = 1 → m.oflag = false → based → ea.toNat < 2 ^ 56 → ea.toNat % n = 0 →
      (q.flushSectors parts).2 = none → sent.targetStop d 0 m 1 = none → exec (.ldq d a sz off) s =
        .next (q.joined (.ldq d a sz off) (sent.enter
          { sent.request (sent.streamQueue d) .load parts m with stream := some (d.toNat % 8), unit := n }))) ∧
    (s.AtSlot (.ldsec d a off) q → m.space = 0 → m.order = 1 → m.oflag = false → based → ea.toNat < 2 ^ 56 → ea.toNat % 32 = 0 →
      (q.flushSectors sector).2 = none → (q.beforeImmediate sector m).targetStop d 1 m 1 = none → exec (.ldsec d a off) s =
        .next (q.joined (.ldsec d a off) ((q.beforeImmediate sector m).enter { (q.beforeImmediate sector m).request
          ((q.beforeImmediate sector m).streamQueue d) .load sector m with stream := some (d.toNat % 8), secOnly := true, unit := 32 }))) ∧
    (window → (s.AtSlot (.ldq d a sz off) q → ea.toNat % n = 0 → q.targetStop d 0 mw 1 = none → exec (.ldq d a sz off) s =
        .next (q.joined (.ldq d a sz off) (q.narrow.enter { q.request (q.streamQueue d) .load parts mw with
          stream := some (d.toNat % 8), unit := n }))) ∧
      (s.AtSlot (.ldsec d a off) q → ea.toNat % 32 = 0 → q.targetStop d 1 mw 1 = none → exec (.ldsec d a off) s =
        .next (q.joined (.ldsec d a off) (q.narrow.enter { q.request (q.streamQueue d) .load sector mw with
          stream := some (d.toNat % 8), secOnly := true, unit := 32 })))) ∧
    (s.AtSlot (.ldsec d a off) q → plain → based → ea.toNat < 2 ^ 56 → ea.toNat % 32 = 0 → q.targetStop d 1 m 1 = none →
      load (.ldsec d a off) sector true 32) ∧
    (s.AtSlot (.gatherq d a sz off c shift k) q → plain → based →
      (∀ e ∈ lanes, e.2.toNat < 2 ^ 56 ∧ e.2.toNat % laneBytes sz = 0) → q.targetStop d 2 m gathered.length = none →
      load (.gatherq d a sz off c shift k) gathered true (laneBytes sz)) ∧
    (s.AtSlot (.pref a ext off) q → plain → based → ea.toNat < 2 ^ 56 →
      q.creditStop m.queue (if ext = 1#2 then 4 else 1) = none →
      exec (.pref a ext off) s = .next (q.joined (.pref a ext off) (q.enter (q.request m.queue .pref
        (if ext = 1#2 then (List.range 4).map (fun i => ({ addr := ea.toNat / 128 * 128 + 32 * i, mask := 0xFFFFFFFF#32 } : Part))
         else [{ addr := ea.toNat / 32 * 32, mask := 0xFFFFFFFF#32 }]) m))))

/-- STQ and SCATTERQ to the module's own memory go to the strand's phase buffer, to another module's they are sent at
once, a scatter's sectors one request each; STF, and STQ with release, are sent at once after the buffered records of
their sectors, and under release the writer half of PHASE.  STQ and STF of the cluster window are sent at once with the scope
narrowed, SN raised where it was wider (R201, R204, R208, R210, R220, R244, R245). -/
def Obligations.QueuedStores : Prop :=
  ∀ (d : BitVec 6) (a : BitVec 4) (sz : BitVec 2) (off : BitVec 12) (c : BitVec 6) (shift : BitVec 2) (k : BitVec 3)
    (s : State) (q : Bun),
    let m := q.mods
    let ea := q.ea a off
    let n := Machine.sizeOf sz
    let parts := storeParts (storeRun ea.toNat n (q.val d).toNat)
    let fits := m.space = 0 ∧ (q.val (areg a)).toNat < 2 ^ 56 ∧ q.badReg (areg a) = false ∧ ea.toNat < 2 ^ 56 ∧ ea.toNat % n = 0 ∧
      q.badReg d = false ∧ q.copyStop 0 ea.toNat n = none
    let mw : Mods := { m with scope := min m.scope 2 }
    let window := m.space = 2 ∧ (q.val (areg a)).toNat < 2 ^ 56 ∧ q.badReg (areg a) = false ∧ ea.toNat < 2 ^ 29 ∧ ea.toNat / 2 ^ 21 ≤ 191 ∧
      ea.toNat % n = 0 ∧ q.badReg d = false ∧ q.copyStop 2 ea.toNat n = none
    let ready := q.narrow.beforeImmediate [] mw
    let lanes := q.laneAddrs ea c sz shift k
    let scattered := storeParts (lanes.flatMap (fun e => (List.range (laneBytes sz)).map (fun i =>
      (e.2.toNat + i, byteOf (q.vec d).toNat (laneOffset sz e.1 + i)))))
    let away := scattered.filter (fun p => (q.remoteModule p.addr).isSome)
    let home := scattered.filter (fun p => (q.remoteModule p.addr).isNone)
    let active := fun (l : Nat) => if sz = 3#2 then (q.pred k).getLsbD (l / 8) else (q.pred k).getLsbD l
    (s.AtSlot (.stq d a sz off) q → fits → m.order = 0 → m.oflag = false → q.remoteModule ea.toNat = none →
      q.bufferStop parts m = none → exec (.stq d a sz off) s = .next (q.joined (.stq d a sz off) (q.buffered parts m))) ∧
    (s.AtSlot (.stq d a sz off) q → fits → m.order = 0 → m.oflag = false → (q.remoteModule ea.toNat).isSome = true →
      q.creditStop m.queue 1 = none → exec (.stq d a sz off) s = .next (q.joined (.stq d a sz off)
        (q.enter { q.request m.queue .store parts m with remote := true, immediate := false }))) ∧
    (s.AtSlot (.stq d a sz off) q → fits → m.order = 2 → m.oflag = false → (∀ x ∈ q.immediateStops parts m, x = none) →
      (q.beforeImmediate parts m).creditStop m.queue 1 = none → exec (.stq d a sz off) s = .next (q.joined (.stq d a sz off)
        ((q.beforeImmediate parts m).enter { (q.beforeImmediate parts m).request m.queue .store parts m with
          remote := (q.remoteModule ea.toNat).isSome, immediate := true }))) ∧
    (s.AtSlot (.stf d a sz off) q → fits → (m.order = 0 ∨ m.order = 2) → (∀ x ∈ q.immediateStops parts m, x = none) →
      (q.beforeImmediate parts m).creditStop m.queue 1 = none → exec (.stf d a sz off) s = .next (q.joined (.stf d a sz off)
        ((q.beforeImmediate parts m).enter { (q.beforeImmediate parts m).request m.queue .store parts m with
          remote := (q.remoteModule ea.toNat).isSome, immediate := true, flag := true }))) ∧
    (window → (s.AtSlot (.stq d a sz off) q → m.order = 0 → m.oflag = false → q.creditStop mw.queue 1 = none → exec (.stq d a sz off) s =
        .next (q.joined (.stq d a sz off) (q.narrow.enter { q.request mw.queue .store parts mw with remote := false, immediate := false }))) ∧
      (s.AtSlot (.stq d a sz off) q → m.order = 2 → m.oflag = false → (∀ x ∈ q.immediateStops [] mw, x = none) →
        (q.beforeImmediate [] mw).creditStop mw.queue 1 = none → exec (.stq d a sz off) s = .next (q.joined (.stq d a sz off)
          (ready.enter { ready.request mw.queue .store parts mw with remote := false, immediate := true }))) ∧
      (s.AtSlot (.stf d a sz off) q → (m.order = 0 ∨ m.order = 2) → (∀ x ∈ q.immediateStops [] mw, x = none) →
        (q.beforeImmediate [] mw).creditStop mw.queue 1 = none → exec (.stf d a sz off) s = .next (q.joined (.stf d a sz off)
          (ready.enter { ready.request mw.queue .store parts mw with remote := false, immediate := true, flag := true })))) ∧
    (s.AtSlot (.scatterq d a sz off c shift k) q → m.space = 0 → m.order = 0 → m.oflag = false →
      (q.val (areg a)).toNat < 2 ^ 56 → q.badReg (areg a) = false → q.core.copies = [] → q.vecResidue d active = none →
      (∀ e ∈ lanes, e.2.toNat < 2 ^ 56 ∧ e.2.toNat % laneBytes sz = 0) →
      (away ≠ [] → q.creditStop m.queue away.length = none) → (home ≠ [] → (q.sendParts away m).bufferStop home m = none) →
      exec (.scatterq d a sz off c shift k) s = .next (q.joined (.scatterq d a sz off c shift k)
        (if home = [] then q.sendParts away m else (q.sendParts away m).buffered home m)))

/-- AMO and AMO.draw enter one request after the buffered records of their sector, and under release the writer half of
PHASE: a returning AMO with
its stream, AMO.draw with the strand's DSEED and its triple, and ZM written to whether the triple's mass is zero (R229,
R234, R246, R247). -/
def Obligations.Atomics : Prop :=
  ∀ (d : BitVec 6) (a fn : BitVec 4) (off : BitVec 12) (c : BitVec 6) (ret sgn : BitVec 1) (sz : BitVec 2) (newv : BitVec 6)
    (tag : BitVec 8) (greedy : BitVec 1) (s : State) (q : Bun),
    let m := q.mods
    let ea := q.ea a off
    let n := Machine.sizeOf sz
    let plain := m.space = 0 ∧ m.oflag = false ∧ (q.val (areg a)).toNat < 2 ^ 56 ∧ q.badReg (areg a) = false ∧ ea.toNat < 2 ^ 56
    let parts := loadParts (loadRun ea.toNat 0 n)
    let cell := loadParts (loadRun ea.toNat 0 16)
    let kind := ReqKind.amo fn.toNat n (sgn == 1#1) (q.val c) (q.val newv)
    let t := q.pair c
    let draw := ReqKind.draw tag.toNat (greedy == 1#1) q.share.dseed (BitVec.ofNat 32 t.m) (BitVec.ofNat 32 t.w) (BitVec.ofNat 32 t.i) 1
    let sent := q.beforeImmediate parts m
    let drawn := q.beforeImmediate cell m
    (s.AtSlot (.amo d a fn off c ret sgn sz newv) q → plain → ea.toNat % n = 0 → q.badReg c = false → (fn = 7#4 → q.badReg newv = false) →
      q.copyStop 0 ea.toNat n = none → (∀ x ∈ q.immediateStops parts m, x = none) →
      (ret = 1#1 → m.order ≤ 2 → sent.targetStop d 0 m 1 = none → exec (.amo d a fn off c ret sgn sz newv) s =
        .next (q.joined (.amo d a fn off c ret sgn sz newv)
          (sent.enter { q.request (q.streamQueue d) kind parts m with stream := some (d.toNat % 8) }))) ∧
      (ret = 0#1 → (m.order = 0 ∨ m.order = 2) → sent.creditStop m.queue 1 = none → exec (.amo d a fn off c ret sgn sz newv) s =
        .next (q.joined (.amo d a fn off c ret sgn sz newv) (sent.enter (sent.request m.queue kind parts m))))) ∧
    (s.AtSlot (.amoDraw a off c tag greedy) q → plain → ea.toNat % 16 = 0 → q.badReg c = false → q.badReg (c + 1) = false →
      (m.order = 0 ∨ m.order = 2) →
      q.copyStop 0 ea.toNat 16 = none → (∀ x ∈ q.immediateStops cell m, x = none) → drawn.creditStop m.queue 1 = none →
      exec (.amoDraw a off c tag greedy) s = .next (q.joined (.amoDraw a off c tag greedy)
        ((drawn.enter (drawn.request m.queue draw cell m)).raiseZm 0 t.zero 1)))

/-! ### The V and X slots -/

/-- VADD, VSUB, VMUL, VFMA, VMIN and VMAX on the active elements: modulo 2^w for an integer type, each rounded once for
a floating one, at bound 2 or 4 (R131, R133, R136); the sums, differences, products and VFMA of a floating type come from
units with shadows (R351). -/
def Obligations.VectorArithmetic : Prop :=
  ∀ (d a b c : BitVec 6) (ty : BitVec 4) (k : BitVec 3) (bw : BitVec 1) (s : State) (q : Bun),
    let w := typeWidth ty.toNat
    let bound := if ty.toNat < 8 then 2 else 4
    let x := elem (q.vec a) w
    let y := elem (q.vecB b bw) w
    let z := elem (q.vec c) w
    let op := fun (ff : Fmt → Nat → Nat × Flags) (fi : Nat → Nat) (e : Nat) =>
      match floatOf ty.toNat with
      | some f => ff f e
      | none => (fi e, 0)
    let main := fun (r : Nat → Nat × Flags) (e : Nat) => q.mainElem 1 (floatOf ty.toNat) (w * e) (r e)
    let least := fun (e : Nat) => typeInt ty.toNat (x e) ≤ typeInt ty.toNat (y e)
    ElementwiseShadowed s q (.vadd d a b ty k bw) d k w bound 1 (main (op (fun f e => f.add (x e) (y e)) (fun e => x e + y e))) ∧
    ElementwiseShadowed s q (.vsub d a b ty k bw) d k w bound 1 (main (op (fun f e => f.sub (x e) (y e)) (fun e => x e + 2 ^ w - y e))) ∧
    ElementwiseShadowed s q (.vmul d a b ty k bw) d k w bound 1 (main (op (fun f e => f.mul (x e) (y e)) (fun e => x e * y e))) ∧
    ElementwiseShadowed s q (.vfma d a b ty k bw c) d k w bound 1
      (main (op (fun f e => f.fma (x e) (y e) (z e)) (fun e => x e * y e + z e))) ∧
    Elementwise s q (.vmin d a b ty k bw) d k w bound
      (op (fun f e => f.least false (x e) (y e)) (fun e => if least e then x e else y e)) ∧
    Elementwise s q (.vmax d a b ty k bw) d k w bound
      (op (fun f e => f.least true (x e) (y e)) (fun e => if least e then y e else x e))

/-- VABS and VNEG clear or invert a float's sign, a NaN becoming the default NaN, and take an integer's magnitude or
negative modulo 2^w; VAND, VOR, VXOR, VNOT, VSHL and VSHR act on the element's bits, a shift by w or more giving 0, or
the sign for an arithmetic right shift (R134, R135). -/
def Obligations.VectorBits : Prop :=
  ∀ (d a b : BitVec 6) (ty : BitVec 4) (k : BitVec 3) (bw : BitVec 1) (s : State) (q : Bun),
    let w := typeWidth ty.toNat
    let bound := if ty.toNat < 8 then 2 else 4
    let x := elem (q.vec a) w
    let y := elem (q.vecB b bw) w
    let sign := fun (ff : Fmt → Nat → Nat) (fi : Int → Int) (e : Nat) =>
      match floatOf ty.toNat with
      | some f => if (f.decode (x e)).isNan then (f.nanCode, flagIf (f.decode (x e)).signals flagNV) else (ff f (x e), 0)
      | none => ((fi (typeInt ty.toNat (x e)) % 2 ^ w).toNat, 0)
    Elementwise s q (.vabs d a ty k) d k w bound (sign (fun f v => v % 2 ^ f.signBit) (fun v => |v|)) ∧
    Elementwise s q (.vneg d a ty k) d k w bound (sign (fun f v => v ^^^ 2 ^ f.signBit) (fun v => -v)) ∧
    Elementwise s q (.vand d a b ty k bw) d k w 2 (fun e => (x e &&& y e, 0)) ∧
    Elementwise s q (.vor d a b ty k bw) d k w 2 (fun e => (x e ||| y e, 0)) ∧
    Elementwise s q (.vxor d a b ty k bw) d k w 2 (fun e => (x e ^^^ y e, 0)) ∧
    Elementwise s q (.vnot d a ty k) d k w 2 (fun e => (2 ^ w - 1 - x e, 0)) ∧
    Elementwise s q (.vshl d a b ty k bw) d k w 2 (fun e => (if w ≤ y e then 0 else x e * 2 ^ y e, 0)) ∧
    Elementwise s q (.vshr d a b ty k bw) d k w 2 (fun e =>
      (if typeSigned ty.toNat then ((BitVec.ofNat w (x e)).sshiftRight (y e)).toNat else x e >>> y e, 0))

/-- VCMP writes a predicate whose lanes hold its condition where the governing predicate is set and 0 elsewhere; VSEL
takes each element from its first source where its lane is set, else from the second (R137, R138). -/
def Obligations.VectorCompareSelect : Prop :=
  ∀ (d a b : BitVec 6) (cond p k : BitVec 3) (ty : BitVec 4) (bw : BitVec 1) (s : State) (q : Bun),
    let w := typeWidth ty.toNat
    let bound := if ty.toNat < 8 then 2 else 4
    let lane := fun (l : Nat) => vcmpElem cond ty (elem (q.vec a) w (32 * l / w)) (elem (q.vecB b bw) w (32 * l / w))
    let active := fun (l : Nat) => (q.pred k).getLsbD l
    (s.AtSlot (.vcmp cond p a b ty k bw) q → ∃ r : Pred,
      exec (.vcmp cond p a b ty k bw) s = .next (q.joined (.vcmp cond p a b ty k bw) ((q.writePred p r bound).raise
        ((List.range 128).foldl (fun f l => if active l then f ||| (lane l).2 else f) 0) bound)) ∧
      ∀ l < 128, r.getLsbD l = (active l && (lane l).1)) ∧
    WritesElements s q (.vsel d a b ty k bw) d w 2
      (fun e => if activeElem (q.pred k) w e then elem (q.vec a) w e else elem (q.vecB b bw) w e)

/-- VCVT converts the elements of each lane or lane pair and packs them low; VDEQ multiplies each code of the half it
names by its group's scale, a NaN without a flag under scale 0xFF, both in units with shadows where the result is a float
(R94, R351); VQUANT writes the codes of the active groups and their scales, the others keeping theirs
(R139, R140, R141). -/
def Obligations.VectorConvert : Prop :=
  ∀ (d a b c : BitVec 6) (rm : BitVec 2) (sty ty : BitVec 4) (k : BitVec 3) (bw half : BitVec 1) (s : State) (q : Bun),
    let w := typeWidth ty.toNat
    let wide := max (typeWidth sty.toNat) w
    let unit := if wide ≤ 32 then 32 else 64
    let f := (floatOf ty.toNat).getD fmtF8a
    let code := fun (l : Nat) => (elem (q.vec a) 512 (l / 16) >>> (w * (16 * half.toNat + l % 16))) % 2 ^ w
    let scale := fun (l : Nat) => bits (q.val c).toNat (8 * (l / 16) + 7) (8 * (l / 16))
    let group := fun (g : Nat) => quantise f ((List.range 32).map (fun j =>
      fmt32.decode (elem (if j < 16 then q.vec a else q.vecB b bw) 32 (16 * g + j % 16)))) rm.toNat
    let active := fun (g : Nat) => (q.pred k).getLsbD (16 * g)
    ElementwiseShadowed s q (.vcvt d a rm sty ty k) d k unit 4 1
      (fun e => convertUnit sty.toNat ty.toNat rm.toNat unit (unit / wide) (elem (q.vec a) unit e)
        (fun pos => q.mainElem 1 (floatOf ty.toNat) (unit * e + pos))) ∧
    ElementwiseShadowed s q (.vdeq d a ty k c half) d k 32 4 1 (fun l => q.mainElem 1 (some fmt32) (32 * l) (match floatOf ty.toNat with
      | some g => dequantise (g.decode (code l)) (scale l)
      | none =>
        let t := ternValue (code l)
        let r := dequantise (.fin (t.1 < 0) t.1.natAbs 0) (scale l)
        (r.1, if scale l = 0xFF then 0 else r.2 ||| t.2))) ∧
    (∀ v, dequantise v 0xFF = (fmt32.nanCode, 0)) ∧
    (s.AtSlot (.vquant d a b ty k bw c rm) q → ∃ (r : Vec) (sc : Nat),
      exec (.vquant d a b ty k bw c rm) s = .next (q.joined (.vquant d a b ty k bw c rm)
        (((q.writeLanes d r (groupLanes active) 8).writeReg c (BitVec.ofNat 64 sc) 8).raise
          ((List.range 8).foldl (fun x g => if active g then x ||| (group g).2.2 else x) 0) 8)) ∧
      ∀ g < 8, (active g = true → elem r 512 g = packCodes f.width (group g).2.1 % 2 ^ 512 ∧
          bits sc (8 * g + 7) (8 * g) = (group g).1 % 256) ∧
        (active g = false → elem r 512 g = elem (q.vec d) 512 g ∧
          bits sc (8 * g + 7) (8 * g) = bits (q.val c).toNat (8 * g + 7) (8 * g)))

/-- VRED of a group is the tree over its elements, inactive ones entering as the identity: for an integer sum that is
the sum modulo 2^w. With all set every group holds the tree over the eight group results. VSCAN's element e is the
running combination of its group's elements up to e (R98, R99, R142, R143). -/
def Obligations.ReductionsAndScans : Prop :=
  ∀ (d a : BitVec 6) (all : BitVec 1) (fn : BitVec 2) (ty : BitVec 4) (k : BitVec 3) (s : State) (q : Bun),
    let w := typeWidth ty.toNat
    let entering := fun (g : Nat) => q.entering (q.vec a) fn ty k g
    let group := fun (g : Nat) => pairTree (reduceOp fn ty) (Nat.log2 (512 / w)) (entering g)
    let top := pairTree (reduceOp fn ty) 3 ((List.range 8).map (fun g => (group g).1))
    let scan := (List.range 8).flatMap (fun g => scanGroup fn ty (entering g))
    (s.AtSlot (.vred d a all fn ty k) q → ∃ r : Vec, exec (.vred d a all fn ty k) s =
        .next (q.joined (.vred d a all fn ty k) ((q.writeVec d r 10).raise
          ((List.range 8).foldl (fun x g => x ||| (group g).2) 0 ||| if all = 1#1 then top.2 else 0) 10)) ∧
      ∀ g < 8, elem r 512 g = (if all = 1#1 then top.1 else (group g).1) % 2 ^ 512) ∧
    (ty.toNat < 8 → fn = 0#2 → ∀ g < 8, (group g).1 = (entering g).sum % 2 ^ w) ∧
    (s.AtSlot (.vscan d a fn ty k) q → ∃ r : Vec, exec (.vscan d a fn ty k) s =
        .next (q.joined (.vscan d a fn ty k) ((q.writeVec d r 10).raise (scan.foldl (fun x e => x ||| e.2) 0) 10)) ∧
      ∀ e < 4096 / w, elem r w e = ((scan[e]?).map (·.1 % 2 ^ w)).getD 0)

/-- VEXP2, VLOG2, VRCP, VRSQ, VSQRT, VTANH, VSIG, VSIN and VCOS write each active element's function at bound 8; a NaN
gives the default NaN (R144, R145), from units with shadows (R351). -/
def Obligations.SpecialFunctions : Prop :=
  ∀ (d a : BitVec 6) (ty : BitVec 4) (k : BitVec 3) (s : State) (q : Bun),
    let w := typeWidth ty.toNat
    let f := (floatOf ty.toNat).getD fmt32
    let of := fun (fn e : Nat) => q.mainElem 2 (some f) (w * e) (f.special fn (elem (q.vec a) w e))
    ElementwiseShadowed s q (.vexp2 d a ty k) d k w 8 2 (of 0) ∧ ElementwiseShadowed s q (.vlog2 d a ty k) d k w 8 2 (of 1) ∧
    ElementwiseShadowed s q (.vrcp d a ty k) d k w 8 2 (of 2) ∧ ElementwiseShadowed s q (.vrsq d a ty k) d k w 8 2 (of 3) ∧
    ElementwiseShadowed s q (.vsqrt d a ty k) d k w 8 2 (of 4) ∧ ElementwiseShadowed s q (.vtanh d a ty k) d k w 8 2 (of 5) ∧
    ElementwiseShadowed s q (.vsig d a ty k) d k w 8 2 (of 6) ∧ ElementwiseShadowed s q (.vsin d a ty k) d k w 8 2 (of 7) ∧
    ElementwiseShadowed s q (.vcos d a ty k) d k w 8 2 (of 8) ∧
    ∀ fn < 9, ∀ x, (f.decode x).isNan = true → (f.special fn x).1 = f.nanCode

/-- VDRAW writes the triple its merge tree keeps: of one lane group at bound 6, or of all eight at bound 12, with the
flags raised and ZM set to whether its mass is zero (R227, R229, R231), its leaves and merges in units with shadows (R351). -/
def Obligations.VectorDraw : Prop :=
  ∀ (d a : BitVec 6) (g k : BitVec 3) (c : BitVec 6) (tag : BitVec 8) (mode : BitVec 1) (s : State) (q : Bun),
    let t := bits (q.val c).toNat 63 32
    let n := (q.val c).toNat % 2 ^ 32
    let weight := mode == 1#1
    let greedy := !weight && (fmt32.decode t).isZero
    let leaves := fun (i : Nat) => q.leaves (q.vec a) k weight t i
    let flags := fun (i : Nat) (f : Flags) => (leaves i).foldl (fun f l => f ||| l.2.1) f
    let splits := fun (i : Nat) => (leaves i).flatMap (·.2.2)
    let tree := fun (i : Nat) => q.drawTree greedy tag.toNat n (16 * i) 4 ((leaves i).map (·.1))
    let top := q.drawTree greedy tag.toNat n 128 3 ((List.range 8).map (fun i => (tree i).1))
    let wrote := fun (r : Triple) (f : Flags) (bound : Nat) => (((q.writeReg d (BitVec.ofNat 64 r.canonical.high) bound).writeReg
      (d + 1) (BitVec.ofNat 64 r.canonical.i) bound).raiseZm f r.zero bound)
    (s.AtSlot (.vdraw d a g k c tag mode 0#1) q → exec (.vdraw d a g k c tag mode 0#1) s =
      .next (q.joined (.vdraw d a g k c tag mode 0#1) ((wrote (tree g.toNat).1 (flags g.toNat (tree g.toNat).2.1) 6).shadowed
        3 d.toNat (fun x => x % 128 / 16 == g.toNat) (splits g.toNat ++ (tree g.toNat).2.2)))) ∧
    (s.AtSlot (.vdraw d a g k c tag mode 1#1) q → exec (.vdraw d a g k c tag mode 1#1) s =
      .next (q.joined (.vdraw d a g k c tag mode 1#1)
        ((wrote top.1 ((List.range 8).foldl (fun f i => f ||| flags i (tree i).2.1) top.2.1) 12).shadowed 3 d.toNat (fun _ => true)
          ((List.range 8).flatMap (fun i => splits i ++ (tree i).2.2) ++ top.2.2))))

/-- SHUF takes each lane by the pattern's selector from the same group of either source, or 0 where the pattern clears
it; XCOPY rotates, exchanges or copies 512-bit groups, a copy writing its own alone; XBCAST gives one lane or one group to all (R56, R146, R149,
R150). -/
def Obligations.ShufflesAndCopies : Prop :=
  ∀ (d a b c : BitVec 6) (mode : BitVec 2) (dst n g : BitVec 3) (lane : BitVec 1) (j : BitVec 4) (s : State) (q : Bun),
    let p := (Tab.get q.share.pats 0 (64 * (q.share.patsel.toNat % 2) + c.toNat)).toNat
    let sel := fun (l : Nat) => bits p (5 * (l % 16) + 4) (5 * (l % 16))
    WritesElements s q (.shuf d a b c) d 32 3 (fun l => if p.testBit (80 + l % 16) then 0
      else elem (if sel l < 16 then q.vec a else q.vec b) 32 (l / 16 * 16 + sel l % 16)) ∧
    (s.AtSlot (.xcopy d a mode dst n) q → ∃ r : Vec, exec (.xcopy d a mode dst n) s = .next (q.joined (.xcopy d a mode dst n)
        (q.writeLanes d r (groupLanes (fun i => decide (mode.toNat < 2) || i == dst.toNat)) 6)) ∧
      ∀ i < 8, elem r 512 i = if mode = 0#2 then elem (q.vec a) 512 ((i + n.toNat) % 8)
        else if mode = 1#2 then elem (q.vec a) 512 (i ^^^ n.toNat)
        else if i = dst.toNat then elem (q.vec a) 512 n.toNat else elem (q.vec d) 512 i) ∧
    (lane = 1#1 → WritesElements s q (.xbcast d a lane j g) d 32 6 (fun _ => elem (q.vec a) 32 (16 * g.toNat + j.toNat))) ∧
    (lane = 0#1 → WritesElements s q (.xbcast d a lane j g) d 512 6 (fun _ => elem (q.vec a) 512 g.toNat))

/-- PATLD enters a load of its patterns into the bank that PATSEL does not select, and PATLD_COMPLETE makes the first
one entered: each pattern is 96 bits of its 16 bytes of the scratchpad, where they are sound; an uncorrectable word among
them makes PATLD's trap due, whose INFO has the number of the pattern entry that the word leaves undefined (R359; log 187).
PATSW changes banks once no load is under way (R147, R148). -/
def Obligations.Patterns : Prop :=
  ∀ (first a count : BitVec 6) (s : State) (q : Bun) (c : Nat) (p : PatLoad) (rest : List PatLoad),
    let n := count.toNat + 1
    let off := (q.val a).toNat
    let loading := q.withState (fun s => s.mapCore q.cur.core (fun k => { k with patlds := k.patlds ++
      [{ gang := q.strand.gang, due := k.cycle + 7 + n, bank := 1 - q.share.patsel.toNat % 2, first := first.toNat, offset := off, count := n }] }))
    (s.AtSlot (.patld first a count) q → q.badReg a = false → off % 16 = 0 → off + 16 * n ≤ q.core.spadSize →
      exec (.patld first a count) s = .next (q.joined (.patld first a count)
        (match q.badWord off (16 * n) with
          | some w => loading.addDue { cause := 0x0D, addr := BitVec.ofNat 64 w, info := BitVec.ofNat 64 (2 ^ 63 + (first.toNat + (w - off) / 16) % 64 * 2 ^ 32) }
          | none => loading))) ∧
    (s.AtSlot .patsw q → q.core.patlds = [] → exec .patsw s = .next (q.joined .patsw (q.shareWrite .patsw))) ∧
    ((s.core c).patlds = p :: rest → Tab.rising s.cores = true → Tab.rising (s.core c).share.pats = true →
      ∃ t, exec (.patldComplete c) s = .next t ∧ (t.core c).patlds = rest ∧
        (∀ i < p.count, (∀ w ∈ s.badSpad, w.1 = c → (p.offset + 16 * i) / 8 ≠ w.2 ∧ (p.offset + 16 * i) / 8 + 1 ≠ w.2) →
          ∀ b < 96, (Tab.get (t.core c).share.pats 0 (64 * p.bank + p.first + i)).getLsbD b =
          (s.spadByte c (p.offset + 16 * i + b / 8)).getLsbD (b % 8)) ∧
        (∀ m, m < 64 * p.bank + p.first ∨ 64 * p.bank + p.first + p.count ≤ m →
          Tab.get (t.core c).share.pats 0 m = Tab.get (s.core c).share.pats 0 m))

/-! ### The matrix engine -/

/-- MCALL queues its routine with the parameters and the format entry as they stand; MPSET sets a parameter when its
bundle issues; ACCRD reads a row pair at bound 10, ACCWR replaces one and ACCZ clears tiles once no operation names them
(R160, R167, R170, R171, R172, R173).  An ACCRD that meets an uncorrectable word leaves its destination undefined and its
trap due; what ACCWR and ACCZ write is sound (R358, R359).  The model's choices: which of its values an element of a busy tile
shows (log 72), the ADDR of a bad accumulator word (log 50), and that ACCWR and ACCZ leave the tile's kind (log 90). -/
def Obligations.MatrixInstructions : Prop :=
  ∀ (d a b : BitVec 6) (tag : BitVec 4) (prio n t : BitVec 3) (routine mask : BitVec 8) (idx : BitVec 1) (pair : BitVec 5)
    (reserved : Nat) (words : List (BitVec 64)) (s : State) (q : Bun),
    let call := (Tab.get q.share.mp 0 0).toNat
    let u := q.strand
    let p := if idx = 1#1 then (q.val b).toNat else pair.toNat
    let row := fun (t : Nat) => (u.tile t).image.extractLsb' (4096 * p) 4096
    let lane := fun (v : Vec) (e : Nat) => v.extractLsb' (32 * e) 32
    let op : MatrixOp := { id := q.st.nextReq + 1, routine := routine.toNat, tag := tag.toNat, prio := prio.toNat, mp := q.share.mp, fmt := q.fmtSampled, ctx := q.cur.ctx, gang := u.gang, member := u.member, slot := u.slot, tiles := call % 256, rings := bits call 15 8, words := words, reserved := reserved, since := q.core.cycle }
    let strand := fun (f : Strand → Strand) => q.withState (fun s => s.mapStrand q.cur.core q.cur.ctx f)
    (s.AtSlot (.mcall tag prio routine) q → Tab.find? q.core.routines routine.toNat = some (reserved, words) →
      callReserved call = false → (∀ i < 8, call.testBit i = true → i < u.accs) →
      (∀ i < 8, call.testBit (8 + i) = true → (Tab.get q.share.rings {} i).size ≠ 0) →
      q.core.mq.length < 16 → reserved ≤ q.core.collFree →
      exec (.mcall tag prio routine) s = .next (q.joined (.mcall tag prio routine) (q.withState (fun s =>
        { s with nextReq := q.st.nextReq + 1 }.mapCore q.cur.core (fun k => { k with mq := k.mq ++ [op] }))))) ∧
    (s.AtSlot (.mpset n a) q → q.badReg a = false →
      exec (.mpset n a) s = .next (q.joined (.mpset n a) (q.shareWrite (.mp n.toNat (q.val a))))) ∧
    (s.AtSlot (.accrd d t b idx pair) q → p < 32 →
      (u.badPair t.toNat p = [] → q.tileBusy (2 ^ t.toNat) = false → exec (.accrd d t b idx pair) s = .next (q.joined (.accrd d t b idx pair)
        (q.writeVec d (row t.toNat) 10))) ∧
      (u.badPair t.toNat p = [] → ∃ r : Vec, exec (.accrd d t b idx pair) s = .next (q.joined (.accrd d t b idx pair) (q.writeVec d r 10)) ∧
        ∀ e < 128, lane r e = lane (row t.toNat) e ∨ ∃ o ∈ q.core.mq, ∃ old, Tab.find? o.before t.toNat = some old ∧ lane r e = lane (old.extractLsb' (4096 * p) 4096) e) ∧
      (∀ w rest, u.badPair t.toNat p = w :: rest → ∃ r : Vec, exec (.accrd d t b idx pair) s =
        .next (q.joined (.accrd d t b idx pair) ((q.writeVec d r 10).addDue
          { cause := 0x0D, sub := 1, addr := BitVec.ofNat 64 (8 * (w % 2048)), info := BitVec.ofNat 64 (2 ^ 63 + d.toNat * 2 ^ 32) })))) ∧
    (s.AtSlot (.accwr t a b idx pair) q → p < 32 → q.tileBusy (2 ^ t.toNat) = false →
      exec (.accwr t a b idx pair) s = .next (q.joined (.accwr t a b idx pair) (strand (fun u =>
        { u.setTile t.toNat { u.tile t.toNat with image := tilePut (u.tile t.toNat).image p (q.vec a) } with
          badAcc := u.badAcc.filter (fun w => !(u.badPair t.toNat p).contains w) })))) ∧
    (s.AtSlot (.accz mask) q → q.tileBusy mask.toNat = false → exec (.accz mask) s = .next (q.joined (.accz mask)
      (strand (fun u => (List.range 8).foldl (fun u i => if mask.getLsbD i then
        { u.setTile i { u.tile i with image := 0 } with badAcc := u.badAcc.filter (fun w => w / 2048 ≠ i) } else u) u))))

/-- KZERO clears a tile and its k position, KLOOP opens a block its count of times or passes it, KENDL goes back until
the count is spent, KEND retires the operation; a tile outside TILES ends it with status 0x12 (R153, R154, R169). A tile cleared has no uncorrectable word (R358). That its kind
is then that of the format's ACC field is read from R44 (log 90). -/
def Obligations.MicroControl : Prop :=
  ∀ (tile : BitVec 3) (csel : BitVec 6) (imm : BitVec 32) (s : State) (m : Micro), s.AtMicro m →
    let t := m.tileNo tile
    let n := m.count csel imm
    let op := fun (o : MatrixOp) => { m with op := o }
    let sums := (List.range 64).foldl (fun l r => Tab.erase l (64 * t + r)) m.op.sums
    let zeroed := ((m.renew t).setTile t { isInt := bits m.op.fmt.toNat 51 48 == 1, image := 0 })
    (m.op.tiles.testBit t = true → exec (.kzero tile) s = .next ({ zeroed with op := { zeroed.op with kpos := Tab.set m.op.kpos 0 t 0, zeroed := t :: m.op.zeroed.filter (· ≠ t), sums := sums, at_ := m.op.at_ + 1, stepDone := 0 } } : Micro).keep) ∧
    (m.op.tiles.testBit t = false → exec (.kzero tile) s = .next (m.fail 0x12)) ∧
    ((Instr.kloop csel imm).defect = none → m.op.loops.length < 2 →
      (0 < n → exec (.kloop csel imm) s = .next (op { m.op with loops := (m.op.at_ + 1, n - 1) :: m.op.loops, at_ := m.op.at_ + 1, stepDone := 0 }).keep) ∧
      (n = 0 → exec (.kloop csel imm) s = .next (op { m.op with at_ := skipLoop (m.op.words.drop (m.op.at_ + 1)) (m.op.at_ + 1) 0 }).keep)) ∧
    (∀ w r rest, m.op.loops = (w, r) :: rest →
      (0 < r → exec .kendl s = .next (op { m.op with at_ := w, loops := (w, r - 1) :: rest }).keep) ∧
      (r = 0 → exec .kendl s = .next (op { m.op with loops := rest, at_ := m.op.at_ + 1, stepDone := 0 }).keep)) ∧
    exec .kend s = .next m.retire

/-- An operation that retires leaves the queue, gives its strand a record of its tag, its EXCL count, which saturates, its routine and its
STATUS, and ORs its flags into SSR (R158, R169). -/
def Obligations.MatrixRetires : Prop :=
  ∀ (s : State) (m : Micro) (x : Nat) (t : Strand), s.AtMicro m → Tab.rising s.cores = true → m.ctx = some x →
    m.st.strand m.core x = some t →
    let record : Word := BitVec.ofNat 64 ((min m.op.excl (2 ^ 32 - 1)) <<< 32 ||| m.op.routine <<< 8 ||| m.op.status)
    let sums := if m.op.status = 0x15 then t.checksums ++ [m.op.tag] else t.checksums
    ∃ s', exec .kend s = .next s' ∧ (∀ o ∈ (s'.core m.core).mq, o.id ≠ m.op.id) ∧
      s'.strand m.core x = some { t with flags := t.flags ||| (m.op.flags &&& 0x1E#6), retire := t.retire ++ [(m.op.tag, record)], checksums := sums }

/-- A KSTEP whose operands are inside the call's masks and whose next blocks are present makes one k-step, and moves on
after the last; with a count of 0 it only makes its pops (R154, R157, R158, R159).  Its rings are read first, an
uncorrectable word of theirs as zero (R359). -/
def Obligations.MicroStep : Prop :=
  ∀ (tile ra rb : BitVec 3) (csel : BitVec 6) (ctl : BitVec 4) (imm : BitVec 32) (s : State) (m : Micro), s.AtMicro m →
    let i := Instr.kstep tile ra rb csel ctl imm
    let t := m.tileNo tile
    let a := m.ringNo ra
    let b := m.ringNo rb
    let n := m.count csel imm
    let m1 := (m.readRing a).readRing b
    let made := m1.makeStep t a b
    let after := if m.op.stepDone + 1 = n then made.finishStep a b ctl else made
    i.defect = none → m.op.tiles.testBit t = true → m.op.rings.testBit a = true → m.op.rings.testBit b = true →
    m1.scaleRange (Tab.get m.op.kpos 0 t) (n - m.op.stepDone) = false →
    (0 < n → m1.present a b = true → exec i s = .next (after.keep.chooseOp m.core)) ∧
    (n = 0 → exec i s = .next (m1.finishStep a b ctl).keep)

/-- The elements of a tile after a k-step: in an integer format, the old element plus the products of the step, clamped
to 32 bits; in a floating one, `stepFloat` of the old element and the operands' scaled values (R96, R97, R101). -/
def Obligations.MatrixElements : Prop :=
  ∀ (fmt : Word) (k : Core) (kappa ba bb i j : Nat) (tile : TileReg) (sums : Nat → RowSum), i < 64 → j < 64 →
    let fa := bits fmt.toNat 63 60
    let fb := bits fmt.toNat 59 56
    let g := kGroup fa fb
    let old := (tile.image.extractLsb' (32 * (64 * i + j)) 32).toNat
    let new := ((stepTile fmt k kappa ba bb tile sums).1.image.extractLsb' (32 * (64 * i + j)) 32).toNat
    let a := (List.range g).map (fun e => stepInt fa (stepElem ba fa g i e))
    let b := (List.range g).map (fun e => stepInt fb (stepElem bb fb g j e))
    let sa := (k.blockScales (bits fmt.toNat 55 54 == 1) (bits fmt.toNat 31 16) kappa).getD i 127
    let sb := (k.blockScales (bits fmt.toNat 53 52 == 1) (fmt.toNat % 65536) kappa).getD j 127
    let x := (List.range g).map (fun e => stepValue fa (stepElem ba fa g i e) sa)
    let y := (List.range g).map (fun e => stepValue fb (stepElem bb fb g j e) sb)
    (bits fmt.toNat 51 48 = 1 →
      let v := sint 32 old + (List.zipWith (fun x y => x.1 * y.1) a b).sum
      new = (max (-2 ^ 31) (min v (2 ^ 31 - 1)) % 2 ^ 32).toNat) ∧
    (bits fmt.toNat 51 48 ≠ 1 → new = (stepFloat old x y).1 % 2 ^ 32)

/-- KROWS multiplies each row by the factor its entry of the scratchpad holds, KSUM tests the checksums of a zeroed tile,
and KEPI writes the tile's codes and scales to the scratchpad, queues them as a chunk for the collective engine, or writes
them to the shadow of a vitrine of its owner, a vitrine that is not there freezing Q0 (R154, R162 to R166, R370).  Each
reads the tile with its uncorrectable words undefined (R359). The sub-cause and the address of that freeze, 0 and the offset,
are read from R164 and R255 (log 109). -/
def Obligations.MicroTiles : Prop :=
  ∀ (tile mp : BitVec 3) (s : State) (m0 : Micro), s.AtMicro m0 →
    let t := m0.tileNo tile
    let m := m0.readTile t
    let old := m.tile t
    let w := (Tab.get m0.op.mp 0 mp.toNat).toNat
    let k := m.st.core m.core
    let rows := (tileRows old.image).mapIdx (fun i r => r.map (fun c => fmt32.mul c (readCells k.spad (w % 2 ^ 24 + 4 * i) 4)))
    let image : Tile := BitVec.ofNat 131072 (rows.flatten.foldr (fun e v => v <<< 32 ||| e.1) 0)
    let flags := rows.foldl (fun f r => r.foldl (fun f e => f ||| e.2) f) 0
    let tests := (tileRows old.image).mapIdx (fun i r => rowFails old.isInt (Tab.get m.op.kpos 0 t) (Tab.get m.op.sums {} (64 * t + i)) r)
    let status := if m.op.status = 0 && tests.any (·.2) then 0x15 else m.op.status
    let r := epilogue m.op.fmt old
    let done : Micro := { m with op := { m.op with flags := m.op.flags ||| r.2.2, at_ := m.op.at_ + 1, stepDone := 0 } }
    let chunk : CollChunk := { id := m.st.nextReq + 1, gang := m.op.gang, member := m.op.member, slot := m.op.slot, slotOwner := m.slotOwner, ctx := (m.ctx).getD m.op.ctx, comb := bits w 63 60, addr := w % 2 ^ 56, data := r.1 ++ r.2.1, reservedBy := m.op.id }
    m0.op.tiles.testBit t = true →
    ((m0.tile t).isInt = false → w % 2 ^ 24 + 256 ≤ k.spadSize → (∀ i < 64, (m.core, (w % 2 ^ 24 + 4 * i) / 8) ∉ m.st.badSpad) → exec (.krows tile mp) s = .next ({ m.setTile t { old with image := image } with op := { (m.setTile t { old with image := image }).op with flags := m.op.flags ||| flags, at_ := m.op.at_ + 1, stepDone := 0 } } : Micro).keep) ∧
    (t ∈ m0.op.zeroed → exec (.ksum tile) s = .next ({ m with op := { m.op with excl := m.op.excl + (tests.filter (·.1)).length, status := status, at_ := m.op.at_ + 1, stepDone := 0 } } : Micro).keep) ∧
    ((Instr.kepi tile 0#2 mp).defect = none → badDest 0 (bits m.op.fmt.toNat 47 44) w = false →
      exec (.kepi tile 0#2 mp) s = .next ({ done with st := done.writeSpad (epilogueWrites (w % 2 ^ 24) r.1 ++ epilogueWrites (bits w 55 32) r.2.1) } : Micro).keep) ∧
    ((Instr.kepi tile 1#2 mp).defect = none → badDest 1 (bits m.op.fmt.toNat 47 44) w = false → (m.op.reserved ≠ 0 ∨ k.collFree ≠ 0) →
      exec (.kepi tile 1#2 mp) s = .next ({ done with st := { m.st with nextReq := m.st.nextReq + 1 }.setCore m.core { k with collq := k.collq ++ [chunk] }, op := { done.op with reserved := m.op.reserved - 1 } } : Micro).keep) ∧
    ((Instr.kepi tile 2#2 mp).defect = none → badDest 2 (bits m.op.fmt.toNat 47 44) w = false →
      (∀ v, Tab.find? m.st.vitrines (routeIndex (BitVec.ofNat 64 w)) = some v → v.owner = m.owner →
        exec (.kepi tile 2#2 mp) s = .next ({ done with st := done.writeView m.slotOwner v (epilogueWrites (w % 2 ^ 40) r.1 ++
          epilogueWrites (w % 2 ^ 40 + r.1.length) r.2.1) } : Micro).keep) ∧
      ((∀ v, Tab.find? m.st.vitrines (routeIndex (BitVec.ofNat 64 w)) = some v → v.owner ≠ m.owner) →
        exec (.kepi tile 2#2 mp) s = .next ({ done with st := done.freeze 0 (w % 2 ^ 40) (r.1.take 32) 0 } : Micro).keep))

/-! ### The E slot -/

/-- PHASE with scope 0 does nothing and with a wider one holds its bundle once the strand's earlier accesses are done;
PUBLISH holds it for its vitrine once nothing more writes it; VWAIT writes FRONT and the generation once the generation
is reached, with the reader half of PHASE, and 0 and 0 where the entry was removed while it was held (R439); FENCE, once the
accesses it waits for are done, gives the path counters of the first queue it names and clears those of all it names, and
for accesses of its own bundle it holds the bundle; DRAIN holds its bundle; a COPY whose descriptor has an uncorrectable
word only makes the trap due (R359); COPY keeps its range in its span and enters its copy, the records of the phase
buffer in its ranges sent first (R55, R204, R205, R215, R216, R219, R250 to R256); the end that bounds a copy into several
vitrines is that of the last of their shadows (log 114). -/
def Obligations.PhasesAndCopies : Prop :=
  ∀ (scope : BitVec 3) (a d g : BitVec 6) (mask : BitVec 4) (kind : BitVec 1) (n : BitVec 3) (v : Vitrine) (s s1 : State) (q : Bun),
    let t := q.strand
    let c := q.cur.core
    let unfrozen := ∀ r < 4, q.st.frozenTrap c r t = none
    let done := fun (x : Nat) => q.cur.unsent = false ∧ q.st.writerDone t.gang t.member t.slot (q.cur.begun + 1) x = true
    let i := (q.val a).toNat
    let queues := (List.range 4).filter (fun x => mask = 0#4 || mask.getLsbD x)
    let waits := fun (last : Nat) => q.st.fenceWaits c t queues (kind == 1#1) last
    let desc := q.spadBytes i 64
    let copy := copyOf desc (s1.nextReq + 1) t.gang t.member t.slot n.toNat
    let range := copy.sourceRange
    let other := copy.destRange
    let inside := fun (r : BufRec) => inRange copy.sspace range r.sector || inRange copy.dspace other r.sector
    let into := q.st.vitrines.filter (fun v => copy.dspace == 0 && v.2.owner == q.st.gangOwner t.gang && decide (other.1 < v.2.shadow + v.2.length) && decide ((v.2.shadow : Int) < other.2))
    let live : Span := { start := BitVec.ofInt 64 range.1 &&& 0xFFFFFFFFFFFFFF#64, live := true, len := (range.2 - range.1).toNat }
    let entered := { s1 with nextReq := s1.nextReq + 1 }.mapCore c (fun k => { k with copies := k.copies ++ [{ copy with into := Tab.keys into, limit := vitrinesEnd into, slotOwner := q.slotNo }], share := { k.share with spans := Tab.set k.share.spans {} n.toNat live } })
    (s.AtSlot (.phase scope) q → (scope = 0#3 → exec (.phase scope) s = .next (q.joined (.phase scope) q)) ∧
      (scope ≠ 0#3 → unfrozen → done scope.toNat → exec (.phase scope) s = .next (q.joined (.phase scope) (q.addHold (.phase scope.toNat))))) ∧
    (s.AtSlot (.publish a) q → i < 8192 → Tab.find? q.st.vitrines i = some v → v.owner = q.st.gangOwner t.gang → unfrozen → done 3 →
      q.st.copying t (fun k => k.into.contains i) = false → (∀ o ∈ q.core.mq, o.id ≤ q.cur.begun → o.routesTo i = false) →
      exec (.publish a) s = .next (q.joined (.publish a) (q.addHold (.publish i)))) ∧
    (s.AtSlot (.vwait d a g) q → t.answer = none → i < 8192 → Tab.find? q.st.vitrines i = some v → v.owner = q.st.gangOwner t.gang →
      v.removing = false → (v.gen - (q.val g).setWidth 32).toNat < 2 ^ 31 → exec (.vwait d a g) s = .next (q.joined (.vwait d a g)
        (((q.withState (fun s => s.readerHalf c 3)).writeReg d (BitVec.ofNat 64 v.front) 1).writeReg (d + 1) (v.gen.setWidth 64) 1))) ∧
    (s.AtSlot (.vwait d a g) q → t.answer.isSome = true → exec (.vwait d a g) s = .next (q.joined (.vwait d a g)
      ((q.writeReg d 0 1).writeReg (d + 1) 0 1))) ∧
    (s.AtSlot (.fence d mask kind) q → (∀ x ∈ queues, q.st.frozenTrap c x t = none) → waits q.cur.begun = false →
      waits q.st.nextReq = true → exec (.fence d mask kind) s = .next (q.joined (.fence d mask kind)
        (q.addHold (.fence d.toNat queues (kind == 1#1) q.st.nextReq)))) ∧
    (s.AtSlot (.fence d mask kind) q → (∀ x ∈ queues, q.st.frozenTrap c x t = none) → waits q.cur.begun = false →
      waits q.st.nextReq = false → exec (.fence d mask kind) s = .next (q.joined (.fence d mask kind) ((q.writeReg d (BitVec.ofNat 64 (q.core.pathWord (queues.headD 0))) 1).withState
        (fun s => s.mapCore c (fun k => { k with paths := k.paths.filter (fun e => !queues.contains (e.1 / 4)) }))))) ∧
    (s.AtSlot .drain q → exec .drain s = .next (q.joined .drain (q.addHold (.drain q.cur.pc)))) ∧
    (s.AtSlot (.copy a n) q → q.regAddrStop a 1 64 64 = none → q.badWord i 64 = none → copyRefused desc = false →
      (Tab.get q.share.spans {} n.toNat).live = false → q.core.copies.length < 16 → q.st.publish c q.cur.ctx inside = (s1, true) →
      exec (.copy a n) s = .next (q.joined (.copy a n) (q.withState (fun _ => entered)))) ∧
    (∀ e, s.AtSlot (.copy a n) q → q.regAddrStop a 1 64 64 = none → q.badWord i 64 = some e → exec (.copy a n) s =
      .next (q.joined (.copy a n) (q.addDue { cause := 0x0D, addr := BitVec.ofNat 64 e })))

/-- SPAN sets bit n where span n is live and meets its range; BARRIVE enters an immediate request with the writer half of
PHASE; BWAIT and WAIT, answered, write their status, with the reader half where it is 0; MWAIT takes the retire records
of its tags once their operations have retired (R169, R174, R211, R257, R259 to R261). -/
def Obligations.BarriersAndWaits : Prop :=
  ∀ (d a b c : BitVec 6) (queue fn space : BitVec 2) (texp : BitVec 5) (cond : BitVec 3) (sz masked all : BitVec 1) (tag : BitVec 4)
    (st gen : Nat) (s s1 : State) (w : Waiter) (q : Bun),
    let t := q.strand
    let va := (q.val a).toNat
    let v := (q.val b).toNat
    let m := barriveMods queue
    let parts := loadParts (loadRun va 0 16)
    let sent := q.beforeImmediate parts m
    let n := if sz = 1#1 then 8 else 4
    let mask := if masked = 1#1 then q.val c else BitVec.allOnes 64
    let met := fun (x : Bun) => if st = 0 then x.withState (fun s => s.readerHalf q.cur.core 3) else x
    let covers := fun (x : Nat) => all = 1#1 || x == tag.toNat
    let taken := mergeRetire ((t.retire.filter (fun e => covers e.1)).map (·.2))
    (s.AtSlot (.span d a b) q → ∃ r : Word, exec (.span d a b) s = .next (q.joined (.span d a b) (q.writeReg d r 1)) ∧
      ∀ x < 64, (r.getLsbD x = true ↔ x < 8 ∧ (Tab.get q.share.spans {} x).live = true ∧ va < min (va + v) (2 ^ 56) ∧
        va < (Tab.get q.share.spans {} x).start.toNat + (Tab.get q.share.spans {} x).len ∧ (Tab.get q.share.spans {} x).start.toNat < min (va + v) (2 ^ 56))) ∧
    (s.AtSlot (.barrive a b queue fn) q → q.regAddrStop a 0 16 16 = none → (fn ≠ 2#2 → v < 65536) → (fn = 1#2 → v ≠ 0) →
      q.copyStop 0 va 16 = none → (∀ x ∈ q.immediateStops parts m, x = none) → sent.creditStop m.queue 1 = none →
      exec (.barrive a b queue fn) s = .next (q.joined (.barrive a b queue fn)
        (sent.enter (sent.request m.queue (.barrive fn.toNat (if fn = 2#2 then 0 else v)) parts m)))) ∧
    (s.AtSlot (.bwait d a b queue texp) q → t.answer = some (st, gen) → st < 16 → q.regAddrStop a 0 16 16 = none →
      q.waiter va 16 0 queue.toNat (some (v % 65536)) 0 0 0 texp.toNat = (s1, .ok w) →
      exec (.bwait d a b queue texp) s = .next (q.joined (.bwait d a b queue texp)
        (met ((q.withState (fun _ => s1)).writeReg d (BitVec.ofNat 64 (gen <<< 16 ||| st)) 1)))) ∧
    (s.AtSlot (.wait d a b cond texp c space sz queue masked) q → t.answer = some (st, gen) → st < 16 → q.regAddrStop a space.toNat n n = none →
      q.waiter va n space.toNat queue.toNat none cond.toNat mask (q.val b) texp.toNat = (s1, .ok w) →
      exec (.wait d a b cond texp c space sz queue masked) s = .next (q.joined (.wait d a b cond texp c space sz queue masked)
        (met ((q.withState (fun _ => s1)).writeReg d (BitVec.ofNat 64 st) 1)))) ∧
    (s.AtSlot (.mwait d all tag) q → (∀ x ∈ t.checksums, covers x = false) →
      (∀ o ∈ q.core.mq, o.gang = t.gang → o.member = t.member → o.slot = t.slot → covers o.tag = true → q.cur.begun < o.id) →
      exec (.mwait d all tag) s = .next (q.joined (.mwait d all tag) ((q.withState (fun s => s.mapStrand q.cur.core q.cur.ctx
        (fun t => { t with retire := t.retire.filter (fun e => !covers e.1) }))).writeReg d taken 1)))

/-- SBIND binds an unbound stream and SUNBIND frees one with nothing in flight when their bundle issues, SUNBIND of a
stream not bound doing nothing; RINGP and RINGA move a ring's tail or head by their count where the ring has room or
holds it, which keeps TAIL minus HEAD between 0 and its size (R53, R54, R263, R264).
WALK enters the walk its descriptor describes, the strand's buffered stores sent first, on stack 0 where ROWPTR does not
translate to this module (the model's choice, log 115); COLL holds its bundle for the hand-off of its replay, and one whose
graph is loaded and whose parameters have an uncorrectable word only makes the trap due (R359); LPROBE gives the state word
of an L2 line of this module once the earlier accesses of Q0 to it are performed; a line of another module is probed there,
the bundle stalling until the strand holds the answer, a word or the sub-cause of the trap (R73, R335; what the other module
answers is free, log 8, and the bundle's own accesses come after it, log 173); TSREAD gives the free-running time in ns at
bound 8 (log 108) (R191, R196, R265 to R268). -/
def Obligations.StreamsRingsWalks : Prop :=
  ∀ (d a b : BitVec 6) (elemsz queue : BitVec 2) (ring : BitVec 3) (reg : BitVec 1) (count : BitVec 7) (pa off m st v : Nat) (s s1 : State) (q : Bun),
    let n := d.toNat % 8
    let bound := Tab.find? q.share.streams n
    let k := if reg = 1#1 then (q.val a).toNat else count.toNat
    let r := Tab.get q.share.rings {} ring.toNat
    let legal := r.size ≠ 0 ∧ k < 65536 ∧ k ≤ r.size
    let t := q.strand
    let c := q.cur.core
    let desc := q.spadBytes (q.val a).toNat 64
    let w := descWord desc
    let hops := bits (w 0) 31 24
    let toRing := (w 0).testBit 16
    let wq := bits (w 5) 4 3
    let stack := q.st.walkStack c q.slotNo (w 1 % 2 ^ 56 + 8 * bits (w 0) 63 32)
    let landed := ((Tab.find? q.share.streams (w 5 % 8)).map (·.elems.length)).getD 0
    let walk : Walk := { core := c, ctx := q.cur.ctx, gang := t.gang, member := t.member, slot := t.slot, key := q.share.dseed, start := bits (w 0) 63 32, hops := hops, logit := (w 0).testBit 17, toRing := toRing, tag := w 0 % 65536, rowptr := w 1 % 2 ^ 56, colidx := w 2 % 2 ^ 56, weight := w 3 % 2 ^ 56, temp := BitVec.ofNat 32 (bits (w 4) 63 32), walkid := w 4 % 2 ^ 32, queue := wq, target := w 5 % 8, stack := stack, vertex := bits (w 0) 63 32, desc := (q.val a).toNat }
    let unfrozen := ∀ r < 4, q.st.frozenTrap c r t = none
    let word := ((s1.cluster (homeCluster off)).find (off / 128)).elim 0 L2Line.stateWord
    (s.AtSlot (.sbind d elemsz queue) q → bound = none → exec (.sbind d elemsz queue) s =
      .next (q.joined (.sbind d elemsz queue) (q.shareWrite (.bind n queue.toNat elemsz.toNat)))) ∧
    (s.AtSlot (.sunbind d) q → q.st.inFlight q.cur.core n = 0 →
      exec (.sunbind d) s = .next (q.joined (.sunbind d) (if bound.isSome then q.shareWrite (.unbind n) else q))) ∧
    (s.AtSlot (.ringp ring a reg count) q → legal → r.occupancy + k ≤ r.size → exec (.ringp ring a reg count) s =
      .next (q.joined (.ringp ring a reg count) (if k = 0 then q else q.shareWrite (.push ring.toNat k)))) ∧
    (s.AtSlot (.ringa ring a reg count) q → legal → k ≤ r.occupancy → exec (.ringa ring a reg count) s =
      .next (q.joined (.ringa ring a reg count) (if k = 0 then q else q.shareWrite (.pop ring.toNat k)))) ∧
    (r.size ≠ 0 → r.head < 2 * r.size → r.tail < 2 * r.size → r.occupancy ≤ r.size →
      (r.occupancy + k ≤ r.size → (r.pushed k).occupancy = r.occupancy + k ∧ (r.pushed k).occupancy ≤ r.size) ∧
      (k ≤ r.occupancy → (r.popped k).occupancy = r.occupancy - k ∧ (r.popped k).occupancy ≤ r.size) ∧
      (Tab.rising q.st.cores = true → (((q.st.applyShare c q.cur.ctx (.push ring.toNat k)).core c).share.rings = Tab.set q.share.rings {} ring.toNat (r.pushed k)) ∧
        ((q.st.applyShare c q.cur.ctx (.pop ring.toNat k)).core c).share.rings = Tab.set q.share.rings {} ring.toNat (r.popped k))) ∧
    (s.AtSlot (.ringp ring a reg count) q → ¬ legal → exec (.ringp ring a reg count) s = s.trapped { cause := 3 }) ∧
    (s.AtSlot (.walk a) q → q.regAddrStop a 1 64 64 = none → q.badWord (q.val a).toNat 64 = none → q.walkRefused desc = false →
      q.share.bad.contains (if toRing then 32 + 2 * (w 5 % 8) else 64 + w 5 % 8) = false →
      (q.st.walks.filter (fun e => e.2.stack == stack && !e.2.finished)).length < 512 → q.st.publish c q.cur.ctx (fun _ => true) = (s1, true) →
      (toRing = false → (⟨s1, q.cur⟩ : Bun).creditStop wq (hops + 1) = none ∧ landed + q.st.inFlight c (w 5 % 8) + hops + 1 ≤ 65535) →
      exec (.walk a) s = .next (q.joined (.walk a) (q.withState (fun _ => { s1 with nextReq := s1.nextReq + 1, walks := Tab.put s1.walks (s1.nextReq + 1) walk })))) ∧
    (s.AtSlot (.coll a b) q → q.regAddrStop b 1 64 64 = none → q.badWord (q.val b).toNat 64 = none → (q.val a).toNat < 65536 →
      (Tab.find? q.st.coll.graphs (q.val a).toNat).isSome = true → unfrozen → q.cur.unsent = false →
      q.st.writerDone t.gang t.member t.slot (q.cur.begun + 1) 3 = true →
      exec (.coll a b) s = .next (q.joined (.coll a b) (q.addHold (.coll (q.val a).toNat (q.val b).toNat q.cur.pc q.st.now)))) ∧
    (∀ e, s.AtSlot (.coll a b) q → q.regAddrStop b 1 64 64 = none → (q.val a).toNat < 65536 →
      (Tab.find? q.st.coll.graphs (q.val a).toNat).isSome = true → q.badWord (q.val b).toNat 64 = some e → exec (.coll a b) s =
      .next (q.joined (.coll a b) (q.addDue { cause := 0x0D, addr := BitVec.ofNat 64 e }))) ∧
    (s.AtSlot (.lprobe d a) q → q.regAddrStop a 0 1 1 = none → q.core.isFrozen 0 = false → q.creditStop 0 1 = none →
      q.st.translate c q.slotNo (q.val a).toNat .load = (s1, .ok pa) → q.probeWaits pa = false →
      (s1.place pa = .local_ off → exec (.lprobe d a) s =
        .next (q.joined (.lprobe d a) ((q.withState (fun _ => s1)).writeReg d (BitVec.ofNat 64 word) 1))) ∧
      (s1.place pa = .remote m off →
        (t.answer = none → ∃ k l, s.cursor = some k ∧ exec (.lprobe d a) s = .next { s with cursor := some ({ k with
          dests := k.dests ++ l, verdict := .stall .engine (.probe m off (s1.slotOwner q.slotNo)) } : Cursor) }) ∧
        (t.answer = some (st, v) → st < 16 → exec (.lprobe d a) s =
          .next (q.joined (.lprobe d a) ((q.withState (fun _ => s1)).writeReg d (BitVec.ofNat 64 v) 1))) ∧
        (t.answer = some (st, v) → 16 ≤ st → exec (.lprobe d a) s = s.trapped { cause := 7, sub := st - 16, addr := q.val a }))) ∧
    (s.AtSlot (.tsread d) q → exec (.tsread d) s = .next (q.joined (.tsread d) (q.writeReg d (BitVec.ofNat 64 q.st.now) 8)))

/-! ### Events of the memory path and its engines -/

/-- HOME_REQUEST performs the next sector of a request that may be performed: an ordinary load takes a sector its L1
holds, a load takes one its L2 slice holds, or has it filled from HBM4; any other access is performed at its home; a
window access at a scratchpad; a request for another module is sent, where it is no access that a counter page refuses (R192,
R335), and its answer, of a multicast store the last of its
members', finishes the sector. SET_WAIT_RETRY
performs a store that waited for a line of its set and holds back the later writes of that set, BARRIER_ARRIVAL a BARRIVE, and L2_FILL fills its line (R178, R183,
R184, R188, R190, R259, R367, R383).  A streaming load that has filled its line does not touch it (R190), requests that a
router merges are performed together (R212, R213, R235), and a request whose record has an uncorrectable word faults (R359). -/
def Obligations.RequestsPerformed : Prop :=
  ∀ (req i off pa : Nat) (data : BitVec 256) (r : Request) (p : Part) (e : TlbEntry) (s s1 : State), Tab.find? s.reqs req = some r →
    let turn := exec (.homeRequest req 0 data) s
    let next := r.next = some i ∧ r.parts[i]? = some p ∧ r.setWait = false ∧ s.mayPerform req r p = true
    let paged := r.bad = false ∧ p.sent = false ∧ s.hitFor r p.addr = some e
    let place := s.place (e.ppage + (p.addr - e.vpage))
    let global := next ∧ paged ∧ r.space = 0 ∧ e.allows r.need = true
    let key := s.slotKey r.slotOwner
    let line := off / 128
    let sector := off % 128 / 32
    let old := s.peek off 32 key
    let hit := (s.core r.core).l1Find line sector
    let cached := r.order = .none ∧ r.cache = 0
    let filled := fun (s : State) => if r.order = .none ∧ r.cache = 0 ∧ r.noL1 = false then s.mapCore r.core (fun k => k.l1Put line sector old) else s
    let updated := fun (s : State) => if r.published then s.mapCore r.core (fun k => k.l1Update line sector p.mask.toNat p.data.toNat) else s
    let wp := windowPlace r.core p.addr
    let mates := s.mergedWith req r p
    let all := (mates ++ [(req, r)]).mergeSort (fun a b => a.1 ≤ b.1)
    let out := s.mergedKind r.core (all.map (·.2.kind))
    let kind := if mates.isEmpty then r.kind else out.1
    let start : State := if mates.isEmpty then s else { s with free := s.free + 1 }
    let reads := r.kind = .load ∨ r.kind = .pref
    let barrives := match r.kind with
      | .barrive _ _ => true
      | _ => false
    let first := (lowest 32 (fun i => p.mask.toNat.testBit i)).getD 0
    let answers := r.answerer p data.toNat
    let answered : State := { s with router := { s.router with modules := Tab.put s.router.modules answers .reachable } }
    (∀ d, global → place = .local_ off → r.kind = .load → cached → hit = some d → turn = .next
      (if (s.core r.core).l1Torn line sector p.mask.toNat then s.faultPart req r i 6 true
        else (s.mapCore r.core (·.l1Touch line)).donePart req r i d)) ∧
    (global → place = .local_ off → r.kind = .load → r.published = false → r.cache ≠ 3 → (cached → hit = none) → s.badRead off key p.mask.toNat = false →
      (s.holds line key (1 <<< sector) = true →
        turn = .next ((filled (if r.cache = 2 ∧ r.filled.contains line = true then s else s.touchLine line)).donePart req r i old)) ∧
      (s.holds line key (1 <<< sector) = false → s.setHeld req line = false → turn = .next (s.startFill req r p off key))) ∧
    (global → place = .local_ off → ¬ reads → barrives = false →
      (s.setHeld req line = true → turn = .next s) ∧
      (s.setHeld req line = false → start.atHome kind off key p.mask.toNat p.data.toNat (r.cache == 3) (some r.core) = .done s1 old →
        turn = .next ((updated (start.drawShadow (s1.mergedDone mates) req r kind (if mates.isEmpty then [] else out.2) p old)).donePart req r i old))) ∧
    (next → r.bad = true → p.sent = false → turn = .next (s.faultPart req r i 6 (!r.isStore))) ∧
    (next → r.bad = false → r.space = 2 → s.windowFault wp.1 r.slotOwner wp.2 32 = none → (∀ x ∈ s.badSpad, x.1 ≠ wp.1) →
      turn = .next (if r.isStore then (s.spadWrite wp.1 wp.2 32 p.mask.toNat p.data.toNat).donePart req r i 0
        else s.donePart req r i (s.spadRead wp.1 wp.2 32))) ∧
    (∀ m, global → place = .remote m off → r.kind ≠ .pref → (counterOffset off = false → turn = .next (s.sendMerged req r i p m off)) ∧
      (counterOffset off = true → r.kind = .load → counterRead p.mask.toNat r.unit = true → turn = .next (s.sendMerged req r i p m off)) ∧
      (counterOffset off = true → r.kind ≠ .load ∨ counterRead p.mask.toNat r.unit = false → turn = .next (s.faultPart req r i e.counterFault true))) ∧
    (next → r.space = 0 → p.sent = true → turn = .next (if (p.awaits.erase answers).isEmpty then answered.donePart req r i data.toNat
      else answered.setPart req r i (fun p => { p with awaits := p.awaits.erase answers }))) ∧
    (r.next = some i → r.parts[i]? = some p → r.setWait = true → s.partPlace r p = (0, pa) → off = pa % 2 ^ 44 → s.setHeld req line = false →
      r.kind = .store → s.badAt off key = false → s.homeWrite off 32 p.mask.toNat p.data.toNat key (r.cache == 3) = some s1 →
      exec (.setWaitRetry req) s = .next ((updated s1).donePart req r i old)) ∧
    (∀ op v, r.kind = .barrive op v → r.parts[0]? = some p → r.finished = false → s.mayPerform req r p = true → paged →
      e.allows .atomic = true → place = .local_ off → s.badAt off key = false → r.published = false → s.setHeld req line = false →
      s.barrierPerform (off + first) key op v = some s1 → exec (.barrierArrival req) s = .next (s1.donePart req r 0 old)) ∧
    (∀ f, (s.cluster (homeCluster (line * 128))).fills.find? (fun f => f.line == line) = some f → s.completeFill f = some s1 →
      exec (.l2Fill line) s = .next s1)

/-- ELEMENT_LAND appends a finished request's bytes to its stream, marked where a sector faulted, an acquire with the
reader half; STORE_ACK removes a performed store, counting against its path a remote store, every multicast store and a route-1 chunk
to another module (R288, R297; that an STF is not counted, log 81), and freezes the queue of a faulted one; a finished load
whose strand has halted with its gang ends with nothing (R318); WAIT_TIMEOUT answers status 1, a BWAIT's with the generation of its object, and withdraws a wait held on
another module; PAGE_WALK installs the page it finds, which the request carries too, or faults the sector (R179, R180,
R194, R201, R209, R253, R260, R320, R321, R363, R365, R373). -/
def Obligations.RequestsFinished : Prop :=
  ∀ (req i w core ctx n : Nat) (r : Request) (p : Part) (st : Stream) (v : Waiter) (entry : TlbEntry) (s s1 : State),
    let fault := r.elementFault
    let element : Element := { req := req, data := if fault.isSome then 0 else BitVec.ofNat 4096 r.element, fault := fault, origin := req, again := some r, maker := some (r.member, r.slot) }
    let landed := (s.dropReq req).mapCore r.core (fun k => { k with share := { k.share with streams := Tab.put k.share.streams w { st with elems := st.elems ++ [element] } } })
    let at_ := 4 * r.queue + r.path
    let counted := (s.retireStore req).mapCore r.core (fun k => { k with paths := Tab.set k.paths 0 at_ (min (Tab.get k.paths 0 at_ + 1) 65535) })
    let counts := match r.kind with
      | .store => r.multicast || (r.remote && !r.immediate)
      | .chunk _ _ => r.remote
      | _ => false
    let engines := match r.kind with
      | .copyWrite _ => true
      | .collWrite _ _ _ => true
      | _ => false
    let frozen := { s with reqs := Tab.put s.reqs req { r with held := true, parts := if r.space = 3 then r.parts.filter (·.fault.isSome) else r.parts } }.mapCore r.core
      (fun k => { k with frozen := Tab.set k.frozen [] r.queue (s.insertHeld req r (Tab.get k.frozen [] r.queue)) })
    let alone := ∀ e ∈ s.reqs, e.1 ≠ req → e.2.slotOwner ≠ r.slotOwner ∨ coreCluster e.2.core ≠ coreCluster r.core
    let walks := r.next = some i ∧ r.parts[i]? = some p ∧ r.space = 0 ∧ p.sent = false ∧ s.hitFor r p.addr = none ∧ s.mayPerform req r p = true ∧ alone ∧ Tab.rising s.reqs = true
    (Tab.find? s.reqs req = some r → r.stream = some w → r.finished = true → r.resend = false → s.landsFirst req r w = true →
      (s.core r.core).gang = some r.gang → Tab.find? (s.core r.core).share.streams w = some st →
      exec (.elementLand req) s = .next (if r.order = .acquire ∧ fault = none then landed.readerHalf r.core r.scope else landed)) ∧
    (Tab.find? s.reqs req = some r → r.stream = none → r.orphan = true → r.changes = false → r.finished = true →
      exec (.elementLand req) s = .next (s.dropReq req)) ∧
    (Tab.find? s.reqs req = some r → r.isStore = true → r.held = false → r.settled = true →
      engines = false →
      (r.orphan = true → exec (.storeAck req) s = .next (s.retireStore req)) ∧
      (r.orphan = false → r.faultOf = none → (counts = true → exec (.storeAck req) s = .next counted) ∧ (counts = false → exec (.storeAck req) s = .next (s.retireStore req))) ∧
      (r.orphan = false → r.faultOf.isSome = true → exec (.storeAck req) s = .next frozen)) ∧
    (s.waiters.find? (fun w => w.core == core && w.ctx == ctx && w.asker.isNone) = some v → v.deadline = some n → n ≤ s.now →
      exec (.waitTimeout core ctx) s = .next ((if v.sent then { s with outbox := s.outbox ++ (v.module.map (OutMsg.withdraw · v.seq)).toList } else s).answer v 1 (match v.barrier with
        | some g => if v.module.isNone then s.peek (v.addr / 16 * 16) 2 (s.slotKey v.slotOwner) else g
        | none => 0))) ∧
    (Tab.find? s.reqs req = some r → walks →
      (s.walk r.slotOwner p.addr = (s1, .ok entry) → entry.allows r.need = true → s1.reqs = s.reqs → s1.tlbHit r.core r.slotOwner p.addr = none → exec (.pageWalk req) s =
        .next ({ s1 with reqs := Tab.put s1.reqs req { r with entry := some entry } }.tlbInstall r.core entry)) ∧
      (s.walk r.slotOwner p.addr = (s1, .error n) → s1.reqs = s.reqs → exec (.pageWalk req) s = .next (s1.faultPart req r i n true)))

/-- MATRIX_CHOOSE starts the best operation of an idle engine; COPY_COMPLETE makes a copy from where it stands, frees its
span once its last source sector is read and keeps its first fault for DRAIN, or leaves it where it waits for another
module (all its sectors at once, the model's choice, log 51; that an operation keeps the priority it was chosen with, log
61); WALK_HOP delivers the next record of a walk to its stream, or gathers eight for its ring, filling up the last unit, and
logs the fault that ends a walk (R391); ROUTE1_CHUNK_APPLY makes the first chunk of a
core's collective queue a store request of Q0 (R161, R164, R197, R198, R218, R255, R297). -/
def Obligations.EnginesAct : Prop :=
  ∀ (c n id rec_ : Nat) (o : MatrixOp) (y : CopyOp) (y1 : CopyOp) (w w1 : Walk) (fault : Option (Nat × Nat)) (k : CollChunk) (rest : List CollChunk) (f : CopyEnd) (s s1 : State),
    let start : MatrixOp := { o with running := true, kept := false, eff := (s.core c).effective o, saved := none, before := if o.started then o.before else (s.core c).found o }
    let span := fun (h : Share) => Tab.set h.spans {} n { Tab.get h.spans {} n with live := false }
    let freed := fun (h : Share) => if y1.freed then h else { h with spans := span h }
    let ends := fun (faults : List CopyFault → List CopyFault) => s1.mapCore c (fun k =>
      { k with copies := k.copies.filter (fun z => z.id != y1.id), share := freed k.share, copyFaults := faults k.copyFaults })
    let kept := fun (s : State) (y : CopyOp) => s.mapCore c (fun k => { k with copies := k.copies.map (fun z => if z.id == y.id then y else z) })
    let goes := match f with
      | .made => ends (fun l => l)
      | .fault sub a dside => ends (insertFault { id := y1.id, gang := y1.gang, member := y1.member, slot := y1.slot, sub := sub, addr := BitVec.ofNat 64 a, runs := y1.made, dside := dside, span := n })
      | .asks => if y1.sourceRead then kept (s1.mapCore c (fun k => { k with share := freed k.share })) { y1 with freed := true } else kept s1 y1
    let noted := match fault with
      | some e => s1.log (w1.stack / 2) (0x200 + 32 * (w1.stack % 2) + id % 32) 5 7 (s.gangOwner w.gang) (BitVec.ofNat 64 e.2) (BitVec.ofNat 64 (w.walkid ||| (e.1 <<< 32)))
      | none => s1
    let ended := if w1.finished then noted.walkFlags w1 else noted
    let goesOn := fun (s : State) (w : Walk) => { s with walks := if w.finished then Tab.erase s.walks id else Tab.put s.walks id w }
    let unit := w1.unit ++ [BitVec.ofNat 64 rec_]
    let taken := s.mapCore c (fun k => { k with collq := rest })
    let strand := (s.locate k.gang k.member k.slot).bind (fun x => s.strand x.1 x.2)
    let away := match taken.place k.addr with
      | .remote _ _ => true
      | _ => false
    ((∀ e ∈ (s.core c).mq, e.running = false) → s.bestOp c = some o → Tab.rising s.cores = true → ∃ t, exec (.matrixChoose c) s = .next t ∧
      (t.core c).mq = (s.core c).mq.map (fun e => if e.id = o.id then start else e)) ∧
    ((s.core c).copies.find? (fun z => z.span == n) = some y → s.copyReady c y = true → n < 8 →
      s.copyRuns c y ((List.range y.runs).drop y.made) = (s1, y1, f) → y1.span = n → exec (.copyComplete c n) s = .next goes) ∧
    (Tab.find? s.walks id = some w → (s.gang w.gang).isSome = true → w.finished = false → s.engineRuns w.gang w.member w.slot = true →
      s.walkMayDeliver id w = true → s.priorStoresDone id w.gang w.member w.slot (fun r _ => r.published) = true →
      s.walkStep w = (s1, rec_, w1, fault) →
      (w.toRing = false → exec (.walkHop id) s = .next (goesOn (ended.walkToStream w1 rec_) w1)) ∧
      (w.toRing = true → w1.finished = true → exec (.walkHop id) s =
        .next (goesOn (ended.walkToRing w1 (unit ++ List.replicate (8 - unit.length) (BitVec.allOnes 64))) w1)) ∧
      (w.toRing = true → w1.finished = false → unit.length = 8 → exec (.walkHop id) s = .next (goesOn (ended.walkToRing w1 unit) { w1 with unit := [] })) ∧
      (w.toRing = true → w1.finished = false → unit.length ≠ 8 → exec (.walkHop id) s = .next (goesOn ended { w1 with unit := unit }))) ∧
    ((s.core c).collq = k :: rest → strand.all (fun t => !t.resumed) = true → s.engineRuns k.gang k.member k.slot = true →
      exec (.route1ChunkApply c) s = .next { taken with reqs := Tab.put taken.reqs k.id { core := c, ctx := k.ctx, gang := k.gang, member := k.member, slot := k.slot, queue := 0, kind := .chunk k.comb (k.addr % 4), space := 3, parts := k.parts, remote := away, orphan := strand.isNone, slotOwner := k.slotOwner } })

/-! ### Events of the fabric and of collectives -/

/-- REMOTE_REQUEST performs a request of another module once, under the key of its owner's slot, a load of policy L1 allocate
filling its whole line (R188), answers it with the bytes read or the divergences of its draw (R353), and answers a repeated
one as before; an owner without a slot here is answered NO_PERMISSION. HIBERNATING_ANSWER, REMOTE_NO_ANSWER,
MODULE_LOST and PATH_RESTORED keep the router's module table; LINK_RETRY counts and takes a link down at the sixteenth replay in a row that fails, LINK_DOWN logs an own link, and ROUTE_REMOVE
takes out every path over a link that is down; ROUTER_OFF turns the router of a hibernated module off;
of the paths restored the four that cross the fewest routers stay, those first (R285, R380 to R384, R392, R408, R442; that a
failed port's flits go on at a free one, log 182). -/
def Obligations.FabricEvents : Prop :=
  ∀ (msg : RemoteMsg) (q off d module link req since addr : Nat) (kind : ReqKind) (paths : List (List Nat)) (r : Request) (s s1 : State),
    let taken := s.router.off = false ∧ s.now ≤ msg.sentAt + 2 ^ 19 ∧ msg.kind ≠ .withdraw
    let fresh := taken ∧ s.router.seen.find? (fun (e : Nat × Nat × Nat × Nat × BitVec 256) => e.1 == msg.source && e.2.1 == msg.queue && e.2.2.1 == msg.seq) = none ∧ s.answersHibernating msg.owner = false
    let silent := fun (m : Nat) => Tab.get s.router.modules .lost m == .reachable
    let draws := match msg.kind with
      | .draw _ _ _ _ _ _ _ => true
      | _ => false
    let knows := fun (t : State) (m : Nat) (v : ModuleState) => Tab.find? t.router.modules m = some v
    (fresh → s.slotOf msg.owner = some q → s.place (s.modnum * 2 ^ 44 + msg.addr) = .local_ off → remoteKind msg.kind = some kind →
      let before := if kind = .load then (s.homeRead (off / 32 * 32) 32 (s.slotKey q) msg.full).1 else s
      let unit := Config.cores + homeCluster off
      let splits := before.drawSplits unit kind msg.mask.toNat d
      before.atHomeNow kind (off / 32 * 32) (s.slotKey q) msg.mask.toNat msg.data.toNat = .done s1 d →
      (draws = false → exec (.remoteRequest msg) s = .next (s1.answerRemote msg 0 d)) ∧
      (draws = true → splits = [] → exec (.remoteRequest msg) s = .next ((s1.spend unit 3 (· == 128)).answerRemote msg 0 d)) ∧
      (draws = true → splits ≠ [] → exec (.remoteRequest msg) s =
        .next ((s1.spend unit 3 (· == 128)).answerRemote msg (splitAnswer splits).1 (splitAnswer splits).2))) ∧
    (∀ e, taken → s.router.seen.find? (fun (e : Nat × Nat × Nat × Nat × BitVec 256) => e.1 == msg.source && e.2.1 == msg.queue && e.2.2.1 == msg.seq) = some e →
      exec (.remoteRequest msg) s = .next { s with outbox := s.outbox ++ [.answer msg.source msg.seq e.2.2.2.1 e.2.2.2.2] }) ∧
    (fresh → s.slotOf msg.owner = none → exec (.remoteRequest msg) s = .next (s.answerRemote msg 3 0)) ∧
    (s.moduleState module ≠ .lost → ∃ t, exec (.hibernatingAnswer module) s = .next t ∧ knows t module .hibernating) ∧
    (Tab.find? s.reqs req = some r → r.sentAt = some since → since + 2 ^ 20 ≤ s.now →
      r.parts.findSome? (fun p => ((r.awaited p).find? silent).map (·, p.firstByte)) = some (module, addr) → exec (.remoteNoAnswer req) s =
        .next ((s.failAway req 5 silent).log 0 0x0400 5 3 (s.gangOwner r.gang) (BitVec.ofNat 64 addr) (BitVec.ofNat 64 module))) ∧
    (link < 36 → link ∉ s.router.linksDown → Tab.rising s.host = true → ∃ t, exec (.linkRetry link) s = .next t ∧
      t.hreg (0x5900 + 8 * link) = s.hreg (0x5900 + 8 * link) + 1 ∧ t.mem = s.mem ∧
      (link ∈ t.router.linksDown ↔ Config.freeChoice s.free 40 = false ∧ 15 ≤ Tab.get s.router.failed 0 link)) ∧
    (link ∉ s.router.linksDown → ∃ t, exec (.linkDown link) s = .next t ∧ link ∈ t.router.linksDown ∧
      (36 ≤ link → t = { s with router := { s.router with linksDown := s.router.linksDown ++ [link] } })) ∧
    (link ∈ s.router.linksDown → ∃ t, exec (.routeRemove link) s = .next t ∧
      (∀ e ∈ t.router.paths, e.2 ≠ [] ∧ ∀ p ∈ e.2, link ∉ p.2) ∧
      (∀ e ∈ s.router.paths, (∀ p ∈ e.2, link ∈ p.2) → (Tab.find? t.router.pathless e.1).isSome = true)) ∧
    (Tab.find? s.router.pathless module = some since → since + 100000 ≤ s.now →
      ∃ t, exec (.moduleLost module) s = .next t ∧ knows t module .lost) ∧
    (paths ≠ [] → (∀ p ∈ paths, 1 ≤ p.length ∧ p.length ≤ 3 ∧ p.headD 0 < 36) → module < 3072 → module ≠ s.modnum → ∃ t, exec (.pathRestored module paths) s = .next t ∧ knows t module .reachable ∧
      (Tab.get t.router.paths [] module).map (·.2) = ([1, 2, 3].flatMap (fun n => paths.filter (fun p => p.length == n))).take 4) ∧
    (s.supply = 5 → exec .routerOff s = .next { s with router := { s.router with off := true } })

/-- COLL_HANDOFF starts the next step of its graph on an idle module, or makes its trap due where its table has an
uncorrectable word (R359, log 181); START_FLIT is passed on whatever its replay has come to and gives one its key;
CHUNK_ARRIVAL delivers a chunk to its replay, holds one of the next two steps and logs a stale one; LOOSE_FLUSH runs a
REDUCE whose time has passed, LATE_ADDEND adds at the root, ROOT_RELEASE_TIMEOUT releases its successors; ABORT_FLIT
ends a replay and is passed to its modules, once for a step; a chunk of an owner without a slot here is answered PERMISSION (that answer's form, log 133); REPLAY_COMPLETE ends one that has failed or made every operation, once its writes
on other modules are answered, and else goes on with its operations, how far being free (log 171) (R266, R291,
R293 to R296, R380, R386 to R390). -/
def Obligations.CollectiveEvents : Prop :=
  ∀ (c x graph step table op i since issued : Nat) (bundle key : Word) (holds : List Hold) (o : CollOp) (chunk : ChunkMsg) (msg : AbortMsg)
    (r : Replay) (t : Strand) (s s1 : State),
    let g := s.graphOf graph
    let held := s.replayOf graph step = some r
    let now := Tab.get s1.coll.steps 0 graph + 1
    let root := (s1.graphOf graph).root = s1.modnum
    let dseed := (s1.core c).share.dseed
    let found := (s1.coll.starts.find? (fun (e : Nat × Nat × Word) => e.1 == graph && e.2.1 == now)).map (·.2.2)
    let bases := (List.range 8).map (fun i => BitVec.ofNat 64 (s1.spadRead c (table + 8 * i) 8))
    let replay : Replay := { graph := graph, step := now, owner := s1.gangSlot t.gang, ownerNum := s1.gangOwner t.gang, key := if root then some dseed else found, bases := bases, counts := [], loose := (s1.graphOf graph).loose && s1.featOf t.gang 5, strand := (c, x), tStart := issued }
    let engine := { s1.coll with steps := Tab.set s1.coll.steps 0 graph now, replays := s1.coll.replays ++ [replay], starts := s1.coll.starts.filter (fun (e : Nat × Nat × Word) => !(e.1 == graph && e.2.1 == now)) }
    let started := { s1.release c x with coll := engine }
    let takes := s.router.off = false ∧ s.answersHibernating chunk.owner = false ∧ (s.slotOf chunk.owner).isSome = true
    let chunkKnown := (Tab.find? s.coll.graphs chunk.graph).isSome = true ∧ takes
    let reached := Tab.get s.coll.steps 0 chunk.graph
    (s.strand c x = some t → t.holds = .coll graph table bundle issued :: holds → s.writerHalf c x 3 = (s1, true) →
      s1.heldTrap c ((s1.strand c x).getD t) (List.range 4) false = none → s1.coll.replays.length < 64 →
      s1.supply < 3 → s1.coll.held = [] → s1.coll.aborts = [] → (s1.core c).share.bad.contains 7 = false →
      (s1.badWord c table 64 = none → exec (.collHandoff c x) s =
        .next (((if root then started.sendStarts graph now dseed else started).runGraph graph).settleEnding t.gang)) ∧
      (∀ w, s1.badWord c table 64 = some w → exec (.collHandoff c x) s = .next (((s1.release c x).mapStrand c x (fun t =>
        { t with due := t.due ++ [{ cause := 0x0D, slot := 7, bundle := some bundle, addr := BitVec.ofNat 64 w }] })).settleEnding t.gang))) ∧
    (s.engineAway = false → (held → r.key = none → exec (.startFlit graph step key.toNat) s = .next
        (((s.sendStarts graph step key).setReplay { r with key := some key }).runGraph graph)) ∧
      (held → r.key ≠ none → exec (.startFlit graph step key.toNat) s = .next (s.sendStarts graph step key)) ∧
      (s.replayOf graph step = none → step ≤ Tab.get s.coll.steps 0 graph → exec (.startFlit graph step key.toNat) s = .next (s.sendStarts graph step key)) ∧
      (s.replayOf graph step = none → Tab.get s.coll.steps 0 graph < step → (∀ e ∈ s.coll.starts, e.1 ≠ graph ∨ e.2.1 ≠ step) →
        exec (.startFlit graph step key.toNat) s = .next { s.sendStarts graph step key with coll := { s.coll with starts := s.coll.starts ++ [(graph, step, key)] } })) ∧
    (chunkKnown → s.replayOf chunk.graph chunk.step = some r → r.status = 0 →
      exec (.chunkArrival chunk) s = .next ((s.deliver r chunk).runGraph chunk.graph)) ∧
    (chunkKnown → s.replayOf chunk.graph chunk.step = none → reached < chunk.step → chunk.step ≤ reached + 2 →
      exec (.chunkArrival chunk) s = .next { s with coll := { s.coll with held := s.coll.held ++ [chunk] } }) ∧
    (chunkKnown → s.replayOf chunk.graph chunk.step = none → chunk.step ≤ reached → (chunk.graph, chunk.step, chunk.op) ∉ s.coll.flushed →
      exec (.chunkArrival chunk) s = .next (s.log 0 0x0401 5 4 0 0 (BitVec.ofNat 64 (graphWord chunk.graph chunk.step)))) ∧
    (held → g.ops[op]? = some o → o.kind = 1 → Tab.find? r.since op = some since → r.loose = true → s.replayRuns r = true → op ∉ r.ran →
      since + 2 ^ g.texp ≤ s.now → g.comb ≠ 7 → exec (.looseFlush graph step op) s = .next ((s.runReduce r g op o).runGraph graph)) ∧
    (takes → exec (.lateAddend chunk) s = .next ((s.addLate chunk).runGraph chunk.graph)) ∧
    (held → r.rootHeld = some (i, since) → since + 2 ^ (g.texp + 2) ≤ s.now → s.replayRuns r = true →
      exec (.rootReleaseTimeout graph step) s = .next ((s.setReplay { r.release g i with rootHeld := none }).runGraph graph)) ∧
    (s.router.off = false → s.answersHibernating chunk.owner = false → s.slotOf chunk.owner = none → exec (.chunkArrival chunk) s = .next { s with outbox := s.outbox ++
      [.answer chunk.source 0 3 (BitVec.ofNat 256 (graphWord chunk.graph chunk.step))] }) ∧
    (s.engineAway = false → s.replayOf msg.graph msg.step = some r → r.status = 0 → r.closing = false →
      (msg.graph, msg.step) ∉ s.coll.forwarded → ∃ u, exec (.abortFlit msg) s = .next u ∧
      (∀ z ∈ u.coll.replays, z.graph = r.graph → z.step = r.step → z.status = msg.status) ∧
      u.outbox = s.outbox ++ (s.graphModules (s.graphOf r.graph)).map (fun k => OutMsg.abort k msg)) ∧
    (held → (s.coll.replays.find? (fun x => x.graph == graph)).map (·.step) = some step → s.supply < 3 →
      s.replayWrites graph step = false → (r.status ≠ 0 ∨ r.closing = true ∨ g.ops.length ≤ r.ran.length ∧ r.rootHeld = none ∧ g.vit = none) →
      exec (.replayComplete graph step) s = .next (s.endReplay r)) ∧
    (held → (s.coll.replays.find? (fun x => x.graph == graph)).map (·.step) = some step → s.supply < 3 →
      s.replayWrites graph step = false → r.status = 0 → r.closing = false → (r.ran.length < g.ops.length ∨ r.rootHeld.isSome = true) →
      exec (.replayComplete graph step) s = .next (s.runGraph graph))

/-! ### Events of the launch path -/

/-- DOORBELL moves a queue's TAIL; NEST_TAKE takes the record at HEAD; NEST_OFFER admits the first head that conflicts
with no nest in flight, passing over one that does (the model's choice, log 125); GANG_PLACE places the first placeable gang of the order, and CLUSTER_RESERVE keeps a cluster for
a gang that has waited 16 µs; FOLIO_PICKUP resumes a strand from its folio, its member and slot
those of the queue's entry (the model's choice, log 57) and its physical tiles the lowest free (log 183); GANG_PREEMPT seals a gang at its boundaries, a trap that is due entered first,
and GANG_RESUME runs it again; NEST_RETIRE completes a nest whose gangs have ended (R17, R25, R26, R28 to R32, R270 to
R276, R279, R299, R323, R432). -/
def Obligations.LaunchEvents : Prop :=
  ∀ (queue tail cl c g nest image src : Nat) (h : Waiting) (n : Nest) (cs : List Nat) (v : Gang) (f : Nat × Nat × Nat × Nat) (s s1 s2 : State),
    let q := queue % 2048
    let log2n := bits (s.queueReg q 8) 12 8
    let head := s.queueReg q 0x18 % 2 ^ 32
    let base := bits (s.queueReg q 0) 55 7 * 128 + 128 * (head % 2 ^ log2n)
    let read := s.homeRead base 128 0 true
    let moved := read.1.setQueueReg q 0x18 ((head + 1) % 2 ^ 32)
    let open_ := s.hreg 0x3830 = 0 ∧ s.hostWrites = true ∧ s.ready = true
    let slot := (s.slotOf h.owner).getD 32
    let admitted := { s.dropHead src with launch := { (s.dropHead src).launch with seq := s.launch.seq + 1, feats := s.hreg 0x020 } }
    let s0 := s.noteFirst
    let fits := s0.clusterServes cl = true ∧ n.rec_.gangCores ≤ (s0.partition ((s0.slotOf n.owner).getD 32) cl).length
    let folioSlot := s.gangSlot f.2.1
    let out := s.setCluster (coreCluster c) { s.cluster (coreCluster c) with folios := (s.cluster (coreCluster c)).folios.erase f }
    let ready := if (s2.core c).gang = some f.2.1 then s2 else s2.prepareCore c folioSlot f.2.1 n.owner n.rec_.window f.2.2.1
    let joined := ready.setGang f.2.1 { v with cores := if v.cores.contains c then v.cores else v.cores ++ [c] }
    let x := ((List.range 4).find? (fun x => ((joined.core c).strand x).isNone)).getD 0
    let sealed_ := (s.haltGang g v).setGang g { v with mode := .preempted }
    let report : Report := { owner := n.owner, source := n.source, rec_ := n.rec_, status := n.status, gangs := n.ended, seq := nest, tStart := n.tStart, energy := n.energy, mhz := if n.mhzCycles = 0 then 0 else n.mhzSum / n.mhzCycles, throttle := n.throttle, feats := n.feats }
    let dropped := { s with launch := { s.launch with nests := Tab.erase s.launch.nests nest } }
    (open_ → (tail % 2 ^ 32 + 2 ^ 32 - head) % 2 ^ 32 ≤ 2 ^ log2n → exec (.doorbell queue tail) s = .next (s.setQueueReg q 0x10 (tail % 2 ^ 32))) ∧
    (s.ready = true → s.memoryStill = false → s.queueEnabled q = true → head ≠ s.queueReg q 0x10 % 2 ^ 32 → (s.queueReg q 0).testBit 63 = false → inHbm base = true →
      (nestRecord read.2).wellFormed = true → exec (.nestTake queue) s = .next (moved.enqueueNest q (nestRecord read.2) (s.queueOwner q))) ∧
    (s.launch.nests.length < 4096 → s.heads.find? (fun h => s.launch.nests.all (fun n => n.2.owner != h.2.owner || !h.2.rec_.conflicts n.2.rec_)) = some (src, h) →
      (∃ k ∈ List.range 4, h.rec_.gangCores ≤ (s.partition slot k).length) → exec .nestOffer s =
        .next (admitted.setNest (s.launch.seq + 1) { rec_ := h.rec_, owner := h.owner, source := src, since := s.now, feats := s.hreg 0x020 })) ∧
    (s0.placementOrder.findSome? (fun e => (s0.placeable e.1 e.2).map (fun p => (e, p))) = some ((nest, n), (cl, cs)) →
      exec (.gangPlace cl) s = .next ((s0.placeGang nest n cl cs).noteFirst)) ∧
    (∀ i since, s0.nextGangs.head? = some (nest, n) → s0.launch.first = some (nest, i, since) → s0.placeable nest n = none → since + 16000 ≤ s0.now →
      s0.windowCluster n.owner n.rec_.window = none → fits → (∀ k < 4, k ≠ cl → s0.clusterServes k = false) →
      cl < 4 → (∀ k < 4, (s0.cluster k).reservation = none) →
      exec (.clusterReserve cl) s = .next (s0.setCluster cl { s0.cluster cl with reservation := some nest })) ∧
    (s.pickFolio c = some f → s.gang f.2.1 = some v → s.nest v.nest = some n → out.agentRead folioSlot f.1 64 = (s1, .ok image) →
      s1.agentWrite folioSlot f.1 8 (image % 2 ^ 64 - (image % 2 ^ 64 &&& 2 ^ 56)) = (s2, none) → exec (.folioPickup c) s =
        .next ((joined.setStrand c x { folioStrand f.2.1 f.2.2.1 f.2.2.2 n.rec_ image (joined.core c).cycle with
          phys := allotTiles (joined.core c).ctxs n.rec_.accs }).readerHalf c 2)) ∧
    (s.gang g = some v → v.mode = .preempting → s.sealable g v = true → exec (.gangPreempt g) s =
      .next { sealed_ with launch := { sealed_.launch with preempted := sealed_.launch.preempted ++ [g] } }) ∧
    (∀ d y, s.gang g = some v → v.mode = .preempting → s.sealable g v = false → s.dueIn g v = some (d, y) →
      exec (.gangPreempt g) s = .next (s.enterDue d y true)) ∧
    (s.launch.preempted.find? (fun g => s.causeEnded g) = some g → exec (.gangResume g) s = .next (s.runGang g)) ∧
    (s.nest nest = some n → s.memoryStill = false → n.placed ≤ n.ended → (n.stopped = true ∨ n.rec_.total ≤ n.placed) →
      (∀ e ∈ s.reqs, e.2.isStore = true → e.2.slotOwner = (s.slotOf n.owner).getD 32 → (s.gang e.2.gang).isSome = true) →
      (∀ k < 4, ∀ m, ((dropped.complete report).cluster k).reservation = some m → m ≠ nest) →
      exec (.nestRetire nest) s = .next ((dropped.complete report).noteFirst.endTerminate ((s.slotOf n.owner).getD 32)))

/-- The strand that a member of a gang starts with in context i: at the entry of its role, s1 to s4 the offsets of its iteration,
s5 the argument, s6 the member, s7 the role and context, every other register 0, no flag and no tile element set (R20). -/
def Obligations.StrandsAtLaunch : Prop :=
  ∀ (r : NestRec) (g iter member i cycle : Nat), let t := r.strand g iter member i cycle
    t.pc = r.entryPc (r.role i) ∧ (∀ l < 4, t.reg (1 + l) = r.offset iter l) ∧ t.reg 5 = BitVec.ofNat 64 r.arg ∧
    t.reg 6 = BitVec.ofNat 64 member ∧ t.reg 7 = BitVec.ofNat 64 ((r.role i <<< 8) ||| i) ∧
    (∀ n, n = 0 ∨ 8 ≤ n → t.reg n = 0) ∧ (∀ n, t.vecRaw n = 0) ∧ (∀ n, t.tile n = {}) ∧ t.flags = 0 ∧ (∀ n, t.lcRaw n = 0)

/-! ### Events of the supply and of time -/

/-- Warnings, supply traps, saves, seals, brown-out, restart, thermal emergencies, sensors, islands and time: what each
does where it may happen (R281, R282, R360, R393 to R399, R402, R405 to R414, R427, R442, R443). The model's choices in it:
that these log entries have SOURCE 0x0102 (log 139), when the supply counts as charging and as dropped (log
168), the empty memory and tables of POWER_ON (logs 2 and 71), and that the counter's correction is the last exchange's,
made at 1 ns for each µs and superseded by the next exchange (log 126). -/
def Obligations.SupplyEvents : Prop :=
  ∀ (n c x reserve groups energy sensor addr modnum master since : Nat) (l : List Nat) (input : Bool) (selftest : BitVec 64) (routes : List Route)
    (error : BitVec 32) (k : Catalogue) (rest : List Nat) (t : Strand) (s : State), Tab.rising s.host = true → Tab.rising s.islands = true →
    let j := n % 32
    let st := s.supply
    let q := s.gangSlot t.gang
    let held := s.setReserve reserve
    let warned := { held.setSupply 3 with power := { held.power with warnedAt := s.now, inputBack := false, inputSince := if input then none else s.power.inputSince, regions := [], charge := 0, off := false } }
    let hot := { s.setSupply 6 with power := { s.power with warnedAt := s.now, regions := [], off := false } }
    let halting := st = 3 ∨ st = 6
    let trapped := s.takeTrap c x { cause := 0x10 } 0 t.pc
    let halted := (s.haltStrand c x).noteHalted t.gang
    let meets := halting ∧ s.strand c x = some t ∧ t.atBoundary = true ∧ s.dueTrap c x true = none
    let resumed := (held.enterPhase 4).logBadSlot
    let cooling := ({ s with power := { s.power with off := false, regions := [] } }.log 0 0x0102 6 7 0 0 0).logBadSlot
    let cooled := cooling.replayCatalogue k
    let e := sint 32 error.toNat
    (∃ u, exec (.operatingPointChange n l) s = .next u ∧ (Tab.get u.islands {} j).point =
      (List.range 4).foldl (fun p r => max p (s.demand j r (l.getD r 0))) (s.basePoint j)) ∧
    (∃ u, exec (.energyTick l rest energy reserve) s = .next u ∧ u.hreg 0x2008 = BitVec.ofNat 64 (min reserve Config.reserveLimit) ∧ u.mem = s.mem ∧
      (999 ≤ s.power.inputTicks → u.hreg 0x5208 = BitVec.ofNat 64 ((s.power.inputSum + min energy Config.inputLimit) / 1000))) ∧
    (sensor < 128 → sensor ∉ s.power.retired → s.sensorFails sensor = true → exec (.sensorRetired sensor) s =
      .next ({ s with power := { s.power with retired := s.power.retired ++ [sensor] } }.log (sensor / 32) 0x0102 3 4 0 0 (BitVec.ofNat 64 sensor))) ∧
    (inHbm addr = true → st ≠ 4 → st ≠ 5 → s.power.off = false → addr / 8 ∉ s.bad → exec (.patrolScrub addr 2) s =
      .next ({ s with bad := s.bad ++ [addr / 8] }.log (homeCluster addr) (0x0240 + addr / 2 ^ 36 % 2) 2 4 0 (BitVec.ofNat 64 (8 * (addr / 8))) 3)) ∧
    (st ≠ 3 → st ≠ 4 → st ≠ 5 → (input = true ∨ reserve < s.eWarn) → exec (.supplyWarning input reserve) s =
      .next (warned.log 0 0x0102 6 1 0 0 (BitVec.ofNat 64 (b2n input))).stopReplays) ∧
    (meets → s.gangTurn t.gang = true → t.supplyBy = none → t.saved = false → t.resumed = false → s.inHandler q t.pc.toNat = false →
      ((s.slotReg q 0).testBit 62 = true → exec (.supplyTrap c x) s = .next (trapped.mapStrand c x (fun t => { t with supplyBy := some 0 }))) ∧
      ((s.slotReg q 0).testBit 62 = false → exec (.supplyTrap c x) s = .next halted)) ∧
    (meets → t.saved = true → exec (.supplyTrap c x) s = .next halted) ∧
    (∀ i, halting → s.strand c x = some t → t.atBoundary = true → s.dueTrap c x true = some i → exec (.supplyTrap c x) s = .next (s.enterDue c x true)) ∧
    (meets → t.saved = false → t.supplyBy = some since → 0 < since → since ≤ s.now → t.resumed = false →
      exec (.handlerOverrun c x) s = .next (halted.log (coreCluster c) 0x0102 6 2 (s.gangOwner t.gang) t.pc (BitVec.ofNat 64 ((x <<< 10) ||| c)))) ∧
    (s.saveDone = true → st = 3 → exec (.saveComplete groups) s = .next ((s.sealHalted.dismissWaiters.setSupply 4).drain groups)) ∧
    (st = 4 → ∃ u slot, exec (.sealed energy) s = .next u ∧ slot < 2 ∧ u.supply = 5 ∧
      (∃ k, Tab.find? u.power.catalogues slot = some k ∧ k.kind = 0 ∧ k.seq = s.lastSeq + 1 ∧ k.regions = s.power.regions ∧ k.steps = s.graphSteps) ∧
      (∀ m d, s.slotsBySeq.find? (fun e => e.2.valid s.modnum) = some (m, d) → m ≠ slot ∧ Tab.find? u.power.catalogues m = some d)) ∧
    (st = 0 → (∃ since, s.power.dropSince = some since ∧ since + 20000 ≤ s.now) → exec .enterSag s = .next { s.setSupply 1 with power := { s.power with sagSince := s.now } }) ∧
    (st = 1 → (reserve < 3000000000 ∨ s.power.sagSince + 500000000 ≤ s.now) →
      exec (.enterShed reserve) s = .next { held.setSupply 2 with power := { held.power with shedAt := 0 } }) ∧
    (st = 2 → held.power.dropSince.isSome = true → (s.power.shedAt = 0 ∨ s.power.shedAt + 100000000 ≤ s.now) →
      ((List.range 4).map (fun i => bits (s.hreg 0x2038).toNat (2 * i + 1) (2 * i))).find? (fun c => !(s.cluster c).shed) = some n →
      ∃ u, exec (.shed reserve) s = .next u ∧ (u.cluster n).shed = true ∧ u.power.shedOrder = n :: s.power.shedOrder) ∧
    (3500000000 ≤ reserve → held.power.charging = true → s.power.shedOrder = n :: rest → exec (.clusterRestore reserve) s =
      .next { held.setCluster n { held.cluster n with shed := false } with power := { held.power with shedOrder := rest } }) ∧
    (st = 1 ∨ st = 2 → 3500000000 ≤ reserve → held.power.charging = true → exec (.returnNormal reserve) s = .next held.enterNormal) ∧
    (st = 3 ∨ st = 4 ∨ st = 5 → exec .inputReturn s = .next { s with power := { s.power with inputBack := true, inputSince := some (s.power.inputSince.getD s.now) } }) ∧
    (st ≠ 3 → st ≠ 4 → st ≠ 5 → st ≠ 6 → (List.range 128).find? (fun k => k % 4 != 3 && decide (110000 ≤ s.sensor k)) = some sensor →
      exec .thermal s = .next (hot.log 0 0x0102 6 7 0 0 (BitVec.ofNat 64 ((1 <<< 56) ||| sensor))).stopReplays) ∧
    (st = 6 → s.power.off = true → s.power.coolSince = some since → since + 1000000000 ≤ s.now →
      (cooling.newestValid = some k → k.kind = 1 → exec .thermalEnd s = .next (cooled.power.unresumed.foldl (fun s o => s.resumeOwner o) cooled)) ∧
      (cooling.newestValid = none → exec .thermalEnd s = .next cooling.emptied.enterNormal)) ∧
    (st = 0 → s.hreg 0x1000 = 0 → ∃ u, exec (.powerOn true modnum selftest routes) s = .next u ∧ u.cores = [] ∧ u.mem = [] ∧ u.keys = [] ∧
      u.power.catalogues = s.power.catalogues ∧ u.now = s.now ∧ ∀ r ∈ routes, r.paths.filter pathGood ≠ [] → r.module < 3072 → r.module ≠ modnum % 3072 →
        Tab.find? u.router.modules r.module = some .reachable) ∧
    (s.hreg 0x1000 = 3 → s.eWarn + 1000000000 ≤ reserve → (∃ since, s.power.inputSince = some since ∧ since + 1000000000 ≤ s.now) →
      (resumed.catalogueDue = false ∨ resumed.newestValid = none → exec (.restoreBegin reserve) s = .next (resumed.markLost (fun _ => false)).enterNormal) ∧
      (resumed.catalogueDue = true → resumed.newestValid = some k → exec (.restoreBegin reserve) s = .next (resumed.replayCatalogue k))) ∧
    ((s.hreg 0x1100).getLsbD 63 = false → s.moduleState master = .reachable → s.power.master = none → s.hreg 0x1000 ≠ 0 →
      ∃ u, exec (.timeExchange master error) s = .next u ∧ u.now = s.now ∧ u.power.slew = -e ∧ u.power.master = some (master, s.now)) ∧
    (∀ (p : Power) (d : Nat), let a := (p.slewed d).2
      a ≤ d + (p.slewRest + d) / 1000 ∧ d ≤ a + (p.slewRest + d) / 1000 ∧ (p.slewed d).1.slew + (a : Int) = p.slew + d) ∧
    (s.power.master = some (master, since) → since + 1000000 ≤ s.now → exec (.masterLost master) s =
      .next { s.setHreg 0x1100 (s.hreg 0x1100 &&& ~~~(1#64 <<< 62)) with power := { s.power with master := none, slew := 0 } }) ∧
    (s.power.master = none → s.hreg 0x1000 = 5 → s.power.phaseSince + 10000000 ≤ s.now → exec .timePhaseTimeout s = .next (s.setHreg 0x1000 6))

/-! ### Events of the host -/

/-- An invalidation in progress completes: the entries of its range that walks installed since leave the TLBs, and INVSTAT
reads 0. Whatever is in progress, the host's reads answer (R395), a suspended owner's slot says so, a removed vitrine leaves
the table and a core takes its routines. The host's writes, each where it is accepted: no invalidation in progress, no supply
warning in force, and READY for owner slots, work queues and islands: warm reset, attestation, owner slots, invalidation,
keys, routines, multicast groups, vitrines, graphs, features, the trigger, and the host's window and registers (R190, R297 to
R301, R395, R415, R428 to R444). The model's choices in it: a write of 0 leaves TRIGCTL armed (log 141), INVCMD drops its
entries at once and again at its completion (log 143), and RTLOAD reaches the cores of every island that a valid slot names
(log 184). -/
def Obligations.HostEvents : Prop :=
  (∀ s : State, Tab.rising s.host = true → s.hreg 0x3830 = 1 → ∃ t, exec .invalidationComplete s = .next t ∧ t = (s.dropEntries (s.hreg 0x3828).toNat).setHreg 0x3830 0 ∧ t.hreg 0x3830 = 0) ∧
  ∀ (slot addr index size g off : Nat) (value key : BitVec 64) (mask : BitVec 32) (data : BitVec 256)
    (v : Vitrine) (gr : Graph) (nops : Nat) (sets : Map (Nat × List Word)) (s s1 : State),
    Tab.rising s.host = true →
    let ready := s.ready = true
    let commanded := ready ∧ slot < 32 ∧ s.slotValid slot = true ∧ s.slotReg slot 0x38 ≠ 2 ∧ s.slotReg slot 0x38 ≠ 4
    let owner := s.slotOwner slot
    let at_ := bits addr 55 6 * 64
    let va := bits value.toNat 55 6 * 64
    let q := value.toNat % 64
    let range := s.invRange
    let dropped := fun (e : TlbEntry) => e.slot = value.toNat % 32 ∧ e.vpage < range.1 + range.2 ∧ range.1 < e.vpage + e.size
    let nonce := s.deviceRead at_ 64
    let report := s.report (nonce % 2 ^ 384)
    let image := report ++ signatureBytes (Config.signIdentity (Config.sha384 report))
    let unit := s.deviceRead va 32
    let word := fun (i : Nat) => bits unit (64 * i + 63) (64 * i)
    let fresh : Vitrine := { front := word 0, shadow := word 1, length := word 2, owner := s.slotOwner q }
    let keyAt := s.deviceRead addr 176
    let keyed := s.deviceSeen addr 176
    let keySlot := keyAt % 2 ^ 64
    let members := s.deviceRead va 384
    let graphed := s.deviceSeen at_ (64 + 32 * nops)
    let images := (List.range nops).map (fun i => graphed.deviceRead (at_ + 64 + 32 * i) 32)
    let loaded := { gr with ops := images.map collOp }
    let engine := { s.coll with graphs := Tab.put s.coll.graphs g loaded, steps := Tab.set s.coll.steps 0 g 0, held := s.coll.held.filter (fun m => m.graph != g), starts := s.coll.starts.filter (fun (m : Nat × Nat × Word) => m.1 != g), aborts := s.coll.aborts.filter (fun m => m.graph != g), flushed := s.coll.flushed.filter (fun (m : Nat × Nat × Nat) => m.1 != g), bad := s.coll.bad.filter (· ≠ g), lates := s.coll.lates.filter (fun m => m.graph != g), forwarded := s.coll.forwarded.filter (fun (m : Nat × Nat) => m.1 != g) }
    let coresOf := if s.slotValid q = true then (List.range 4).flatMap (fun cl => s.partition q cl) else []
    let listed := s.deviceSeen va (s.routineBytes va 0 (List.range 2049))
    let read := fun (s : State) (v : Nat) => { s with power := { s.power with answer := v } }
    let given := { listed with owners := Tab.set s.owners {} q { Tab.get s.owners {} q with routines := sets } }
    let told := coresOf.foldl (fun (u : State) c => u.mapCore c (fun k => { k with reload := true })) given
    let wide := s.hreg (off / 8 * 8)
    let n := min size 32
    let a := addr / 32 * 32
    let m := BitVec.ofNat 64 (writableBits off)
    (slot < 32 → s.slotReg slot 0x38 = 2 → (∀ g ∈ s.ownerGangs owner, (s.gang g).map (·.mode) = some GangMode.preempted) →
      exec (.ownerSuspended slot) s = .next (s.setSlotReg slot 0x38 3)) ∧
    ((s.core index).reload = true → (s.core index).mq = [] →
      (List.range 32).find? (fun q => s.slotValid q && (s.slotIslands q).testBit (coreIsland index)) = some slot → exec (.coreRoutineLoad index) s =
      .next (s.setCore index { s.core index with routines := (Tab.get s.owners {} slot).routines, reload := false, tornWords := [] }).settleReload) ∧
    (Tab.find? s.vitrines index = some v → v.removing = true → (∀ e ∈ s.cores, (∀ y ∈ e.2.copies, index ∉ y.into) ∧ ∀ x ∈ e.2.ctxs, Hold.publish index ∉ x.2.holds) →
      (∀ r ∈ s.coll.replays, (s.graphOf r.graph).vit ≠ some index) → (∀ e ∈ Tab.erase s.vitrines index, e.2.removing = false) →
      exec (.vitrineRemoved index) s = .next ({ s with vitrines := Tab.erase s.vitrines index }.setHreg 0x38C8 0)) ∧
    (exec (.energyLowRead off) s = .next { s with power := { s.power with answer := wide.toNat % 2 ^ 32, latched := Tab.put s.power.latched (off / 8 * 8) (wide.extractLsb' 32 32) } }) ∧
    (∀ h, Tab.find? s.power.latched (off / 8 * 8) = some h →
      exec (.energyHighRead off) s = .next { s with power := { s.power with answer := h.toNat, latched := Tab.erase s.power.latched (off / 8 * 8) } }) ∧
    (Tab.find? s.power.latched (off / 8 * 8) = none → exec (.energyHighRead off) s = .next (read s (wide.toNat / 2 ^ 32))) ∧
    (∀ rest, s.agenda = .read off :: rest →
      (off < 0x400000 ∨ 0x500000 ≤ off → step s = .next ((read { s with agenda := rest } wide.toNat).tick s.outbox.length)) ∧
      (0x400000 ≤ off → off < 0x500000 → step s = .next ((read { s with agenda := rest } (s.logSlot (off - 0x400000) >>> (8 * (off / 8 * 8 % 32)))).tick s.outbox.length))) ∧
    (∀ k, s.hostKey = some k → inHbm (addr + n - 1) = true → s.stackServes (addr / 2 ^ 36) = true → s.power.off = false → s.supply ≠ 5 →
      addr % 32 + n ≤ 32 → 0 < n → s.badRead addr k (maskRange (addr % 32) n) = false → exec (.hostLoad addr size) s =
      .next (read (s.linesSeen addr n k) ((s.hostSector addr k >>> (8 * (addr % 32))) % 2 ^ (8 * n)))) ∧
    (s.hreg 0x3830 = 0 → s.hostWrites = true →
    ((key = 0x5741524D#64) → s.hreg 0x1000 ≠ 0xF0 → ∃ u, exec (.warmReset key value) s = .next u ∧ u.mem = s.flushL2.mem ∧ u.cores = [] ∧ u.reqs = [] ∧ u.owners = [] ∧ u.power.catalogues = s.flushL2.power.catalogues) ∧
    (s.hbmRange at_ 64 = true → s.hbmRange (bits nonce 447 384) 448 = true → exec (.attestationRequest addr) s =
      .next (((s.deviceSeen at_ 64).deviceWrite (bits nonce 447 384) image.length (ofBytes image)).setHreg 0x1028 2)) ∧
    (commanded → exec (.suspend slot) s = .next ((s.ownerGangs owner).foldl (fun s g => s.requestPreempt g 1) (s.setSlotReg slot 0x38 2))) ∧
    (commanded → s.slotReg slot 0x38 = 3 → exec (.resume slot) s = .next (s.setSlotReg slot 0x38 1)) ∧
    (commanded → ∃ u, exec (.terminate slot) s = .next u ∧ owner ∉ u.power.unresumed ∧ (∀ e ∈ u.launch.nests, e.2.owner = owner → e.2.stopped = true ∧ e.2.status = 4) ∧
      (∀ e ∈ u.launch.sources, ∀ w ∈ e.2, w.owner ≠ owner)) ∧
    (ready → slot < 32 → s.islandsTaken slot (value.toNat % 2 ^ 32) = false → exec (.islandsWrite slot value) s = .next (s.setSlotReg slot 0x28 (value.toNat % 2 ^ 32))) ∧
    (ready → exec (.regselWrite value) s = .next (s.setHreg 0x3800 value)) ∧
    (∃ u, exec (.invcmd value) s = .next u ∧ u.hreg 0x3830 = 1 ∧ u.hreg 0x3828 = BitVec.ofNat 64 (value.toNat % 32) ∧ (∀ e ∈ u.cores, ∀ t ∈ e.2.utlb, ¬ dropped t) ∧ (∀ e ∈ u.clusters, ∀ t ∈ e.2.tlb, ¬ dropped t)) ∧
    (s.hbmRange addr 176 = true → keySlot < 32 → s.slotValid keySlot = false → ∃ u, exec (.keyload addr) s = .next u ∧
      ∀ k, Config.unwrapKey (bytesOf 168 (keyAt >>> 64)) = some k → u = { keyed with owners := Tab.set s.owners {} keySlot { Tab.get s.owners {} keySlot with key := some k } }.setHreg 0x3848 0) ∧
    (q < 32 → s.routineSet va 0 (List.range 2049) [] = some sets → exec (.rtload value) s = .next (told.setHreg 0x3888 (if coresOf = [] then 0 else 1))) ∧
    (s.hbmRange va 384 = true → exec (.mcload value) s =
      .next { s.deviceSeen va 384 with groups := Tab.set s.groups [] (bits value.toNat 63 56) ((List.range 3072).filter (fun m => members.testBit m)) }) ∧
    ((∀ e ∈ s.vitrines, e.2.removing = false) → q < 32 → s.slotValid q = true → s.hbmRange va 32 = true → word 3 ≤ 8191 → word 2 ≠ 0 → word 0 % 64 = 0 →
      word 1 % 64 = 0 → (word 1 + word 2 ≤ word 0 ∨ word 0 + word 2 ≤ word 1) → Tab.find? s.vitrines (word 3) = none → exec (.vitload value) s =
      .next ({ s.deviceSeen va 32 with vitrines := Tab.put s.vitrines (word 3) fresh }.setHreg 0x38C8 0)) ∧
    (Tab.find? s.vitrines index = some v → ∃ u, exec (.vitclr index) s = .next u ∧ Tab.find? u.vitrines index = some { v with removing := true } ∧ u.hreg 0x38C8 = 4) ∧
    (s.hbmRange at_ 64 = true → graphHeader (s.deviceRead at_ 64) = (g, gr, nops) → headerGood (s.deviceRead at_ 64) = true → s.hbmRange at_ (64 + 32 * nops) = true →
      images.zipIdx.all (fun e => opGood e.1 s.modnum ((s.hreg 0x020).getLsbD 6) loaded e.2 (collOp e.1)) = true →
      s.coll.graphs.foldl (fun n e => if e.1 = g then n else n + e.2.ops.length) 0 + nops ≤ 16384 → (∀ r ∈ s.coll.replays, r.graph ≠ g) →
      exec (.gload addr) s = .next ({ graphed with coll := engine }.setHreg 0x038 0)) ∧
    (∃ u, exec (.featDrvWrite 0 value) s = .next u ∧ u.hreg 0x010 = value &&& 0x7F#64 ∧ u.hreg 0x020 = ((s.hreg 0x000 &&& value) &&& 0x7F#64) ||| 1#64) ∧
    (∃ u, exec (.trigctlArm value) s = .next u ∧ u.hreg 0x4100 = BitVec.ofNat 64 ((b2n (value.getLsbD 63 || (s.hreg 0x4100).getLsbD 63) <<< 63) ||| value.toNat % 256)) ∧
    (exec .trigfire s = .next (s.fire 0x0404)) ∧
    (∀ k, s.hostKey = some k → inHbm a = true → s.stackServes (a / 2 ^ 36) = true → s.power.off = false → mask ≠ 0 →
      s1 = s.claimLine (a / 128) k → (mask = 0xFFFFFFFF#32 ∨ s1.badAt a k = false) → exec (.hostStore addr mask data) s = .next
        (if ((s1.cluster (homeCluster a)).find (a / 128)).isSome then s1.engineWrite a 32 mask.toNat data.toNat k
         else (((s1.setHbmSector a k (mergeBytes 32 mask.toNat data.toNat (s1.hbmSector a k))).clearTags a 32 mask.toNat k).testGlobal a 32).markDirty a)) ∧
    (off < 0x3000 → exec (.registerWrite off value) s = .next (s.setHreg off ((value &&& m) ||| (s.hreg off &&& ~~~m)))) ∧
    (slot < 32 → s.ready = true → exec (.registerWrite (0x3010 + 64 * slot) value) s = .next (s.setSlotReg slot 0x10 (value.toNat &&& (2 ^ 48 - 2)))))

/-- The accession list, RESUME and checkpoints, each where the host's write is accepted: a list without reserved bits, in local
memory, of at most 1,023 entries and 500 GiB and without overlap is taken; RESUME resumes each owner it names; CKREQ captures
the regions and sends every shard to its member; a received shard is appended to the own area and its offset answered;
sealing appends a Catalogue of kind 2; CKRESTORE applies the chain that ends at its Catalogue, in memory or
at a member, its earlier Catalogues sought in the own area and then among what the members return, and answers 5 where there is
none (R190, R401, R411, R416 to R420). A shard and a seal need no host write, so no premise about one. The model's choices: the
owner that a shard travels under and the layout of `source` (log 170), and which lines the search touches (log 185). -/
def Obligations.CheckpointEvents : Prop :=
  ∀ (addr index off source : Nat) (bytes : List Byte) (shards lost : List (List Byte)) (answers members : List Nat) (c k : Catalogue) (chain : List Catalogue) (ck : Checkpoint)
    (stream : List Byte) (regions : List Region) (es : List Shard) (s s1 s2 : State),
    Tab.rising s.host = true →
    let at_ := bits addr 55 6 * 64
    let entries := s.listEntries at_ (List.range 1024)
    let list := entries.map (fun (e : Nat × Nat) => (bits e.1 63 48, e.1 % 2 ^ 44, bits e.2 63 32, e.2 % 2 ^ 32))
    let first := fun (e : Nat × Nat × Nat × Nat) => e.2.1
    let last := fun (e : Nat × Nat × Nat × Nat) => e.2.1 + 65536 * e.2.2.2
    let apart := fun (e f : Nat × Nat × Nat × Nat) => last f ≤ first e ∨ last e ≤ first f
    let save := (0, (s.hreg 0x2040).toNat, 0, ((s.hreg 0x2048).toNat + 65535) / 65536)
    let o := index % 65536
    let owner := source / 4096
    let w := s.deviceRead at_ 64
    let seen := s.deviceSeen at_ 64
    let listed := s.deviceSeen at_ (16 * min 1024 (entries.length + 1))
    let group := bits w 51 48 + 1
    let own := bits w 47 40
    let named := (List.range group).map (fun k => bits w (64 + 12 * k + 11) (64 + 12 * k))
    let placed := placeShards group own (shardsOf stream)
    let sent := (placed.filter (fun e => e.1 != own)).map (fun e => OutMsg.shard (members.getD e.1 0) e.2.2.2 (shardOwner regions group e.2.1 e.2.2.1))
    let taken : Checkpoint := { members := members, own := own, diff := w.testBit 0, t := s.now, regions := regions, shards := placed }
    let prev := if ck.diff then (s1.power.chain.getLast?).elim 0 (fun c => Config.sha384 (c.bytes s.modnum)) else 0
    let sealed : Catalogue := { kind := 2, slot := 0, seq := s1.lastSeq + 1, tWarn := ck.t, tSeal := s1.now, prev := prev, selftest := s1.hreg 0x1018, feat := s1.hreg 0x020, energy := 0, regions := ck.regions, steps := s1.graphSteps, shards := es }
    let away := decide (2 ^ 44 ≤ at_) && at_ / 2 ^ 44 != s.modnum
    let image := if away then shards.headD [] else s.catalogueAt (at_ % 2 ^ 44)
    let parts := if away then shards.drop 1 else shards
    let found := (parseCatalogue image).bind (s.chainOf parts ((s.hreg 0x2068).toNat / 32 + parts.length + 1))
    let read := if away then s else s.catalogueSeen (at_ % 2 ^ 44)
    let searched := chain.foldl (fun (s : State) c => if c.prev = 0 then s else (s.ownCatalogue c.prev).elim s s.catalogueSeen) read
    let apply := fun (a : State × List (List Byte) × List Nat) (c : Catalogue) => let r := a.1.applyCheckpoint c (a.2.1.take c.shards.length); (r.1, a.2.1.drop c.shards.length, a.2.2 ++ r.2)
    let note := fun (s : State) (e : Region × Nat) => s.logRegion e.1 (e.2 + 1) 0
    (s.router.off = false → s.answersHibernating owner = false → owner = 0 ∨ (s.slotOf owner).isSome = true → s.appendArea bytes = (s1, some off) → exec (.shardReceive source bytes) s =
      .next { s1 with outbox := s1.outbox ++ [.answer (source % 4096) 0 0 (BitVec.ofNat 256 off)] }) ∧
    (s.router.off = false → s.answersHibernating owner = false → owner ≠ 0 → s.slotOf owner = none → exec (.shardReceive source bytes) s =
      .next { s with outbox := s.outbox ++ [.answer (source % 4096) 0 3 0] }) ∧
    (s.power.checkpoint = some ck → s.memoryStill = false → (ck.shards.filter (fun e => e.1 != ck.own)).length ≤ answers.length → (∀ a ∈ answers, a < 2 ^ 44) →
      s.placeEntries ck.members ck.own answers ck.shards = (s1, some es) → c = sealed.signed s.modnum → s1.appendArea (c.bytes s.modnum) = (s2, some off) →
      ∃ u, exec (.checkpointSeal answers) s = .next u ∧ u.power.checkpoint = none ∧ u.power.chain.getLast? = some { c with addr := off } ∧ u.mem = s2.mem ∧
        u.outbox = s2.outbox ++ (ck.members.filter (· ≠ s.modnum)).map (fun m => OutMsg.shard m (c.bytes s.modnum) 0)) ∧
    (s.hreg 0x3830 = 0 → s.hostWrites = true →
    (s.hbmRange at_ 16 = true → (∀ e ∈ entries, bits e.1 47 44 = 0 ∧ bits e.1 15 0 = 0) → (∀ e ∈ list, ∀ h < 8, s.stackServes h = true ∨ last e ≤ h * 2 ^ 36 ∨ (h + 1) * 2 ^ 36 ≤ first e) → (∀ e ∈ list, last e ≤ 2 ^ 39) → list.length ≤ 1023 →
      list.foldl (fun n e => n + e.2.2.2) 0 ≤ 500 * 16384 → (∀ e ∈ list, apart e save) → list.Pairwise apart → exec (.acclist addr) s =
      .next (({ listed with power := { s.power with list := list } }.setHreg 0x2078 (BitVec.ofNat 64 (warnLevel list))).setHreg 0x2018 (BitVec.ofNat 64 (list.length <<< 32)))) ∧
    (s.ready = true → s.supply = 7 → exec (.restoreResume index) s =
      .next ((s.power.unresumed.filter (fun k => o = 0xFFFF || k = o)).foldl (fun u k => u.resumeOwner k) s)) ∧
    (s.power.checkpoint = none → s.hbmRange at_ 64 = true → bits w 63 56 = 1 → 3 ≤ group → own < group → bits w 55 52 = 0 → bits w 39 1 = 0 →
      bits w 255 (64 + 12 * group) = 0 → bits w 511 256 = 0 → members = named → members.getD own 4096 = s.modnum → (∀ m ∈ members, m < 3072) → members.Nodup →
      seen.captureRegions (w.testBit 0) = (s1, stream, regions) → exec (.ckreq addr) s =
      .next ({ s1 with outbox := s1.outbox ++ sent, power := { s1.power with checkpoint := some taken } }.setCkstat s.lastSeq 1)) ∧
    (s.power.checkpoint = none → s.hbmRange at_ 64 = false → exec (.ckreq addr) s = .next (seen.setCkstat s.lastSeq 5)) ∧
    (s.power.checkpoint = none → found = some chain → chain.getLast? = some k → chain.foldl apply (searched, chainShards chain parts, []) = (s1, lost, []) →
      exec (.ckrestore addr shards) s = .next ((k.regions.zipIdx.foldl note s1).setCkstat k.seq 2)) ∧
    (found = none → exec (.ckrestore addr shards) s = .next (read.setCkstat s.lastSeq 5)))

/-! ### Issue, traps, the step, decoding and invariants -/

/-- A bundle that issues changes of its strand's registers only those its writes and loads name, of the flags nothing
where it raises none, and nothing of HBM4, of any strand's tiles but what it named, or of another strand's registers,
flags and PC; a result of bound 1 stands in its register; PC is the next bundle or the branch's target, and the next issue
waits for the count (R62, R63, R72, R202). -/
def Obligations.BundleFrame : Prop :=
  ∀ (s : State) (k : Cursor) (t : Strand), Tab.rising s.cores = true → Tab.rising (s.core k.core).ctxs = true → s.strand k.core k.ctx = some t →
    let writesSr := fun (n : Nat) => k.shares.any (fun e => match e with | .crw m _ => m == n | _ => false)
    k.holds = [] → k.dues = [] → t.due = [] → writesSr 1 = false →
    let after := s.commit k
    let cycle := (s.core k.core).cycle
    let next := match k.flow with
      | .next => k.pc + BitVec.ofNat 64 k.len
      | .jump pc => pc
    let untouched := fun (d : Dest) => (∀ w ∈ k.writes, w.dst ≠ d) ∧ ∀ l ∈ k.loads, l.dst ≠ d
    (∃ u, after.strand k.core k.ctx = some u ∧ u.pc = next ∧ u.readyAt = cycle + 1 + k.wcnt ∧ u.tiles = t.tiles ∧
      (∀ n, untouched (.reg n) → u.reg n = t.reg n) ∧ (∀ n, untouched (.pred n) → u.predRaw n = t.predRaw n) ∧
      (∀ n, untouched (.lc n) → u.lcRaw n = t.lcRaw n) ∧ (∀ n, untouched (.vec n) → u.vecRaw n = t.vecRaw n) ∧
      (untouched .flags → u.flags = t.flags) ∧ u.reg 0 = t.reg 0 ∧
      (∀ pre w post n, k.writes = pre ++ w :: post → w.dst = .reg n → n ≠ 0 → w.clash = false → w.due ≤ cycle + 1 →
        (∀ e ∈ pre ++ post, e.dst ≠ .reg n) → (∀ l ∈ k.loads, l.dst ≠ .reg n) → (∀ m ∈ t.inflight, m.dst ≠ .reg n) →
        u.reg n = w.val.setWidth 64)) ∧
    (∀ a, after.byte a = s.byte a) ∧
    (k.stores = [] → writesSr 4 = false → ∀ c a, after.spadByte c a = s.spadByte c a) ∧
    (∀ c x v, (c, x) ≠ (k.core, k.ctx) → s.strand c x = some v → ∃ u, after.strand c x = some u ∧ u.regs = v.regs ∧ u.preds = v.preds ∧
      u.lcs = v.lcs ∧ u.vecs = v.vecs ∧ u.tiles = v.tiles ∧ u.flags = v.flags ∧ u.pc = v.pc)

/-- TRAP_ENTRY enters the due trap of a strand, and completes with s28 to s31, a15 and PC set where the trap is not fatal. A trap that is not fatal sets s28 to s31 to PC, INFO, ADDR and CAUSE, a15
to the frame's address and PC to TVEC, and changes no other register; the frame holds the words of Table 1, and TRET's
restore of it gives back s24 to s31, a12 to a15, the loop counters and the PC. What the strand had buffered for the frame's
sectors is performed first (R204, log 103). With TVEC 0 the trap is fatal and ends the gang, whose other strands may still
stand inside bundles that hold them (R313 to R319; log 107). -/
def Obligations.TrapEntry : Prop :=
  ∀ (s : State) (c x : Nat) (i : TrapInfo) (bundle pc : Word) (t : Strand) (e : TlbEntry) (off : Nat), Tab.rising s.cores = true → s.strand c x = some t →
    let q := s.gangSlot t.gang
    let fa := s.frameAddr q c x
    let settled := t.settleAll
    let frame := trapFrame settled i bundle.toNat pc.toNat s.now
    let word := fun (n : Nat) => bits frame (8 * n + 63) (8 * n)
    let async := i.cause = 0x0D ∨ i.cause = 0x0F
    let mine := fun (r : Request) => r.published && r.gang == t.gang && r.member == t.member && r.slot == t.slot
    let mapped := fa % 256 = 0 ∧ e.w = true ∧
      (∀ r ∈ s.reqs, mine r.2 = true → (r.2.core = c ∧ r.2.slotOwner = q) ∨ ∀ p ∈ r.2.parts, p.done = true ∨ p.addr < fa ∨ fa + 256 ≤ p.addr) ∧
      ∀ a ∈ List.range 256, s.tlbHit c q (fa + a) = some e ∧ s.place (e.ppage + (fa + a - e.vpage)) = .local_ (off + a)
    (s.dueTrap c x false = some i → exec (.trapEntry c x) s = .next ((s.setStrand c x { t with due := t.due.erase i }).takeTrap c x i (i.bundle.getD 0) t.pc)) ∧
    (s.dueTrap c x false = some i → mapped → s.slotReg q 0x10 ≠ 0 →
      (i.cause = 0x10 ∨ s.inHandler q (i.bundle.getD 0).toNat = false ∧ (async → s.inHandler q t.pc.toNat = false)) →
      ∃ v u, exec (.trapEntry c x) s = .next v ∧ v.strand c x = some u ∧ u.reg 28 = t.pc ∧ u.reg 29 = i.info ∧ u.reg 30 = i.addr ∧
        u.reg 31 = BitVec.ofNat 64 (causeWord i) ∧ u.reg 47 = BitVec.ofNat 64 fa ∧ u.pc = BitVec.ofNat 64 (s.slotReg q 0x10) ∧
        (∀ n, n ∉ [28, 29, 30, 31, 47] → u.reg n = settled.reg n)) ∧
    (mapped → s.slotReg q 0x10 ≠ 0 → (i.cause = 0x10 ∨ s.inHandler q bundle.toNat = false ∧ (async → s.inHandler q pc.toNat = false)) →
      ∃ u, (s.takeTrap c x i bundle pc).strand c x = some u ∧ u.reg 28 = pc ∧ u.reg 29 = i.info ∧ u.reg 30 = i.addr ∧
        u.reg 31 = BitVec.ofNat 64 (causeWord i) ∧ u.reg 47 = BitVec.ofNat 64 fa ∧ u.pc = BitVec.ofNat 64 (s.slotReg q 0x10) ∧
        (∀ n, n ∉ [28, 29, 30, 31, 47] → u.reg n = settled.reg n) ∧ u.flags = settled.flags ∧ u.preds = settled.preds ∧ u.vecs = settled.vecs ∧
        u.lcs = settled.lcs ∧ u.tiles = settled.tiles) ∧
    (s.slotReg q 0x10 = 0 → ∃ s1 : State, s.takeTrap c x i bundle pc =
      ((s1.logEntry (coreCluster c) { time := s.now, source := coreSource c, cls := 0, code := i.cause, owner := s.gangOwner t.gang, addr := i.addr, detail := bundle, sub := i.sub }).mapStrand c x (fun t => { t with holds := [] })).endGang t.gang 3) ∧
    (word 0x00 = causeWord i % 2 ^ 64 ∧ word 0x08 = pc.toNat ∧ word 0x10 = bundle.toNat ∧ word 0x18 = i.addr.toNat ∧ word 0x20 = i.info.toNat ∧
      word 0x28 = (settled.ssr settled.flags).toNat ∧ word 0x30 = s.now % 2 ^ 64) ∧
    (∀ u : Strand, let r := u.restoreFrame frame
      r.pc = pc ∧ (∀ n, 24 ≤ n → n < 32 → r.reg n = settled.reg n) ∧ (∀ n, 44 ≤ n → n < 48 → r.reg n = settled.reg n) ∧
      (∀ n < 4, r.lcRaw n = settled.lcRaw n) ∧ (∀ n, n < 24 ∨ (32 ≤ n ∧ n < 44) → r.reg n = u.reg n))

/-- A step runs what is at its turn: an event of the agenda, a write of the host once no invalidation is in progress, which
otherwise completes first (R433); the micro-op that the running operation's next word decodes
to; of a core whose one strand that may issue stands at a bundle of one slot, the instruction its word decodes to, whose
bundle then issues or traps. The slots of a longer bundle run one after the other (R60, R62, R153, R157). -/
def Obligations.StepRunsDecoded : Prop :=
  ∀ (s s1 s2 : State) (c x len wcnt : Nat) (i : Instr) (rest : List Turn) (o : MatrixOp) (w : BitVec 64) (t : Strand) (p : Staged) (ps : List Staged)
    (r : Reading) (k : Cursor) (j : TrapInfo),
    let now := { s with agenda := rest }
    let began := now.beginCycle c
    let opened := s1.openBundle c x t len wcnt
    let here : Cursor := { core := c, ctx := x, pc := t.pc, len := len, wcnt := wcnt, begun := s1.nextReq, unsent := !t.phase.isEmpty }
    let slot := here.atSlot p r.defect
    let alone := s.agenda = .issue c :: rest ∧ began.candidates c = [x] ∧ began.strand c x = some t ∧ began.fetch c t = (s1, .bundle [p] len wcnt) ∧
      readSlot (slotClass p.slot) p.word p.parcel = some r ∧ r.instr = i ∧ exec i { s1 with cursor := some slot } = .next s2 ∧ s2.cursor = some k
    (s.agenda = .event i :: rest → (Turn.event i).isHostWrite = false ∨ s.hreg 0x3830 = 0 → step s = andThen (exec i now) (fun u => .next (u.tick s.outbox.length))) ∧
    (s.agenda = .event i :: rest → (Turn.event i).isHostWrite = true → s.hreg 0x3830 ≠ 0 →
      step s = andThen (exec .invalidationComplete s) (fun u => .next (u.tick s.outbox.length))) ∧
    (s.agenda = .micro c :: rest → (s.core c).mq.find? (·.running) = some o → o.words[o.at_]? = some w → decodeMicro w = .ok i → now.mayRunOp c o = true → o.routine ∉ (s.core c).tornWords →
      step s = andThen (exec i { now with cursor := some (microCursor c) }) (fun u => .next (u.tick s.outbox.length))) ∧
    (alone → k.verdict = .go → step s = .next ((s2.commit k).tick s.outbox.length)) ∧
    (alone → k.verdict = .trap j → step s = .next ((began.trapBundle c x j).tick s.outbox.length)) ∧
    (readSlot (slotClass p.slot) p.word p.parcel = some r → opened.runSlots (p :: ps) =
      andThen (exec r.instr { s1 with cursor := some slot }) (fun u => u.runSlots ps))

/-- Decoding is inverse to encoding: the slot word and parcel of every well-formed instruction of a slot decode to it in
its slot class, and the micro-word of every well-formed micro-op to it (R65 to R75, R153). -/
def Obligations.DecodeInvertsEncode : Prop :=
  (∀ (i : Instr) (e : SlotCode), i.WellFormed → encodeSlot i = some e → decodeSlot e.cls e.word (e.parcel.getD 0#16) = .ok i) ∧
  (∀ (i : Instr) (w : BitVec 64), i.WellFormed → encodeMicro i = some w → decodeMicro w = .ok i)

/-- Words that the spec writes out decode to what they stand for; a word with opcode 0 is no instruction in any slot, and KEND's
micro-word is all zeros (R74, R75, R153). -/
def Obligations.DecodeWords : Prop :=
  decodeSlot .b 0xFC000000#32 0#16 = .ok .nop ∧ decodeSlot .b 0x30000000#32 0#16 = .ok .tret ∧ decodeSlot .b 0x34000000#32 0#16 = .ok .hiber ∧
  decodeSlot .e 0x04000003#32 0#16 = .ok (.phase 3#3) ∧ decodeSlot .m 0x04433040#32 0#16 = .ok (.ld 4#6 3#4 3#2 0x40#12) ∧
  decodeSlot .s 0x68A2A6E5#32 0xE377#16 = .ok (.movh 10#6 10#6 0x38DDE6E5#30) ∧
  decodeSlot .v 0x042001C0#32 0#16 = .ok (.vadd 2#6 0#6 1#6 12#4 0#3 0#1) ∧
  decodeSlot .x 0x4000C200#32 0#16 = .ok (.mcall 3#4 2#3 0#8) ∧ decodeMicro 0#64 = .ok .kend ∧
  (∀ (c : SlotClass) (w : BitVec 32) (p : BitVec 16), w.extractLsb' 26 6 = 0#6 → readSlot c w p = none)

/-- The state after reset: nothing is resident, no request, wait or event is on its way, memory lists nothing; cores stand
with AGE 64 and the ranks 3, 2 and 1; the supply is NORMAL, bring-up has not begun and REGSEL puts each cluster on its
regulator. That other registers read 0 where the spec names no value is the model's choice (log 1 to 3). -/
def Obligations.ResetState : Prop :=
  State.reset.cores = [] ∧ State.reset.mem = [] ∧ State.reset.reqs = [] ∧ State.reset.waiters = [] ∧ State.reset.launch.gangs = [] ∧
  State.reset.cursor = none ∧ State.reset.supply = 0 ∧ State.reset.hreg 0x1000 = 0 ∧ State.reset.hreg 0x3800 = 0xFFFFAAAA55550000#64 ∧
  (∀ c x, State.reset.strand c x = none) ∧
  (∀ c, (State.reset.core c).age = 64 ∧ (State.reset.core c).rank 1 = 3 ∧ (State.reset.core c).rank 2 = 2 ∧ (State.reset.core c).rank 3 = 1 ∧
    (State.reset.core c).share.mdef = 0 ∧ (∀ q < 4, (State.reset.core c).credits q = 512) ∧ (State.reset.core c).spadSize = Config.sramBytes)

/-- After reset memory and every scratchpad stand in their canonical form, and the keys of the tables named in TablesOk rise
(the model's own forms; log 2, log 3). -/
def Obligations.ResetMemoryOk : Prop := State.reset.MemoryOk ∧ State.reset.TablesOk

/-- Every step keeps memory and every scratchpad in their canonical form: addresses rising, no entry that reads as an
unlisted byte does (the model's own form; log 2, log 3). -/
def Obligations.StepKeepsMemoryOk : Prop := ∀ (s t : State), s.MemoryOk → step s = .next t → t.MemoryOk

/-- Every step keeps the keys rising of the tables of cores, of each core's contexts and patterns, of host registers, islands
and requests, those that a sealed Catalogue holds included (the model's own form; the other statements' premises on Tab.rising
are parts of it). -/
def Obligations.StepKeepsTablesOk : Prop := ∀ (s t : State), s.TablesOk → step s = .next t → t.TablesOk
end

