-- ==== Sys2Proof/Laws/Exec.lean ====
section
/-! SUPPORT. `exec` of each instruction is a call of its meaning. -/
namespace Sys2Proof.Laws
open Sys2Proof Sys2Proof.Machine

theorem exec_add (d : BitVec 6) (a : BitVec 6) (b : BitVec 6) (ty : BitVec 4) (sat : BitVec 1) (s : State) : exec (.add d a b ty sat) s = execAdd d a b ty sat s := rfl
theorem exec_sub (d : BitVec 6) (a : BitVec 6) (b : BitVec 6) (ty : BitVec 4) (sat : BitVec 1) (s : State) : exec (.sub d a b ty sat) s = execSub d a b ty sat s := rfl
theorem exec_mul (d : BitVec 6) (a : BitVec 6) (b : BitVec 6) (ty : BitVec 4) (sat : BitVec 1) (s : State) : exec (.mul d a b ty sat) s = execMul d a b ty sat s := rfl
theorem exec_mulh (d : BitVec 6) (a : BitVec 6) (b : BitVec 6) (ty : BitVec 4) (s : State) : exec (.mulh d a b ty) s = execMulh d a b ty s := rfl
theorem exec_divs (d : BitVec 6) (a : BitVec 6) (b : BitVec 6) (ty : BitVec 4) (s : State) : exec (.divs d a b ty) s = execDivs d a b ty s := rfl
theorem exec_divn (d : BitVec 6) (a : BitVec 6) (b : BitVec 6) (ty : BitVec 4) (s : State) : exec (.divn d a b ty) s = execDivn d a b ty s := rfl
theorem exec_rem (d : BitVec 6) (a : BitVec 6) (b : BitVec 6) (ty : BitVec 4) (s : State) : exec (.rem d a b ty) s = execRem d a b ty s := rfl
theorem exec_and (d : BitVec 6) (a : BitVec 6) (b : BitVec 6) (ty : BitVec 4) (s : State) : exec (.and d a b ty) s = execAnd d a b ty s := rfl
theorem exec_or (d : BitVec 6) (a : BitVec 6) (b : BitVec 6) (ty : BitVec 4) (s : State) : exec (.or d a b ty) s = execOr d a b ty s := rfl
theorem exec_xor (d : BitVec 6) (a : BitVec 6) (b : BitVec 6) (ty : BitVec 4) (s : State) : exec (.xor d a b ty) s = execXor d a b ty s := rfl
theorem exec_not (d : BitVec 6) (a : BitVec 6) (ty : BitVec 4) (s : State) : exec (.not d a ty) s = execNot d a ty s := rfl
theorem exec_shl (d : BitVec 6) (a : BitVec 6) (b : BitVec 6) (ty : BitVec 4) (s : State) : exec (.shl d a b ty) s = execShl d a b ty s := rfl
theorem exec_shr (d : BitVec 6) (a : BitVec 6) (b : BitVec 6) (ty : BitVec 4) (s : State) : exec (.shr d a b ty) s = execShr d a b ty s := rfl
theorem exec_sar (d : BitVec 6) (a : BitVec 6) (b : BitVec 6) (ty : BitVec 4) (s : State) : exec (.sar d a b ty) s = execSar d a b ty s := rfl
theorem exec_rot (d : BitVec 6) (a : BitVec 6) (b : BitVec 6) (ty : BitVec 4) (s : State) : exec (.rot d a b ty) s = execRot d a b ty s := rfl
theorem exec_min (d : BitVec 6) (a : BitVec 6) (b : BitVec 6) (ty : BitVec 4) (s : State) : exec (.min d a b ty) s = execMin d a b ty s := rfl
theorem exec_max (d : BitVec 6) (a : BitVec 6) (b : BitVec 6) (ty : BitVec 4) (s : State) : exec (.max d a b ty) s = execMax d a b ty s := rfl
theorem exec_cmp (d : BitVec 6) (a : BitVec 6) (b : BitVec 6) (ty : BitVec 4) (cond : BitVec 4) (s : State) : exec (.cmp d a b ty cond) s = execCmp d a b ty cond s := rfl
theorem exec_sel (d : BitVec 6) (a : BitVec 6) (b : BitVec 6) (c : BitVec 6) (s : State) : exec (.sel d a b c) s = execSel d a b c s := rfl
theorem exec_popc (d : BitVec 6) (a : BitVec 6) (ty : BitVec 4) (s : State) : exec (.popc d a ty) s = execPopc d a ty s := rfl
theorem exec_clz (d : BitVec 6) (a : BitVec 6) (ty : BitVec 4) (s : State) : exec (.clz d a ty) s = execClz d a ty s := rfl
theorem exec_ctz (d : BitVec 6) (a : BitVec 6) (ty : BitVec 4) (s : State) : exec (.ctz d a ty) s = execCtz d a ty s := rfl
theorem exec_pack (d : BitVec 6) (a : BitVec 6) (b : BitVec 6) (ty : BitVec 4) (s : State) : exec (.pack d a b ty) s = execPack d a b ty s := rfl
theorem exec_addi (d : BitVec 6) (a : BitVec 6) (imm : BitVec 14) (s : State) : exec (.addi d a imm) s = execAddi d a imm s := rfl
theorem exec_movi (d : BitVec 6) (imm : BitVec 30) (s : State) : exec (.movi d imm) s = execMovi d imm s := rfl
theorem exec_movh (d : BitVec 6) (a : BitVec 6) (imm : BitVec 30) (s : State) : exec (.movh d a imm) s = execMovh d a imm s := rfl
theorem exec_bfx (d : BitVec 6) (a : BitVec 6) (sx : BitVec 1) (pos : BitVec 6) (len : BitVec 6) (s : State) : exec (.bfx d a sx pos len) s = execBfx d a sx pos len s := rfl
theorem exec_bfi (d : BitVec 6) (a : BitVec 6) (pos : BitVec 6) (len : BitVec 6) (s : State) : exec (.bfi d a pos len) s = execBfi d a pos len s := rfl
theorem exec_fadd (d : BitVec 6) (a : BitVec 6) (b : BitVec 6) (ty : BitVec 4) (s : State) : exec (.fadd d a b ty) s = execFadd d a b ty s := rfl
theorem exec_fsub (d : BitVec 6) (a : BitVec 6) (b : BitVec 6) (ty : BitVec 4) (s : State) : exec (.fsub d a b ty) s = execFsub d a b ty s := rfl
theorem exec_fmul (d : BitVec 6) (a : BitVec 6) (b : BitVec 6) (ty : BitVec 4) (s : State) : exec (.fmul d a b ty) s = execFmul d a b ty s := rfl
theorem exec_ffma (d : BitVec 6) (a : BitVec 6) (b : BitVec 6) (ty : BitVec 4) (c : BitVec 6) (s : State) : exec (.ffma d a b ty c) s = execFfma d a b ty c s := rfl
theorem exec_fmin (d : BitVec 6) (a : BitVec 6) (b : BitVec 6) (ty : BitVec 4) (s : State) : exec (.fmin d a b ty) s = execFmin d a b ty s := rfl
theorem exec_fmax (d : BitVec 6) (a : BitVec 6) (b : BitVec 6) (ty : BitVec 4) (s : State) : exec (.fmax d a b ty) s = execFmax d a b ty s := rfl
theorem exec_fcmp (d : BitVec 6) (a : BitVec 6) (b : BitVec 6) (ty : BitVec 4) (cond : BitVec 4) (s : State) : exec (.fcmp d a b ty cond) s = execFcmp d a b ty cond s := rfl
theorem exec_fcvt (d : BitVec 6) (a : BitVec 6) (sty : BitVec 4) (ty : BitVec 4) (rm : BitVec 2) (s : State) : exec (.fcvt d a sty ty rm) s = execFcvt d a sty ty rm s := rfl
theorem exec_dmerge (d : BitVec 6) (a : BitVec 6) (b : BitVec 6) (c : BitVec 6) (greedy : BitVec 1) (s : State) : exec (.dmerge d a b c greedy) s = execDmerge d a b c greedy s := rfl
theorem exec_dscale (d : BitVec 6) (a : BitVec 6) (b : BitVec 6) (mode : BitVec 1) (s : State) : exec (.dscale d a b mode) s = execDscale d a b mode s := rfl
theorem exec_br (zs : BitVec 1) (src : BitVec 5) (off : BitVec 20) (s : State) : exec (.br zs src off) s = execBr zs src off s := rfl
theorem exec_brk (k : BitVec 3) (cond : BitVec 3) (off : BitVec 20) (s : State) : exec (.brk k cond off) s = execBrk k cond off s := rfl
theorem exec_call (src : BitVec 5) (off : BitVec 20) (s : State) : exec (.call src off) s = execCall src off s := rfl
theorem exec_ret (src : BitVec 5) (s : State) : exec (.ret src) s = execRet src s := rfl
theorem exec_loop (n : BitVec 2) (off : BitVec 20) (c : BitVec 6) (imm : BitVec 1) (cnt : BitVec 9) (s : State) : exec (.loop n off c imm cnt) s = execLoop n off c imm cnt s := rfl
theorem exec_endl (n : BitVec 2) (off : BitVec 20) (s : State) : exec (.endl n off) s = execEndl n off s := rfl
theorem exec_yield (a : BitVec 6) (s : State) : exec (.yield a) s = execYield a s := rfl
theorem exec_spawn (d : BitVec 6) (a : BitVec 6) (s : State) : exec (.spawn d a) s = execSpawn d a s := rfl
theorem exec_exit (s : State) : exec .exit s = execExit s := rfl
theorem exec_trap (code : BitVec 8) (s : State) : exec (.trap code) s = execTrap code s := rfl
theorem exec_tret (s : State) : exec .tret s = execTret s := rfl
theorem exec_hiber (s : State) : exec .hiber s = execHiber s := rfl
theorem exec_crr (d : BitVec 6) (cr : BitVec 14) (s : State) : exec (.crr d cr) s = execCrr d cr s := rfl
theorem exec_crw (a : BitVec 6) (cr : BitVec 14) (s : State) : exec (.crw a cr) s = execCrw a cr s := rfl
theorem exec_nop (s : State) : exec .nop s = execNop s := rfl
theorem exec_ld (d : BitVec 6) (a : BitVec 4) (sz : BitVec 2) (off : BitVec 12) (s : State) : exec (.ld d a sz off) s = execLd d a sz off s := rfl
theorem exec_st (d : BitVec 6) (a : BitVec 4) (sz : BitVec 2) (off : BitVec 12) (s : State) : exec (.st d a sz off) s = execSt d a sz off s := rfl
theorem exec_vld (d : BitVec 6) (a : BitVec 4) (k : BitVec 3) (off : BitVec 12) (c : BitVec 6) (reg : BitVec 1) (simm : BitVec 9) (s : State) : exec (.vld d a k off c reg simm) s = execVld d a k off c reg simm s := rfl
theorem exec_vst (d : BitVec 6) (a : BitVec 4) (k : BitVec 3) (off : BitVec 12) (c : BitVec 6) (reg : BitVec 1) (simm : BitVec 9) (s : State) : exec (.vst d a k off c reg simm) s = execVst d a k off c reg simm s := rfl
theorem exec_ldq (d : BitVec 6) (a : BitVec 4) (sz : BitVec 2) (off : BitVec 12) (s : State) : exec (.ldq d a sz off) s = execLdq d a sz off s := rfl
theorem exec_stq (d : BitVec 6) (a : BitVec 4) (sz : BitVec 2) (off : BitVec 12) (s : State) : exec (.stq d a sz off) s = execStq d a sz off s := rfl
theorem exec_ldsec (d : BitVec 6) (a : BitVec 4) (off : BitVec 12) (s : State) : exec (.ldsec d a off) s = execLdsec d a off s := rfl
theorem exec_gatherq (d : BitVec 6) (a : BitVec 4) (sz : BitVec 2) (off : BitVec 12) (c : BitVec 6) (shift : BitVec 2) (k : BitVec 3) (s : State) : exec (.gatherq d a sz off c shift k) s = execGatherq d a sz off c shift k s := rfl
theorem exec_scatterq (d : BitVec 6) (a : BitVec 4) (sz : BitVec 2) (off : BitVec 12) (c : BitVec 6) (shift : BitVec 2) (k : BitVec 3) (s : State) : exec (.scatterq d a sz off c shift k) s = execScatterq d a sz off c shift k s := rfl
theorem exec_stf (d : BitVec 6) (a : BitVec 4) (sz : BitVec 2) (off : BitVec 12) (s : State) : exec (.stf d a sz off) s = execStf d a sz off s := rfl
theorem exec_amo (d : BitVec 6) (a : BitVec 4) (fn : BitVec 4) (off : BitVec 12) (c : BitVec 6) (ret : BitVec 1) (sgn : BitVec 1) (sz : BitVec 2) (newv : BitVec 6) (s : State) : exec (.amo d a fn off c ret sgn sz newv) s = execAmo d a fn off c ret sgn sz newv s := rfl
theorem exec_amoDraw (a : BitVec 4) (off : BitVec 12) (c : BitVec 6) (tag : BitVec 8) (greedy : BitVec 1) (s : State) : exec (.amoDraw a off c tag greedy) s = execAmoDraw a off c tag greedy s := rfl
theorem exec_pref (a : BitVec 4) (ext : BitVec 2) (off : BitVec 12) (s : State) : exec (.pref a ext off) s = execPref a ext off s := rfl
theorem exec_vadd (d : BitVec 6) (a : BitVec 6) (b : BitVec 6) (ty : BitVec 4) (k : BitVec 3) (bw : BitVec 1) (s : State) : exec (.vadd d a b ty k bw) s = execVadd d a b ty k bw s := rfl
theorem exec_vsub (d : BitVec 6) (a : BitVec 6) (b : BitVec 6) (ty : BitVec 4) (k : BitVec 3) (bw : BitVec 1) (s : State) : exec (.vsub d a b ty k bw) s = execVsub d a b ty k bw s := rfl
theorem exec_vmul (d : BitVec 6) (a : BitVec 6) (b : BitVec 6) (ty : BitVec 4) (k : BitVec 3) (bw : BitVec 1) (s : State) : exec (.vmul d a b ty k bw) s = execVmul d a b ty k bw s := rfl
theorem exec_vfma (d : BitVec 6) (a : BitVec 6) (b : BitVec 6) (ty : BitVec 4) (k : BitVec 3) (bw : BitVec 1) (c : BitVec 6) (s : State) : exec (.vfma d a b ty k bw c) s = execVfma d a b ty k bw c s := rfl
theorem exec_vmin (d : BitVec 6) (a : BitVec 6) (b : BitVec 6) (ty : BitVec 4) (k : BitVec 3) (bw : BitVec 1) (s : State) : exec (.vmin d a b ty k bw) s = execVmin d a b ty k bw s := rfl
theorem exec_vmax (d : BitVec 6) (a : BitVec 6) (b : BitVec 6) (ty : BitVec 4) (k : BitVec 3) (bw : BitVec 1) (s : State) : exec (.vmax d a b ty k bw) s = execVmax d a b ty k bw s := rfl
theorem exec_vabs (d : BitVec 6) (a : BitVec 6) (ty : BitVec 4) (k : BitVec 3) (s : State) : exec (.vabs d a ty k) s = execVabs d a ty k s := rfl
theorem exec_vneg (d : BitVec 6) (a : BitVec 6) (ty : BitVec 4) (k : BitVec 3) (s : State) : exec (.vneg d a ty k) s = execVneg d a ty k s := rfl
theorem exec_vand (d : BitVec 6) (a : BitVec 6) (b : BitVec 6) (ty : BitVec 4) (k : BitVec 3) (bw : BitVec 1) (s : State) : exec (.vand d a b ty k bw) s = execVand d a b ty k bw s := rfl
theorem exec_vor (d : BitVec 6) (a : BitVec 6) (b : BitVec 6) (ty : BitVec 4) (k : BitVec 3) (bw : BitVec 1) (s : State) : exec (.vor d a b ty k bw) s = execVor d a b ty k bw s := rfl
theorem exec_vxor (d : BitVec 6) (a : BitVec 6) (b : BitVec 6) (ty : BitVec 4) (k : BitVec 3) (bw : BitVec 1) (s : State) : exec (.vxor d a b ty k bw) s = execVxor d a b ty k bw s := rfl
theorem exec_vnot (d : BitVec 6) (a : BitVec 6) (ty : BitVec 4) (k : BitVec 3) (s : State) : exec (.vnot d a ty k) s = execVnot d a ty k s := rfl
theorem exec_vshl (d : BitVec 6) (a : BitVec 6) (b : BitVec 6) (ty : BitVec 4) (k : BitVec 3) (bw : BitVec 1) (s : State) : exec (.vshl d a b ty k bw) s = execVshl d a b ty k bw s := rfl
theorem exec_vshr (d : BitVec 6) (a : BitVec 6) (b : BitVec 6) (ty : BitVec 4) (k : BitVec 3) (bw : BitVec 1) (s : State) : exec (.vshr d a b ty k bw) s = execVshr d a b ty k bw s := rfl
theorem exec_vcmp (cond : BitVec 3) (p : BitVec 3) (a : BitVec 6) (b : BitVec 6) (ty : BitVec 4) (k : BitVec 3) (bw : BitVec 1) (s : State) : exec (.vcmp cond p a b ty k bw) s = execVcmp cond p a b ty k bw s := rfl
theorem exec_vsel (d : BitVec 6) (a : BitVec 6) (b : BitVec 6) (ty : BitVec 4) (k : BitVec 3) (bw : BitVec 1) (s : State) : exec (.vsel d a b ty k bw) s = execVsel d a b ty k bw s := rfl
theorem exec_vcvt (d : BitVec 6) (a : BitVec 6) (rm : BitVec 2) (sty : BitVec 4) (ty : BitVec 4) (k : BitVec 3) (s : State) : exec (.vcvt d a rm sty ty k) s = execVcvt d a rm sty ty k s := rfl
theorem exec_vquant (d : BitVec 6) (a : BitVec 6) (b : BitVec 6) (ty : BitVec 4) (k : BitVec 3) (bw : BitVec 1) (c : BitVec 6) (rm : BitVec 2) (s : State) : exec (.vquant d a b ty k bw c rm) s = execVquant d a b ty k bw c rm s := rfl
theorem exec_vdeq (d : BitVec 6) (a : BitVec 6) (ty : BitVec 4) (k : BitVec 3) (c : BitVec 6) (half : BitVec 1) (s : State) : exec (.vdeq d a ty k c half) s = execVdeq d a ty k c half s := rfl
theorem exec_vred (d : BitVec 6) (a : BitVec 6) (all : BitVec 1) (fn : BitVec 2) (ty : BitVec 4) (k : BitVec 3) (s : State) : exec (.vred d a all fn ty k) s = execVred d a all fn ty k s := rfl
theorem exec_vscan (d : BitVec 6) (a : BitVec 6) (fn : BitVec 2) (ty : BitVec 4) (k : BitVec 3) (s : State) : exec (.vscan d a fn ty k) s = execVscan d a fn ty k s := rfl
theorem exec_vexp2 (d : BitVec 6) (a : BitVec 6) (ty : BitVec 4) (k : BitVec 3) (s : State) : exec (.vexp2 d a ty k) s = execVexp2 d a ty k s := rfl
theorem exec_vlog2 (d : BitVec 6) (a : BitVec 6) (ty : BitVec 4) (k : BitVec 3) (s : State) : exec (.vlog2 d a ty k) s = execVlog2 d a ty k s := rfl
theorem exec_vrcp (d : BitVec 6) (a : BitVec 6) (ty : BitVec 4) (k : BitVec 3) (s : State) : exec (.vrcp d a ty k) s = execVrcp d a ty k s := rfl
theorem exec_vrsq (d : BitVec 6) (a : BitVec 6) (ty : BitVec 4) (k : BitVec 3) (s : State) : exec (.vrsq d a ty k) s = execVrsq d a ty k s := rfl
theorem exec_vsqrt (d : BitVec 6) (a : BitVec 6) (ty : BitVec 4) (k : BitVec 3) (s : State) : exec (.vsqrt d a ty k) s = execVsqrt d a ty k s := rfl
theorem exec_vtanh (d : BitVec 6) (a : BitVec 6) (ty : BitVec 4) (k : BitVec 3) (s : State) : exec (.vtanh d a ty k) s = execVtanh d a ty k s := rfl
theorem exec_vsig (d : BitVec 6) (a : BitVec 6) (ty : BitVec 4) (k : BitVec 3) (s : State) : exec (.vsig d a ty k) s = execVsig d a ty k s := rfl
theorem exec_vsin (d : BitVec 6) (a : BitVec 6) (ty : BitVec 4) (k : BitVec 3) (s : State) : exec (.vsin d a ty k) s = execVsin d a ty k s := rfl
theorem exec_vcos (d : BitVec 6) (a : BitVec 6) (ty : BitVec 4) (k : BitVec 3) (s : State) : exec (.vcos d a ty k) s = execVcos d a ty k s := rfl
theorem exec_vdraw (d : BitVec 6) (a : BitVec 6) (g : BitVec 3) (k : BitVec 3) (c : BitVec 6) (tag : BitVec 8) (mode : BitVec 1) (all : BitVec 1) (s : State) : exec (.vdraw d a g k c tag mode all) s = execVdraw d a g k c tag mode all s := rfl
theorem exec_shuf (d : BitVec 6) (a : BitVec 6) (b : BitVec 6) (c : BitVec 6) (s : State) : exec (.shuf d a b c) s = execShuf d a b c s := rfl
theorem exec_patld (first : BitVec 6) (a : BitVec 6) (count : BitVec 6) (s : State) : exec (.patld first a count) s = execPatld first a count s := rfl
theorem exec_patsw (s : State) : exec .patsw s = execPatsw s := rfl
theorem exec_xcopy (d : BitVec 6) (a : BitVec 6) (mode : BitVec 2) (dst : BitVec 3) (n : BitVec 3) (s : State) : exec (.xcopy d a mode dst n) s = execXcopy d a mode dst n s := rfl
theorem exec_xbcast (d : BitVec 6) (a : BitVec 6) (lane : BitVec 1) (j : BitVec 4) (g : BitVec 3) (s : State) : exec (.xbcast d a lane j g) s = execXbcast d a lane j g s := rfl
theorem exec_mcall (tag : BitVec 4) (prio : BitVec 3) (n : BitVec 8) (s : State) : exec (.mcall tag prio n) s = execMcall tag prio n s := rfl
theorem exec_mpset (n : BitVec 3) (a : BitVec 6) (s : State) : exec (.mpset n a) s = execMpset n a s := rfl
theorem exec_accrd (d : BitVec 6) (t : BitVec 3) (b : BitVec 6) (idx : BitVec 1) (pair : BitVec 5) (s : State) : exec (.accrd d t b idx pair) s = execAccrd d t b idx pair s := rfl
theorem exec_accwr (t : BitVec 3) (a : BitVec 6) (b : BitVec 6) (idx : BitVec 1) (pair : BitVec 5) (s : State) : exec (.accwr t a b idx pair) s = execAccwr t a b idx pair s := rfl
theorem exec_accz (mask : BitVec 8) (s : State) : exec (.accz mask) s = execAccz mask s := rfl
theorem exec_phase (scope : BitVec 3) (s : State) : exec (.phase scope) s = execPhase scope s := rfl
theorem exec_publish (a : BitVec 6) (s : State) : exec (.publish a) s = execPublish a s := rfl
theorem exec_vwait (d : BitVec 6) (a : BitVec 6) (b : BitVec 6) (s : State) : exec (.vwait d a b) s = execVwait d a b s := rfl
theorem exec_fence (d : BitVec 6) (mask : BitVec 4) (kind : BitVec 1) (s : State) : exec (.fence d mask kind) s = execFence d mask kind s := rfl
theorem exec_copy (a : BitVec 6) (span : BitVec 3) (s : State) : exec (.copy a span) s = execCopy a span s := rfl
theorem exec_drain (s : State) : exec .drain s = execDrain s := rfl
theorem exec_span (d : BitVec 6) (a : BitVec 6) (b : BitVec 6) (s : State) : exec (.span d a b) s = execSpan d a b s := rfl
theorem exec_barrive (a : BitVec 6) (b : BitVec 6) (queue : BitVec 2) (fn : BitVec 2) (s : State) : exec (.barrive a b queue fn) s = execBarrive a b queue fn s := rfl
theorem exec_bwait (d : BitVec 6) (a : BitVec 6) (b : BitVec 6) (queue : BitVec 2) (texp : BitVec 5) (s : State) : exec (.bwait d a b queue texp) s = execBwait d a b queue texp s := rfl
theorem exec_wait (d : BitVec 6) (a : BitVec 6) (b : BitVec 6) (cond : BitVec 3) (texp : BitVec 5) (c : BitVec 6) (space : BitVec 2) (sz : BitVec 1) (queue : BitVec 2) (masked : BitVec 1) (s : State) : exec (.wait d a b cond texp c space sz queue masked) s = execWait d a b cond texp c space sz queue masked s := rfl
theorem exec_mwait (d : BitVec 6) (all : BitVec 1) (tag : BitVec 4) (s : State) : exec (.mwait d all tag) s = execMwait d all tag s := rfl
theorem exec_sbind (d : BitVec 6) (elemsz : BitVec 2) (queue : BitVec 2) (s : State) : exec (.sbind d elemsz queue) s = execSbind d elemsz queue s := rfl
theorem exec_sunbind (d : BitVec 6) (s : State) : exec (.sunbind d) s = execSunbind d s := rfl
theorem exec_ringp (ring : BitVec 3) (a : BitVec 6) (reg : BitVec 1) (count : BitVec 7) (s : State) : exec (.ringp ring a reg count) s = execRingp ring a reg count s := rfl
theorem exec_ringa (ring : BitVec 3) (a : BitVec 6) (reg : BitVec 1) (count : BitVec 7) (s : State) : exec (.ringa ring a reg count) s = execRinga ring a reg count s := rfl
theorem exec_walk (a : BitVec 6) (s : State) : exec (.walk a) s = execWalk a s := rfl
theorem exec_coll (a : BitVec 6) (b : BitVec 6) (s : State) : exec (.coll a b) s = execColl a b s := rfl
theorem exec_lprobe (d : BitVec 6) (a : BitVec 6) (s : State) : exec (.lprobe d a) s = execLprobe d a s := rfl
theorem exec_tsread (d : BitVec 6) (s : State) : exec (.tsread d) s = execTsread d s := rfl
theorem exec_kzero (tile : BitVec 3) (s : State) : exec (.kzero tile) s = execKzero tile s := rfl
theorem exec_kstep (tile : BitVec 3) (ra : BitVec 3) (rb : BitVec 3) (csel : BitVec 6) (ctl : BitVec 4) (imm : BitVec 32) (s : State) : exec (.kstep tile ra rb csel ctl imm) s = execKstep tile ra rb csel ctl imm s := rfl
theorem exec_kloop (csel : BitVec 6) (imm : BitVec 32) (s : State) : exec (.kloop csel imm) s = execKloop csel imm s := rfl
theorem exec_kendl (s : State) : exec .kendl s = execKendl s := rfl
theorem exec_kepi (tile : BitVec 3) (route : BitVec 2) (mp : BitVec 3) (s : State) : exec (.kepi tile route mp) s = execKepi tile route mp s := rfl
theorem exec_krows (tile : BitVec 3) (mp : BitVec 3) (s : State) : exec (.krows tile mp) s = execKrows tile mp s := rfl
theorem exec_ksum (tile : BitVec 3) (s : State) : exec (.ksum tile) s = execKsum tile s := rfl
theorem exec_kend (s : State) : exec .kend s = execKend s := rfl
theorem exec_matrixChoose (core : Nat) (s : State) : exec (.matrixChoose core) s = execMatrixChoose core s := rfl
theorem exec_trapEntry (core : Nat) (ctx : Nat) (s : State) : exec (.trapEntry core ctx) s = execTrapEntry core ctx s := rfl
theorem exec_elementLand (req : Nat) (s : State) : exec (.elementLand req) s = execElementLand req s := rfl
theorem exec_storeAck (req : Nat) (s : State) : exec (.storeAck req) s = execStoreAck req s := rfl
theorem exec_homeRequest (req : Nat) (status : Nat) (data : BitVec 256) (s : State) : exec (.homeRequest req status data) s = execHomeRequest req status data s := rfl
theorem exec_l2Fill (line : Nat) (s : State) : exec (.l2Fill line) s = execL2Fill line s := rfl
theorem exec_setWaitRetry (req : Nat) (s : State) : exec (.setWaitRetry req) s = execSetWaitRetry req s := rfl
theorem exec_waitTimeout (core : Nat) (ctx : Nat) (s : State) : exec (.waitTimeout core ctx) s = execWaitTimeout core ctx s := rfl
theorem exec_barrierArrival (req : Nat) (s : State) : exec (.barrierArrival req) s = execBarrierArrival req s := rfl
theorem exec_pageWalk (req : Nat) (s : State) : exec (.pageWalk req) s = execPageWalk req s := rfl
theorem exec_copyComplete (core : Nat) (span : Nat) (s : State) : exec (.copyComplete core span) s = execCopyComplete core span s := rfl
theorem exec_patldComplete (core : Nat) (s : State) : exec (.patldComplete core) s = execPatldComplete core s := rfl
theorem exec_walkHop (walk : Nat) (s : State) : exec (.walkHop walk) s = execWalkHop walk s := rfl
theorem exec_remoteRequest (msg : RemoteMsg) (s : State) : exec (.remoteRequest msg) s = execRemoteRequest msg s := rfl
theorem exec_hibernatingAnswer (module : Nat) (s : State) : exec (.hibernatingAnswer module) s = execHibernatingAnswer module s := rfl
theorem exec_remoteNoAnswer (req : Nat) (s : State) : exec (.remoteNoAnswer req) s = execRemoteNoAnswer req s := rfl
theorem exec_linkRetry (link : Nat) (s : State) : exec (.linkRetry link) s = execLinkRetry link s := rfl
theorem exec_linkDown (link : Nat) (s : State) : exec (.linkDown link) s = execLinkDown link s := rfl
theorem exec_routeRemove (link : Nat) (s : State) : exec (.routeRemove link) s = execRouteRemove link s := rfl
theorem exec_moduleLost (module : Nat) (s : State) : exec (.moduleLost module) s = execModuleLost module s := rfl
theorem exec_collHandoff (core : Nat) (ctx : Nat) (s : State) : exec (.collHandoff core ctx) s = execCollHandoff core ctx s := rfl
theorem exec_startFlit (graph : Nat) (step : Nat) (key : Nat) (s : State) : exec (.startFlit graph step key) s = execStartFlit graph step key s := rfl
theorem exec_chunkArrival (chunk : ChunkMsg) (s : State) : exec (.chunkArrival chunk) s = execChunkArrival chunk s := rfl
theorem exec_looseFlush (graph : Nat) (step : Nat) (op : Nat) (s : State) : exec (.looseFlush graph step op) s = execLooseFlush graph step op s := rfl
theorem exec_lateAddend (chunk : ChunkMsg) (s : State) : exec (.lateAddend chunk) s = execLateAddend chunk s := rfl
theorem exec_rootReleaseTimeout (graph : Nat) (step : Nat) (s : State) : exec (.rootReleaseTimeout graph step) s = execRootReleaseTimeout graph step s := rfl
theorem exec_abortFlit (msg : AbortMsg) (s : State) : exec (.abortFlit msg) s = execAbortFlit msg s := rfl
theorem exec_replayComplete (graph : Nat) (step : Nat) (s : State) : exec (.replayComplete graph step) s = execReplayComplete graph step s := rfl
theorem exec_route1ChunkApply (core : Nat) (s : State) : exec (.route1ChunkApply core) s = execRoute1ChunkApply core s := rfl
theorem exec_doorbell (queue : Nat) (tail : Nat) (s : State) : exec (.doorbell queue tail) s = execDoorbell queue tail s := rfl
theorem exec_nestTake (queue : Nat) (s : State) : exec (.nestTake queue) s = execNestTake queue s := rfl
theorem exec_nestOffer (s : State) : exec .nestOffer s = execNestOffer s := rfl
theorem exec_gangPlace (cluster : Nat) (s : State) : exec (.gangPlace cluster) s = execGangPlace cluster s := rfl
theorem exec_clusterReserve (cluster : Nat) (s : State) : exec (.clusterReserve cluster) s = execClusterReserve cluster s := rfl
theorem exec_folioPickup (core : Nat) (s : State) : exec (.folioPickup core) s = execFolioPickup core s := rfl
theorem exec_gangPreempt (gang : Nat) (s : State) : exec (.gangPreempt gang) s = execGangPreempt gang s := rfl
theorem exec_gangResume (gang : Nat) (s : State) : exec (.gangResume gang) s = execGangResume gang s := rfl
theorem exec_nestRetire (nest : Nat) (s : State) : exec (.nestRetire nest) s = execNestRetire nest s := rfl
theorem exec_operatingPointChange (island : Nat) (demands : List Nat) (s : State) : exec (.operatingPointChange island demands) s = execOperatingPointChange island demands s := rfl
theorem exec_energyTick (readings : List Nat) (sensors : List Nat) (input : Nat) (reserve : Nat) (s : State) : exec (.energyTick readings sensors input reserve) s = execEnergyTick readings sensors input reserve s := rfl
theorem exec_sensorRetired (sensor : Nat) (s : State) : exec (.sensorRetired sensor) s = execSensorRetired sensor s := rfl
theorem exec_patrolScrub (addr : Nat) (finding : Nat) (s : State) : exec (.patrolScrub addr finding) s = execPatrolScrub addr finding s := rfl
theorem exec_supplyWarning (input : Bool) (reserve : Nat) (s : State) : exec (.supplyWarning input reserve) s = execSupplyWarning input reserve s := rfl
theorem exec_supplyTrap (core : Nat) (ctx : Nat) (s : State) : exec (.supplyTrap core ctx) s = execSupplyTrap core ctx s := rfl
theorem exec_handlerOverrun (core : Nat) (ctx : Nat) (s : State) : exec (.handlerOverrun core ctx) s = execHandlerOverrun core ctx s := rfl
theorem exec_saveComplete (groups : Nat) (s : State) : exec (.saveComplete groups) s = execSaveComplete groups s := rfl
theorem exec_sealed (energy : Nat) (s : State) : exec (.sealed energy) s = execSealed energy s := rfl
theorem exec_enterSag (s : State) : exec .enterSag s = execEnterSag s := rfl
theorem exec_enterShed (reserve : Nat) (s : State) : exec (.enterShed reserve) s = execEnterShed reserve s := rfl
theorem exec_shed (reserve : Nat) (s : State) : exec (.shed reserve) s = execShed reserve s := rfl
theorem exec_clusterRestore (reserve : Nat) (s : State) : exec (.clusterRestore reserve) s = execClusterRestore reserve s := rfl
theorem exec_returnNormal (reserve : Nat) (s : State) : exec (.returnNormal reserve) s = execReturnNormal reserve s := rfl
theorem exec_inputReturn (s : State) : exec .inputReturn s = execInputReturn s := rfl
theorem exec_thermal (s : State) : exec .thermal s = execThermal s := rfl
theorem exec_thermalEnd (s : State) : exec .thermalEnd s = execThermalEnd s := rfl
theorem exec_powerOn (firmware : Bool) (modnum : Nat) (selftest : BitVec 64) (routes : List Route) (s : State) : exec (.powerOn firmware modnum selftest routes) s = execPowerOn firmware modnum selftest routes s := rfl
theorem exec_restoreBegin (reserve : Nat) (s : State) : exec (.restoreBegin reserve) s = execRestoreBegin reserve s := rfl
theorem exec_timeExchange (master : Nat) (error : BitVec 32) (s : State) : exec (.timeExchange master error) s = execTimeExchange master error s := rfl
theorem exec_masterLost (master : Nat) (s : State) : exec (.masterLost master) s = execMasterLost master s := rfl
theorem exec_warmReset (key : BitVec 64) (selftest : BitVec 64) (s : State) : exec (.warmReset key selftest) s = execWarmReset key selftest s := rfl
theorem exec_attestationRequest (addr : Nat) (s : State) : exec (.attestationRequest addr) s = execAttestationRequest addr s := rfl
theorem exec_suspend (slot : Nat) (s : State) : exec (.suspend slot) s = execSuspend slot s := rfl
theorem exec_ownerSuspended (slot : Nat) (s : State) : exec (.ownerSuspended slot) s = execOwnerSuspended slot s := rfl
theorem exec_resume (slot : Nat) (s : State) : exec (.resume slot) s = execResume slot s := rfl
theorem exec_terminate (slot : Nat) (s : State) : exec (.terminate slot) s = execTerminate slot s := rfl
theorem exec_islandsWrite (slot : Nat) (value : BitVec 64) (s : State) : exec (.islandsWrite slot value) s = execIslandsWrite slot value s := rfl
theorem exec_regselWrite (value : BitVec 64) (s : State) : exec (.regselWrite value) s = execRegselWrite value s := rfl
theorem exec_invcmd (value : BitVec 64) (s : State) : exec (.invcmd value) s = execInvcmd value s := rfl
theorem exec_invalidationComplete (s : State) : exec .invalidationComplete s = execInvalidationComplete s := rfl
theorem exec_keyload (addr : Nat) (s : State) : exec (.keyload addr) s = execKeyload addr s := rfl
theorem exec_rtload (value : BitVec 64) (s : State) : exec (.rtload value) s = execRtload value s := rfl
theorem exec_coreRoutineLoad (core : Nat) (s : State) : exec (.coreRoutineLoad core) s = execCoreRoutineLoad core s := rfl
theorem exec_mcload (value : BitVec 64) (s : State) : exec (.mcload value) s = execMcload value s := rfl
theorem exec_vitload (value : BitVec 64) (s : State) : exec (.vitload value) s = execVitload value s := rfl
theorem exec_vitclr (index : Nat) (s : State) : exec (.vitclr index) s = execVitclr index s := rfl
theorem exec_vitrineRemoved (index : Nat) (s : State) : exec (.vitrineRemoved index) s = execVitrineRemoved index s := rfl
theorem exec_gload (addr : Nat) (s : State) : exec (.gload addr) s = execGload addr s := rfl
theorem exec_featDrvWrite (word : Nat) (value : BitVec 64) (s : State) : exec (.featDrvWrite word value) s = execFeatDrvWrite word value s := rfl
theorem exec_acclist (addr : Nat) (s : State) : exec (.acclist addr) s = execAcclist addr s := rfl
theorem exec_restoreResume (owner : Nat) (s : State) : exec (.restoreResume owner) s = execRestoreResume owner s := rfl
theorem exec_ckreq (addr : Nat) (s : State) : exec (.ckreq addr) s = execCkreq addr s := rfl
theorem exec_shardReceive (source : Nat) (data : List Byte) (s : State) : exec (.shardReceive source data) s = execShardReceive source data s := rfl
theorem exec_checkpointSeal (answers : List Nat) (s : State) : exec (.checkpointSeal answers) s = execCheckpointSeal answers s := rfl
theorem exec_ckrestore (addr : Nat) (shards : List (List Byte)) (s : State) : exec (.ckrestore addr shards) s = execCkrestore addr shards s := rfl
theorem exec_trigctlArm (value : BitVec 64) (s : State) : exec (.trigctlArm value) s = execTrigctlArm value s := rfl
theorem exec_trigfire (s : State) : exec .trigfire s = execTrigfire s := rfl
theorem exec_energyLowRead (off : Nat) (s : State) : exec (.energyLowRead off) s = execEnergyLowRead off s := rfl
theorem exec_energyHighRead (off : Nat) (s : State) : exec (.energyHighRead off) s = execEnergyHighRead off s := rfl
theorem exec_hostLoad (addr : Nat) (size : Nat) (s : State) : exec (.hostLoad addr size) s = execHostLoad addr size s := rfl
theorem exec_hostStore (addr : Nat) (mask : BitVec 32) (data : BitVec 256) (s : State) : exec (.hostStore addr mask data) s = execHostStore addr mask data s := rfl
theorem exec_registerWrite (off : Nat) (value : BitVec 64) (s : State) : exec (.registerWrite off value) s = execRegisterWrite off value s := rfl
theorem exec_pathRestored (module : Nat) (paths : List (List Nat)) (s : State) : exec (.pathRestored module paths) s = execPathRestored module paths s := rfl
theorem exec_routerOff (s : State) : exec .routerOff s = execRouterOff s := rfl
theorem exec_timePhaseTimeout (s : State) : exec .timePhaseTimeout s = execTimePhaseTimeout s := rfl

end Sys2Proof.Laws
end

