-- ==== Sys2Proof/Laws/Tab.lean ====
section
/-! SUPPORT. What the operations of sparse tables do: reading after an update, and the canonical form they keep. -/
namespace Sys2Proof.Laws
open Sys2Proof

variable {α : Type}

/-- Every key of a table lies above a bound. -/
def Above (b : Nat) (m : Map α) : Prop := ∀ e ∈ m, b < e.1

theorem above_nil (b : Nat) : Above b ([] : Map α) := by simp [Above]
theorem above_cons {b j : Nat} {v : α} {m : Map α} : Above b ((j, v) :: m) ↔ b < j ∧ Above b m := by simp [Above]
theorem above_mono {a b : Nat} {m : Map α} (h : a ≤ b) (hm : Above b m) : Above a m :=
  fun e he => Nat.lt_of_le_of_lt h (hm e he)

theorem rising_cons {j : Nat} {v : α} {m : Map α} : Tab.rising ((j, v) :: m) = true ↔ Above j m ∧ Tab.rising m = true := by
  induction m generalizing j v with
  | nil => simp [Tab.rising, Above]
  | cons e r ih =>
    obtain ⟨k, w⟩ := e
    simp only [Tab.rising, Bool.and_eq_true, decide_eq_true_eq, above_cons]
    rw [show Tab.rising ((k, w) :: r) = true ↔ _ from ih]
    exact ⟨fun ⟨h, a, b⟩ => ⟨⟨h, above_mono h.le a⟩, a, b⟩, fun ⟨⟨h, _⟩, a, b⟩ => ⟨h, a, b⟩⟩

theorem find?_above {b k : Nat} {m : Map α} (h : Above b m) (hk : k ≤ b) : Tab.find? m k = none := by
  induction m with
  | nil => rfl
  | cons e r ih =>
    obtain ⟨j, v⟩ := e
    rw [above_cons] at h
    rw [Tab.find?, if_neg (by omega)]
    exact ih h.2

theorem find?_put (m : Map α) (k j : Nat) (v : α) : Tab.find? (Tab.put m k v) j = if k = j then some v else Tab.find? m j := by
  induction m with
  | nil => simp [Tab.put, Tab.find?]
  | cons e r ih =>
    obtain ⟨i, w⟩ := e
    unfold Tab.put
    split
    · simp [Tab.find?]
    · split
      · next h => subst h; by_cases hj : i = j <;> simp [Tab.find?, hj]
      · by_cases hj : i = j
        · subst hj; simp [Tab.find?]; intro h; omega
        · simp [Tab.find?, hj, ih]

theorem find?_erase {m : Map α} (h : Tab.rising m = true) (k j : Nat) :
    Tab.find? (Tab.erase m k) j = if k = j then none else Tab.find? m j := by
  induction m with
  | nil => simp [Tab.erase, Tab.find?]
  | cons e r ih =>
    obtain ⟨i, w⟩ := e
    rw [rising_cons] at h
    unfold Tab.erase
    split
    · next hi =>
      subst hi
      by_cases hj : i = j
      · subst hj; rw [if_pos rfl]; exact find?_above h.1 (Nat.le_refl _)
      · simp [Tab.find?, hj]
    · next hi =>
      by_cases hj : i = j
      · subst hj; simp [Tab.find?, Ne.symm hi]
      · simp [Tab.find?, hj, ih h.2]

theorem find?_set [DecidableEq α] {m : Map α} (h : Tab.rising m = true) (d : α) (k j : Nat) (v : α) :
    Tab.find? (Tab.set m d k v) j = if k = j then (if v = d then none else some v) else Tab.find? m j := by
  unfold Tab.set
  split
  · exact find?_erase h k j
  · exact find?_put m k j v

/-- Reading after a write. -/
theorem get_set [DecidableEq α] {m : Map α} (h : Tab.rising m = true) (d : α) (k j : Nat) (v : α) :
    Tab.get (Tab.set m d k v) d j = if k = j then v else Tab.get m d j := by
  unfold Tab.get
  rw [find?_set h]
  split
  · split <;> simp_all
  · rfl

theorem get_set_same [DecidableEq α] {m : Map α} (h : Tab.rising m = true) (d : α) (k : Nat) (v : α) :
    Tab.get (Tab.set m d k v) d k = v := by rw [get_set h, if_pos rfl]

theorem get_set_other [DecidableEq α] {m : Map α} (h : Tab.rising m = true) (d : α) {k j : Nat} (v : α) (hne : k ≠ j) :
    Tab.get (Tab.set m d k v) d j = Tab.get m d j := by rw [get_set h, if_neg hne]

theorem above_put {b k : Nat} {v : α} {m : Map α} (hb : b < k) (h : Above b m) : Above b (Tab.put m k v) := by
  induction m with
  | nil => simpa [Tab.put, Above] using hb
  | cons e r ih =>
    obtain ⟨j, w⟩ := e
    rw [above_cons] at h
    unfold Tab.put
    split
    · exact above_cons.2 ⟨hb, above_cons.2 h⟩
    · split
      · exact above_cons.2 ⟨hb, h.2⟩
      · exact above_cons.2 ⟨h.1, ih h.2⟩

theorem rising_put {k : Nat} {v : α} {m : Map α} (h : Tab.rising m = true) : Tab.rising (Tab.put m k v) = true := by
  induction m with
  | nil => rfl
  | cons e r ih =>
    obtain ⟨j, w⟩ := e
    have h' := rising_cons.1 h
    unfold Tab.put
    split
    · next hk => exact rising_cons.2 ⟨above_cons.2 ⟨hk, above_mono hk.le h'.1⟩, h⟩
    · split
      · next hj => subst hj; exact rising_cons.2 h'
      · next hk hj => exact rising_cons.2 ⟨above_put (by omega) h'.1, ih h'.2⟩

theorem mem_erase {e : Nat × α} {k : Nat} {m : Map α} (h : e ∈ Tab.erase m k) : e ∈ m := by
  induction m with
  | nil => exact h
  | cons x r ih =>
    obtain ⟨j, w⟩ := x
    unfold Tab.erase at h
    split at h
    · exact List.mem_cons_of_mem _ h
    · rcases List.mem_cons.1 h with h | h
      · exact h ▸ List.mem_cons_self
      · exact List.mem_cons_of_mem _ (ih h)

theorem mem_put {e : Nat × α} {k : Nat} {v : α} {m : Map α} (h : e ∈ Tab.put m k v) : e = (k, v) ∨ e ∈ m := by
  induction m with
  | nil => exact .inl (by simpa [Tab.put] using h)
  | cons x r ih =>
    obtain ⟨j, w⟩ := x
    unfold Tab.put at h
    split at h
    · exact (List.mem_cons.1 h).imp id id
    · split at h
      · exact (List.mem_cons.1 h).imp id (List.mem_cons_of_mem _)
      · rcases List.mem_cons.1 h with h | h
        · exact .inr (h ▸ List.mem_cons_self)
        · exact (ih h).imp id (List.mem_cons_of_mem _)

theorem mem_set [DecidableEq α] {e : Nat × α} {d : α} {k : Nat} {v : α} {m : Map α} (h : e ∈ Tab.set m d k v) : e = (k, v) ∨ e ∈ m := by
  unfold Tab.set at h
  split at h
  · exact .inr (mem_erase h)
  · exact mem_put h

theorem above_erase {b k : Nat} {m : Map α} (h : Above b m) : Above b (Tab.erase m k) := fun e he => h e (mem_erase he)

theorem rising_erase {k : Nat} {m : Map α} (h : Tab.rising m = true) : Tab.rising (Tab.erase m k) = true := by
  induction m with
  | nil => rfl
  | cons e r ih =>
    obtain ⟨j, w⟩ := e
    have h' := rising_cons.1 h
    unfold Tab.erase
    split
    · exact h'.2
    · exact rising_cons.2 ⟨above_erase h'.1, ih h'.2⟩

theorem rising_set [DecidableEq α] {d : α} {k : Nat} {v : α} {m : Map α} (h : Tab.rising m = true) : Tab.rising (Tab.set m d k v) = true := by
  unfold Tab.set
  split
  · exact rising_erase h
  · exact rising_put h

theorem rising_filter {m : Map α} (p : Nat × α → Bool) (h : Tab.rising m = true) : Tab.rising (m.filter p) = true := by
  induction m with
  | nil => rfl
  | cons e r ih =>
    obtain ⟨j, w⟩ := e
    have h' := rising_cons.1 h
    rw [List.filter_cons]
    split
    · exact rising_cons.2 ⟨fun e he => h'.1 e (List.mem_filter.1 he).1, ih h'.2⟩
    · exact ih h'.2

theorem canon_iff [DecidableEq α] {d : α} {m : Map α} : Tab.canon d m = true ↔ Tab.rising m = true ∧ ∀ e ∈ m, e.2 ≠ d := by
  simp [Tab.canon]

theorem canon_set [DecidableEq α] {d : α} {m : Map α} (k : Nat) (v : α) (h : Tab.canon d m = true) : Tab.canon d (Tab.set m d k v) = true := by
  rw [canon_iff] at h ⊢
  refine ⟨rising_set h.1, fun e he => ?_⟩
  unfold Tab.set at he
  split at he
  · exact h.2 e (mem_erase he)
  · next hv =>
    rcases mem_put he with rfl | he
    · exact hv
    · exact h.2 e he

theorem canon_filter [DecidableEq α] {d : α} {m : Map α} (p : Nat × α → Bool) (h : Tab.canon d m = true) : Tab.canon d (m.filter p) = true := by
  rw [canon_iff] at h ⊢
  exact ⟨rising_filter p h.1, fun e he => h.2 e (List.mem_filter.1 he).1⟩

/-- Tables in canonical form that read alike are the same table. -/
theorem canon_ext [DecidableEq α] {d : α} {m n : Map α} (hm : Tab.canon d m = true) (hn : Tab.canon d n = true)
    (h : ∀ k, Tab.get m d k = Tab.get n d k) : m = n := by
  rw [canon_iff] at hm hn
  have hf : ∀ k, Tab.find? m k = Tab.find? n k := by
    have mem : ∀ {l : Map α} {k : Nat} {v : α}, Tab.find? l k = some v → (k, v) ∈ l := by
      intro l k v hl
      induction l with
      | nil => simp [Tab.find?] at hl
      | cons e r ih =>
        obtain ⟨j, w⟩ := e
        unfold Tab.find? at hl
        split at hl
        · next hj => subst hj; simp_all
        · exact List.mem_cons_of_mem _ (ih hl)
    intro k
    have hk := h k
    unfold Tab.get at hk
    cases hx : Tab.find? m k with
    | none =>
      cases hy : Tab.find? n k with
      | none => rfl
      | some y => rw [hx, hy] at hk; exact absurd hk.symm (hn.2 _ (mem hy))
    | some x =>
      cases hy : Tab.find? n k with
      | none => rw [hx, hy] at hk; exact absurd hk (hm.2 _ (mem hx))
      | some y => rw [hx, hy] at hk; simp only [Option.getD_some] at hk; rw [hk]
  clear h
  have hrm := hm.1
  have hrn := hn.1
  clear hm hn
  induction m generalizing n with
  | nil =>
    cases n with
    | nil => rfl
    | cons e r => obtain ⟨j, w⟩ := e; have := hf j; simp [Tab.find?] at this
  | cons e r ih =>
    obtain ⟨j, w⟩ := e
    cases n with
    | nil => have := hf j; simp [Tab.find?] at this
    | cons e' r' =>
      obtain ⟨i, u⟩ := e'
      have a := rising_cons.1 hrm
      have b := rising_cons.1 hrn
      have hij : i = j := by
        rcases Nat.lt_trichotomy i j with hlt | heq | hgt
        · have h1 := hf i
          rw [find?_above (above_cons.2 ⟨hlt, above_mono hlt.le a.1⟩) (Nat.le_refl _)] at h1
          simp [Tab.find?] at h1
        · exact heq
        · have h1 := hf j
          rw [find?_above (m := (i, u) :: r') (above_cons.2 ⟨hgt, above_mono hgt.le b.1⟩) (Nat.le_refl _)] at h1
          simp [Tab.find?] at h1
      subst hij
      have hw := hf i
      simp only [Tab.find?, if_pos] at hw
      obtain rfl : w = u := by simpa using hw
      congr 1
      refine ih (fun k => ?_) a.2 b.2
      by_cases hk : i = k
      · subst hk; rw [find?_above a.1 (Nat.le_refl _), find?_above b.1 (Nat.le_refl _)]
      · have := hf k; simpa [Tab.find?, hk] using this

end Sys2Proof.Laws
end

