-- ==== Sys2Proof/Laws/State.lean ====
section
/-! SUPPORT. What each update of the state and of the bundle leaves: one lemma a field an update. -/
namespace Sys2Proof.Laws
open Sys2Proof Sys2Proof.Machine

/-! ### `State.setCore` -/

@[simp] theorem setCore_clusters (s : State) (c : Nat) (k : Core) : (s.setCore c k).clusters = s.clusters := rfl
@[simp] theorem setCore_mem (s : State) (c : Nat) (k : Core) : (s.setCore c k).mem = s.mem := rfl
@[simp] theorem setCore_keys (s : State) (c : Nat) (k : Core) : (s.setCore c k).keys = s.keys := rfl
@[simp] theorem setCore_barriers (s : State) (c : Nat) (k : Core) : (s.setCore c k).barriers = s.barriers := rfl
@[simp] theorem setCore_bad (s : State) (c : Nat) (k : Core) : (s.setCore c k).bad = s.bad := rfl
@[simp] theorem setCore_badL2 (s : State) (c : Nat) (k : Core) : (s.setCore c k).badL2 = s.badL2 := rfl
@[simp] theorem setCore_badSpad (s : State) (c : Nat) (k : Core) : (s.setCore c k).badSpad = s.badSpad := rfl
@[simp] theorem setCore_strikes (s : State) (c : Nat) (k : Core) : (s.setCore c k).strikes = s.strikes := rfl
@[simp] theorem setCore_dirtyMap (s : State) (c : Nat) (k : Core) : (s.setCore c k).dirtyMap = s.dirtyMap := rfl
@[simp] theorem setCore_reqs (s : State) (c : Nat) (k : Core) : (s.setCore c k).reqs = s.reqs := rfl
@[simp] theorem setCore_nextReq (s : State) (c : Nat) (k : Core) : (s.setCore c k).nextReq = s.nextReq := rfl
@[simp] theorem setCore_waiters (s : State) (c : Nat) (k : Core) : (s.setCore c k).waiters = s.waiters := rfl
@[simp] theorem setCore_walks (s : State) (c : Nat) (k : Core) : (s.setCore c k).walks = s.walks := rfl
@[simp] theorem setCore_vitrines (s : State) (c : Nat) (k : Core) : (s.setCore c k).vitrines = s.vitrines := rfl
@[simp] theorem setCore_groups (s : State) (c : Nat) (k : Core) : (s.setCore c k).groups = s.groups := rfl
@[simp] theorem setCore_coll (s : State) (c : Nat) (k : Core) : (s.setCore c k).coll = s.coll := rfl
@[simp] theorem setCore_router (s : State) (c : Nat) (k : Core) : (s.setCore c k).router = s.router := rfl
@[simp] theorem setCore_outbox (s : State) (c : Nat) (k : Core) : (s.setCore c k).outbox = s.outbox := rfl
@[simp] theorem setCore_launch (s : State) (c : Nat) (k : Core) : (s.setCore c k).launch = s.launch := rfl
@[simp] theorem setCore_islands (s : State) (c : Nat) (k : Core) : (s.setCore c k).islands = s.islands := rfl
@[simp] theorem setCore_power (s : State) (c : Nat) (k : Core) : (s.setCore c k).power = s.power := rfl
@[simp] theorem setCore_owners (s : State) (c : Nat) (k : Core) : (s.setCore c k).owners = s.owners := rfl
@[simp] theorem setCore_host (s : State) (c : Nat) (k : Core) : (s.setCore c k).host = s.host := rfl
@[simp] theorem setCore_now (s : State) (c : Nat) (k : Core) : (s.setCore c k).now = s.now := rfl
@[simp] theorem setCore_agenda (s : State) (c : Nat) (k : Core) : (s.setCore c k).agenda = s.agenda := rfl
@[simp] theorem setCore_turnNo (s : State) (c : Nat) (k : Core) : (s.setCore c k).turnNo = s.turnNo := rfl
@[simp] theorem setCore_cursor (s : State) (c : Nat) (k : Core) : (s.setCore c k).cursor = s.cursor := rfl
@[simp] theorem setCore_free (s : State) (c : Nat) (k : Core) : (s.setCore c k).free = s.free := rfl

/-! ### `State.mapCore` -/

@[simp] theorem mapCore_clusters (s : State) (c : Nat) (f : Core → Core) : (s.mapCore c f).clusters = s.clusters := rfl
@[simp] theorem mapCore_mem (s : State) (c : Nat) (f : Core → Core) : (s.mapCore c f).mem = s.mem := rfl
@[simp] theorem mapCore_keys (s : State) (c : Nat) (f : Core → Core) : (s.mapCore c f).keys = s.keys := rfl
@[simp] theorem mapCore_barriers (s : State) (c : Nat) (f : Core → Core) : (s.mapCore c f).barriers = s.barriers := rfl
@[simp] theorem mapCore_bad (s : State) (c : Nat) (f : Core → Core) : (s.mapCore c f).bad = s.bad := rfl
@[simp] theorem mapCore_badL2 (s : State) (c : Nat) (f : Core → Core) : (s.mapCore c f).badL2 = s.badL2 := rfl
@[simp] theorem mapCore_badSpad (s : State) (c : Nat) (f : Core → Core) : (s.mapCore c f).badSpad = s.badSpad := rfl
@[simp] theorem mapCore_strikes (s : State) (c : Nat) (f : Core → Core) : (s.mapCore c f).strikes = s.strikes := rfl
@[simp] theorem mapCore_dirtyMap (s : State) (c : Nat) (f : Core → Core) : (s.mapCore c f).dirtyMap = s.dirtyMap := rfl
@[simp] theorem mapCore_reqs (s : State) (c : Nat) (f : Core → Core) : (s.mapCore c f).reqs = s.reqs := rfl
@[simp] theorem mapCore_nextReq (s : State) (c : Nat) (f : Core → Core) : (s.mapCore c f).nextReq = s.nextReq := rfl
@[simp] theorem mapCore_waiters (s : State) (c : Nat) (f : Core → Core) : (s.mapCore c f).waiters = s.waiters := rfl
@[simp] theorem mapCore_walks (s : State) (c : Nat) (f : Core → Core) : (s.mapCore c f).walks = s.walks := rfl
@[simp] theorem mapCore_vitrines (s : State) (c : Nat) (f : Core → Core) : (s.mapCore c f).vitrines = s.vitrines := rfl
@[simp] theorem mapCore_groups (s : State) (c : Nat) (f : Core → Core) : (s.mapCore c f).groups = s.groups := rfl
@[simp] theorem mapCore_coll (s : State) (c : Nat) (f : Core → Core) : (s.mapCore c f).coll = s.coll := rfl
@[simp] theorem mapCore_router (s : State) (c : Nat) (f : Core → Core) : (s.mapCore c f).router = s.router := rfl
@[simp] theorem mapCore_outbox (s : State) (c : Nat) (f : Core → Core) : (s.mapCore c f).outbox = s.outbox := rfl
@[simp] theorem mapCore_launch (s : State) (c : Nat) (f : Core → Core) : (s.mapCore c f).launch = s.launch := rfl
@[simp] theorem mapCore_islands (s : State) (c : Nat) (f : Core → Core) : (s.mapCore c f).islands = s.islands := rfl
@[simp] theorem mapCore_power (s : State) (c : Nat) (f : Core → Core) : (s.mapCore c f).power = s.power := rfl
@[simp] theorem mapCore_owners (s : State) (c : Nat) (f : Core → Core) : (s.mapCore c f).owners = s.owners := rfl
@[simp] theorem mapCore_host (s : State) (c : Nat) (f : Core → Core) : (s.mapCore c f).host = s.host := rfl
@[simp] theorem mapCore_now (s : State) (c : Nat) (f : Core → Core) : (s.mapCore c f).now = s.now := rfl
@[simp] theorem mapCore_agenda (s : State) (c : Nat) (f : Core → Core) : (s.mapCore c f).agenda = s.agenda := rfl
@[simp] theorem mapCore_turnNo (s : State) (c : Nat) (f : Core → Core) : (s.mapCore c f).turnNo = s.turnNo := rfl
@[simp] theorem mapCore_cursor (s : State) (c : Nat) (f : Core → Core) : (s.mapCore c f).cursor = s.cursor := rfl
@[simp] theorem mapCore_free (s : State) (c : Nat) (f : Core → Core) : (s.mapCore c f).free = s.free := rfl

/-! ### `State.setStrand` -/

@[simp] theorem setStrand_clusters (s : State) (c x : Nat) (t : Strand) : (s.setStrand c x t).clusters = s.clusters := rfl
@[simp] theorem setStrand_mem (s : State) (c x : Nat) (t : Strand) : (s.setStrand c x t).mem = s.mem := rfl
@[simp] theorem setStrand_keys (s : State) (c x : Nat) (t : Strand) : (s.setStrand c x t).keys = s.keys := rfl
@[simp] theorem setStrand_barriers (s : State) (c x : Nat) (t : Strand) : (s.setStrand c x t).barriers = s.barriers := rfl
@[simp] theorem setStrand_bad (s : State) (c x : Nat) (t : Strand) : (s.setStrand c x t).bad = s.bad := rfl
@[simp] theorem setStrand_badL2 (s : State) (c x : Nat) (t : Strand) : (s.setStrand c x t).badL2 = s.badL2 := rfl
@[simp] theorem setStrand_badSpad (s : State) (c x : Nat) (t : Strand) : (s.setStrand c x t).badSpad = s.badSpad := rfl
@[simp] theorem setStrand_strikes (s : State) (c x : Nat) (t : Strand) : (s.setStrand c x t).strikes = s.strikes := rfl
@[simp] theorem setStrand_dirtyMap (s : State) (c x : Nat) (t : Strand) : (s.setStrand c x t).dirtyMap = s.dirtyMap := rfl
@[simp] theorem setStrand_reqs (s : State) (c x : Nat) (t : Strand) : (s.setStrand c x t).reqs = s.reqs := rfl
@[simp] theorem setStrand_nextReq (s : State) (c x : Nat) (t : Strand) : (s.setStrand c x t).nextReq = s.nextReq := rfl
@[simp] theorem setStrand_waiters (s : State) (c x : Nat) (t : Strand) : (s.setStrand c x t).waiters = s.waiters := rfl
@[simp] theorem setStrand_walks (s : State) (c x : Nat) (t : Strand) : (s.setStrand c x t).walks = s.walks := rfl
@[simp] theorem setStrand_vitrines (s : State) (c x : Nat) (t : Strand) : (s.setStrand c x t).vitrines = s.vitrines := rfl
@[simp] theorem setStrand_groups (s : State) (c x : Nat) (t : Strand) : (s.setStrand c x t).groups = s.groups := rfl
@[simp] theorem setStrand_coll (s : State) (c x : Nat) (t : Strand) : (s.setStrand c x t).coll = s.coll := rfl
@[simp] theorem setStrand_router (s : State) (c x : Nat) (t : Strand) : (s.setStrand c x t).router = s.router := rfl
@[simp] theorem setStrand_outbox (s : State) (c x : Nat) (t : Strand) : (s.setStrand c x t).outbox = s.outbox := rfl
@[simp] theorem setStrand_launch (s : State) (c x : Nat) (t : Strand) : (s.setStrand c x t).launch = s.launch := rfl
@[simp] theorem setStrand_islands (s : State) (c x : Nat) (t : Strand) : (s.setStrand c x t).islands = s.islands := rfl
@[simp] theorem setStrand_power (s : State) (c x : Nat) (t : Strand) : (s.setStrand c x t).power = s.power := rfl
@[simp] theorem setStrand_owners (s : State) (c x : Nat) (t : Strand) : (s.setStrand c x t).owners = s.owners := rfl
@[simp] theorem setStrand_host (s : State) (c x : Nat) (t : Strand) : (s.setStrand c x t).host = s.host := rfl
@[simp] theorem setStrand_now (s : State) (c x : Nat) (t : Strand) : (s.setStrand c x t).now = s.now := rfl
@[simp] theorem setStrand_agenda (s : State) (c x : Nat) (t : Strand) : (s.setStrand c x t).agenda = s.agenda := rfl
@[simp] theorem setStrand_turnNo (s : State) (c x : Nat) (t : Strand) : (s.setStrand c x t).turnNo = s.turnNo := rfl
@[simp] theorem setStrand_cursor (s : State) (c x : Nat) (t : Strand) : (s.setStrand c x t).cursor = s.cursor := rfl
@[simp] theorem setStrand_free (s : State) (c x : Nat) (t : Strand) : (s.setStrand c x t).free = s.free := rfl

/-! ### `State.mapStrand` -/

@[simp] theorem mapStrand_clusters (s : State) (c x : Nat) (f : Strand → Strand) : (s.mapStrand c x f).clusters = s.clusters := by unfold State.mapStrand; split <;> rfl
@[simp] theorem mapStrand_mem (s : State) (c x : Nat) (f : Strand → Strand) : (s.mapStrand c x f).mem = s.mem := by unfold State.mapStrand; split <;> rfl
@[simp] theorem mapStrand_keys (s : State) (c x : Nat) (f : Strand → Strand) : (s.mapStrand c x f).keys = s.keys := by unfold State.mapStrand; split <;> rfl
@[simp] theorem mapStrand_barriers (s : State) (c x : Nat) (f : Strand → Strand) : (s.mapStrand c x f).barriers = s.barriers := by unfold State.mapStrand; split <;> rfl
@[simp] theorem mapStrand_bad (s : State) (c x : Nat) (f : Strand → Strand) : (s.mapStrand c x f).bad = s.bad := by unfold State.mapStrand; split <;> rfl
@[simp] theorem mapStrand_badL2 (s : State) (c x : Nat) (f : Strand → Strand) : (s.mapStrand c x f).badL2 = s.badL2 := by unfold State.mapStrand; split <;> rfl
@[simp] theorem mapStrand_badSpad (s : State) (c x : Nat) (f : Strand → Strand) : (s.mapStrand c x f).badSpad = s.badSpad := by unfold State.mapStrand; split <;> rfl
@[simp] theorem mapStrand_strikes (s : State) (c x : Nat) (f : Strand → Strand) : (s.mapStrand c x f).strikes = s.strikes := by unfold State.mapStrand; split <;> rfl
@[simp] theorem mapStrand_dirtyMap (s : State) (c x : Nat) (f : Strand → Strand) : (s.mapStrand c x f).dirtyMap = s.dirtyMap := by unfold State.mapStrand; split <;> rfl
@[simp] theorem mapStrand_reqs (s : State) (c x : Nat) (f : Strand → Strand) : (s.mapStrand c x f).reqs = s.reqs := by unfold State.mapStrand; split <;> rfl
@[simp] theorem mapStrand_nextReq (s : State) (c x : Nat) (f : Strand → Strand) : (s.mapStrand c x f).nextReq = s.nextReq := by unfold State.mapStrand; split <;> rfl
@[simp] theorem mapStrand_waiters (s : State) (c x : Nat) (f : Strand → Strand) : (s.mapStrand c x f).waiters = s.waiters := by unfold State.mapStrand; split <;> rfl
@[simp] theorem mapStrand_walks (s : State) (c x : Nat) (f : Strand → Strand) : (s.mapStrand c x f).walks = s.walks := by unfold State.mapStrand; split <;> rfl
@[simp] theorem mapStrand_vitrines (s : State) (c x : Nat) (f : Strand → Strand) : (s.mapStrand c x f).vitrines = s.vitrines := by unfold State.mapStrand; split <;> rfl
@[simp] theorem mapStrand_groups (s : State) (c x : Nat) (f : Strand → Strand) : (s.mapStrand c x f).groups = s.groups := by unfold State.mapStrand; split <;> rfl
@[simp] theorem mapStrand_coll (s : State) (c x : Nat) (f : Strand → Strand) : (s.mapStrand c x f).coll = s.coll := by unfold State.mapStrand; split <;> rfl
@[simp] theorem mapStrand_router (s : State) (c x : Nat) (f : Strand → Strand) : (s.mapStrand c x f).router = s.router := by unfold State.mapStrand; split <;> rfl
@[simp] theorem mapStrand_outbox (s : State) (c x : Nat) (f : Strand → Strand) : (s.mapStrand c x f).outbox = s.outbox := by unfold State.mapStrand; split <;> rfl
@[simp] theorem mapStrand_launch (s : State) (c x : Nat) (f : Strand → Strand) : (s.mapStrand c x f).launch = s.launch := by unfold State.mapStrand; split <;> rfl
@[simp] theorem mapStrand_islands (s : State) (c x : Nat) (f : Strand → Strand) : (s.mapStrand c x f).islands = s.islands := by unfold State.mapStrand; split <;> rfl
@[simp] theorem mapStrand_power (s : State) (c x : Nat) (f : Strand → Strand) : (s.mapStrand c x f).power = s.power := by unfold State.mapStrand; split <;> rfl
@[simp] theorem mapStrand_owners (s : State) (c x : Nat) (f : Strand → Strand) : (s.mapStrand c x f).owners = s.owners := by unfold State.mapStrand; split <;> rfl
@[simp] theorem mapStrand_host (s : State) (c x : Nat) (f : Strand → Strand) : (s.mapStrand c x f).host = s.host := by unfold State.mapStrand; split <;> rfl
@[simp] theorem mapStrand_now (s : State) (c x : Nat) (f : Strand → Strand) : (s.mapStrand c x f).now = s.now := by unfold State.mapStrand; split <;> rfl
@[simp] theorem mapStrand_agenda (s : State) (c x : Nat) (f : Strand → Strand) : (s.mapStrand c x f).agenda = s.agenda := by unfold State.mapStrand; split <;> rfl
@[simp] theorem mapStrand_turnNo (s : State) (c x : Nat) (f : Strand → Strand) : (s.mapStrand c x f).turnNo = s.turnNo := by unfold State.mapStrand; split <;> rfl
@[simp] theorem mapStrand_cursor (s : State) (c x : Nat) (f : Strand → Strand) : (s.mapStrand c x f).cursor = s.cursor := by unfold State.mapStrand; split <;> rfl
@[simp] theorem mapStrand_free (s : State) (c x : Nat) (f : Strand → Strand) : (s.mapStrand c x f).free = s.free := by unfold State.mapStrand; split <;> rfl

/-! ### `State.setCluster` -/

@[simp] theorem setCluster_cores (s : State) (c : Nat) (k : Cluster) : (s.setCluster c k).cores = s.cores := rfl
@[simp] theorem setCluster_mem (s : State) (c : Nat) (k : Cluster) : (s.setCluster c k).mem = s.mem := rfl
@[simp] theorem setCluster_keys (s : State) (c : Nat) (k : Cluster) : (s.setCluster c k).keys = s.keys := rfl
@[simp] theorem setCluster_barriers (s : State) (c : Nat) (k : Cluster) : (s.setCluster c k).barriers = s.barriers := rfl
@[simp] theorem setCluster_bad (s : State) (c : Nat) (k : Cluster) : (s.setCluster c k).bad = s.bad := rfl
@[simp] theorem setCluster_badL2 (s : State) (c : Nat) (k : Cluster) : (s.setCluster c k).badL2 = s.badL2 := rfl
@[simp] theorem setCluster_badSpad (s : State) (c : Nat) (k : Cluster) : (s.setCluster c k).badSpad = s.badSpad := rfl
@[simp] theorem setCluster_strikes (s : State) (c : Nat) (k : Cluster) : (s.setCluster c k).strikes = s.strikes := rfl
@[simp] theorem setCluster_dirtyMap (s : State) (c : Nat) (k : Cluster) : (s.setCluster c k).dirtyMap = s.dirtyMap := rfl
@[simp] theorem setCluster_reqs (s : State) (c : Nat) (k : Cluster) : (s.setCluster c k).reqs = s.reqs := rfl
@[simp] theorem setCluster_nextReq (s : State) (c : Nat) (k : Cluster) : (s.setCluster c k).nextReq = s.nextReq := rfl
@[simp] theorem setCluster_waiters (s : State) (c : Nat) (k : Cluster) : (s.setCluster c k).waiters = s.waiters := rfl
@[simp] theorem setCluster_walks (s : State) (c : Nat) (k : Cluster) : (s.setCluster c k).walks = s.walks := rfl
@[simp] theorem setCluster_vitrines (s : State) (c : Nat) (k : Cluster) : (s.setCluster c k).vitrines = s.vitrines := rfl
@[simp] theorem setCluster_groups (s : State) (c : Nat) (k : Cluster) : (s.setCluster c k).groups = s.groups := rfl
@[simp] theorem setCluster_coll (s : State) (c : Nat) (k : Cluster) : (s.setCluster c k).coll = s.coll := rfl
@[simp] theorem setCluster_router (s : State) (c : Nat) (k : Cluster) : (s.setCluster c k).router = s.router := rfl
@[simp] theorem setCluster_outbox (s : State) (c : Nat) (k : Cluster) : (s.setCluster c k).outbox = s.outbox := rfl
@[simp] theorem setCluster_launch (s : State) (c : Nat) (k : Cluster) : (s.setCluster c k).launch = s.launch := rfl
@[simp] theorem setCluster_islands (s : State) (c : Nat) (k : Cluster) : (s.setCluster c k).islands = s.islands := rfl
@[simp] theorem setCluster_power (s : State) (c : Nat) (k : Cluster) : (s.setCluster c k).power = s.power := rfl
@[simp] theorem setCluster_owners (s : State) (c : Nat) (k : Cluster) : (s.setCluster c k).owners = s.owners := rfl
@[simp] theorem setCluster_host (s : State) (c : Nat) (k : Cluster) : (s.setCluster c k).host = s.host := rfl
@[simp] theorem setCluster_now (s : State) (c : Nat) (k : Cluster) : (s.setCluster c k).now = s.now := rfl
@[simp] theorem setCluster_agenda (s : State) (c : Nat) (k : Cluster) : (s.setCluster c k).agenda = s.agenda := rfl
@[simp] theorem setCluster_turnNo (s : State) (c : Nat) (k : Cluster) : (s.setCluster c k).turnNo = s.turnNo := rfl
@[simp] theorem setCluster_cursor (s : State) (c : Nat) (k : Cluster) : (s.setCluster c k).cursor = s.cursor := rfl
@[simp] theorem setCluster_free (s : State) (c : Nat) (k : Cluster) : (s.setCluster c k).free = s.free := rfl

/-! ### `State.setHreg` -/

@[simp] theorem setHreg_cores (s : State) (a : Nat) (v : Word) : (s.setHreg a v).cores = s.cores := rfl
@[simp] theorem setHreg_clusters (s : State) (a : Nat) (v : Word) : (s.setHreg a v).clusters = s.clusters := rfl
@[simp] theorem setHreg_mem (s : State) (a : Nat) (v : Word) : (s.setHreg a v).mem = s.mem := rfl
@[simp] theorem setHreg_keys (s : State) (a : Nat) (v : Word) : (s.setHreg a v).keys = s.keys := rfl
@[simp] theorem setHreg_barriers (s : State) (a : Nat) (v : Word) : (s.setHreg a v).barriers = s.barriers := rfl
@[simp] theorem setHreg_bad (s : State) (a : Nat) (v : Word) : (s.setHreg a v).bad = s.bad := rfl
@[simp] theorem setHreg_badL2 (s : State) (a : Nat) (v : Word) : (s.setHreg a v).badL2 = s.badL2 := rfl
@[simp] theorem setHreg_badSpad (s : State) (a : Nat) (v : Word) : (s.setHreg a v).badSpad = s.badSpad := rfl
@[simp] theorem setHreg_strikes (s : State) (a : Nat) (v : Word) : (s.setHreg a v).strikes = s.strikes := rfl
@[simp] theorem setHreg_dirtyMap (s : State) (a : Nat) (v : Word) : (s.setHreg a v).dirtyMap = s.dirtyMap := rfl
@[simp] theorem setHreg_reqs (s : State) (a : Nat) (v : Word) : (s.setHreg a v).reqs = s.reqs := rfl
@[simp] theorem setHreg_nextReq (s : State) (a : Nat) (v : Word) : (s.setHreg a v).nextReq = s.nextReq := rfl
@[simp] theorem setHreg_waiters (s : State) (a : Nat) (v : Word) : (s.setHreg a v).waiters = s.waiters := rfl
@[simp] theorem setHreg_walks (s : State) (a : Nat) (v : Word) : (s.setHreg a v).walks = s.walks := rfl
@[simp] theorem setHreg_vitrines (s : State) (a : Nat) (v : Word) : (s.setHreg a v).vitrines = s.vitrines := rfl
@[simp] theorem setHreg_groups (s : State) (a : Nat) (v : Word) : (s.setHreg a v).groups = s.groups := rfl
@[simp] theorem setHreg_coll (s : State) (a : Nat) (v : Word) : (s.setHreg a v).coll = s.coll := rfl
@[simp] theorem setHreg_router (s : State) (a : Nat) (v : Word) : (s.setHreg a v).router = s.router := rfl
@[simp] theorem setHreg_outbox (s : State) (a : Nat) (v : Word) : (s.setHreg a v).outbox = s.outbox := rfl
@[simp] theorem setHreg_launch (s : State) (a : Nat) (v : Word) : (s.setHreg a v).launch = s.launch := rfl
@[simp] theorem setHreg_islands (s : State) (a : Nat) (v : Word) : (s.setHreg a v).islands = s.islands := rfl
@[simp] theorem setHreg_power (s : State) (a : Nat) (v : Word) : (s.setHreg a v).power = s.power := rfl
@[simp] theorem setHreg_owners (s : State) (a : Nat) (v : Word) : (s.setHreg a v).owners = s.owners := rfl
@[simp] theorem setHreg_now (s : State) (a : Nat) (v : Word) : (s.setHreg a v).now = s.now := rfl
@[simp] theorem setHreg_agenda (s : State) (a : Nat) (v : Word) : (s.setHreg a v).agenda = s.agenda := rfl
@[simp] theorem setHreg_turnNo (s : State) (a : Nat) (v : Word) : (s.setHreg a v).turnNo = s.turnNo := rfl
@[simp] theorem setHreg_cursor (s : State) (a : Nat) (v : Word) : (s.setHreg a v).cursor = s.cursor := rfl
@[simp] theorem setHreg_free (s : State) (a : Nat) (v : Word) : (s.setHreg a v).free = s.free := rfl

/-! ### `State.setGang` -/

@[simp] theorem setGang_cores (s : State) (g : Nat) (v : Gang) : (s.setGang g v).cores = s.cores := rfl
@[simp] theorem setGang_clusters (s : State) (g : Nat) (v : Gang) : (s.setGang g v).clusters = s.clusters := rfl
@[simp] theorem setGang_mem (s : State) (g : Nat) (v : Gang) : (s.setGang g v).mem = s.mem := rfl
@[simp] theorem setGang_keys (s : State) (g : Nat) (v : Gang) : (s.setGang g v).keys = s.keys := rfl
@[simp] theorem setGang_barriers (s : State) (g : Nat) (v : Gang) : (s.setGang g v).barriers = s.barriers := rfl
@[simp] theorem setGang_bad (s : State) (g : Nat) (v : Gang) : (s.setGang g v).bad = s.bad := rfl
@[simp] theorem setGang_badL2 (s : State) (g : Nat) (v : Gang) : (s.setGang g v).badL2 = s.badL2 := rfl
@[simp] theorem setGang_badSpad (s : State) (g : Nat) (v : Gang) : (s.setGang g v).badSpad = s.badSpad := rfl
@[simp] theorem setGang_strikes (s : State) (g : Nat) (v : Gang) : (s.setGang g v).strikes = s.strikes := rfl
@[simp] theorem setGang_dirtyMap (s : State) (g : Nat) (v : Gang) : (s.setGang g v).dirtyMap = s.dirtyMap := rfl
@[simp] theorem setGang_reqs (s : State) (g : Nat) (v : Gang) : (s.setGang g v).reqs = s.reqs := rfl
@[simp] theorem setGang_nextReq (s : State) (g : Nat) (v : Gang) : (s.setGang g v).nextReq = s.nextReq := rfl
@[simp] theorem setGang_waiters (s : State) (g : Nat) (v : Gang) : (s.setGang g v).waiters = s.waiters := rfl
@[simp] theorem setGang_walks (s : State) (g : Nat) (v : Gang) : (s.setGang g v).walks = s.walks := rfl
@[simp] theorem setGang_vitrines (s : State) (g : Nat) (v : Gang) : (s.setGang g v).vitrines = s.vitrines := rfl
@[simp] theorem setGang_groups (s : State) (g : Nat) (v : Gang) : (s.setGang g v).groups = s.groups := rfl
@[simp] theorem setGang_coll (s : State) (g : Nat) (v : Gang) : (s.setGang g v).coll = s.coll := rfl
@[simp] theorem setGang_router (s : State) (g : Nat) (v : Gang) : (s.setGang g v).router = s.router := rfl
@[simp] theorem setGang_outbox (s : State) (g : Nat) (v : Gang) : (s.setGang g v).outbox = s.outbox := rfl
@[simp] theorem setGang_islands (s : State) (g : Nat) (v : Gang) : (s.setGang g v).islands = s.islands := rfl
@[simp] theorem setGang_power (s : State) (g : Nat) (v : Gang) : (s.setGang g v).power = s.power := rfl
@[simp] theorem setGang_owners (s : State) (g : Nat) (v : Gang) : (s.setGang g v).owners = s.owners := rfl
@[simp] theorem setGang_host (s : State) (g : Nat) (v : Gang) : (s.setGang g v).host = s.host := rfl
@[simp] theorem setGang_now (s : State) (g : Nat) (v : Gang) : (s.setGang g v).now = s.now := rfl
@[simp] theorem setGang_agenda (s : State) (g : Nat) (v : Gang) : (s.setGang g v).agenda = s.agenda := rfl
@[simp] theorem setGang_turnNo (s : State) (g : Nat) (v : Gang) : (s.setGang g v).turnNo = s.turnNo := rfl
@[simp] theorem setGang_cursor (s : State) (g : Nat) (v : Gang) : (s.setGang g v).cursor = s.cursor := rfl
@[simp] theorem setGang_free (s : State) (g : Nat) (v : Gang) : (s.setGang g v).free = s.free := rfl

/-! ### `State.setNest` -/

@[simp] theorem setNest_cores (s : State) (n : Nat) (v : Nest) : (s.setNest n v).cores = s.cores := rfl
@[simp] theorem setNest_clusters (s : State) (n : Nat) (v : Nest) : (s.setNest n v).clusters = s.clusters := rfl
@[simp] theorem setNest_mem (s : State) (n : Nat) (v : Nest) : (s.setNest n v).mem = s.mem := rfl
@[simp] theorem setNest_keys (s : State) (n : Nat) (v : Nest) : (s.setNest n v).keys = s.keys := rfl
@[simp] theorem setNest_barriers (s : State) (n : Nat) (v : Nest) : (s.setNest n v).barriers = s.barriers := rfl
@[simp] theorem setNest_bad (s : State) (n : Nat) (v : Nest) : (s.setNest n v).bad = s.bad := rfl
@[simp] theorem setNest_badL2 (s : State) (n : Nat) (v : Nest) : (s.setNest n v).badL2 = s.badL2 := rfl
@[simp] theorem setNest_badSpad (s : State) (n : Nat) (v : Nest) : (s.setNest n v).badSpad = s.badSpad := rfl
@[simp] theorem setNest_strikes (s : State) (n : Nat) (v : Nest) : (s.setNest n v).strikes = s.strikes := rfl
@[simp] theorem setNest_dirtyMap (s : State) (n : Nat) (v : Nest) : (s.setNest n v).dirtyMap = s.dirtyMap := rfl
@[simp] theorem setNest_reqs (s : State) (n : Nat) (v : Nest) : (s.setNest n v).reqs = s.reqs := rfl
@[simp] theorem setNest_nextReq (s : State) (n : Nat) (v : Nest) : (s.setNest n v).nextReq = s.nextReq := rfl
@[simp] theorem setNest_waiters (s : State) (n : Nat) (v : Nest) : (s.setNest n v).waiters = s.waiters := rfl
@[simp] theorem setNest_walks (s : State) (n : Nat) (v : Nest) : (s.setNest n v).walks = s.walks := rfl
@[simp] theorem setNest_vitrines (s : State) (n : Nat) (v : Nest) : (s.setNest n v).vitrines = s.vitrines := rfl
@[simp] theorem setNest_groups (s : State) (n : Nat) (v : Nest) : (s.setNest n v).groups = s.groups := rfl
@[simp] theorem setNest_coll (s : State) (n : Nat) (v : Nest) : (s.setNest n v).coll = s.coll := rfl
@[simp] theorem setNest_router (s : State) (n : Nat) (v : Nest) : (s.setNest n v).router = s.router := rfl
@[simp] theorem setNest_outbox (s : State) (n : Nat) (v : Nest) : (s.setNest n v).outbox = s.outbox := rfl
@[simp] theorem setNest_islands (s : State) (n : Nat) (v : Nest) : (s.setNest n v).islands = s.islands := rfl
@[simp] theorem setNest_power (s : State) (n : Nat) (v : Nest) : (s.setNest n v).power = s.power := rfl
@[simp] theorem setNest_owners (s : State) (n : Nat) (v : Nest) : (s.setNest n v).owners = s.owners := rfl
@[simp] theorem setNest_host (s : State) (n : Nat) (v : Nest) : (s.setNest n v).host = s.host := rfl
@[simp] theorem setNest_now (s : State) (n : Nat) (v : Nest) : (s.setNest n v).now = s.now := rfl
@[simp] theorem setNest_agenda (s : State) (n : Nat) (v : Nest) : (s.setNest n v).agenda = s.agenda := rfl
@[simp] theorem setNest_turnNo (s : State) (n : Nat) (v : Nest) : (s.setNest n v).turnNo = s.turnNo := rfl
@[simp] theorem setNest_cursor (s : State) (n : Nat) (v : Nest) : (s.setNest n v).cursor = s.cursor := rfl
@[simp] theorem setNest_free (s : State) (n : Nat) (v : Nest) : (s.setNest n v).free = s.free := rfl

/-! ### `State.setHbmSector` -/

@[simp] theorem setHbmSector_cores (s : State) (pa key v : Nat) : (s.setHbmSector pa key v).cores = s.cores := rfl
@[simp] theorem setHbmSector_clusters (s : State) (pa key v : Nat) : (s.setHbmSector pa key v).clusters = s.clusters := rfl
@[simp] theorem setHbmSector_barriers (s : State) (pa key v : Nat) : (s.setHbmSector pa key v).barriers = s.barriers := rfl
@[simp] theorem setHbmSector_badL2 (s : State) (pa key v : Nat) : (s.setHbmSector pa key v).badL2 = s.badL2 := rfl
@[simp] theorem setHbmSector_badSpad (s : State) (pa key v : Nat) : (s.setHbmSector pa key v).badSpad = s.badSpad := rfl
@[simp] theorem setHbmSector_strikes (s : State) (pa key v : Nat) : (s.setHbmSector pa key v).strikes = s.strikes := rfl
@[simp] theorem setHbmSector_dirtyMap (s : State) (pa key v : Nat) : (s.setHbmSector pa key v).dirtyMap = s.dirtyMap := rfl
@[simp] theorem setHbmSector_reqs (s : State) (pa key v : Nat) : (s.setHbmSector pa key v).reqs = s.reqs := rfl
@[simp] theorem setHbmSector_nextReq (s : State) (pa key v : Nat) : (s.setHbmSector pa key v).nextReq = s.nextReq := rfl
@[simp] theorem setHbmSector_waiters (s : State) (pa key v : Nat) : (s.setHbmSector pa key v).waiters = s.waiters := rfl
@[simp] theorem setHbmSector_walks (s : State) (pa key v : Nat) : (s.setHbmSector pa key v).walks = s.walks := rfl
@[simp] theorem setHbmSector_vitrines (s : State) (pa key v : Nat) : (s.setHbmSector pa key v).vitrines = s.vitrines := rfl
@[simp] theorem setHbmSector_groups (s : State) (pa key v : Nat) : (s.setHbmSector pa key v).groups = s.groups := rfl
@[simp] theorem setHbmSector_coll (s : State) (pa key v : Nat) : (s.setHbmSector pa key v).coll = s.coll := rfl
@[simp] theorem setHbmSector_router (s : State) (pa key v : Nat) : (s.setHbmSector pa key v).router = s.router := rfl
@[simp] theorem setHbmSector_outbox (s : State) (pa key v : Nat) : (s.setHbmSector pa key v).outbox = s.outbox := rfl
@[simp] theorem setHbmSector_launch (s : State) (pa key v : Nat) : (s.setHbmSector pa key v).launch = s.launch := rfl
@[simp] theorem setHbmSector_islands (s : State) (pa key v : Nat) : (s.setHbmSector pa key v).islands = s.islands := rfl
@[simp] theorem setHbmSector_power (s : State) (pa key v : Nat) : (s.setHbmSector pa key v).power = s.power := rfl
@[simp] theorem setHbmSector_owners (s : State) (pa key v : Nat) : (s.setHbmSector pa key v).owners = s.owners := rfl
@[simp] theorem setHbmSector_host (s : State) (pa key v : Nat) : (s.setHbmSector pa key v).host = s.host := rfl
@[simp] theorem setHbmSector_now (s : State) (pa key v : Nat) : (s.setHbmSector pa key v).now = s.now := rfl
@[simp] theorem setHbmSector_agenda (s : State) (pa key v : Nat) : (s.setHbmSector pa key v).agenda = s.agenda := rfl
@[simp] theorem setHbmSector_turnNo (s : State) (pa key v : Nat) : (s.setHbmSector pa key v).turnNo = s.turnNo := rfl
@[simp] theorem setHbmSector_cursor (s : State) (pa key v : Nat) : (s.setHbmSector pa key v).cursor = s.cursor := rfl
@[simp] theorem setHbmSector_free (s : State) (pa key v : Nat) : (s.setHbmSector pa key v).free = s.free := rfl

/-! ### Updates of the bundle -/

@[simp] theorem writeMarked_st (b : Bun) (d : Dest) (v : BitVec 4096) (n : Nat) (p : Option Nat) : (b.writeMarked d v n p).st = b.st := rfl
@[simp] theorem writeMarked_core (b : Bun) (d : Dest) (v : BitVec 4096) (n : Nat) (p : Option Nat) : (b.writeMarked d v n p).cur.core = b.cur.core := rfl
@[simp] theorem writeMarked_ctx (b : Bun) (d : Dest) (v : BitVec 4096) (n : Nat) (p : Option Nat) : (b.writeMarked d v n p).cur.ctx = b.cur.ctx := rfl
@[simp] theorem writeMarked_pc (b : Bun) (d : Dest) (v : BitVec 4096) (n : Nat) (p : Option Nat) : (b.writeMarked d v n p).cur.pc = b.cur.pc := rfl
@[simp] theorem writeMarked_len (b : Bun) (d : Dest) (v : BitVec 4096) (n : Nat) (p : Option Nat) : (b.writeMarked d v n p).cur.len = b.cur.len := rfl
@[simp] theorem writeMarked_slot (b : Bun) (d : Dest) (v : BitVec 4096) (n : Nat) (p : Option Nat) : (b.writeMarked d v n p).cur.slot = b.cur.slot := rfl
@[simp] theorem writeMarked_wcnt (b : Bun) (d : Dest) (v : BitVec 4096) (n : Nat) (p : Option Nat) : (b.writeMarked d v n p).cur.wcnt = b.cur.wcnt := rfl
@[simp] theorem writeMarked_begun (b : Bun) (d : Dest) (v : BitVec 4096) (n : Nat) (p : Option Nat) : (b.writeMarked d v n p).cur.begun = b.cur.begun := rfl
@[simp] theorem writeMarked_unsent (b : Bun) (d : Dest) (v : BitVec 4096) (n : Nat) (p : Option Nat) : (b.writeMarked d v n p).cur.unsent = b.cur.unsent := rfl
@[simp] theorem writeMarked_pfx (b : Bun) (d : Dest) (v : BitVec 4096) (n : Nat) (p : Option Nat) : (b.writeMarked d v n p).cur.pfx = b.cur.pfx := rfl
@[simp] theorem writeMarked_defect (b : Bun) (d : Dest) (v : BitVec 4096) (n : Nat) (p : Option Nat) : (b.writeMarked d v n p).cur.defect = b.cur.defect := rfl
@[simp] theorem writeMarked_verdict (b : Bun) (d : Dest) (v : BitVec 4096) (n : Nat) (p : Option Nat) : (b.writeMarked d v n p).cur.verdict = b.cur.verdict := rfl
@[simp] theorem writeMarked_shares (b : Bun) (d : Dest) (v : BitVec 4096) (n : Nat) (p : Option Nat) : (b.writeMarked d v n p).cur.shares = b.cur.shares := rfl
@[simp] theorem writeMarked_pops (b : Bun) (d : Dest) (v : BitVec 4096) (n : Nat) (p : Option Nat) : (b.writeMarked d v n p).cur.pops = b.cur.pops := rfl
@[simp] theorem writeMarked_flow (b : Bun) (d : Dest) (v : BitVec 4096) (n : Nat) (p : Option Nat) : (b.writeMarked d v n p).cur.flow = b.cur.flow := rfl
@[simp] theorem writeMarked_dues (b : Bun) (d : Dest) (v : BitVec 4096) (n : Nat) (p : Option Nat) : (b.writeMarked d v n p).cur.dues = b.cur.dues := rfl
@[simp] theorem writeMarked_holds (b : Bun) (d : Dest) (v : BitVec 4096) (n : Nat) (p : Option Nat) : (b.writeMarked d v n p).cur.holds = b.cur.holds := rfl
@[simp] theorem writeMarked_dests (b : Bun) (d : Dest) (v : BitVec 4096) (n : Nat) (p : Option Nat) : (b.writeMarked d v n p).cur.dests = b.cur.dests := rfl
@[simp] theorem writeMarked_loads (b : Bun) (d : Dest) (v : BitVec 4096) (n : Nat) (p : Option Nat) : (b.writeMarked d v n p).cur.loads = b.cur.loads := rfl
@[simp] theorem writeMarked_stores (b : Bun) (d : Dest) (v : BitVec 4096) (n : Nat) (p : Option Nat) : (b.writeMarked d v n p).cur.stores = b.cur.stores := rfl

@[simp] theorem writePredicted_st (b : Bun) (x : BitVec 6) (v : Word) (n : Nat) (p : Option Nat) : (b.writePredicted x v n p).st = b.st := by unfold Bun.writePredicted; split <;> rfl
@[simp] theorem writePredicted_core (b : Bun) (x : BitVec 6) (v : Word) (n : Nat) (p : Option Nat) : (b.writePredicted x v n p).cur.core = b.cur.core := by unfold Bun.writePredicted; split <;> rfl
@[simp] theorem writePredicted_ctx (b : Bun) (x : BitVec 6) (v : Word) (n : Nat) (p : Option Nat) : (b.writePredicted x v n p).cur.ctx = b.cur.ctx := by unfold Bun.writePredicted; split <;> rfl
@[simp] theorem writePredicted_pc (b : Bun) (x : BitVec 6) (v : Word) (n : Nat) (p : Option Nat) : (b.writePredicted x v n p).cur.pc = b.cur.pc := by unfold Bun.writePredicted; split <;> rfl
@[simp] theorem writePredicted_len (b : Bun) (x : BitVec 6) (v : Word) (n : Nat) (p : Option Nat) : (b.writePredicted x v n p).cur.len = b.cur.len := by unfold Bun.writePredicted; split <;> rfl
@[simp] theorem writePredicted_slot (b : Bun) (x : BitVec 6) (v : Word) (n : Nat) (p : Option Nat) : (b.writePredicted x v n p).cur.slot = b.cur.slot := by unfold Bun.writePredicted; split <;> rfl
@[simp] theorem writePredicted_wcnt (b : Bun) (x : BitVec 6) (v : Word) (n : Nat) (p : Option Nat) : (b.writePredicted x v n p).cur.wcnt = b.cur.wcnt := by unfold Bun.writePredicted; split <;> rfl
@[simp] theorem writePredicted_begun (b : Bun) (x : BitVec 6) (v : Word) (n : Nat) (p : Option Nat) : (b.writePredicted x v n p).cur.begun = b.cur.begun := by unfold Bun.writePredicted; split <;> rfl
@[simp] theorem writePredicted_unsent (b : Bun) (x : BitVec 6) (v : Word) (n : Nat) (p : Option Nat) : (b.writePredicted x v n p).cur.unsent = b.cur.unsent := by unfold Bun.writePredicted; split <;> rfl
@[simp] theorem writePredicted_pfx (b : Bun) (x : BitVec 6) (v : Word) (n : Nat) (p : Option Nat) : (b.writePredicted x v n p).cur.pfx = b.cur.pfx := by unfold Bun.writePredicted; split <;> rfl
@[simp] theorem writePredicted_defect (b : Bun) (x : BitVec 6) (v : Word) (n : Nat) (p : Option Nat) : (b.writePredicted x v n p).cur.defect = b.cur.defect := by unfold Bun.writePredicted; split <;> rfl
@[simp] theorem writePredicted_verdict (b : Bun) (x : BitVec 6) (v : Word) (n : Nat) (p : Option Nat) : (b.writePredicted x v n p).cur.verdict = b.cur.verdict := by unfold Bun.writePredicted; split <;> rfl
@[simp] theorem writePredicted_shares (b : Bun) (x : BitVec 6) (v : Word) (n : Nat) (p : Option Nat) : (b.writePredicted x v n p).cur.shares = b.cur.shares := by unfold Bun.writePredicted; split <;> rfl
@[simp] theorem writePredicted_pops (b : Bun) (x : BitVec 6) (v : Word) (n : Nat) (p : Option Nat) : (b.writePredicted x v n p).cur.pops = b.cur.pops := by unfold Bun.writePredicted; split <;> rfl
@[simp] theorem writePredicted_flow (b : Bun) (x : BitVec 6) (v : Word) (n : Nat) (p : Option Nat) : (b.writePredicted x v n p).cur.flow = b.cur.flow := by unfold Bun.writePredicted; split <;> rfl
@[simp] theorem writePredicted_dues (b : Bun) (x : BitVec 6) (v : Word) (n : Nat) (p : Option Nat) : (b.writePredicted x v n p).cur.dues = b.cur.dues := by unfold Bun.writePredicted; split <;> rfl
@[simp] theorem writePredicted_holds (b : Bun) (x : BitVec 6) (v : Word) (n : Nat) (p : Option Nat) : (b.writePredicted x v n p).cur.holds = b.cur.holds := by unfold Bun.writePredicted; split <;> rfl
@[simp] theorem writePredicted_dests (b : Bun) (x : BitVec 6) (v : Word) (n : Nat) (p : Option Nat) : (b.writePredicted x v n p).cur.dests = b.cur.dests := by unfold Bun.writePredicted; split <;> rfl
@[simp] theorem writePredicted_loads (b : Bun) (x : BitVec 6) (v : Word) (n : Nat) (p : Option Nat) : (b.writePredicted x v n p).cur.loads = b.cur.loads := by unfold Bun.writePredicted; split <;> rfl
@[simp] theorem writePredicted_stores (b : Bun) (x : BitVec 6) (v : Word) (n : Nat) (p : Option Nat) : (b.writePredicted x v n p).cur.stores = b.cur.stores := by unfold Bun.writePredicted; split <;> rfl

@[simp] theorem writePred_st (b : Bun) (x : BitVec 3) (v : Pred) (n : Nat) : (b.writePred x v n).st = b.st := by unfold Bun.writePred; split <;> rfl
@[simp] theorem writePred_core (b : Bun) (x : BitVec 3) (v : Pred) (n : Nat) : (b.writePred x v n).cur.core = b.cur.core := by unfold Bun.writePred; split <;> rfl
@[simp] theorem writePred_ctx (b : Bun) (x : BitVec 3) (v : Pred) (n : Nat) : (b.writePred x v n).cur.ctx = b.cur.ctx := by unfold Bun.writePred; split <;> rfl
@[simp] theorem writePred_pc (b : Bun) (x : BitVec 3) (v : Pred) (n : Nat) : (b.writePred x v n).cur.pc = b.cur.pc := by unfold Bun.writePred; split <;> rfl
@[simp] theorem writePred_len (b : Bun) (x : BitVec 3) (v : Pred) (n : Nat) : (b.writePred x v n).cur.len = b.cur.len := by unfold Bun.writePred; split <;> rfl
@[simp] theorem writePred_slot (b : Bun) (x : BitVec 3) (v : Pred) (n : Nat) : (b.writePred x v n).cur.slot = b.cur.slot := by unfold Bun.writePred; split <;> rfl
@[simp] theorem writePred_wcnt (b : Bun) (x : BitVec 3) (v : Pred) (n : Nat) : (b.writePred x v n).cur.wcnt = b.cur.wcnt := by unfold Bun.writePred; split <;> rfl
@[simp] theorem writePred_begun (b : Bun) (x : BitVec 3) (v : Pred) (n : Nat) : (b.writePred x v n).cur.begun = b.cur.begun := by unfold Bun.writePred; split <;> rfl
@[simp] theorem writePred_unsent (b : Bun) (x : BitVec 3) (v : Pred) (n : Nat) : (b.writePred x v n).cur.unsent = b.cur.unsent := by unfold Bun.writePred; split <;> rfl
@[simp] theorem writePred_pfx (b : Bun) (x : BitVec 3) (v : Pred) (n : Nat) : (b.writePred x v n).cur.pfx = b.cur.pfx := by unfold Bun.writePred; split <;> rfl
@[simp] theorem writePred_defect (b : Bun) (x : BitVec 3) (v : Pred) (n : Nat) : (b.writePred x v n).cur.defect = b.cur.defect := by unfold Bun.writePred; split <;> rfl
@[simp] theorem writePred_verdict (b : Bun) (x : BitVec 3) (v : Pred) (n : Nat) : (b.writePred x v n).cur.verdict = b.cur.verdict := by unfold Bun.writePred; split <;> rfl
@[simp] theorem writePred_shares (b : Bun) (x : BitVec 3) (v : Pred) (n : Nat) : (b.writePred x v n).cur.shares = b.cur.shares := by unfold Bun.writePred; split <;> rfl
@[simp] theorem writePred_pops (b : Bun) (x : BitVec 3) (v : Pred) (n : Nat) : (b.writePred x v n).cur.pops = b.cur.pops := by unfold Bun.writePred; split <;> rfl
@[simp] theorem writePred_flow (b : Bun) (x : BitVec 3) (v : Pred) (n : Nat) : (b.writePred x v n).cur.flow = b.cur.flow := by unfold Bun.writePred; split <;> rfl
@[simp] theorem writePred_dues (b : Bun) (x : BitVec 3) (v : Pred) (n : Nat) : (b.writePred x v n).cur.dues = b.cur.dues := by unfold Bun.writePred; split <;> rfl
@[simp] theorem writePred_holds (b : Bun) (x : BitVec 3) (v : Pred) (n : Nat) : (b.writePred x v n).cur.holds = b.cur.holds := by unfold Bun.writePred; split <;> rfl
@[simp] theorem writePred_dests (b : Bun) (x : BitVec 3) (v : Pred) (n : Nat) : (b.writePred x v n).cur.dests = b.cur.dests := by unfold Bun.writePred; split <;> rfl
@[simp] theorem writePred_loads (b : Bun) (x : BitVec 3) (v : Pred) (n : Nat) : (b.writePred x v n).cur.loads = b.cur.loads := by unfold Bun.writePred; split <;> rfl
@[simp] theorem writePred_stores (b : Bun) (x : BitVec 3) (v : Pred) (n : Nat) : (b.writePred x v n).cur.stores = b.cur.stores := by unfold Bun.writePred; split <;> rfl

@[simp] theorem raise_st (b : Bun) (f : BitVec 6) (n : Nat) : (b.raise f n).st = b.st := by unfold Bun.raise; split <;> rfl
@[simp] theorem raise_core (b : Bun) (f : BitVec 6) (n : Nat) : (b.raise f n).cur.core = b.cur.core := by unfold Bun.raise; split <;> rfl
@[simp] theorem raise_ctx (b : Bun) (f : BitVec 6) (n : Nat) : (b.raise f n).cur.ctx = b.cur.ctx := by unfold Bun.raise; split <;> rfl
@[simp] theorem raise_pc (b : Bun) (f : BitVec 6) (n : Nat) : (b.raise f n).cur.pc = b.cur.pc := by unfold Bun.raise; split <;> rfl
@[simp] theorem raise_len (b : Bun) (f : BitVec 6) (n : Nat) : (b.raise f n).cur.len = b.cur.len := by unfold Bun.raise; split <;> rfl
@[simp] theorem raise_slot (b : Bun) (f : BitVec 6) (n : Nat) : (b.raise f n).cur.slot = b.cur.slot := by unfold Bun.raise; split <;> rfl
@[simp] theorem raise_wcnt (b : Bun) (f : BitVec 6) (n : Nat) : (b.raise f n).cur.wcnt = b.cur.wcnt := by unfold Bun.raise; split <;> rfl
@[simp] theorem raise_begun (b : Bun) (f : BitVec 6) (n : Nat) : (b.raise f n).cur.begun = b.cur.begun := by unfold Bun.raise; split <;> rfl
@[simp] theorem raise_unsent (b : Bun) (f : BitVec 6) (n : Nat) : (b.raise f n).cur.unsent = b.cur.unsent := by unfold Bun.raise; split <;> rfl
@[simp] theorem raise_pfx (b : Bun) (f : BitVec 6) (n : Nat) : (b.raise f n).cur.pfx = b.cur.pfx := by unfold Bun.raise; split <;> rfl
@[simp] theorem raise_defect (b : Bun) (f : BitVec 6) (n : Nat) : (b.raise f n).cur.defect = b.cur.defect := by unfold Bun.raise; split <;> rfl
@[simp] theorem raise_verdict (b : Bun) (f : BitVec 6) (n : Nat) : (b.raise f n).cur.verdict = b.cur.verdict := by unfold Bun.raise; split <;> rfl
@[simp] theorem raise_shares (b : Bun) (f : BitVec 6) (n : Nat) : (b.raise f n).cur.shares = b.cur.shares := by unfold Bun.raise; split <;> rfl
@[simp] theorem raise_pops (b : Bun) (f : BitVec 6) (n : Nat) : (b.raise f n).cur.pops = b.cur.pops := by unfold Bun.raise; split <;> rfl
@[simp] theorem raise_flow (b : Bun) (f : BitVec 6) (n : Nat) : (b.raise f n).cur.flow = b.cur.flow := by unfold Bun.raise; split <;> rfl
@[simp] theorem raise_dues (b : Bun) (f : BitVec 6) (n : Nat) : (b.raise f n).cur.dues = b.cur.dues := by unfold Bun.raise; split <;> rfl
@[simp] theorem raise_holds (b : Bun) (f : BitVec 6) (n : Nat) : (b.raise f n).cur.holds = b.cur.holds := by unfold Bun.raise; split <;> rfl
@[simp] theorem raise_dests (b : Bun) (f : BitVec 6) (n : Nat) : (b.raise f n).cur.dests = b.cur.dests := by unfold Bun.raise; split <;> rfl
@[simp] theorem raise_loads (b : Bun) (f : BitVec 6) (n : Nat) : (b.raise f n).cur.loads = b.cur.loads := by unfold Bun.raise; split <;> rfl
@[simp] theorem raise_stores (b : Bun) (f : BitVec 6) (n : Nat) : (b.raise f n).cur.stores = b.cur.stores := by unfold Bun.raise; split <;> rfl

@[simp] theorem shareWrite_st (b : Bun) (w : ShareWrite) : (b.shareWrite w).st = b.st := rfl
@[simp] theorem shareWrite_core (b : Bun) (w : ShareWrite) : (b.shareWrite w).cur.core = b.cur.core := rfl
@[simp] theorem shareWrite_ctx (b : Bun) (w : ShareWrite) : (b.shareWrite w).cur.ctx = b.cur.ctx := rfl
@[simp] theorem shareWrite_pc (b : Bun) (w : ShareWrite) : (b.shareWrite w).cur.pc = b.cur.pc := rfl
@[simp] theorem shareWrite_len (b : Bun) (w : ShareWrite) : (b.shareWrite w).cur.len = b.cur.len := rfl
@[simp] theorem shareWrite_slot (b : Bun) (w : ShareWrite) : (b.shareWrite w).cur.slot = b.cur.slot := rfl
@[simp] theorem shareWrite_wcnt (b : Bun) (w : ShareWrite) : (b.shareWrite w).cur.wcnt = b.cur.wcnt := rfl
@[simp] theorem shareWrite_begun (b : Bun) (w : ShareWrite) : (b.shareWrite w).cur.begun = b.cur.begun := rfl
@[simp] theorem shareWrite_unsent (b : Bun) (w : ShareWrite) : (b.shareWrite w).cur.unsent = b.cur.unsent := rfl
@[simp] theorem shareWrite_pfx (b : Bun) (w : ShareWrite) : (b.shareWrite w).cur.pfx = b.cur.pfx := rfl
@[simp] theorem shareWrite_defect (b : Bun) (w : ShareWrite) : (b.shareWrite w).cur.defect = b.cur.defect := rfl
@[simp] theorem shareWrite_verdict (b : Bun) (w : ShareWrite) : (b.shareWrite w).cur.verdict = b.cur.verdict := rfl
@[simp] theorem shareWrite_writes (b : Bun) (w : ShareWrite) : (b.shareWrite w).cur.writes = b.cur.writes := rfl
@[simp] theorem shareWrite_pops (b : Bun) (w : ShareWrite) : (b.shareWrite w).cur.pops = b.cur.pops := rfl
@[simp] theorem shareWrite_flow (b : Bun) (w : ShareWrite) : (b.shareWrite w).cur.flow = b.cur.flow := rfl
@[simp] theorem shareWrite_dues (b : Bun) (w : ShareWrite) : (b.shareWrite w).cur.dues = b.cur.dues := rfl
@[simp] theorem shareWrite_holds (b : Bun) (w : ShareWrite) : (b.shareWrite w).cur.holds = b.cur.holds := rfl
@[simp] theorem shareWrite_dests (b : Bun) (w : ShareWrite) : (b.shareWrite w).cur.dests = b.cur.dests := rfl
@[simp] theorem shareWrite_loads (b : Bun) (w : ShareWrite) : (b.shareWrite w).cur.loads = b.cur.loads := rfl
@[simp] theorem shareWrite_stores (b : Bun) (w : ShareWrite) : (b.shareWrite w).cur.stores = b.cur.stores := rfl

@[simp] theorem addHold_st (b : Bun) (h : Hold) : (b.addHold h).st = b.st := rfl
@[simp] theorem addHold_core (b : Bun) (h : Hold) : (b.addHold h).cur.core = b.cur.core := rfl
@[simp] theorem addHold_ctx (b : Bun) (h : Hold) : (b.addHold h).cur.ctx = b.cur.ctx := rfl
@[simp] theorem addHold_pc (b : Bun) (h : Hold) : (b.addHold h).cur.pc = b.cur.pc := rfl
@[simp] theorem addHold_len (b : Bun) (h : Hold) : (b.addHold h).cur.len = b.cur.len := rfl
@[simp] theorem addHold_slot (b : Bun) (h : Hold) : (b.addHold h).cur.slot = b.cur.slot := rfl
@[simp] theorem addHold_wcnt (b : Bun) (h : Hold) : (b.addHold h).cur.wcnt = b.cur.wcnt := rfl
@[simp] theorem addHold_begun (b : Bun) (h : Hold) : (b.addHold h).cur.begun = b.cur.begun := rfl
@[simp] theorem addHold_unsent (b : Bun) (h : Hold) : (b.addHold h).cur.unsent = b.cur.unsent := rfl
@[simp] theorem addHold_pfx (b : Bun) (h : Hold) : (b.addHold h).cur.pfx = b.cur.pfx := rfl
@[simp] theorem addHold_defect (b : Bun) (h : Hold) : (b.addHold h).cur.defect = b.cur.defect := rfl
@[simp] theorem addHold_verdict (b : Bun) (h : Hold) : (b.addHold h).cur.verdict = b.cur.verdict := rfl
@[simp] theorem addHold_writes (b : Bun) (h : Hold) : (b.addHold h).cur.writes = b.cur.writes := rfl
@[simp] theorem addHold_shares (b : Bun) (h : Hold) : (b.addHold h).cur.shares = b.cur.shares := rfl
@[simp] theorem addHold_pops (b : Bun) (h : Hold) : (b.addHold h).cur.pops = b.cur.pops := rfl
@[simp] theorem addHold_flow (b : Bun) (h : Hold) : (b.addHold h).cur.flow = b.cur.flow := rfl
@[simp] theorem addHold_dues (b : Bun) (h : Hold) : (b.addHold h).cur.dues = b.cur.dues := rfl
@[simp] theorem addHold_dests (b : Bun) (h : Hold) : (b.addHold h).cur.dests = b.cur.dests := rfl
@[simp] theorem addHold_loads (b : Bun) (h : Hold) : (b.addHold h).cur.loads = b.cur.loads := rfl
@[simp] theorem addHold_stores (b : Bun) (h : Hold) : (b.addHold h).cur.stores = b.cur.stores := rfl

@[simp] theorem addDue_st (b : Bun) (t : TrapInfo) : (b.addDue t).st = b.st := rfl
@[simp] theorem addDue_core (b : Bun) (t : TrapInfo) : (b.addDue t).cur.core = b.cur.core := rfl
@[simp] theorem addDue_ctx (b : Bun) (t : TrapInfo) : (b.addDue t).cur.ctx = b.cur.ctx := rfl
@[simp] theorem addDue_pc (b : Bun) (t : TrapInfo) : (b.addDue t).cur.pc = b.cur.pc := rfl
@[simp] theorem addDue_len (b : Bun) (t : TrapInfo) : (b.addDue t).cur.len = b.cur.len := rfl
@[simp] theorem addDue_slot (b : Bun) (t : TrapInfo) : (b.addDue t).cur.slot = b.cur.slot := rfl
@[simp] theorem addDue_wcnt (b : Bun) (t : TrapInfo) : (b.addDue t).cur.wcnt = b.cur.wcnt := rfl
@[simp] theorem addDue_begun (b : Bun) (t : TrapInfo) : (b.addDue t).cur.begun = b.cur.begun := rfl
@[simp] theorem addDue_unsent (b : Bun) (t : TrapInfo) : (b.addDue t).cur.unsent = b.cur.unsent := rfl
@[simp] theorem addDue_pfx (b : Bun) (t : TrapInfo) : (b.addDue t).cur.pfx = b.cur.pfx := rfl
@[simp] theorem addDue_defect (b : Bun) (t : TrapInfo) : (b.addDue t).cur.defect = b.cur.defect := rfl
@[simp] theorem addDue_verdict (b : Bun) (t : TrapInfo) : (b.addDue t).cur.verdict = b.cur.verdict := rfl
@[simp] theorem addDue_writes (b : Bun) (t : TrapInfo) : (b.addDue t).cur.writes = b.cur.writes := rfl
@[simp] theorem addDue_shares (b : Bun) (t : TrapInfo) : (b.addDue t).cur.shares = b.cur.shares := rfl
@[simp] theorem addDue_pops (b : Bun) (t : TrapInfo) : (b.addDue t).cur.pops = b.cur.pops := rfl
@[simp] theorem addDue_flow (b : Bun) (t : TrapInfo) : (b.addDue t).cur.flow = b.cur.flow := rfl
@[simp] theorem addDue_holds (b : Bun) (t : TrapInfo) : (b.addDue t).cur.holds = b.cur.holds := rfl
@[simp] theorem addDue_dests (b : Bun) (t : TrapInfo) : (b.addDue t).cur.dests = b.cur.dests := rfl
@[simp] theorem addDue_loads (b : Bun) (t : TrapInfo) : (b.addDue t).cur.loads = b.cur.loads := rfl
@[simp] theorem addDue_stores (b : Bun) (t : TrapInfo) : (b.addDue t).cur.stores = b.cur.stores := rfl

/-! ### Reading what an update wrote -/

theorem core_setCore {s : State} (h : Tab.rising s.cores = true) (c d : Nat) (k : Core) :
    (s.setCore c k).core d = if c = d then k else s.core d := get_set h {} c d k
theorem core_mapCore {s : State} (h : Tab.rising s.cores = true) (c d : Nat) (f : Core → Core) :
    (s.mapCore c f).core d = if c = d then f (s.core c) else s.core d := core_setCore h c d _
theorem strand_setStrand {s : State} (h : Tab.rising s.cores = true) (c x d y : Nat) (t : Strand) :
    (s.setStrand c x t).strand d y = if c = d ∧ x = y then some t else s.strand d y := by
  unfold State.strand State.setStrand
  rw [core_mapCore h]
  by_cases hc : c = d
  · subst hc
    rw [if_pos rfl]
    unfold Core.strand Core.setStrand
    rw [find?_put]
    by_cases hx : x = y <;> simp [hx]
  · simp [hc]
theorem rising_setCore {s : State} (h : Tab.rising s.cores = true) (c : Nat) (k : Core) : Tab.rising (s.setCore c k).cores = true := rising_set h
theorem rising_mapCore {s : State} (h : Tab.rising s.cores = true) (c : Nat) (f : Core → Core) : Tab.rising (s.mapCore c f).cores = true := rising_set h
theorem hreg_setHreg {s : State} (h : Tab.rising s.host = true) (a b : Nat) (v : Word) :
    (s.setHreg a v).hreg b = if a = b then v else s.hreg b := by
  unfold State.hreg State.setHreg
  by_cases hab : a = b
  · subst hab; rw [if_pos rfl]; exact get_set_same h _ a v
  · rw [if_neg hab]
    unfold Tab.get
    rw [find?_set h, if_neg hab]
theorem cluster_setCluster {s : State} (h : Tab.rising s.clusters = true) (c d : Nat) (k : Cluster) :
    (s.setCluster c k).cluster d = if c = d then k else s.cluster d := get_set h {} c d k
theorem gang_setGang (s : State) (g k : Nat) (v : Gang) : (s.setGang g v).gang k = if g = k then some v else s.gang k := find?_put ..
theorem nest_setNest (s : State) (n k : Nat) (v : Nest) : (s.setNest n v).nest k = if n = k then some v else s.nest k := find?_put ..

end Sys2Proof.Laws
end

