-- ==== Sys2Proof/Laws/Memory.lean ====
section
/-! SUPPORT. The operations that change bytes of HBM4 or of a scratchpad keep the canonical form of memory, and reading
a byte after them. -/
namespace Sys2Proof.Laws
open Sys2Proof Sys2Proof.Machine

/-! ### Bytes -/

theorem wf_writeCells {m : List Host.Cell} (a n mask v : Nat) (h : Memory.wf m = true) : Memory.wf (writeCells m a n mask v) = true := by
  unfold writeCells
  generalize List.range n = l
  induction l generalizing m with
  | nil => exact h
  | cons i r ih =>
    rw [List.foldl_cons]
    split
    · exact ih (canon_set _ _ h)
    · exact ih h

theorem get_writeCells {m : List Host.Cell} (a n mask v k : Nat) (h : Tab.rising m = true) :
    Tab.get (writeCells m a n mask v) 0#8 k = if a ≤ k ∧ k < a + n ∧ mask.testBit (k - a) then byteOf v (k - a) else Tab.get m 0#8 k := by
  unfold writeCells
  induction n with
  | zero => rw [List.range_zero, List.foldl_nil, if_neg (by omega)]
  | succ n ih =>
    rw [List.range_succ, List.foldl_append, List.foldl_cons, List.foldl_nil]
    have hr : Tab.rising ((List.range n).foldl (fun m i => if mask.testBit i then Tab.set m 0#8 (a + i) (byteOf v i) else m) m) = true := by
      generalize List.range n = l
      clear ih
      induction l generalizing m with
      | nil => exact h
      | cons i r ih =>
        rw [List.foldl_cons]
        split
        · exact ih (rising_set h)
        · exact ih h
    split
    · next hm =>
      rw [get_set hr, ih]
      by_cases hk : a + n = k
      · subst hk; simp [hm]
      · rw [if_neg hk]
        congr 1
        exact propext ⟨fun ⟨x, y, z⟩ => ⟨x, by omega, z⟩, fun ⟨x, y, z⟩ => ⟨x, by omega, z⟩⟩
    · next hm =>
      rw [ih]
      congr 1
      refine propext ⟨fun ⟨x, y, z⟩ => ⟨x, by omega, z⟩, fun ⟨x, y, z⟩ => ⟨x, ?_, z⟩⟩
      rcases Nat.lt_or_ge k (a + n) with hlt | hge
      · exact hlt
      · have : k - a = n := by omega
        rw [this] at z; exact absurd z hm

/-! ### The canonical form of every memory -/

theorem memoryOk_of {s t : State} (h : s.MemoryOk) (hm : t.mem = s.mem) (hc : t.cores = s.cores) : t.MemoryOk := by
  unfold State.MemoryOk; rw [hm, hc]; exact h

/-- Reset memory lists nothing. -/
theorem memory_wf_reset : Memory.wf State.reset.mem = true := rfl

theorem memoryOk_foldl {α : Type} {f : State → α → State} (hf : ∀ s x, s.MemoryOk → (f s x).MemoryOk) (l : List α) {s : State}
    (h : s.MemoryOk) : (l.foldl f s).MemoryOk := by
  induction l generalizing s with
  | nil => exact h
  | cons x r ih => exact ih (hf s x h)

theorem memoryOk_getD {o : Option State} {s : State} (h : s.MemoryOk) (ho : ∀ t, o = some t → t.MemoryOk) : (o.getD s).MemoryOk := by
  cases o with
  | none => exact h
  | some t => exact ho t rfl

theorem of_ite_some {c : Prop} [Decidable c] {a t : State} {b : Option State} (h : (if c then some a else b) = some t) : t = a ∨ b = some t := by
  split at h
  · exact .inl (Option.some.inj h).symm
  · exact .inr h

/-- A core whose scratchpad is in the form. -/
theorem wf_spad {s : State} (h : s.MemoryOk) (c : Nat) : Memory.wf (s.core c).spad = true := by
  unfold State.core Tab.get
  have mem : ∀ {m : Map Core} {k : Core}, Tab.find? m c = some k → (c, k) ∈ m := by
    intro m k hm
    induction m with
    | nil => simp [Tab.find?] at hm
    | cons e r ih =>
      obtain ⟨j, w⟩ := e
      unfold Tab.find? at hm
      split at hm
      · next hj => subst hj; simp_all
      · exact List.mem_cons_of_mem _ (ih hm)
  cases hf : Tab.find? s.cores c with
  | none => rfl
  | some k => exact h.2 _ (mem hf)

theorem memoryOk_setCore {s : State} (h : s.MemoryOk) (c : Nat) {k : Core} (hk : Memory.wf k.spad = true) : (s.setCore c k).MemoryOk :=
  ⟨h.1, fun e he => by
    rcases mem_set he with rfl | he
    · exact hk
    · exact h.2 e he⟩
theorem memoryOk_mapCore {s : State} (h : s.MemoryOk) (c : Nat) {f : Core → Core} (hf : (f (s.core c)).spad = (s.core c).spad) :
    (s.mapCore c f).MemoryOk := memoryOk_setCore h c (hf ▸ wf_spad h c)
theorem memoryOk_setStrand {s : State} (h : s.MemoryOk) (c x : Nat) (t : Strand) : (s.setStrand c x t).MemoryOk := memoryOk_mapCore h c rfl
theorem memoryOk_mapStrand {s : State} (h : s.MemoryOk) (c x : Nat) (f : Strand → Strand) : (s.mapStrand c x f).MemoryOk := by
  unfold State.mapStrand
  split
  · exact memoryOk_setStrand h ..
  · exact h
theorem memoryOk_setCluster {s : State} (h : s.MemoryOk) (c : Nat) (k : Cluster) : (s.setCluster c k).MemoryOk := h
theorem memoryOk_free {s : State} (h : s.MemoryOk) (n : Nat) : State.MemoryOk { s with free := n } := h
theorem memoryOk_setHreg {s : State} (h : s.MemoryOk) (a : Nat) (v : Word) : (s.setHreg a v).MemoryOk := h

theorem memoryOk_setHbmSector {s : State} (h : s.MemoryOk) (pa key v : Nat) : (s.setHbmSector pa key v).MemoryOk :=
  ⟨wf_writeCells _ _ _ _ h.1, h.2⟩

/-! ### Logs and waits -/

theorem memoryOk_latch {s : State} (h : s.MemoryOk) : s.latch.MemoryOk := by
  unfold State.latch
  have h1 := memoryOk_foldl (f := fun s (e : Nat × Core) =>
    State.setHreg ((List.range 4).foldl (fun s x => (s.setHreg (0x200000 + 128 * e.1 + 8 * x) (BitVec.ofNat 64 (((e.2.strand x).map (·.pc.toNat)).getD 0 % 2 ^ 48))).setHreg
        (0x200000 + 128 * e.1 + 32 + 8 * x) (BitVec.ofNat 64 (s.snapSt e.2 x))) s) (0x200000 + 128 * e.1 + 64) (BitVec.ofNat 64 e.2.snapMx))
    (fun s e h => memoryOk_setHreg (memoryOk_foldl (fun s x h => memoryOk_setHreg (memoryOk_setHreg h _ _) _ _) _ h) _ _) s.cores h
  refine memoryOk_foldl (fun s g h => ?_) _ (memoryOk_free (memoryOk_foldl (fun s x h => memoryOk_setHreg h _ _) _
    (memoryOk_foldl (fun s x h => memoryOk_setHreg h _ _) _ (memoryOk_foldl (fun s p h => ?_) _ (memoryOk_foldl (fun s c h =>
    memoryOk_foldl (fun s i h => memoryOk_setHreg h _ _) _ h) _ h1)))) _)
  · dsimp only; split <;> exact memoryOk_setHreg h _ _
  · dsimp only; split <;> exact memoryOk_setHreg h _ _

theorem memoryOk_pushLog {s : State} (h : s.MemoryOk) (c : Nat) (e : LogEntry) : (s.pushLog c e).MemoryOk := by
  exact memoryOk_setCluster h ..

theorem memoryOk_fire {s : State} (h : s.MemoryOk) (source : Nat) : (s.fire source).MemoryOk := by
  unfold State.fire
  dsimp only
  split
  · exact memoryOk_pushLog (memoryOk_latch (memoryOk_setHreg (memoryOk_setHreg h _ _) _ _)) _ _
  · exact memoryOk_setHreg h _ _

theorem memoryOk_log {s : State} (h : s.MemoryOk) (c source cls code owner : Nat) (addr detail : Word) :
    (s.log c source cls code owner addr detail).MemoryOk := by
  unfold State.log State.logEntry
  dsimp only
  split
  · exact memoryOk_fire (memoryOk_pushLog h _ _) _
  · exact memoryOk_pushLog h _ _

theorem memoryOk_answer {s : State} (h : s.MemoryOk) (w : Waiter) (status gen : Nat) : (s.answer w status gen).MemoryOk := by
  unfold State.answer
  split
  · exact h
  · exact memoryOk_of (memoryOk_mapStrand h ..) rfl rfl

theorem memoryOk_testGlobal {s : State} (h : s.MemoryOk) (pa n : Nat) : (s.testGlobal pa n).MemoryOk := by
  refine memoryOk_foldl (fun s w h => ?_) _ h
  split
  · dsimp only
    split
    · exact memoryOk_answer h ..
    · exact h
  · exact h

theorem memoryOk_testSpad {s : State} (h : s.MemoryOk) (c off n : Nat) : (s.testSpad c off n).MemoryOk := by
  refine memoryOk_foldl (fun s w h => ?_) _ h
  split
  · split
    · exact memoryOk_answer h ..
    · exact h
  · exact h

theorem memoryOk_answerBarrier {s : State} (h : s.MemoryOk) (obj status gen : Nat) : (s.answerBarrier obj status gen).MemoryOk := by
  refine memoryOk_foldl (fun s w h => ?_) _ h
  split
  · exact memoryOk_answer h ..
  · exact h

theorem memoryOk_clearTags {s : State} (h : s.MemoryOk) (pa n mask key : Nat) : (s.clearTags pa n mask key).MemoryOk := by
  refine memoryOk_foldl (fun s o h => ?_) _ h
  split
  · exact memoryOk_answerBarrier (s := { s with barriers := s.barriers.filter (· ≠ o) }) h ..
  · exact h

theorem memoryOk_markDirty {s : State} (h : s.MemoryOk) (pa : Nat) : (s.markDirty pa).MemoryOk := by
  unfold State.markDirty
  dsimp only
  split <;> exact h

/-! ### Writes at the L2 and at HBM4 -/

theorem memoryOk_evictLine {s : State} (h : s.MemoryOk) (l : L2Line) (counted : Bool) : (s.evictLine l counted).MemoryOk := by
  unfold State.evictLine
  dsimp only
  refine memoryOk_of (s := if l.dirty = true then _ else _) ?_ rfl rfl
  split
  · refine memoryOk_foldl (fun s i h => ?_) _ (memoryOk_setCluster h _ _)
    split
    · exact h
    · split
      · exact memoryOk_log h ..
      · exact memoryOk_setHbmSector h ..
  · exact h

theorem memoryOk_makeRoom {s t : State} (h : s.MemoryOk) {line : Nat} {order : List L2Line} {keep counted : Bool} {short : List L2Line → Bool}
    (ht : s.makeRoom line order keep short counted = some t) : t.MemoryOk := by
  induction order generalizing s with
  | nil =>
    unfold State.makeRoom at ht
    dsimp only at ht
    split at ht
    · cases ht; exact h
    · cases ht
  | cons l r ih =>
    unfold State.makeRoom at ht
    dsimp only at ht
    split at ht
    · cases ht; exact h
    · split at ht
      · exact ih h ht
      · refine ih ?_ ht
        split
        · exact memoryOk_setCluster (memoryOk_evictLine h l true) _ _
        · exact memoryOk_evictLine h l true

theorem memoryOk_claimLine {s : State} (h : s.MemoryOk) (line key : Nat) : (s.claimLine line key).MemoryOk := by
  unfold State.claimLine
  split
  · split
    · exact h
    · exact memoryOk_evictLine h _ false
  · exact h

theorem of_match_some {o : Option State} {f : State → Option State} {t : State}
    (h : (match o with | none => none | some x => f x) = some t) : ∃ x, o = some x ∧ f x = some t := by
  cases o with
  | none => cases h
  | some x => exact ⟨x, rfl, h⟩

theorem memoryOk_l2Write {s t : State} (h : s.MemoryOk) {line mask data key : Nat} {isFill streaming nocomp : Bool}
    (ht : s.l2Write line mask data key isFill streaming nocomp = some t) : t.MemoryOk := by
  have hc := memoryOk_claimLine h line key
  unfold State.l2Write at ht
  obtain ⟨s1, hroom, ht⟩ := of_match_some ht
  have h1 : s1.MemoryOk := by
    split at hroom
    · exact Option.some.inj hroom ▸ hc
    · exact memoryOk_makeRoom hc hroom
  obtain ⟨s3, hs3, ht⟩ := of_match_some ht
  have h3 := memoryOk_makeRoom (memoryOk_setCluster h1 _ _) hs3
  exact Option.some.inj ht ▸ memoryOk_of h3 rfl rfl

theorem memoryOk_fillSectors {s t : State} (h : s.MemoryOk) {line key sectors : Nat} {streaming nocomp : Bool}
    (ht : s.fillSectors line key sectors streaming nocomp = some t) : t.MemoryOk := by
  unfold State.fillSectors at ht
  dsimp only at ht
  have hc := memoryOk_claimLine h line key
  rcases of_ite_some ht with rfl | ht
  · exact hc
  · obtain ⟨t1, h1, rfl⟩ := Option.map_eq_some_iff.1 ht
    exact memoryOk_of (memoryOk_l2Write hc h1) rfl rfl

theorem memoryOk_completeFill {s t : State} (h : s.MemoryOk) {f : Fill} (ht : s.completeFill f = some t) : t.MemoryOk :=
  memoryOk_fillSectors (memoryOk_setCluster h _ _) ht

theorem memoryOk_settleSet {s : State} (h : s.MemoryOk) (line : Nat) : (s.settleSet line).MemoryOk := by
  unfold State.settleSet
  dsimp only
  refine memoryOk_setCluster (memoryOk_foldl (fun s f h => ?_) _ ?_) _ _
  rotate_left
  · exact memoryOk_of h rfl rfl
  split
  · exact memoryOk_getD h (fun t ht => memoryOk_completeFill h ht)
  · exact h

theorem memoryOk_homeRead {s : State} (h : s.MemoryOk) (pa n key : Nat) (full : Bool) : (s.homeRead pa n key full).1.MemoryOk := by
  unfold State.homeRead State.touchLine
  dsimp only
  have h2 := memoryOk_settleSet h (pa / 128)
  have h1 : ∀ x, (match s.fillSectors (pa / 128) key x false false with
      | some s1 => s1
      | none => ((s.settleSet (pa / 128)).fillSectors (pa / 128) key x false false).getD (s.settleSet (pa / 128))).MemoryOk := by
    intro x
    split
    · next s1 hs => exact memoryOk_fillSectors h hs
    · exact memoryOk_getD h2 (fun t ht => memoryOk_fillSectors h2 ht)
  split
  · exact h1 _
  · exact memoryOk_setCluster (h1 _) ..

theorem memoryOk_homeWrite {s t : State} (h : s.MemoryOk) {pa n mask v key : Nat} {nocomp : Bool}
    (ht : s.homeWrite pa n mask v key nocomp = some t) : t.MemoryOk := by
  unfold State.homeWrite at ht
  dsimp only at ht
  split at ht
  · cases ht
  · next s1 hs1 =>
    cases ht
    exact memoryOk_markDirty (memoryOk_testGlobal (memoryOk_clearTags (memoryOk_l2Write h hs1) _ _ _ _) _ _) _

theorem memoryOk_writeNow {s : State} (h : s.MemoryOk) (pa n mask v key : Nat) (nocomp : Bool) : (s.writeNow pa n mask v key nocomp).MemoryOk := by
  unfold State.writeNow
  split
  · next t ht => exact memoryOk_homeWrite h ht
  · have h1 := memoryOk_settleSet h (pa / 128)
    exact memoryOk_getD h1 (fun t ht => memoryOk_homeWrite h1 ht)

theorem memoryOk_engineWrite {s : State} (h : s.MemoryOk) (pa n mask v key : Nat) : (s.engineWrite pa n mask v key).MemoryOk :=
  memoryOk_writeNow h ..

theorem memoryOk_deviceWrite {s : State} (h : s.MemoryOk) (off n v : Nat) : (s.deviceWrite off n v).MemoryOk :=
  memoryOk_foldl (fun _ _ h => memoryOk_engineWrite h ..) _ h

theorem memoryOk_flushL2 {s : State} (h : s.MemoryOk) : s.flushL2.MemoryOk :=
  memoryOk_foldl (fun _ _ h => memoryOk_foldl (fun _ l h => memoryOk_evictLine h l true) _ h) _ h

/-! ### Writes of a scratchpad -/

theorem memoryOk_spadWrite {s : State} (h : s.MemoryOk) (c off n mask v : Nat) : (s.spadWrite c off n mask v).MemoryOk :=
  memoryOk_testSpad (memoryOk_setCore (s := s.renewSpad c off n mask) h c (wf_writeCells _ _ _ _ (wf_spad h c))) ..

theorem memoryOk_performSpad {s : State} (h : s.MemoryOk) (c : Nat) (loads : List SpadLoad) (stores : List (Nat × Nat × Byte)) (id : Nat) :
    (s.performSpad c loads stores id).1.MemoryOk := by
  have hs : ∀ (l : List Nat) (m : List Host.Cell), Memory.wf m = true → Memory.wf (l.foldl (fun m o =>
      match s.storedByte stores o with
      | some b => Tab.set m 0#8 o b
      | none => m) m) = true := by
    intro l
    induction l with
    | nil => exact fun m hm => hm
    | cons o r ih =>
      intro m hm
      rw [List.foldl_cons]
      refine ih _ ?_
      split
      · exact canon_set _ _ hm
      · exact hm
  unfold State.performSpad
  dsimp only
  have h1 := memoryOk_setCore h c (k := { s.core c with spad := _ }) (hs (stores.map (·.2.1)) _ (wf_spad h c))
  split
  · exact h1
  · refine memoryOk_testSpad ?_ ..
    exact memoryOk_of h1 rfl rfl

theorem memoryOk_resplit {s : State} (h : s.MemoryOk) (c : Nat) (v : Word) : (s.mapCore c (fun k => k.resplit v)).MemoryOk :=
  memoryOk_setCore h c (canon_filter _ (wf_spad h c))

theorem memoryOk_ite {c : Prop} [Decidable c] {a b : State} (ha : a.MemoryOk) (hb : b.MemoryOk) : (if c then a else b).MemoryOk := by
  split
  · exact ha
  · exact hb

theorem memoryOk_writeControl {s : State} (h : s.MemoryOk) (c x cr : Nat) (v : Word) : (s.writeControl c x cr v).MemoryOk := by
  unfold State.writeControl
  refine memoryOk_ite (memoryOk_mapStrand h ..) (memoryOk_ite (memoryOk_mapCore h c rfl) (memoryOk_ite (memoryOk_mapCore h c rfl)
    (memoryOk_ite (memoryOk_of (memoryOk_resplit h c v) rfl rfl) (memoryOk_ite ?_ (memoryOk_ite ?_ (memoryOk_ite ?_ (memoryOk_ite ?_
      (memoryOk_ite ?_ (memoryOk_ite ?_ h)))))))))
  all_goals (dsimp only; exact memoryOk_mapCore h c rfl)

end Sys2Proof.Laws
end

