-- ==== Sys2Proof/Laws/Registers.lean ====
section
/-! SUPPORT. Reading a strand's registers after a write, and what a landing result changes. -/
namespace Sys2Proof.Laws
open Sys2Proof Sys2Proof.Machine

theorem reg_setReg {t : Strand} (h : Tab.rising t.regs = true) (n m : Nat) (v : Word) :
    (t.setReg n v).reg m = if n = m ∧ n ≠ 0 then v else t.reg m := by
  unfold Strand.setReg Strand.reg
  by_cases hn : n = 0
  · simp [hn]
  · rw [if_neg hn]
    dsimp only
    rw [get_set h]
    simp only [hn, ne_eq, not_false_eq_true, and_true]

theorem lcRaw_setLc {t : Strand} (h : Tab.rising t.lcs = true) (n m : Nat) (v : BitVec 32) :
    (t.setLc n v).lcRaw m = if n = m then v else t.lcRaw m := get_set h 0 n m v
theorem vecRaw_setVec {t : Strand} (h : Tab.rising t.vecs = true) (n m : Nat) (v : Vec) :
    (t.setVec n v).vecRaw m = if n = m then v else t.vecRaw m := get_set h 0 n m v
theorem tile_setTile {t : Strand} (h : Tab.rising t.tiles = true) (n m : Nat) (v : TileReg) :
    (t.setTile n v).tile m = if n = m then v else t.tile m := get_set h {} n m v

/-- k0 reads all ones whatever is written to it (R38). -/
theorem predRaw_setPred {t : Strand} (h : Tab.rising t.preds = true) (n m : Nat) (v : Pred) :
    (t.setPred n v).predRaw m = if n = m ∧ n ≠ 0 then v else t.predRaw m := by
  unfold Strand.setPred Strand.predRaw
  by_cases hn : n = 0
  · simp [hn]
  · rw [if_neg hn]
    by_cases hm : m = 0
    · simp [hm, hn]
    · simp only [if_neg hm]
      rw [get_set h]
      by_cases hnm : n = m <;> simp [hnm, hn, hm]

@[simp] theorem setReg_pc (t : Strand) (n : Nat) (v : Word) : (t.setReg n v).pc = t.pc := by unfold Strand.setReg; split <;> rfl
@[simp] theorem setReg_tiles (t : Strand) (n : Nat) (v : Word) : (t.setReg n v).tiles = t.tiles := by unfold Strand.setReg; split <;> rfl
@[simp] theorem setReg_flags (t : Strand) (n : Nat) (v : Word) : (t.setReg n v).flags = t.flags := by unfold Strand.setReg; split <;> rfl
@[simp] theorem setReg_preds (t : Strand) (n : Nat) (v : Word) : (t.setReg n v).preds = t.preds := by unfold Strand.setReg; split <;> rfl
@[simp] theorem setReg_vecs (t : Strand) (n : Nat) (v : Word) : (t.setReg n v).vecs = t.vecs := by unfold Strand.setReg; split <;> rfl
@[simp] theorem setReg_lcs (t : Strand) (n : Nat) (v : Word) : (t.setReg n v).lcs = t.lcs := by unfold Strand.setReg; split <;> rfl

/-- What a landing changes beside residues is what its value does. -/
@[simp] theorem land_regs (t : Strand) (l : Landing) : (t.land l).regs = (t.landValue l).regs := rfl
@[simp] theorem land_preds (t : Strand) (l : Landing) : (t.land l).preds = (t.landValue l).preds := rfl
@[simp] theorem land_lcs (t : Strand) (l : Landing) : (t.land l).lcs = (t.landValue l).lcs := rfl
@[simp] theorem land_vecs (t : Strand) (l : Landing) : (t.land l).vecs = (t.landValue l).vecs := rfl
@[simp] theorem land_flags (t : Strand) (l : Landing) : (t.land l).flags = (t.landValue l).flags := rfl
@[simp] theorem land_inflight (t : Strand) (l : Landing) : (t.land l).inflight = (t.landValue l).inflight := rfl

/-- A landing leaves the tiles. -/
theorem land_tiles (t : Strand) (l : Landing) : (t.land l).tiles = t.tiles := by
  unfold Strand.land Strand.landValue Strand.setPred Strand.setLc Strand.setVec
  cases l.dst <;> simp only [setReg_tiles]
  split <;> rfl

/-- A landing leaves the PC. -/
theorem land_pc (t : Strand) (l : Landing) : (t.land l).pc = t.pc := by
  unfold Strand.land Strand.landValue Strand.setPred Strand.setLc Strand.setVec
  cases l.dst <;> simp only [setReg_pc]
  split <;> rfl

/-- A register other than the one a landing is for keeps its value. -/
theorem land_reg_other {t : Strand} (h : Tab.rising t.regs = true) (l : Landing) (n : Nat) (hd : l.dst ≠ .reg n) :
    (t.land l).reg n = t.reg n := by
  unfold Strand.reg
  rw [land_regs]
  unfold Strand.landValue Strand.setPred Strand.setLc Strand.setVec
  cases hk : l.dst with
  | reg m =>
    have hne : m ≠ n := fun e => hd (hk.trans (by rw [e]))
    exact (reg_setReg h m n _).trans (if_neg (fun e => hne e.1))
  | pred m => dsimp only; split <;> rfl
  | lc m => rfl
  | vec m => rfl
  | flags => rfl

/-- The register a landing is for holds its value; s0 is not written (R38). -/
theorem land_reg_same {t : Strand} (h : Tab.rising t.regs = true) (l : Landing) (n : Nat) (hd : l.dst = .reg n) (hn : n ≠ 0) :
    (t.land l).reg n = l.value.setWidth 64 := by
  unfold Strand.reg
  rw [land_regs]
  unfold Strand.landValue
  rw [hd]
  exact (reg_setReg h n n _).trans (if_pos ⟨rfl, hn⟩)

end Sys2Proof.Laws
end

