-- ==== Sys2Proof/Laws/Slots.lean ====
section
/-! SUPPORT. What the shared operation of every slot, `State.runSlot`, can do. -/
namespace Sys2Proof.Laws
open Sys2Proof Sys2Proof.Machine

theorem firstStop_cons_none (l : List (Option Stop)) : firstStop (none :: l) = firstStop l := rfl

theorem firstStop_all_none (l : List (Option Stop)) (h : ∀ x ∈ l, x = none) : firstStop l = none := by
  induction l with
  | nil => rfl
  | cons x r ih =>
    obtain rfl := h x (by simp)
    exact ih (fun y hy => h y (by simp [hy]))

/-- Nothing stops a slot only if no check does. -/
theorem firstStop_none {l : List (Option Stop)} (h : firstStop l = none) : ∀ x ∈ l, x = none := by
  suffices hs : ∀ (l : List (Option Stop)) (a : Option Stop), l.foldl (fun best c =>
      match best, c with
      | none, c => c
      | some b, none => some b
      | some (.stall _ _), some (.trap t) => some (.trap t)
      | some (.trap a), some (.trap t) => if t.before a then some (.trap t) else some (.trap a)
      | some b, some _ => some b) a = none → a = none ∧ ∀ x ∈ l, x = none from (hs l none h).2
  intro l
  induction l with
  | nil => exact fun a ha => ⟨ha, by simp⟩
  | cons x r ih =>
    intro a ha
    obtain ⟨hx, hr⟩ := ih _ ha
    dsimp only at hx
    split at hx
    · exact ⟨rfl, by simpa [hx] using hr⟩
    · cases hx
    · cases hx
    · split at hx <;> cases hx
    · cases hx

theorem firstStop_append_none {l m : List (Option Stop)} (h : firstStop (l ++ m) = none) : firstStop m = none :=
  firstStop_all_none _ (fun x hx => firstStop_none h x (List.mem_append_right _ hx))

theorem firstStop_append_one {l : List (Option Stop)} (x : Option Stop) (h : firstStop l = none) :
    firstStop (l ++ [x]) = x := by
  unfold firstStop at h ⊢
  rw [List.foldl_append, h]
  rfl

/-- Popping streams changes only the pops of the cursor. -/
theorem pop_eq (q : Bun) (xs : List Nat) : ∃ ps, q.pop xs = { q with cur := { q.cur with pops := ps } } := by
  unfold Bun.pop
  induction xs generalizing q with
  | nil => exact ⟨q.cur.pops, rfl⟩
  | cons x r ih =>
    simp only [List.foldl_cons]
    split
    · exact ih q
    · obtain ⟨ps, h⟩ := ih { q with cur := { q.cur with pops := q.cur.pops ++ [x % 8] } }
      exact ⟨ps, h⟩

theorem pop_st (q : Bun) (xs : List Nat) : (q.pop xs).st = q.st := by obtain ⟨ps, h⟩ := pop_eq q xs; rw [h]
theorem pop_slot (q : Bun) (xs : List Nat) : (q.pop xs).cur.slot = q.cur.slot := by
  obtain ⟨ps, h⟩ := pop_eq q xs; rw [h]
theorem pop_dests (q : Bun) (xs : List Nat) : (q.pop xs).cur.dests = q.cur.dests := by
  obtain ⟨ps, h⟩ := pop_eq q xs; rw [h]
theorem pop_space (q : Bun) (xs : List Nat) : (q.pop xs).space = q.space := by
  obtain ⟨ps, h⟩ := pop_eq q xs; rw [h]; rfl

/-- Writes of the gang-share registers joined to a bundle change only their list. -/
theorem shareWrites_eq (b : Bun) (f : Nat → ShareWrite) (l : List Nat) :
    ∃ ws, l.foldl (fun (b : Bun) r => b.shareWrite (f r)) b = { b with cur := { b.cur with shares := ws } } := by
  induction l generalizing b with
  | nil => exact ⟨b.cur.shares, rfl⟩
  | cons x r ih =>
    obtain ⟨ws, h⟩ := ih (b.shareWrite (f x))
    exact ⟨ws, h⟩

/-- Reading gang-share registers keeps the slot, the destinations noted and the strand of the bundle. -/
theorem readRegisters_cur (q : Bun) (l : List Nat) : (q.readRegisters l).cur.slot = q.cur.slot ∧ (q.readRegisters l).cur.dests = q.cur.dests ∧
    (q.readRegisters l).cur.core = q.cur.core ∧ (q.readRegisters l).cur.ctx = q.cur.ctx := by
  unfold Bun.readRegisters
  split
  · exact ⟨rfl, rfl, rfl, rfl⟩
  · dsimp only
    obtain ⟨ws, h⟩ := shareWrites_eq _ _ _
    rw [h]
    exact ⟨rfl, rfl, rfl, rfl⟩
theorem readShare_cur (q : Bun) (i : Instr) : (q.readShare i).cur.slot = q.cur.slot ∧ (q.readShare i).cur.dests = q.cur.dests ∧
    (q.readShare i).cur.core = q.cur.core ∧ (q.readShare i).cur.ctx = q.cur.ctx := readRegisters_cur q _
/-- With no uncorrectable gang-share register read, reading them changes nothing (R359). -/
theorem readRegisters_good (q : Bun) (l : List Nat) (h : l.filter q.share.bad.contains = []) : q.readRegisters l = q := by
  unfold Bun.readRegisters
  rw [h]
theorem readShare_good (q : Bun) (i : Instr) (h : (q.shareReads i).filter q.share.bad.contains = []) : q.readShare i = q := readRegisters_good q _ h

/-- An element that has not landed stops the slot that reads it, so a slot whose operands nothing stops has none. -/
theorem landed_of {q : Bun} {i : Instr} (h : firstStop (q.operandStops i) = none) : q.unlanded i = false := by
  have hs := firstStop_none h
  unfold Bun.unlanded
  rw [List.any_eq_false]
  intro x hx
  rw [hs (q.popStop x) (List.mem_append_left _ (List.mem_append_left _ (List.mem_map_of_mem hx)))]
  exact Bool.false_ne_true

/-- A slot that nothing shared stops and whose own checks pass joins its bundle. -/
theorem runSlot_joined {s : State} {i : Instr} {q b : Bun} {f : Bun → Except Stop Bun}
    (h : s.AtSlot i q) (hf : f q = .ok b) : s.runSlot i f = .next (q.joined i b) := by
  obtain ⟨c, hc, hv, hd, hi, hx, ho, rfl⟩ := h
  have hu := landed_of ho
  have hst : firstStop ([c.defect.map Stop.trap, i.defect.map (fun d => Stop.trap (defectTrap d)),
      (conflict c.dests (slotDests i (((⟨s, c⟩ : Bun).readShare i).space == 2))).map Stop.trap] ++
        ((⟨s, c⟩ : Bun).readShare i).operandStops i) = none := by
    rw [hd, hi, hx]; exact ho
  have hr := readShare_cur (⟨s, c⟩ : Bun) i
  unfold State.runSlot Bun.joined
  simp only [hc, hv, hu, hf, hst, pop_slot, pop_dests, pop_space, hr, Bool.false_eq_true, if_false]

/-- A slot that nothing shared stops and whose own checks trap makes the trap the bundle's verdict. -/
theorem runSlot_trapped {s : State} {i : Instr} {q : Bun} {f : Bun → Except Stop Bun} {t : TrapInfo}
    (h : s.AtSlot i q) (hf : f q = .error (.trap t)) : s.runSlot i f = s.trapped t := by
  obtain ⟨c, hc, hv, hd, hi, hx, ho, rfl⟩ := h
  have hu := landed_of ho
  have hst : firstStop (([c.defect.map Stop.trap, i.defect.map (fun d => Stop.trap (defectTrap d)),
      (conflict c.dests (slotDests i (((⟨s, c⟩ : Bun).readShare i).space == 2))).map Stop.trap] ++
        ((⟨s, c⟩ : Bun).readShare i).operandStops i) ++ [some (.trap t)]) = some (.trap t) := by
    rw [hd, hi, hx]
    exact firstStop_append_one _ ho
  unfold State.runSlot State.trapped
  simp only [hc, hv, hu, hf, hst, Bool.false_eq_true, if_false]

/-- Everything a slot may do: it leaves the machine as it is after an earlier trap; it changes the cursor's verdict and
destinations where something stops it or an earlier slot stalled; or its effect joins the bundle. -/
theorem runSlot_next {s t : State} {i : Instr} {f : Bun → Except Stop Bun} (h : s.runSlot i f = .next t) :
    ∃ c, s.cursor = some c ∧ (t = s ∨ (∃ v ds, t = { s with cursor := some { c with verdict := v, dests := ds } }) ∨
      ∃ b, f (((⟨s, c⟩ : Bun).readShare i).pop (instrSources i)) = .ok b ∧
        t = (((⟨s, c⟩ : Bun).readShare i).pop (instrSources i)).joined i b) := by
  unfold State.runSlot at h
  split at h
  · cases h
  · next c hc =>
    refine ⟨c, hc, ?_⟩
    split at h
    · exact .inl (Host.Outcome.next.inj h).symm
    · dsimp only at h
      have hr := readShare_cur (⟨s, c⟩ : Bun) i
      cases hu : ((⟨s, c⟩ : Bun).readShare i).unlanded i with
      | true =>
        simp only [hu, if_true] at h
        split at h
        · exact .inr (.inl ⟨_, _, (Host.Outcome.next.inj h).symm⟩)
        · exact .inr (.inl ⟨_, _, (Host.Outcome.next.inj h).symm⟩)
        · next hs => rw [landed_of (firstStop_append_none hs)] at hu; cases hu
      | false =>
      simp only [hu, Bool.false_eq_true, if_false] at h
      cases hf : f (((⟨s, c⟩ : Bun).readShare i).pop (instrSources i)) with
      | error e =>
        simp only [hf] at h
        split at h
        · exact .inr (.inl ⟨_, _, (Host.Outcome.next.inj h).symm⟩)
        · exact .inr (.inl ⟨_, _, (Host.Outcome.next.inj h).symm⟩)
        · next hs =>
          exfalso
          generalize ([_, _, _] ++ _ : List (Option Stop)) = l at hs
          cases hl : firstStop l with
          | none => rw [firstStop_append_one _ hl] at hs; cases hs
          | some x =>
            unfold firstStop at hs hl
            rw [List.foldl_append, hl] at hs
            simp only [List.foldl_cons, List.foldl_nil] at hs
            repeat' split at hs
            all_goals cases hs
      | ok b =>
        simp only [hf] at h
        split at h
        · exact .inr (.inl ⟨_, _, (Host.Outcome.next.inj h).symm⟩)
        · exact .inr (.inl ⟨_, _, (Host.Outcome.next.inj h).symm⟩)
        · split at h
          · exact .inr (.inl ⟨_, _, (Host.Outcome.next.inj h).symm⟩)
          · refine .inr (.inr ⟨b, rfl, ?_⟩)
            rw [← Host.Outcome.next.inj h]
            unfold Bun.joined
            simp only [pop_slot, pop_dests, pop_space, hr]

/-- A slot never refuses, and faults only where no bundle is being issued. -/
theorem runSlot_goes {s : State} {i : Instr} {f : Bun → Except Stop Bun} (h : s.cursor.isSome = true) : ∃ t, s.runSlot i f = .next t := by
  obtain ⟨c, hc⟩ := Option.isSome_iff_exists.1 h
  unfold State.runSlot
  simp only [hc]
  repeat' split
  all_goals exact ⟨_, rfl⟩

theorem check_ok {b b' : Bun} {l : List (Option Stop)} {e : Bun → Bun} : b.check l e = .ok b' ↔ firstStop l = none ∧ b' = e b := by
  unfold Bun.check
  split
  · next h => simp [h]
  · next h => simp [h, eq_comm]

end Sys2Proof.Laws
end

