-- ==== Sys2Proof/Laws/Tables.lean ====
section
/-! SUPPORT. The updates that every meaning is built from keep the keys of the machine's tables rising. -/
namespace Sys2Proof.Laws
open Sys2Proof Sys2Proof.Machine

variable {α β : Type}

theorem rising_mapVals {m : Map α} (f : Nat × α → β) (h : Tab.rising m = true) :
    Tab.rising (m.map (fun e => (e.1, f e)) : Map β) = true := by
  induction m with
  | nil => rfl
  | cons e r ih =>
    obtain ⟨j, w⟩ := e
    obtain ⟨ha, hr⟩ := rising_cons.1 h
    refine rising_cons.2 ⟨fun x hx => ?_, ih hr⟩
    obtain ⟨y, hy, rfl⟩ := List.mem_map.1 hx
    exact ha y hy

theorem rising_foldl {f : Map α → β → Map α} (hf : ∀ m x, Tab.rising m = true → Tab.rising (f m x) = true) (l : List β) {m : Map α}
    (h : Tab.rising m = true) : Tab.rising (l.foldl f m) = true := by
  induction l generalizing m with
  | nil => exact h
  | cons x r ih => exact ih (hf m x h)

/-- What CoresOk asks of each core. -/
def TablesRise (k : Core) : Prop := Tab.rising k.ctxs = true ∧ Tab.rising k.share.pats = true

theorem coresOk_set {m : Map Core} (h : CoresOk m) (c : Nat) {k : Core} (hk : TablesRise k) : CoresOk (Tab.set m {} c k) :=
  ⟨rising_set h.1, fun e he => by
    rcases mem_set he with rfl | he
    · exact hk
    · exact h.2 e he⟩

theorem coresOk_mapVals {m : Map Core} (h : CoresOk m) {f : Nat × Core → Core} (hf : ∀ e ∈ m, TablesRise (f e)) :
    CoresOk (m.map (fun e => (e.1, f e))) :=
  ⟨rising_mapVals f h.1, fun e he => by
    obtain ⟨x, hx, rfl⟩ := List.mem_map.1 he
    exact hf x hx⟩

theorem mem_of_find? {m : Map α} {k : Nat} {v : α} (h : Tab.find? m k = some v) : (k, v) ∈ m := by
  induction m with
  | nil => simp [Tab.find?] at h
  | cons e r ih =>
    obtain ⟨j, w⟩ := e
    unfold Tab.find? at h
    split at h
    · next hj => subst hj; simp_all
    · exact List.mem_cons_of_mem _ (ih h)

theorem tablesRise_core {s : State} (h : s.TablesOk) (c : Nat) : TablesRise (s.core c) := by
  unfold State.core Tab.get
  cases hf : Tab.find? s.cores c with
  | none => exact ⟨rfl, rfl⟩
  | some k => exact h.1.2 _ (mem_of_find? hf)

/-- An update that leaves the tables alone keeps them. -/
theorem tablesOk_of {s t : State} (h : s.TablesOk) (hc : t.cores = s.cores) (hh : t.host = s.host) (hi : t.islands = s.islands)
    (hr : t.reqs = s.reqs) (hp : t.power.catalogues = s.power.catalogues) : t.TablesOk := by
  unfold State.TablesOk
  rw [hc, hh, hi, hr, hp]
  exact h

theorem tablesOk_foldl {f : State → α → State} (hf : ∀ s x, s.TablesOk → (f s x).TablesOk) (l : List α) {s : State}
    (h : s.TablesOk) : (l.foldl f s).TablesOk := by
  induction l generalizing s with
  | nil => exact h
  | cons x r ih => exact ih (hf s x h)

theorem tablesOk_setCore {s : State} (h : s.TablesOk) (c : Nat) {k : Core} (hk : TablesRise k) : (s.setCore c k).TablesOk :=
  ⟨coresOk_set h.1 c hk, h.2⟩
theorem tablesOk_mapCore {s : State} (h : s.TablesOk) (c : Nat) {f : Core → Core} (hf : ∀ k, TablesRise k → TablesRise (f k)) :
    (s.mapCore c f).TablesOk := tablesOk_setCore h c (hf _ (tablesRise_core h c))
theorem tablesRise_setStrand {k : Core} (h : TablesRise k) (x : Nat) (t : Strand) : TablesRise (k.setStrand x t) := ⟨rising_put h.1, h.2⟩
theorem tablesOk_setStrand {s : State} (h : s.TablesOk) (c x : Nat) (t : Strand) : (s.setStrand c x t).TablesOk :=
  tablesOk_mapCore h c (fun _ hk => tablesRise_setStrand hk x t)
theorem tablesOk_mapStrand {s : State} (h : s.TablesOk) (c x : Nat) (f : Strand → Strand) : (s.mapStrand c x f).TablesOk := by
  unfold State.mapStrand
  split
  · exact tablesOk_setStrand h ..
  · exact h
theorem tablesOk_setCluster {s : State} (h : s.TablesOk) (c : Nat) (k : Cluster) : (s.setCluster c k).TablesOk := h
theorem tablesOk_setHreg {s : State} (h : s.TablesOk) (a : Nat) (v : Word) : (s.setHreg a v).TablesOk := ⟨h.1, rising_set h.2.1, h.2.2⟩
theorem tablesOk_reqs {s : State} (h : s.TablesOk) {m : Map Request} (hm : Tab.rising m = true) : State.TablesOk { s with reqs := m } :=
  ⟨h.1, h.2.1, h.2.2.1, hm, h.2.2.2.2⟩
theorem tablesOk_islands {s : State} (h : s.TablesOk) {m : Map Island} (hm : Tab.rising m = true) : State.TablesOk { s with islands := m } :=
  ⟨h.1, h.2.1, hm, h.2.2.2⟩

end Sys2Proof.Laws
end

