-- ==== Sys2Proof/Tests/Slice0.lean ====
section
/-! SUPPORT. Tests: words of the spec decode as they should, ill-formed instructions are refused, single steps and slots
give what the spec gives, and every statement's hypotheses are met somewhere. -/
set_option linter.unusedVariables false
namespace Sys2Proof.Tests
open Sys2Proof Sys2Proof.Machine

/-! ### Helpers -/

/-- A placed strand on core 0 with the given registers, its core changed by `f`, and a bundle at its first slot. -/
def at0 (regs : Map Word) (f : Core → Core) : State :=
  let s := (State.reset.withStrand regs).mapCore 0 f
  { s with cursor := some { core := 0, ctx := 0, pc := 0x10000, len := 8 } }

/-- A strand's fields changed in core 0. -/
def onStrand (f : Strand → Strand) (k : Core) : Core := { k with ctxs := k.ctxs.map (fun (e : Nat × Strand) => (e.1, f e.2)) }
/-- The gang share changed in core 0. -/
def onShare (f : Share → Share) (k : Core) : Core := { k with share := f k.share }

/-- The bundle at an instruction's slot, its gang-share registers read and its streams popped. -/
def slotBun (s : State) (i : Instr) : Bun :=
  ((⟨s, s.cursor.getD { core := 0, ctx := 0, pc := 0, len := 0 }⟩ : Bun).readShare i).pop (instrSources i)

/-- Whether an instruction may stand in the slot being examined. -/
def slotOk (s : State) (i : Instr) : Bool :=
  match s.cursor with
  | none => false
  | some c => c.verdict == .go && c.defect == none && i.defect == none &&
      conflict c.dests (slotDests i (((⟨s, c⟩ : Bun).readShare i).space == 2)) == none && firstStop (((⟨s, c⟩ : Bun).readShare i).operandStops i) == none

theorem atSlot_of {s : State} {i : Instr} (h : slotOk s i = true) : s.AtSlot i (slotBun s i) := by
  unfold slotOk at h
  unfold slotBun
  cases hc : s.cursor with
  | none => rw [hc] at h; cases h
  | some c =>
    rw [hc] at h
    simp only [Bool.and_eq_true, beq_iff_eq] at h
    obtain ⟨⟨⟨⟨h1, h2⟩, h3⟩, h4⟩, h5⟩ := h
    exact ⟨c, hc, h1, h2, h3, h4, h5, rfl⟩

/-- An instruction stands in its slot of a bundle with a property. -/
def Meets (s : State) (i : Instr) (p : Bun → Prop) : Prop := ∃ q, s.AtSlot i q ∧ p q
theorem meets_of {s : State} {i : Instr} {p : Bun → Prop} (h : slotOk s i = true) (hp : p (slotBun s i)) : Meets s i p := ⟨_, atSlot_of h, hp⟩

/-- Every instruction of a list may stand in the slot of a state. -/
def MeetsAll (s : State) (l : List Instr) : Prop := ∀ i ∈ l, Meets s i (fun _ => True)
theorem meetsAll_of {s : State} {l : List Instr} (h : l.all (slotOk s) = true) : MeetsAll s l :=
  fun i hi => meets_of (List.all_eq_true.1 h i hi) trivial

/-- The micro-op a state's running operation stands at. -/
def microOf (s : State) : Micro :=
  let c := (s.cursor.map (·.core)).getD 0
  ⟨{ s with cursor := none }, c, { (((s.core c).mq.find? (·.running)).getD { id := 0, routine := 0, tag := 0, prio := 0, mp := [], fmt := 0, ctx := 0, gang := 0, member := 0, slot := 0, tiles := 0, rings := 0, words := [], reserved := 0 }) with started := true }⟩
/-- Whether an operation runs on the core of a state's cursor. -/
def microOk (s : State) : Bool := s.cursor.any (fun c => ((s.core c.core).mq.find? (·.running)).isSome)
theorem atMicro_of {s : State} (h : microOk s = true) : s.AtMicro (microOf s) := by
  unfold microOk at h
  cases hc : s.cursor with
  | none => rw [hc] at h; cases h
  | some c =>
    rw [hc] at h
    obtain ⟨o, ho⟩ := Option.isSome_iff_exists.1 h
    refine ⟨c, o, hc, ho, ?_⟩
    simp only [microOf, hc, Option.map_some, Option.getD_some, ho]

/-- A micro-op is at its turn with a property. -/
def MeetsMicro (s : State) (p : Micro → Prop) : Prop := ∃ m, s.AtMicro m ∧ p m
theorem meetsMicro_of {s : State} {p : Micro → Prop} (h : microOk s = true) (hp : p (microOf s)) : MeetsMicro s p := ⟨_, atMicro_of h, hp⟩

/-- What a slot's instruction puts in the bundle's writes. -/
def writes (o : Host.Outcome State Fault Refusal) : List (Dest × Nat) :=
  match o with
  | .next s => (s.cursor.elim [] (·.writes)).map (fun l => (l.dst, l.val.toNat))
  | _ => []

/-- The machine after one step, from one of `n` bits placed where it runs. -/
def after (regs : Map Word) (nbits w : Nat) : Option Strand :=
  match step ((State.reset.withStrand regs).withFetchWord nbits w) with
  | .next s => s.strand 0 0
  | _ => none

/-- s10 to s15, a3 and a8 of the tests: small numbers, a scratchpad offset and an address of the mapped page. -/
def regs0 : Map Word := [(11, 7), (12, 2), (13, 0x100), (14, 0xFFFFFFFFFFFFFFF6#64), (35, 0x40), (36, 0x20000)]
/-- A strand with those registers. -/
def base : State := at0 regs0 id

/-- The base, in slot M0, with streams bound for elements, sectors and gathers, a live page of module 1 at 2^30, and a5
naming it. -/
def memory : State :=
  let page : TlbEntry := { slot := 0, vpage := 2 ^ 30, size := 2 ^ 28, ppage := 2 ^ 44, r := true, w := true, x := false }
  let s := at0 (regs0 ++ [(37, 0x40000000)]) (fun k => onShare (fun h => { h with streams := [(0, { queue := 0, elemSz := 0, elems := [] }), (1, { queue := 1, elemSz := 1, elems := [] }), (2, { queue := 2, elemSz := 2, elems := [] })] }) { k with utlb := page :: k.utlb })
  { s with cursor := s.cursor.map (fun c => { c with slot := 2 }) }

/-! ### States -/
/-- The base with a NaN in s8. -/
def nans : State := at0 ((8, 0x7FC00000) :: regs0) id
/-- The base with lc1 standing at 2. -/
def looping : State := at0 regs0 (onStrand (fun t => { t with lcs := [(1, 2)] }))
/-- The base in its supply handler. -/
def supplied : State := at0 regs0 (onStrand (fun t => { t with supplyBy := some 9 }))
/-- The base inside its owner's handler. -/
def handling : State := (base.setSlotReg 0 0x10 0x10000).setSlotReg 0 0x18 0x1000
/-- The memory state under a modifier word. -/
def under (p : BitVec 32) : State := { memory with cursor := memory.cursor.map (fun c => { c with pfx := some p }) }
/-- Vectors v11 to v13 of ascending FP32 numbers and the predicate p5. -/
def vectors : State := at0 regs0 (onStrand (fun t => { t with preds := [(5, 0xFFFF0000FFFFFF0F12345678DEADBEEF#128)], vecs := [(11, BitVec.ofNat 4096 (List.foldl (fun a i => a * 2 ^ 32 + (i * 2654435761 + 0x3F800000) % 2 ^ 32) 0 (List.range 128))), (12, BitVec.ofNat 4096 (List.foldl (fun a i => a * 2 ^ 32 + (i * 1103515245 + 0x40000000) % 2 ^ 32) 0 (List.range 128))), (13, BitVec.ofNat 4096 (List.foldl (fun a i => a * 2 ^ 32 + 0x3F800000 + i * 65536) 0 (List.range 128)))] }))
/-- The base with a pattern load under way. -/
def loading : State := at0 regs0 (fun k => { k with patlds := [{ gang := 1, due := 9, bank := 1, first := 3, offset := 0x40, count := 2 }], spad := [(0x41, 7#8), (0x50, 9#8)] })
/-- The scratchpad cells that hold some words from an offset on. -/
def spadWords (o : Nat) (l : List Nat) : List Host.Cell :=
  ((List.range (8 * l.length)).map (fun (i : Nat) => ((o + i, BitVec.ofNat 8 (l.getD (i / 8) 0 >>> (8 * (i % 8)))) : Host.Cell))).filter (fun c => c.2 ≠ 0)
/-- A core with rings 0 and 1, routine 7 and a call word for them. -/
def matrixCore : State := at0 regs0 (fun k => onShare (fun h => { h with mp := [(0, 0x0000000000000301#64)], rings := [(0, { base := 0, size := 16, head := 0, tail := 4}), (1, { base := 64, size := 16, head := 0, tail := 4})] }) { k with routines := [(7, (0, [0#64]))] })
/-- The running operation of a test, of a routine of the given words, changed by `f` on a core changed by `g`. -/
def microAt (ws : List (BitVec 64)) (f : MatrixOp → MatrixOp) (g : Core → Core) : State :=
  let s := State.reset.withStrand []
  let o : MatrixOp := { id := 1, routine := 7, tag := 3, prio := 0, mp := [(2, 0x40#64)], fmt := 0#64, ctx := 0, gang := s.launch.gangSeq, member := 0, slot := 0, tiles := 255, rings := 255, words := ws, reserved := 0, running := true }
  { s.mapCore 0 (fun k => g { k with mq := [f o] }) with nextReq := 1, cursor := some (microCursor 0) }
/-- An operation at its first word. -/
def micro0 : State := microAt [0x2#64, 0#64] id id
/-- An operation whose call names no tile. -/
def microNoTile : State := microAt [0x2#64, 0#64] (fun o => { o with tiles := 0 }) id
/-- An operation inside a loop with `r` rounds left. -/
def microLoop (r : Nat) : State := microAt [0x2#64, 0#64] (fun o => { o with loops := [(0, r)], at_ := 1 }) id
/-- An operation whose rings 0 and 1 hold `n` bytes. -/
def microRings (n : Nat) : State := microAt [0x2#64, 0#64] (fun o => { o with zeroed := [2] }) (onShare (fun h => { h with rings := [(0, { base := 0, size := 4096, head := 0, tail := n}), (1, { base := 4096, size := 4096, head := 0, tail := n})] }))
/-- A strand whose tile 2 has an uncorrectable word in row pair 5. -/
def tornTile : State := at0 regs0 (onStrand (fun t => { t with badAcc := [2 * 2048 + 5 * 64] }))
/-- An operation whose owner has vitrine 0. -/
def microView : State := { microAt [0x2#64, 0#64] (fun o => { o with mp := [] }) id with vitrines := [(0, { front := 0x10000, shadow := 0x20000, length := 0x10000, owner := 1 })] }
/-- The test registers, a5 naming the descriptor at 0x100. -/
def regs1 : Map Word := regs0 ++ [(37, 0x100#64)]
/-- A copy descriptor at 0x100: `run` bytes from 0x20000 to offset 0x40 of the scratchpad, each count 1. -/
def copyWords (run : Nat) : List Nat := [0x20000, 0x4000000000000040, run, 2 ^ 48, 2 ^ 48, 2 ^ 48, 2 ^ 48, 2 ^ 48]
def copying : State := at0 regs1 (fun k => { k with spad := spadWords 0x100 (copyWords 16) })
/-- A core whose descriptor at 0x100 has an uncorrectable word. -/
def tornWord : State := { at0 regs1 id with badSpad := [(0, 0x108 / 8)] }
/-- The base with vitrine 7 of its owner, at generation 2. -/
def vitrined : State := { base with vitrines := [(7, { front := 5, shadow := 0x1000, length := 0x1000, owner := base.gangOwner 1, gen := 2 })] }
/-- The base with span 3 live, s5 and s6 a range. -/
def spanned : State := at0 ([(6, 0x40)] ++ regs0) (onShare (fun h => { h with spans := [(3, { start := 0x20, live := true, len := 0x40 })] }))
/-- The base with a wait answered. -/
def answered (n : Nat) : State := at0 regs0 (onStrand (fun t => { t with answer := some (n, 6) }))
/-- The base with two retire records. -/
def retired : State := at0 regs0 (onStrand (fun t => { t with retire := [(3, 0x55), (4, 0x66)] }))
/-- The base with ring 2 holding 20 bytes of its 512. -/
def ringed : State := at0 regs0 (onShare (fun h => { h with rings := [(2, { base := 0, size := 512, head := 500, tail := 520 })] }))
/-- The base with stream 1 bound and a walk descriptor at 0x100, its records to a stream or to ring 1. -/
def walking (toRing : Nat) : State := at0 regs1 (fun k => onShare (fun h => { h with rings := [(1, { base := 0, size := 512, head := 500, tail := 504 })], streams := [(1, { queue := 1, elemSz := 0, elems := [] })] }) { k with spad := spadWords 0x100 [5 * 2 ^ 32 + 3 * 2 ^ 24 + toRing * 2 ^ 16 + 9, 0x20000, 0x21000, 0, 7, 0x9, 0, 0] })
def graph0 : Graph := { loose := false, texp := 0, comb := 0, dim := 0, root := 0, tag := 0, vit := none, flag := 0, comp := 0, log2n := 0, ops := [] }
/-- The base with graph 7 loaded. -/
def graphed : State := let s := at0 regs1 id; { s with coll := { s.coll with graphs := [(7, graph0)] } }
/-- A bundle with a request of its own to wait for. -/
def fencing : State :=
  let r : Request := { core := 0, ctx := 0, gang := 1, member := 0, slot := 0, queue := 1, kind := .store, space := 0, parts := [{ addr := 0x20000, mask := 0xFF }], stream := none, slotOwner := 0 }
  { base with reqs := [(1, r)], nextReq := 1 }
/-- The wait that a bundle makes, where it makes one. -/
def okWaiter (x : State × Except Nat Waiter) : Waiter :=
  match x.2 with
  | .ok w => w
  | .error _ => { core := 0, ctx := 0, queue := 0, spad := none, addr := 0, size := 0, cond := 0, mask := 0, cmp := 0, barrier := none, deadline := none }
/-- Module 1 reachable by one path. -/
def routed (s : State) : State := { s with router := { s.router with modules := [(1, .reachable)], paths := [(1, [(0, [0])])] } }

/-! ### States with a request, an engine or a walk -/

/-- A load of 8 bytes at 0x20000 into stream 1. -/
def loadReq : Request := { core := 0, ctx := 0, gang := 1, member := 0, slot := 0, queue := 0, kind := .load, space := 0, parts := [{ addr := 0x20000, mask := 0xFF, place := (List.range 8).map (fun i => (i, i)) }], stream := some 1, slotOwner := 0 }
/-- A store to the same bytes. -/
def storeReq : Request := { loadReq with kind := .store, stream := none }
/-- A state without a bundle. -/
def quiet : State := State.reset.withStrand regs0
/-- Request 4 on its way, its core changed by `f`. -/
def withReq (r : Request) (f : Core → Core) (s : State := quiet) : State := { s.mapCore 0 f with reqs := [(4, r)], nextReq := 4 }
/-- Its first part, and the page that holds it. -/
def partOf (s : State) : Part := (((Tab.find? s.reqs 4).map (·.parts)).getD []).headD { addr := 0, mask := 0 }
def pageOf (s : State) : TlbEntry := (s.tlbHit 0 0 (partOf s).addr).getD { slot := 0, vpage := 0, size := 0, ppage := 0, r := false, w := false, x := false }
/-- The machine after an access performed at its home. -/
def homeState (h : HomeResult) : State :=
  match h with
  | .done s _ => s
  | _ => State.reset
def inL1 : State := withReq loadReq (fun k => { k with l1 := [{ line := 0x20000 / 128, valid := 1, data := 77, used := 0 }] })
def loadSent : State := withReq loadReq id
/-- The line of the load held whole in the L2. -/
def inL2 : State := loadSent.setCluster (homeCluster 0x20000) { loadSent.cluster (homeCluster 0x20000) with lines := [{ line := 0x20000 / 128, valid := 15, data := 5, code := 0, dirty := false, nocomp := false, used := 0, key := loadSent.slotKey 0 }] }
def amoReq : Request := { loadReq with kind := .amo 0 4 false 5 0 }
def storeSent : State := withReq storeReq id
def windowReq : Request := { loadReq with space := 2, parts := [{ addr := 0x40, mask := 0xFF }] }
/-- A page of module 1 at 2^30. -/
def farPage : TlbEntry := { slot := 0, vpage := 2 ^ 30, size := 2 ^ 28, ppage := 2 ^ 44, r := true, w := true, x := false }
def farReq : Request := { storeReq with parts := [{ addr := 0x40000000, mask := 0xFF }], remote := true }
/-- A store to module 1, whose page the core's TLB holds. -/
def farSent : State := routed (withReq farReq (fun k => { k with utlb := farPage :: k.utlb }))
/-- The same store once it has left. -/
def farAsked : Request := { farReq with parts := [{ addr := 0x40000000, mask := 0xFF, sent := true }], module := 1, sentAt := some 0 }
/-- Requests whose parts are all done, or met an uncorrectable word. -/
def finished (r : Request) : Request := { r with parts := r.parts.map (fun (p : Part) => { p with done := true, data := 0x1234 }) }
def faulted (r : Request) : Request := { r with parts := r.parts.map (fun (p : Part) => { p with fault := some { sub := 6, addr := 0x20000 } }) }
def stream0 : Stream := { queue := 1, elemSz := 1, elems := [] }
/-- A request of stream 1, which is bound. -/
def intoStream (r : Request) : State := withReq r (onShare (fun h => { h with streams := [(1, stream0)] }))
/-- A wait for a barrier at 0x20000 that times out at 0. -/
def wait0 : Waiter := { okWaiter (State.reset, .error 0) with addr := 0x20000, size := 16, barrier := some 3, deadline := some 0, slotOwner := 0 }
/-- A store to an address that no page maps. -/
def lostReq : Request := { storeReq with parts := [{ addr := 0x50000000, mask := 0xFF }] }
/-- Page tables at 0x100000 that map it. -/
def walkable : State :=
  let s := (withReq lostReq id).setSlotReg 0 8 0x100000
  let k := s.slotKey 0
  ((s.setHbmSector 0x100000 k 0x102001).setHbmSector 0x102000 k 0x104001).setHbmSector 0x104020 k (0x1000001F <<< 64)
/-- A fill of the line at 0x20000 under way. -/
def filling : State :=
  let f : Fill := { line := 0x400, sectors := 1, streaming := false, nocomp := false, key := loadSent.slotKey 0 }
  loadSent.setCluster (homeCluster 0x20000) { loadSent.cluster (homeCluster 0x20000) with fills := [f] }
/-- A line of its set that is full of fills, and a store that waits for it. -/
def setWaiting : State := withReq { storeReq with setWait := true } id
def barrierReq : Request := { storeReq with kind := .barrive 0 5, parts := [{ addr := 0x20000, mask := 0xFFFF }] }
/-- A barrier at 0x20000 initialised for 3 arrivals. -/
def barrierSent : State := { withReq barrierReq id with barriers := [0x20000 / 16] }
/-- A copy of 16 bytes from 0x20000 to the scratchpad, by span 2. -/
def copyOp0 : CopyOp := { copyOf 0 3 1 0 0 2 with src := 0x20000, dspace := 1, dst := 0x40, run := 16, levels := List.replicate 5 (1, 0, 0), slotOwner := 0 }
def copyState (y : CopyOp) : State := { quiet.mapCore 0 (fun k => { k with copies := [y] }) with nextReq := 4 }
/-- A walk at its first vertex. -/
def walk0 : Walk := { core := 0, ctx := 0, gang := 1, member := 0, slot := 0, key := 0, start := 5, hops := 3, logit := false, toRing := false, tag := 0, rowptr := 0x20000, colidx := 0x21000, weight := 0, temp := 0, walkid := 0, queue := 1, target := 1, stack := 0 }
def walkState (w : Walk) : State := { intoStream loadReq with reqs := [], walks := [(3, w)] }
/-- A chunk for this module's memory, and its core. -/
def chunk0 : CollChunk := { id := 0, gang := 1, member := 0, slot := 0, slotOwner := 0, ctx := 0, comb := 1, addr := 0x20000, data := List.replicate 64 1, reservedBy := 0 }
def chunkState : State := quiet.mapCore 0 (fun k => { k with collq := [chunk0] })
/-- An operation that waits for its engine. -/
def idleOp : State := microAt [0#64] (fun o => { o with running := false }) id
/-- A store of module 1 to this module. -/
def farStore : RemoteMsg := { source := 1, seq := 5, sentAt := 0, queue := 0, owner := 1, unit := 8, full := false, kind := .store, addr := 0x20000, size := 8, mask := 0xFF, data := 0x77 }
/-- The machine after that store. -/
def farDone : State := homeState (quiet.atHomeNow .store 0x20000 (quiet.slotKey 0) 0xFF 0x77)
/-- A store to module 1 that has had no answer for 2^20 ns. -/
def unanswered : State := { routed (withReq farAsked id) with now := 2 ^ 20 }
/-- Link 0 down, and module 1 without a path since 5. -/
def linkDown : State := let s := routed quiet; { s with router := { s.router with linksDown := [0] } }
def pathless : State := let s := routed quiet; { s with now := 100005, router := { s.router with pathless := [(1, 5)] } }

/-! ### Replays -/

/-- A graph of a REDUCE and a SEND, its replay, and the module with them loaded. -/
def collOp0 (k : Nat) : CollOp := { kind := k, peer := 1, opx := 0, len := 1, dep := 0, sbase := 0, soff := 0x20000, dbase := 1, doff := 0x30000, ma := 0, mb := 0, succs := [] }
def graph1 : Graph := { graph0 with loose := true, texp := 3, comb := 1, ops := [collOp0 1, collOp0 0] }
def replay0 : Replay := { graph := 7, step := 1, owner := 0, ownerNum := 1, key := some 5, bases := [0, 0], counts := [], tStart := 0, loose := true }
def replaying (step : Nat) (rs : List Replay) : State :=
  { quiet with coll := { quiet.coll with graphs := [(7, graph1)], steps := if step = 0 then [] else [(7, step)], replays := rs }, now := 50 }
def chunkMsg0 : ChunkMsg := { graph := 7, step := 1, op := 0, source := 1, owner := 1, flushes := 0, missing := 0, data := List.replicate 32 1 }
def abort0 : AbortMsg := { graph := 7, step := 1, status := 4, origin := 1, module := 2, op := 0, addr := 0, sub := 0, dside := false }
/-- A strand held at its COLL. -/
def handing : State := (replaying 0 []).mapCore 0 (onStrand (fun t => { t with holds := [.coll 7 0x100 0x10000 3] }))
def handed : Strand := (handing.strand 0 0).getD {}

/-! ### Launching -/

/-- A well-formed nest of 3 gangs. -/
def nestOf (cores : Nat) : NestRec := { hdr := BitVec.ofNat 64 (2 ^ 56 + cores * 2 ^ 40), shape := 0x0000000000100001, levels := [0x0000000300000040, 0, 0, 0], codeBase := 0x10000, entry := 0, comp := 0, rbase := 0, reads := [(0, 0), (0, 0), (0, 0), (0, 0)], writes := [(0, 0), (0, 0), (0, 0), (0, 0)] }
/-- A READY module whose parts all passed their self-test. -/
def readied (s : State) : State := (s.setHreg 0x1000 6).setHreg 0x1018 0x7FF0FFF
/-- A READY module with the owner's islands and no gang. -/
def launching : State := (readied (quiet.setSlotReg 0 0x28 0xFFFFFFFF)).mapCore 0 (fun k => { k with gang := none, ctxs := [] })
def wordsOf (l : List Nat) : Nat := l.reverse.foldl (fun a x => a * 2 ^ 64 + x) 0
/-- Queue 0 with a nest record at its head. -/
def queued : State :=
  let s := ((launching.setQueueReg 0 0 0x200000).setQueueReg 0 8 0x18400).setQueueReg 0 0x10 2
  (s.setHbmSector 0x200000 0 (wordsOf [2 ^ 56 + 2 ^ 40, 0x100001, 0x0000000300000040, 0])).setHbmSector 0x200020 0 (wordsOf [0, 0, 0x10000, 0])
def waiting0 : Waiting := { rec_ := nestOf 1, owner := 1, since := 0 }
def nest0 : Nest := { rec_ := nestOf 1, owner := 1, source := 0 }
def gang0 : Gang := { nest := 1, iter := 0, cluster := 0, cores := [0], alive := 1 }
/-- The module with the given nests and gangs in flight. -/
def inFlight (f : Launch → Launch) (s : State := launching) : State := { s with launch := f { s.launch with nests := [], gangs := [] } }
def offered : State := inFlight (fun l => { l with sources := [(5, [waiting0])] })
def placing : State := inFlight (fun l => { l with nests := [(1, nest0)] })
def nestBig : Nest := { nest0 with rec_ := nestOf 192 }
/-- A gang of a whole cluster that has waited 16 µs, with every other cluster shed. -/
def reserving : State :=
  let s := [1, 2, 3].foldl (fun (s : State) k => s.setCluster k { s.cluster k with shed := true }) launching
  (inFlight (fun l => { l with nests := [(1, nestBig)], gangs := [(1, gang0)], first := some (1, 0, 0) }) { s with now := 16000 }).mapCore 0 (fun k => { k with gang := some 1 })
def folio0 : Nat × Nat × Nat × Nat := (0x20000, 1, 0, 0)
/-- A queued folio whose image stands in memory. -/
def yielded : State :=
  let s := (launching.mapCore 0 (fun k => { k with gang := some 1 })).setSlotReg 0 8 0x100000
  let k := s.slotKey 0
  let s := ((s.setHbmSector 0x100000 k 0x102001).setHbmSector 0x102000 k 0x104001).setHbmSector 0x104000 k 0x1F
  let s := (s.setHbmSector 0x20000 k (wordsOf [0x4100000000010000, 1, 2, 3])).setHbmSector 0x20020 k (wordsOf [4, 5, 6, 7])
  let s := s.setCluster 0 { s.cluster 0 with folios := [folio0] }
  { s with launch := { s.launch with nests := [(1, nest0)], gangs := [(1, gang0)] } }
def yieldRead : State × Except (Nat × Nat) Nat := (yielded.setCluster 0 { yielded.cluster 0 with folios := [] }).agentRead (yielded.gangSlot 1) 0x20000 64
def yieldImage : Nat := yieldRead.2.toOption.getD 0
def yieldWritten : State := (yieldRead.1.agentWrite (yielded.gangSlot 1) 0x20000 8 (yieldImage % 2 ^ 64 - (yieldImage % 2 ^ 64 &&& 2 ^ 56))).1
/-- A gang to be pre-empted whose strand has a trap due. -/
def dueSealing : State := { quiet.mapCore 0 (onStrand (fun t => { t with due := [{ cause := 0x0F }] })) with launch := { quiet.launch with gangs := [(1, { gang0 with mode := .preempting })] } }
def sealing : State := { quiet with launch := { quiet.launch with gangs := [(1, { gang0 with mode := .preempting })] } }
def resuming : State := { quiet with launch := { quiet.launch with preempted := [1], gangs := [(1, { gang0 with mode := .preempted })] } }
def nestDone : Nest := { nest0 with placed := 3, ended := 3 }
def retiring : State := inFlight (fun l => { l with nests := [(1, nestDone)] })

/-! ### The supply, the host and checkpoints -/

/-- A Catalogue record of the given kind and sequence number. -/
def catalogue0 (kind seq : Nat) : Catalogue := { kind := kind, slot := 0, seq := seq, tWarn := 0, tSeal := 0, regions := [], steps := [] }
/-- A READY module in supply state `n`. -/
def supply (n : Nat) (s : State := quiet) : State := readied (s.setHreg 0x2000 (BitVec.ofNat 64 n))
def strandOf (s : State) : Strand := (s.strand 0 0).getD {}
/-- A sensor that has read nothing for 100 ms. -/
def sensorStuck : State := { supply 0 with now := 100000000, power := { (supply 0).power with steady := [(5, (0, 0, 0, 0, true))] } }
/-- An owner that handles supply traps, and a strand whose time in its handler has passed. -/
def supplyHandled : State := supply 3 (quiet.setSlotReg 0 0 (2 ^ 63 + 2 ^ 62 + 1))
def overrun : State := { supply 3 (quiet.mapCore 0 (onStrand (fun t => { t with supplyBy := some 5 }))) with now := 6 }
def allSaved : State := supply 3 (quiet.mapCore 0 (onStrand (fun t => { t with halted := true })))
def twoCatalogues : State := { supply 4 with power := { quiet.power with catalogues := [(0, catalogue0 0 4), (1, catalogue0 0 3)] } }
def shedding : State := { (supply 2).setCluster 3 { (supply 2).cluster 3 with shed := true } with power := { quiet.power with shedOrder := [3, 1] } }
def cooling : State := { supply 6 with now := 1000000000, power := { quiet.power with off := true, coolSince := some 0, catalogues := [(1, catalogue0 1 4)] } }
/-- A signed Catalogue, and the states that find it in slot 1. -/
def wholeCatalogue (kind : Nat) : Catalogue := { catalogue0 kind 4 with steps := List.replicate 256 (false, 0) }
def catalogueOf (kind : Nat) : Catalogue := (wholeCatalogue kind).signed 0
def sealedCooling : State := { cooling with power := { cooling.power with catalogues := [(1, catalogueOf 1)] } }
def sealedRestoring : State := { (quiet.setHreg 0x2000 0x100).setHreg 0x1000 3 with now := 1000000000, power := { quiet.power with inputSince := some 0, catalogues := [(1, catalogueOf 0)] } }
def mastered : State := { supply 0 with now := 1000004, power := { quiet.power with master := some (1, 4) } }
/-- A module whose owner has every island, with words at an address. -/
def hosting : State := readied (quiet.setSlotReg 0 0x28 0xFFFFFFFF)
def placed (a : Nat) (l : List Nat) (s : State := hosting) : State := s.setHbmSector a 0 (wordsOf l)
def vitrine0 : Vitrine := { front := 64, shadow := 0, length := 64, owner := 1 }
def suspended : State := (hosting.setSlotReg 0 0x38 2).setGang 1 { gang0 with mode := .preempted }
def routineImage : State := placed 0x200000 [0x0704000000000001, 0x0100000000000000, 0, 0]
def reloading : State := hosting.mapCore 0 (fun k => { k with reload := true })
def reloaded : State := reloading.setCore 0 { reloading.core 0 with routines := (Tab.get reloading.owners {} 0).routines, reload := false, tornWords := [] }
def vitrineImage : State := placed 0x200000 [0x40000, 0x50000, 0x1000, 7]
def showing (v : Vitrine) : State := { hosting with vitrines := [(7, v)] }
/-- A graph of one operation in memory. -/
def graphImage : State := placed 0x200040 [0x0000100000010000, 0x20000, 0x2000000000030000, 0x3FFFFFFF + 0xFFC0000000] (placed 0x200000 [0x0107000000000009, 1, 0, 0])
/-- The line at 0x200000 in the L2, under a key. -/
def lineHeld (key : Nat) : State := hosting.setCluster (homeCluster 0x200000) { hosting.cluster (homeCluster 0x200000) with lines := [{ line := 0x200000 / 128, valid := 15, data := 5, code := 0, dirty := false, nocomp := false, used := 0, key := key }] }
def checkpoint0 : Checkpoint := { members := [0, 1, 2], own := 0, diff := false, t := 3, regions := [], shards := [(1, false, 0, [5#8]), (0, true, 0, [5#8])] }
/-- An accession list of two entries, and no save area. -/
def listImage : State := { placed 0x200000 [0x0001000000400000, 0x0000000700000002, 0x0001000000420000, 0x0000000800000001] with host := [(0x1000, 6), (0x1018, 0x7FF0FFF), (0x2040, 0), (0x2048, 0)] }
def resumingOwners : State := { (hosting.setHreg 0x2000 7) with power := { hosting.power with unresumed := [1, 3] } }
def requestImage : State := placed 0x200000 [0x0102000000000000, 0x2001000, 0, 0]
def areaSet : State := (hosting.setHreg 0x2060 0x300000).setHreg 0x2068 0x10000
def checkpointing : State := { areaSet with power := { areaSet.power with checkpoint := some checkpoint0 } }
def shardsPlaced : State × Option (List Shard) := checkpointing.placeEntries checkpoint0.members 0 [0x400] checkpoint0.shards
/-- The Catalogue that seals the checkpoint. -/
def sealedCatalogue : Catalogue := ({ catalogue0 2 (shardsPlaced.1.lastSeq + 1) with tWarn := 3, tSeal := shardsPlaced.1.now, selftest := shardsPlaced.1.hreg 0x1018, feat := shardsPlaced.1.hreg 0x020, steps := shardsPlaced.1.graphSteps, shards := shardsPlaced.2.getD [] } : Catalogue).signed checkpointing.modnum
/-- Its record appended to the area. -/
def catalogueArea : State × Option Nat := shardsPlaced.1.appendArea (sealedCatalogue.bytes checkpointing.modnum)

/-! ### Issue and traps -/

/-- The state an outcome goes on in. -/
def onward (o : Host.Outcome State Fault Refusal) : Option State :=
  match o with
  | .next t => some t
  | _ => none
theorem next_of {o : Host.Outcome State Fault Refusal} (h : (onward o).isSome = true) : o = .next ((onward o).getD State.reset) := by
  cases o <;> simp_all [onward]

/-- A bundle that has run: a register, a vector and a flag to write. -/
def issued0 : Cursor := { core := 0, ctx := 0, pc := 0x10000, len := 8, wcnt := 2, writes := [{ dst := .reg 5, val := 77, due := 1 }, { dst := .vec 3, val := 9, due := 6 }, { dst := .flags, val := 4, due := 1 }] }
/-- The page that holds the whole of this module's memory. -/
def homePage : TlbEntry := { slot := 0, vpage := 0, size := 2 ^ 28, ppage := quiet.modnum * 2 ^ 44, r := true, w := true, x := true }
def trapInfo0 : TrapInfo := { cause := 2, slot := 1, sub := 3, code := 9, addr := 0x1234, info := 0x99 }
/-- A strand with a trap due, a result on its way and a loop counter. -/
def trapping : State := quiet.mapCore 0 (onStrand (fun t => { t with due := [trapInfo0], inflight := [{ dst := .reg 5, val := 77, due := 40 }], lcs := [(1, 7)] }))
def dueSupply : State := supply 3 trapping
/-- One strand at a bundle of one slot. -/
def issuing (w : BitVec 32) : State := { quiet.withLine (bundleOf .m w 0#16) with agenda := [.issue 0], cursor := none }
def issueBegan (s : State) : State := { s with agenda := [] }.beginCycle 0
def issueFetched (s : State) : State × Fetched := (issueBegan s).fetch 0 (strandOf (issueBegan s))
def issueStaged (s : State) : Staged :=
  match (issueFetched s).2 with
  | .bundle (p :: _) _ _ => p
  | _ => ⟨0, none, 0, 0⟩
def issueReading (s : State) : Reading := let p := issueStaged s; (readSlot (slotClass p.slot) p.word p.parcel).getD ⟨.nop, true, none⟩
def issueCursor (s : State) : Cursor :=
  let t := strandOf (issueBegan s)
  ({ core := 0, ctx := 0, pc := t.pc, len := 6, wcnt := 0, begun := (issueFetched s).1.nextReq, unsent := !t.phase.isEmpty } : Cursor).atSlot (issueStaged s) (issueReading s).defect
def issueRan (s : State) : State := (onward (exec (issueReading s).instr { (issueFetched s).1 with cursor := some (issueCursor s) })).getD State.reset
/-- A matrix operation at its KZERO, and the operation as the queue holds it. -/
def microTurn0 : State := { microAt [0x1400000000000000#64] id id with agenda := [.micro 0] }
def queuedOp (s : State) : MatrixOp := ((s.core 0).mq.find? (·.running)).getD (microOf s).op
/-- An uncorrectable word of a table whose graph is loaded. -/
def tornGraph : State := { graphed with badSpad := [(0, 0x108 / 8)] }
/-- A probe of module 1 that has been answered. -/
def probed (n : Nat) : State := routed (memory.mapCore 0 (onStrand (fun t => { t with answer := some (n, if n = 0 then 77 else 6) })))
/-- A load of the counter page of module 1. -/
def counterReq : Request := { loadReq with parts := [{ addr := 0x40000000, mask := 0xFF, place := (List.range 8).map (fun i => (i, i)) }], remote := true, unit := 8 }
def counterSent : State := routed (withReq counterReq (fun k => { k with utlb := { farPage with ppage := 2 ^ 44 + 0xF0000000000 } :: k.utlb }))
/-- Walks to a ring: at its last record, at a record that faults, at the eighth of a unit and at the first. -/
def walkRing1 : Walk := { walk0 with toRing := true }
def walkRing0 : Walk := { walkRing1 with hops := 0 }
def walkRing7 : Walk := { walkRing1 with unit := List.replicate 7 3 }
def walkLost : Walk := { walkRing1 with hop := 1, rowptr := 0x50000000 }
def ringWalk (w : Walk) : State := (walkState w).mapCore 0 (onShare (fun h => { h with rings := [(1, { base := 0, size := 512, head := 0, tail := 64 })] }))
/-- A draw of module 1 into this module's memory, and the module with a strike on its home's draw unit. -/
def farDraw : RemoteMsg := { farStore with kind := .draw 0 true 0 0x3F800000 1 5 0, size := 16, mask := 0xFFFF }
def kindOf (m : RemoteMsg) : ReqKind := (remoteKind m.kind).getD .load
def drawDone (s : State) : State := homeState (s.atHomeNow (kindOf farDraw) 0x20000 (s.slotKey 0) 0xFFFF 0x77)
def struck : State := { quiet with strikes := [(Config.cores + homeCluster 0x20000, 3, 128, 0xF00000, false)] }
/-- A strand that has executed HIBER in its supply handler. -/
def savedHiber : State := supply 3 (quiet.mapCore 0 (onStrand (fun t => { t with saved := true, supplyBy := some 5 })))
/-- A module with a save area and a supply warning in force. -/
def areaWarned : State := (areaSet.setHreg 0x2000 3)

section Witnesses
set_option Elab.async false

/-! ### Every hypothesis is met -/

theorem met_ScalarFloat_2_1 :
  let a : BitVec 6 := 8
  let b : BitVec 6 := 12
  let ty : BitVec 4 := 12
  let s : State := nans
  let q : Bun := (slotBun s .nop)
  let f := scalarFmt ty
  let x := q.low a ty
  let y := q.low b ty
  let nan := (f.decode x).isNan ∨ (f.decode y).isNan
  (nan) := by decide +kernel
theorem met_ScalarFloat_2_2 :
  let a : BitVec 6 := 8
  let b : BitVec 6 := 12
  let ty : BitVec 4 := 12
  let s : State := nans
  let q : Bun := (slotBun s .nop)
  let f := scalarFmt ty
  let x := q.low a ty
  let y := q.low b ty
  let nan := (f.decode x).isNan ∨ (f.decode y).isNan
  (nan) := by decide +kernel
theorem met_ScalarFloat_2_3 :
  let a : BitVec 6 := 8
  let b : BitVec 6 := 12
  let ty : BitVec 4 := 12
  let s : State := nans
  let q : Bun := (slotBun s .nop)
  let f := scalarFmt ty
  let x := q.low a ty
  let y := q.low b ty
  let nan := (f.decode x).isNan ∨ (f.decode y).isNan
  (nan) := by decide +kernel
theorem met_ScalarFloat_2_4 :
  let a : BitVec 6 := 8
  let b : BitVec 6 := 12
  let ty : BitVec 4 := 12
  let s : State := nans
  let q : Bun := (slotBun s .nop)
  let f := scalarFmt ty
  let x := q.low a ty
  let y := q.low b ty
  let nan := (f.decode x).isNan ∨ (f.decode y).isNan
  (nan) := by decide +kernel
theorem met_ScalarFloat_2_5 :
  let a : BitVec 6 := 8
  let b : BitVec 6 := 12
  let ty : BitVec 4 := 12
  let s : State := nans
  let q : Bun := (slotBun s .nop)
  let f := scalarFmt ty
  let x := q.low a ty
  let y := q.low b ty
  let nan := (f.decode x).isNan ∨ (f.decode y).isNan
  (nan) := by decide +kernel
theorem met_ScalarFloat_2_6 :
  let a : BitVec 6 := 8
  let b : BitVec 6 := 12
  let ty : BitVec 4 := 12
  let s : State := nans
  let q : Bun := (slotBun s .nop)
  let f := scalarFmt ty
  let x := q.low a ty
  let y := q.low b ty
  let nan := (f.decode x).isNan ∨ (f.decode y).isNan
  (nan) := by decide +kernel
theorem met_ScalarFloat_2_7 :
  let a : BitVec 6 := 8
  let b : BitVec 6 := 12
  let ty : BitVec 4 := 12
  let cond : BitVec 4 := 1
  let s : State := nans
  let q : Bun := (slotBun s .nop)
  let f := scalarFmt ty
  let x := q.low a ty
  let y := q.low b ty
  let nan := (f.decode x).isNan ∨ (f.decode y).isNan
  (nan) ∧ ((f.test cond.toNat x y).1 = true) := by decide +kernel
theorem met_ScalarFloat_2_8 :
  let a : BitVec 6 := 8
  let b : BitVec 6 := 12
  let ty : BitVec 4 := 12
  let cond : BitVec 4 := 1
  let s : State := nans
  let q : Bun := (slotBun s .nop)
  let f := scalarFmt ty
  let x := q.low a ty
  let y := q.low b ty
  let nan := (f.decode x).isNan ∨ (f.decode y).isNan
  (nan) ∧ ((f.test cond.toNat x y).1 = true) := by decide +kernel
theorem met_ScalarFloat_2_9 :
  let a : BitVec 6 := 8
  let b : BitVec 6 := 12
  let ty : BitVec 4 := 12
  let cond : BitVec 4 := 1
  let s : State := nans
  let q : Bun := (slotBun s .nop)
  let f := scalarFmt ty
  let x := q.low a ty
  let y := q.low b ty
  let nan := (f.decode x).isNan ∨ (f.decode y).isNan
  (nan) ∧ ((f.test cond.toNat x y).1 = true) := by decide +kernel
theorem met_ScalarFloat_4 :
  let ty : BitVec 4 := 12
  let s : State := base
  let g := fmt32
  (floatOf ty.toNat = some g) := by decide +kernel
theorem met_ScalarFloat_5 : Meets base (.fcvt 10 11 12 3 0) (fun q =>
  let ty : BitVec 4 := 3
  (floatOf ty.toNat = none)) := meets_of (by decide +kernel) (by decide +kernel)
theorem met_ScalarFloat_6 :
  let s : State := base
  let q : Bun := (slotBun s .nop)
  (q.st.strikes = []) := by decide +kernel
theorem met_ScalarFloat_9 :
  let ty : BitVec 4 := 3
  let sty : BitVec 4 := 3
  let s : State := base
  (sty.toNat < 8) ∧ (sty = ty) := by decide +kernel
theorem met_ScalarDraws_3 :
  let s : State := base
  let q : Bun := (slotBun s .nop)
  (q.st.strikes = []) := by decide +kernel
theorem met_CallAndReturn_1 : Meets base (.call 13 4) (fun q =>
  let off : BitVec 20 := 4
  let target := q.cur.pc + off.signExtend 64 * 2
  (target.toNat < 2 ^ 48)) := meets_of (by decide +kernel) (by decide +kernel)
theorem met_CallAndReturn_2 : Meets base (.call 13 0x80000) (fun q =>
  let off : BitVec 20 := 0x80000
  let target := q.cur.pc + off.signExtend 64 * 2
  (2 ^ 48 ≤ target.toNat)) := meets_of (by decide +kernel) (by decide +kernel)
theorem met_CallAndReturn_3 : Meets base (.ret 13) (fun q =>
  let r : BitVec 5 := 13
  let back := q.val (r.setWidth 6)
  (back.toNat < 2 ^ 48) ∧ (back.getLsbD 0 = false)) := meets_of (by decide +kernel) (by decide +kernel)
theorem met_CallAndReturn_4 : Meets base (.ret 14) (fun q =>
  let r : BitVec 5 := 14
  let back := q.val (r.setWidth 6)
  (2 ^ 48 ≤ back.toNat ∨ back.getLsbD 0 = true)) := meets_of (by decide +kernel) (by decide +kernel)
theorem met_HardwareLoops_1_1 : Meets base (.loop 1 4 0 1 3) (fun q =>
  let c : BitVec 6 := 0
  let imm : BitVec 1 := 1
  let cnt : BitVec 9 := 3
  let count : Word := if imm = 1#1 then cnt.setWidth 64 else q.val c
  (count ≠ 0) ∧ (count.toNat < 2 ^ 32)) := meets_of (by decide +kernel) (by decide +kernel)
theorem met_HardwareLoops_1_2 : Meets base (.loop 1 4 0 0 0) (fun q =>
  let off : BitVec 20 := 4
  let c : BitVec 6 := 0
  let imm : BitVec 1 := 0
  let cnt : BitVec 9 := 0
  let target := q.cur.pc + off.signExtend 64 * 2
  let count : Word := if imm = 1#1 then cnt.setWidth 64 else q.val c
  (count = 0) ∧ (target.toNat < 2 ^ 48)) := meets_of (by decide +kernel) (by decide +kernel)
theorem met_HardwareLoops_1_4 : Meets base (.loop 1 4 14 0 0) (fun q =>
  let c : BitVec 6 := 14
  let imm : BitVec 1 := 0
  let cnt : BitVec 9 := 0
  let count : Word := if imm = 1#1 then cnt.setWidth 64 else q.val c
  (2 ^ 32 ≤ count.toNat)) := meets_of (by decide +kernel) (by decide +kernel)
theorem met_HardwareLoops_2_1 : Meets looping (.endl 1 4) (fun q =>
  let n : BitVec 2 := 1
  let off : BitVec 20 := 4
  let target := q.cur.pc + off.signExtend 64 * 2
  let lc := q.strand.readLc n.toNat
  (lc ≠ 0) ∧ (target.toNat < 2 ^ 48)) := meets_of (by decide +kernel) (by decide +kernel)
theorem met_HardwareLoops_2_3 : Meets looping (.endl 0 4) (fun q =>
  let n : BitVec 2 := 0
  let lc := q.strand.readLc n.toNat
  (lc = 0)) := meets_of (by decide +kernel) (by decide +kernel)
theorem met_NopTrapHiberTret_3 : Meets supplied (.hiber) (fun q =>
  (q.strand.supplyBy.isSome = true)) := meets_of (by decide +kernel) (by decide +kernel)
theorem met_NopTrapHiberTret_4 : Meets base (.hiber) (fun q =>
  (q.strand.supplyBy = none)) := meets_of (by decide +kernel) (by decide +kernel)
theorem met_NopTrapHiberTret_5 : Meets handling (.tret) (fun q =>
  (q.handler = true)) := meets_of (by decide +kernel) (by decide +kernel)
theorem met_NopTrapHiberTret_6 : Meets base (.tret) (fun q =>
  (q.handler = false)) := meets_of (by decide +kernel) (by decide +kernel)
theorem met_ExitAndYield_1 : Meets base (.exit) (fun q =>
  let t := q.strand
  let clear := t.checksums = [] ∧ ∀ r < 4, q.st.frozenTrap q.cur.core r t = none
  (clear)) := meets_of (by decide +kernel) (by decide +kernel)
theorem met_ExitAndYield_2 : Meets handling (.yield 36) (fun q =>
  let t := q.strand
  let clear := t.checksums = [] ∧ ∀ r < 4, q.st.frozenTrap q.cur.core r t = none
  (clear) ∧ (q.handler = true)) := meets_of (by decide +kernel) (by decide +kernel)
theorem met_Spawn_1 : Meets base (.spawn 10 36) (fun q =>
  let a : BitVec 6 := 36
  let record : Nat := ((match (slotBun base (.spawn 10 36)).st.virtRead 0 0 0x20000 128 with | (_, .ok v) => v | _ => 0))
  let s1 : State := (((slotBun base (.spawn 10 36)).st.virtRead 0 0 0x20000 128).1)
  let t := q.strand
  (q.regAddrStop a 0 128 128 = none) ∧ ((∀ x < 4, q.st.frozenTrap q.cur.core x t = none)) ∧ (q.cur.unsent = false) ∧ (q.st.writerDone t.gang t.member t.slot (q.cur.begun + 1) everyStore = true) ∧ (q.st.virtRead q.cur.core q.slotNo (q.val a).toNat 128 = (s1, .ok record))) := meets_of (by decide +kernel) (by decide +kernel)
theorem met_ControlRegisters_3 : Meets base (.crw 11 2) (fun q =>
  let a : BitVec 6 := 11
  let cr : BitVec 14 := 2
  (q.crwRefused cr.toNat (q.val a) = false) ∧ (q.badReg a = false) ∧ (q.crwStall cr.toNat = none)) := meets_of (by decide +kernel) (by decide +kernel)
theorem met_ControlRegisters_4 : Meets base (.crw 14 4) (fun q =>
  let a : BitVec 6 := 14
  let cr : BitVec 14 := 4
  (q.crwRefused cr.toNat (q.val a) = true)) := meets_of (by decide +kernel) (by decide +kernel)
theorem met_ControlWritten_1 :
  let s : State := base
  (Tab.rising s.cores = true) := by decide +kernel
theorem met_ControlWritten_2 :
  let s : State := base
  (Tab.rising s.cores = true) := by decide +kernel
theorem met_ControlWritten_3 :
  let s : State := base
  (Tab.rising s.cores = true) := by decide +kernel
theorem met_ControlWritten_4 :
  let s : State := base
  (Tab.rising s.cores = true) := by decide +kernel
theorem met_ControlWritten_5 :
  let s : State := base
  (Tab.rising s.cores = true) := by decide +kernel
theorem met_ControlWritten_6 :
  let s : State := base
  (Tab.rising s.cores = true) := by decide +kernel
theorem met_ControlWritten_7 :
  let s : State := base
  (Tab.rising s.cores = true) := by decide +kernel
theorem met_ControlWritten_8 :
  let s : State := base
  (Tab.rising s.cores = true) := by decide +kernel
theorem met_ControlWritten_9 :
  let s : State := base
  let c : Nat := 0
  let x : Nat := 0
  let v : Word := 7
  let o := 0x100000
  let after := fun (cr : Nat) => (s.writeControl c x cr v).core c
  (Tab.rising s.cores = true) ∧ ((after 4).spadSize ≤ o) := by decide +kernel
theorem met_ControlWritten_10 :
  let s : State := base
  let c : Nat := 0
  let x : Nat := 0
  let t : Strand := ((base.strand 0 0).getD {})
  (Tab.rising s.cores = true) ∧ (s.strand c x = some t) := by decide +kernel
theorem met_ScalarFloat_3 :
  let c : BitVec 6 := 8
  let ty : BitVec 4 := 12
  let s : State := nans
  let q : Bun := (slotBun s .nop)
  let f := scalarFmt ty
  let z := q.low c ty
  ((f.decode z).isNan = true) := by decide +kernel
theorem met_HardwareLoops_1_3 : Meets base (.loop 1 0x80000 0 1 0) (fun q =>
  let off : BitVec 20 := 0x80000
  let c : BitVec 6 := 0
  let imm : BitVec 1 := 1
  let cnt : BitVec 9 := 0
  let target := q.cur.pc + off.signExtend 64 * 2
  let count : Word := if imm = 1#1 then cnt.setWidth 64 else q.val c
  (count = 0) ∧ (2 ^ 48 ≤ target.toNat)) := meets_of (by decide +kernel) (by decide +kernel)
theorem met_HardwareLoops_2_2 : Meets looping (.endl 1 0x80000) (fun q =>
  let n : BitVec 2 := 1
  let off : BitVec 20 := 0x80000
  let target := q.cur.pc + off.signExtend 64 * 2
  let lc := q.strand.readLc n.toNat
  (lc ≠ 0) ∧ (2 ^ 48 ≤ target.toNat)) := meets_of (by decide +kernel) (by decide +kernel)
theorem met_IntegerArithmetic : MeetsAll base [.add 10 11 12 3 0#1, .sub 10 11 12 3 0#1, .mul 10 11 12 3 0#1, .addi 10 11 5, .add 10 14 12 2 1#1, .sub 10 14 12 2 1#1, .mul 10 14 12 2 1#1, .and 10 14 12 2, .or 10 14 12 2, .xor 10 14 12 2, .not 10 14 2] := meetsAll_of (by decide +kernel)
theorem met_MultiplyHighAndDivide : MeetsAll base [.mulh 10 11 12 3, .divs 10 11 12 3, .divn 10 11 12 7, .rem 10 11 12 3, .mulh 10 14 0 2, .divs 10 14 0 2, .rem 10 14 0 2] := meetsAll_of (by decide +kernel)
theorem met_Shifts : MeetsAll base [.shl 10 14 12 2, .shr 10 14 12 2, .sar 10 14 12 2, .rot 10 14 12 2, .shl 10#6 14#6 13#6 2#4, .shr 10#6 14#6 13#6 2#4, .sar 10#6 14#6 13#6 2#4, .rot 10#6 14#6 13#6 2#4] := meetsAll_of (by decide +kernel)
theorem met_CompareAndSelect : MeetsAll base [.min 10 11 12 3, .max 10 11 12 3, .cmp 10 11 12 3 2, .sel 10 11 12 13] := meetsAll_of (by decide +kernel)
theorem met_BitCounts : MeetsAll base [.popc 10 11 3, .clz 10 11 3, .ctz 10 11 3] := meetsAll_of (by decide +kernel)
theorem met_ImmediatesAndFields : MeetsAll base [.movi 10 77, .movh 10 11 77, .bfx 10 11 1 3 4, .bfi 10 11 3 4, .pack 10 11 12 4] := meetsAll_of (by decide +kernel)
theorem met_ScalarDraws : MeetsAll base [.dmerge 10 12 14 13 0, .dscale 10 12 14 0] := meetsAll_of (by decide +kernel)
theorem met_NopTrapHiberTret : MeetsAll base [.nop, .trap 5] := meetsAll_of (by decide +kernel)
theorem met_ControlRegisters : MeetsAll base [.crr 10 2] := meetsAll_of (by decide +kernel)
theorem met_ScratchpadLoadStore_1 : Meets memory (.ld 10 3 3 0x10) (fun q =>
  let d : BitVec 6 := 10
  let a : BitVec 4 := 3
  let sz : BitVec 2 := 3
  let off : BitVec 12 := 0x10
  let ea := q.ea a off
  let n := Machine.sizeOf sz
  let plain := q.mods.space ≤ 1 ∧ q.mods.order = 0 ∧ q.mods.oflag = false
  let fits := (q.val (areg a)).toNat < 2 ^ 56 ∧ q.badReg (areg a) = false ∧ ea.toNat % n = 0 ∧ ea.toNat + n ≤ q.core.spadSize
  (plain) ∧ (fits) ∧ (isDest d = true) ∧ ((∀ i < n, q.badWord (ea.toNat + i) 1 = none))) := meets_of (by decide +kernel) (by decide +kernel)
theorem met_ScratchpadLoadStore_2 : Meets memory (.st 11 3 3 0x10) (fun q =>
  let d : BitVec 6 := 11
  let a : BitVec 4 := 3
  let sz : BitVec 2 := 3
  let off : BitVec 12 := 0x10
  let ea := q.ea a off
  let n := Machine.sizeOf sz
  let plain := q.mods.space ≤ 1 ∧ q.mods.order = 0 ∧ q.mods.oflag = false
  let fits := (q.val (areg a)).toNat < 2 ^ 56 ∧ q.badReg (areg a) = false ∧ ea.toNat % n = 0 ∧ ea.toNat + n ≤ q.core.spadSize
  (plain) ∧ (fits) ∧ (q.badReg d = false) ∧ (q.copyStop 1 ea.toNat n = none)) := meets_of (by decide +kernel) (by decide +kernel)
theorem met_ScratchpadLoadStore_3 : Meets (under 0x20040) (.ld 48 3 3 0) (fun q =>
  let d : BitVec 6 := 48
  let a : BitVec 4 := 3
  let sz : BitVec 2 := 3
  let off : BitVec 12 := 0
  let ea := q.ea a off
  let n := Machine.sizeOf sz
  let m : Mods := { q.mods with scope := min q.mods.scope 2 }
  let window := q.mods.space = 2 ∧ q.mods.order = 0 ∧ q.mods.oflag = false ∧ (q.val (areg a)).toNat < 2 ^ 56 ∧
    q.badReg (areg a) = false ∧ ea.toNat % n = 0 ∧ ea.toNat < 2 ^ 29 ∧ ea.toNat / 2 ^ 21 ≤ 191
  (window) ∧ (q.targetStop d 0 m 1 = none)) := meets_of (by decide +kernel) (by decide +kernel)
theorem met_ScratchpadLoadStore_4 : Meets (under 0x20040) (.st 11 3 3 0) (fun q =>
  let d : BitVec 6 := 11
  let a : BitVec 4 := 3
  let sz : BitVec 2 := 3
  let off : BitVec 12 := 0
  let ea := q.ea a off
  let n := Machine.sizeOf sz
  let m : Mods := { q.mods with scope := min q.mods.scope 2 }
  let window := q.mods.space = 2 ∧ q.mods.order = 0 ∧ q.mods.oflag = false ∧ (q.val (areg a)).toNat < 2 ^ 56 ∧
    q.badReg (areg a) = false ∧ ea.toNat % n = 0 ∧ ea.toNat < 2 ^ 29 ∧ ea.toNat / 2 ^ 21 ≤ 191
  (window) ∧ (q.badReg d = false) ∧ (q.copyStop 2 ea.toNat n = none) ∧ (q.creditStop m.queue 1 = none)) := meets_of (by decide +kernel) (by decide +kernel)
theorem met_ScratchpadLoadStore_5 : Meets memory (.ld 10 3 3 1) (fun q =>
  let d : BitVec 6 := 10
  let a : BitVec 4 := 3
  let sz : BitVec 2 := 3
  let off : BitVec 12 := 1
  let ea := q.ea a off
  let n := Machine.sizeOf sz
  let plain := q.mods.space ≤ 1 ∧ q.mods.order = 0 ∧ q.mods.oflag = false
  let crooked := plain ∧ (q.val (areg a)).toNat < 2 ^ 56 ∧ ea.toNat < 2 ^ 56 ∧ ea.toNat % n ≠ 0
  (crooked) ∧ (isDest d = true)) := meets_of (by decide +kernel) (by decide +kernel)
theorem met_ScratchpadLoadStore_6 : Meets memory (.st 11 3 2 1) (fun q =>
  let a : BitVec 4 := 3
  let sz : BitVec 2 := 2
  let off : BitVec 12 := 1
  let ea := q.ea a off
  let n := Machine.sizeOf sz
  let plain := q.mods.space ≤ 1 ∧ q.mods.order = 0 ∧ q.mods.oflag = false
  let crooked := plain ∧ (q.val (areg a)).toNat < 2 ^ 56 ∧ ea.toNat < 2 ^ 56 ∧ ea.toNat % n ≠ 0
  (crooked)) := meets_of (by decide +kernel) (by decide +kernel)
theorem met_ScratchpadVectors_3 : Meets memory (.vld 10 3 0 0 0 0 1) (fun q =>
  let a : BitVec 4 := 3
  let k : BitVec 3 := 0
  let off : BitVec 12 := 0
  let c : BitVec 6 := 0
  let reg : BitVec 1 := 0
  let simm : BitVec 9 := 1
  let ea := q.ea a off
  let stride : Word := if reg = 1#1 then q.val c else simm.signExtend 64 * 16
  let unit := fun (u : Nat) => (ea + BitVec.ofNat 64 u * stride).toNat
  let bytes := (List.range 32).flatMap (fun u => (List.range 16).filterMap (fun i =>
    if (q.pred k).getLsbD (4 * u + i / 4) then some (16 * u + i, unit u + i) else none))
  let plain := q.mods.space ≤ 1 ∧ q.mods.order = 0 ∧ q.mods.oflag = false
  let fits := (q.val (areg a)).toNat < 2 ^ 56 ∧ q.badReg (areg a) = false ∧ (reg = 1#1 → stride.toNat % 16 = 0) ∧
    (∀ u < 32, unit u % 16 = 0 ∧ unit u + 16 ≤ q.core.spadSize) ∧
    ∀ bank < 32, ((List.range 32).countP (fun u => decide ((q.pred k).extractLsb' (4 * u) 4 ≠ 0#4 ∧ unit u / 16 % 32 = bank))) ≤
      1 + q.strand.bankSince.elim 0 (q.core.cycle - ·)
  (plain) ∧ (fits) ∧ ((∀ e ∈ bytes, q.badWord e.2 1 = none))) := meets_of (by decide +kernel) (by decide +kernel)
theorem met_ScratchpadVectors_4 : Meets memory (.vst 10 3 0 0 0 0 1) (fun q =>
  let d : BitVec 6 := 10
  let a : BitVec 4 := 3
  let k : BitVec 3 := 0
  let off : BitVec 12 := 0
  let c : BitVec 6 := 0
  let reg : BitVec 1 := 0
  let simm : BitVec 9 := 1
  let ea := q.ea a off
  let stride : Word := if reg = 1#1 then q.val c else simm.signExtend 64 * 16
  let unit := fun (u : Nat) => (ea + BitVec.ofNat 64 u * stride).toNat
  let plain := q.mods.space ≤ 1 ∧ q.mods.order = 0 ∧ q.mods.oflag = false
  let fits := (q.val (areg a)).toNat < 2 ^ 56 ∧ q.badReg (areg a) = false ∧ (reg = 1#1 → stride.toNat % 16 = 0) ∧
    (∀ u < 32, unit u % 16 = 0 ∧ unit u + 16 ≤ q.core.spadSize) ∧
    ∀ bank < 32, ((List.range 32).countP (fun u => decide ((q.pred k).extractLsb' (4 * u) 4 ≠ 0#4 ∧ unit u / 16 % 32 = bank))) ≤
      1 + q.strand.bankSince.elim 0 (q.core.cycle - ·)
  (plain) ∧ (fits) ∧ (q.core.copies = []) ∧ (q.vecResidue d (fun l => (q.pred k).getLsbD l) = none)) := meets_of (by decide +kernel) (by decide +kernel)
theorem met_ScratchpadIssue_1 :
  let s : State := memory
  let c : Nat := 0
  let stores : List (Nat × Nat × Byte) := ([(2, 8, 7)])
  let o := 9
  (Tab.rising s.cores = true) ∧ (Tab.rising (s.core c).spad = true) ∧ ((∀ e ∈ stores, e.2.1 ≠ o)) := by decide +kernel
theorem met_ScratchpadIssue_2 :
  let s : State := memory
  let c : Nat := 0
  let stores : List (Nat × Nat × Byte) := ([(2, 8, 7), (3, 9, 5)])
  let pre := (([] : List (Nat × Nat × Byte)))
  let slot := 2
  let o := 8
  let v := ((7 : Byte))
  let post := ([(3, 9, 5)])
  (Tab.rising s.cores = true) ∧ (Tab.rising (s.core c).spad = true) ∧ (stores = pre ++ (slot, o, v) :: post) ∧ ((slot = 2 ∨ slot = 3)) ∧ ((∀ e ∈ post, e.2.1 ≠ o)) ∧ ((∀ e ∈ pre, e.1 ≠ slot → e.2.1 ≠ o)) := by decide +kernel
theorem met_ScratchpadIssue_3 :
  let s : State := memory
  let c : Nat := 0
  (Tab.rising s.cores = true) ∧ (Tab.rising (s.core c).spad = true) := by decide +kernel
theorem met_QueuedLoads_1 : Meets memory (.ldq 48 4 3 8) (fun q =>
  let d : BitVec 6 := 48
  let a : BitVec 4 := 4
  let sz : BitVec 2 := 3
  let off : BitVec 12 := 8
  let m := q.mods
  let ea := q.ea a off
  let n := Machine.sizeOf sz
  let plain := m.space = 0 ∧ m.order = 0 ∧ m.oflag = false
  let based := (q.val (areg a)).toNat < 2 ^ 56 ∧ q.badReg (areg a) = false
  (plain) ∧ (based) ∧ (ea.toNat < 2 ^ 56) ∧ (ea.toNat % n = 0) ∧ (q.targetStop d 0 m 1 = none)) := meets_of (by decide +kernel) (by decide +kernel)
theorem met_QueuedLoads_2 : Meets (under 0x4000) (.ldq 48 4 3 8) (fun q =>
  let d : BitVec 6 := 48
  let a : BitVec 4 := 4
  let sz : BitVec 2 := 3
  let off : BitVec 12 := 8
  let m := q.mods
  let ea := q.ea a off
  let n := Machine.sizeOf sz
  let based := (q.val (areg a)).toNat < 2 ^ 56 ∧ q.badReg (areg a) = false
  let parts := loadParts (loadRun ea.toNat 0 n)
  let sent := q.beforeImmediate parts m
  (m.space = 0) ∧ (m.order = 1) ∧ (m.oflag = false) ∧ (based) ∧ (ea.toNat < 2 ^ 56) ∧ (ea.toNat % n = 0) ∧ ((q.flushSectors parts).2 = none) ∧ (sent.targetStop d 0 m 1 = none)) := meets_of (by decide +kernel) (by decide +kernel)

theorem met_QueuedLoads_5 : Meets memory (.ldsec 49 4 0) (fun q =>
  let d : BitVec 6 := 49
  let a : BitVec 4 := 4
  let off : BitVec 12 := 0
  let m := q.mods
  let ea := q.ea a off
  let plain := m.space = 0 ∧ m.order = 0 ∧ m.oflag = false
  let based := (q.val (areg a)).toNat < 2 ^ 56 ∧ q.badReg (areg a) = false
  (plain) ∧ (based) ∧ (ea.toNat < 2 ^ 56) ∧ (ea.toNat % 32 = 0) ∧ (q.targetStop d 1 m 1 = none)) := meets_of (by decide +kernel) (by decide +kernel)
theorem met_QueuedLoads_6 : Meets memory (.gatherq 50 4 2 0 0 0 3) (fun q =>
  let d : BitVec 6 := 50
  let a : BitVec 4 := 4
  let sz : BitVec 2 := 2
  let off : BitVec 12 := 0
  let c : BitVec 6 := 0
  let shift : BitVec 2 := 0
  let k : BitVec 3 := 3
  let m := q.mods
  let ea := q.ea a off
  let plain := m.space = 0 ∧ m.order = 0 ∧ m.oflag = false
  let based := (q.val (areg a)).toNat < 2 ^ 56 ∧ q.badReg (areg a) = false
  let lanes := q.laneAddrs ea c sz shift k
  let gathered := loadParts (lanes.flatMap (fun e => loadRun e.2.toNat (laneOffset sz e.1) (laneBytes sz)))
  (plain) ∧ (based) ∧ ((∀ e ∈ lanes, e.2.toNat < 2 ^ 56 ∧ e.2.toNat % laneBytes sz = 0)) ∧ (q.targetStop d 2 m gathered.length = none)) := meets_of (by decide +kernel) (by decide +kernel)
theorem met_QueuedLoads_7 : Meets memory (.pref 4 1 0) (fun q =>
  let a : BitVec 4 := 4
  let off : BitVec 12 := 0
  let ext : BitVec 2 := 1
  let m := q.mods
  let ea := q.ea a off
  let plain := m.space = 0 ∧ m.order = 0 ∧ m.oflag = false
  let based := (q.val (areg a)).toNat < 2 ^ 56 ∧ q.badReg (areg a) = false
  (plain) ∧ (based) ∧ (ea.toNat < 2 ^ 56) ∧ (q.creditStop m.queue (if ext = 1#2 then 4 else 1) = none)) := meets_of (by decide +kernel) (by decide +kernel)
theorem met_QueuedStores_1 : Meets memory (.stq 11 4 3 8) (fun q =>
  let d : BitVec 6 := 11
  let a : BitVec 4 := 4
  let sz : BitVec 2 := 3
  let off : BitVec 12 := 8
  let m := q.mods
  let ea := q.ea a off
  let n := Machine.sizeOf sz
  let parts := storeParts (storeRun ea.toNat n (q.val d).toNat)
  let fits := m.space = 0 ∧ (q.val (areg a)).toNat < 2 ^ 56 ∧ q.badReg (areg a) = false ∧ ea.toNat < 2 ^ 56 ∧ ea.toNat % n = 0 ∧
    q.badReg d = false ∧ q.copyStop 0 ea.toNat n = none
  (fits) ∧ (m.order = 0) ∧ (m.oflag = false) ∧ (q.remoteModule ea.toNat = none) ∧ (q.bufferStop parts m = none)) := meets_of (by decide +kernel) (by decide +kernel)
theorem met_QueuedStores_2 : Meets memory (.stq 11 5 3 8) (fun q =>
  let d : BitVec 6 := 11
  let a : BitVec 4 := 5
  let sz : BitVec 2 := 3
  let off : BitVec 12 := 8
  let m := q.mods
  let ea := q.ea a off
  let n := Machine.sizeOf sz
  let fits := m.space = 0 ∧ (q.val (areg a)).toNat < 2 ^ 56 ∧ q.badReg (areg a) = false ∧ ea.toNat < 2 ^ 56 ∧ ea.toNat % n = 0 ∧
    q.badReg d = false ∧ q.copyStop 0 ea.toNat n = none
  (fits) ∧ (m.order = 0) ∧ (m.oflag = false) ∧ ((q.remoteModule ea.toNat).isSome = true) ∧ (q.creditStop m.queue 1 = none)) := meets_of (by decide +kernel) (by decide +kernel)
theorem met_QueuedStores_3 : Meets (under 0x8000) (.stq 11 4 3 8) (fun q =>
  let d : BitVec 6 := 11
  let a : BitVec 4 := 4
  let sz : BitVec 2 := 3
  let off : BitVec 12 := 8
  let m := q.mods
  let ea := q.ea a off
  let n := Machine.sizeOf sz
  let parts := storeParts (storeRun ea.toNat n (q.val d).toNat)
  let fits := m.space = 0 ∧ (q.val (areg a)).toNat < 2 ^ 56 ∧ q.badReg (areg a) = false ∧ ea.toNat < 2 ^ 56 ∧ ea.toNat % n = 0 ∧
    q.badReg d = false ∧ q.copyStop 0 ea.toNat n = none
  (fits) ∧ (m.order = 2) ∧ (m.oflag = false) ∧ ((∀ x ∈ q.immediateStops parts m, x = none)) ∧ ((q.beforeImmediate parts m).creditStop m.queue 1 = none)) := meets_of (by decide +kernel) (by decide +kernel)
theorem met_QueuedStores_4 : Meets (under 0x8000) (.stf 11 5 3 8) (fun q =>
  let d : BitVec 6 := 11
  let a : BitVec 4 := 5
  let sz : BitVec 2 := 3
  let off : BitVec 12 := 8
  let m := q.mods
  let ea := q.ea a off
  let n := Machine.sizeOf sz
  let parts := storeParts (storeRun ea.toNat n (q.val d).toNat)
  let fits := m.space = 0 ∧ (q.val (areg a)).toNat < 2 ^ 56 ∧ q.badReg (areg a) = false ∧ ea.toNat < 2 ^ 56 ∧ ea.toNat % n = 0 ∧
    q.badReg d = false ∧ q.copyStop 0 ea.toNat n = none
  (fits) ∧ ((m.order = 0 ∨ m.order = 2)) ∧ ((∀ x ∈ q.immediateStops parts m, x = none)) ∧ ((q.beforeImmediate parts m).creditStop m.queue 1 = none)) := meets_of (by decide +kernel) (by decide +kernel)
theorem met_QueuedStores_4_b : Meets memory (.stf 11 4 3 8) (fun q =>
  let d : BitVec 6 := 11
  let a : BitVec 4 := 4
  let sz : BitVec 2 := 3
  let off : BitVec 12 := 8
  let m := q.mods
  let ea := q.ea a off
  let n := Machine.sizeOf sz
  let parts := storeParts (storeRun ea.toNat n (q.val d).toNat)
  let fits := m.space = 0 ∧ (q.val (areg a)).toNat < 2 ^ 56 ∧ q.badReg (areg a) = false ∧ ea.toNat < 2 ^ 56 ∧ ea.toNat % n = 0 ∧
    q.badReg d = false ∧ q.copyStop 0 ea.toNat n = none
  (fits) ∧ ((m.order = 0 ∨ m.order = 2)) ∧ ((∀ x ∈ q.immediateStops parts m, x = none)) ∧ ((q.beforeImmediate parts m).creditStop m.queue 1 = none)) := meets_of (by decide +kernel) (by decide +kernel)
theorem met_QueuedStores_6 : Meets memory (.scatterq 11 4 2 0x38 0 0 3) (fun q =>
  let d : BitVec 6 := 11
  let a : BitVec 4 := 4
  let sz : BitVec 2 := 2
  let off : BitVec 12 := 0x38
  let c : BitVec 6 := 0
  let shift : BitVec 2 := 0
  let k : BitVec 3 := 3
  let m := q.mods
  let ea := q.ea a off
  let lanes := q.laneAddrs ea c sz shift k
  let scattered := storeParts (lanes.flatMap (fun e => (List.range (laneBytes sz)).map (fun i =>
    (e.2.toNat + i, byteOf (q.vec d).toNat (laneOffset sz e.1 + i)))))
  let away := scattered.filter (fun p => (q.remoteModule p.addr).isSome)
  let home := scattered.filter (fun p => (q.remoteModule p.addr).isNone)
  let active := fun (l : Nat) => if sz = 3#2 then (q.pred k).getLsbD (l / 8) else (q.pred k).getLsbD l
  (m.space = 0) ∧ (m.order = 0) ∧ (m.oflag = false) ∧ ((q.val (areg a)).toNat < 2 ^ 56) ∧ (q.badReg (areg a) = false) ∧ (q.core.copies = []) ∧ (q.vecResidue d active = none) ∧ ((∀ e ∈ lanes, e.2.toNat < 2 ^ 56 ∧ e.2.toNat % laneBytes sz = 0)) ∧ ((away ≠ [] → q.creditStop m.queue away.length = none)) ∧ ((home ≠ [] → (q.sendParts away m).bufferStop home m = none))) := meets_of (by decide +kernel) (by decide +kernel)
theorem met_QueuedStores_6_b : Meets memory (.scatterq 11 5 2 0x38 0 0 3) (fun q =>
  let d : BitVec 6 := 11
  let a : BitVec 4 := 5
  let sz : BitVec 2 := 2
  let off : BitVec 12 := 0x38
  let c : BitVec 6 := 0
  let shift : BitVec 2 := 0
  let k : BitVec 3 := 3
  let m := q.mods
  let ea := q.ea a off
  let lanes := q.laneAddrs ea c sz shift k
  let scattered := storeParts (lanes.flatMap (fun e => (List.range (laneBytes sz)).map (fun i =>
    (e.2.toNat + i, byteOf (q.vec d).toNat (laneOffset sz e.1 + i)))))
  let away := scattered.filter (fun p => (q.remoteModule p.addr).isSome)
  let home := scattered.filter (fun p => (q.remoteModule p.addr).isNone)
  let active := fun (l : Nat) => if sz = 3#2 then (q.pred k).getLsbD (l / 8) else (q.pred k).getLsbD l
  (m.space = 0) ∧ (m.order = 0) ∧ (m.oflag = false) ∧ ((q.val (areg a)).toNat < 2 ^ 56) ∧ (q.badReg (areg a) = false) ∧ (q.core.copies = []) ∧ (q.vecResidue d active = none) ∧ ((∀ e ∈ lanes, e.2.toNat < 2 ^ 56 ∧ e.2.toNat % laneBytes sz = 0)) ∧ ((away ≠ [] → q.creditStop m.queue away.length = none)) ∧ ((home ≠ [] → (q.sendParts away m).bufferStop home m = none))) := meets_of (by decide +kernel) (by decide +kernel)
theorem met_Atomics_1_1 : Meets memory (.amo 48 4 0 8 11 1 0 3 0) (fun q =>
  let d : BitVec 6 := 48
  let a : BitVec 4 := 4
  let fn : BitVec 4 := 0
  let off : BitVec 12 := 8
  let c : BitVec 6 := 11
  let ret : BitVec 1 := 1
  let sz : BitVec 2 := 3
  let newv : BitVec 6 := 0
  let m := q.mods
  let ea := q.ea a off
  let n := Machine.sizeOf sz
  let plain := m.space = 0 ∧ m.oflag = false ∧ (q.val (areg a)).toNat < 2 ^ 56 ∧ q.badReg (areg a) = false ∧ ea.toNat < 2 ^ 56
  let parts := loadParts (loadRun ea.toNat 0 n)
  let sent := q.beforeImmediate parts m
  (plain) ∧ (ea.toNat % n = 0) ∧ (q.badReg c = false) ∧ ((fn = 7#4 → q.badReg newv = false)) ∧ (q.copyStop 0 ea.toNat n = none) ∧ ((∀ x ∈ q.immediateStops parts m, x = none)) ∧ (ret = 1#1) ∧ (m.order ≤ 2) ∧ (sent.targetStop d 0 m 1 = none)) := meets_of (by decide +kernel) (by decide +kernel)
theorem met_Atomics_1_2 : Meets (under 0x8000) (.amo 0 4 7 8 11 0 0 3 12) (fun q =>
  let a : BitVec 4 := 4
  let fn : BitVec 4 := 7
  let off : BitVec 12 := 8
  let c : BitVec 6 := 11
  let ret : BitVec 1 := 0
  let sz : BitVec 2 := 3
  let newv : BitVec 6 := 12
  let m := q.mods
  let ea := q.ea a off
  let n := Machine.sizeOf sz
  let plain := m.space = 0 ∧ m.oflag = false ∧ (q.val (areg a)).toNat < 2 ^ 56 ∧ q.badReg (areg a) = false ∧ ea.toNat < 2 ^ 56
  let parts := loadParts (loadRun ea.toNat 0 n)
  let sent := q.beforeImmediate parts m
  (plain) ∧ (ea.toNat % n = 0) ∧ (q.badReg c = false) ∧ ((fn = 7#4 → q.badReg newv = false)) ∧ (q.copyStop 0 ea.toNat n = none) ∧ ((∀ x ∈ q.immediateStops parts m, x = none)) ∧ (ret = 0#1) ∧ ((m.order = 0 ∨ m.order = 2)) ∧ (sent.creditStop m.queue 1 = none)) := meets_of (by decide +kernel) (by decide +kernel)
theorem met_Atomics_2 : Meets memory (.amoDraw 4 0 12 5 0) (fun q =>
  let a : BitVec 4 := 4
  let off : BitVec 12 := 0
  let c : BitVec 6 := 12
  let m := q.mods
  let ea := q.ea a off
  let plain := m.space = 0 ∧ m.oflag = false ∧ (q.val (areg a)).toNat < 2 ^ 56 ∧ q.badReg (areg a) = false ∧ ea.toNat < 2 ^ 56
  let cell := loadParts (loadRun ea.toNat 0 16)
  let drawn := q.beforeImmediate cell m
  (plain) ∧ (ea.toNat % 16 = 0) ∧ (q.badReg c = false) ∧ (q.badReg (c + 1) = false) ∧ ((m.order = 0 ∨ m.order = 2)) ∧ (q.copyStop 0 ea.toNat 16 = none) ∧ ((∀ x ∈ q.immediateStops cell m, x = none)) ∧ (drawn.creditStop m.queue 1 = none)) := meets_of (by decide +kernel) (by decide +kernel)
theorem met_ScratchpadVectors_1 : Meets (under 0x20040) (.vld 50 3 0 0 0 0 1) (fun q =>
  let d : BitVec 6 := 50
  let a : BitVec 4 := 3
  let k : BitVec 3 := 0
  let off : BitVec 12 := 0
  let c : BitVec 6 := 0
  let reg : BitVec 1 := 0
  let simm : BitVec 9 := 1
  let ea := q.ea a off
  let stride : Word := if reg = 1#1 then q.val c else simm.signExtend 64 * 16
  let unit := fun (u : Nat) => (ea + BitVec.ofNat 64 u * stride).toNat
  let bytes := (List.range 32).flatMap (fun u => (List.range 16).filterMap (fun i =>
    if (q.pred k).getLsbD (4 * u + i / 4) then some (16 * u + i, unit u + i) else none))
  let m : Mods := { q.mods with scope := min q.mods.scope 2 }
  let window := q.mods.space = 2 ∧ q.mods.order = 0 ∧ q.mods.oflag = false ∧ (q.val (areg a)).toNat < 2 ^ 56 ∧ q.badReg (areg a) = false ∧
    (reg = 1#1 → stride.toNat % 16 = 0) ∧ ∀ u < 32, unit u % 16 = 0 ∧ unit u < 2 ^ 29 ∧ unit u / 2 ^ 21 ≤ 191
  let read := loadParts (bytes.map (fun e => (e.2, e.1)))
  (window) ∧ (q.targetStop d 2 m read.length = none)) := meets_of (by decide +kernel) (by decide +kernel)
theorem met_ScratchpadVectors_2 : Meets (under 0x20040) (.vst 10 3 0 0 0 0 1) (fun q =>
  let d : BitVec 6 := 10
  let a : BitVec 4 := 3
  let k : BitVec 3 := 0
  let off : BitVec 12 := 0
  let c : BitVec 6 := 0
  let reg : BitVec 1 := 0
  let simm : BitVec 9 := 1
  let ea := q.ea a off
  let stride : Word := if reg = 1#1 then q.val c else simm.signExtend 64 * 16
  let unit := fun (u : Nat) => (ea + BitVec.ofNat 64 u * stride).toNat
  let bytes := (List.range 32).flatMap (fun u => (List.range 16).filterMap (fun i =>
    if (q.pred k).getLsbD (4 * u + i / 4) then some (16 * u + i, unit u + i) else none))
  let m : Mods := { q.mods with scope := min q.mods.scope 2 }
  let window := q.mods.space = 2 ∧ q.mods.order = 0 ∧ q.mods.oflag = false ∧ (q.val (areg a)).toNat < 2 ^ 56 ∧ q.badReg (areg a) = false ∧
    (reg = 1#1 → stride.toNat % 16 = 0) ∧ ∀ u < 32, unit u % 16 = 0 ∧ unit u < 2 ^ 29 ∧ unit u / 2 ^ 21 ≤ 191
  let written := storeParts (bytes.map (fun e => (e.2, byteOf (q.vec d).toNat e.1)))
  (window) ∧ (q.vecResidue d (fun l => (q.pred k).getLsbD l) = none) ∧ ((∀ p ∈ written, q.copyStop 2 p.addr 32 = none)) ∧ (q.creditStop m.queue written.length = none)) := meets_of (by decide +kernel) (by decide +kernel)
theorem met_QueuedLoads_3 : Meets (under 0x4000) (.ldsec 49 4 0) (fun q =>
  let d : BitVec 6 := 49
  let a : BitVec 4 := 4
  let off : BitVec 12 := 0
  let m := q.mods
  let ea := q.ea a off
  let based := (q.val (areg a)).toNat < 2 ^ 56 ∧ q.badReg (areg a) = false
  let sector := loadParts (loadRun ea.toNat 0 32)
  (m.space = 0) ∧ (m.order = 1) ∧ (m.oflag = false) ∧ (based) ∧ (ea.toNat < 2 ^ 56) ∧ (ea.toNat % 32 = 0) ∧ ((q.flushSectors sector).2 = none) ∧ ((q.beforeImmediate sector m).targetStop d 1 m 1 = none)) := meets_of (by decide +kernel) (by decide +kernel)
theorem met_QueuedLoads_4_1 : Meets (under 0x20040) (.ldq 48 3 3 0) (fun q =>
  let d : BitVec 6 := 48
  let a : BitVec 4 := 3
  let sz : BitVec 2 := 3
  let off : BitVec 12 := 0
  let m := q.mods
  let ea := q.ea a off
  let n := Machine.sizeOf sz
  let based := (q.val (areg a)).toNat < 2 ^ 56 ∧ q.badReg (areg a) = false
  let mw : Mods := { m with scope := min m.scope 2 }
  let window := m.space = 2 ∧ m.order ≤ 1 ∧ m.oflag = false ∧ based ∧ ea.toNat < 2 ^ 29 ∧ ea.toNat / 2 ^ 21 ≤ 191
  (window) ∧ (ea.toNat % n = 0) ∧ (q.targetStop d 0 mw 1 = none)) := meets_of (by decide +kernel) (by decide +kernel)
theorem met_QueuedLoads_4_2 : Meets (under 0x20040) (.ldsec 49 3 0) (fun q =>
  let d : BitVec 6 := 49
  let a : BitVec 4 := 3
  let off : BitVec 12 := 0
  let m := q.mods
  let ea := q.ea a off
  let based := (q.val (areg a)).toNat < 2 ^ 56 ∧ q.badReg (areg a) = false
  let mw : Mods := { m with scope := min m.scope 2 }
  let window := m.space = 2 ∧ m.order ≤ 1 ∧ m.oflag = false ∧ based ∧ ea.toNat < 2 ^ 29 ∧ ea.toNat / 2 ^ 21 ≤ 191
  (window) ∧ (ea.toNat % 32 = 0) ∧ (q.targetStop d 1 mw 1 = none)) := meets_of (by decide +kernel) (by decide +kernel)
theorem met_QueuedStores_5_1 : Meets (under 0x20040) (.stq 11 3 3 0) (fun q =>
  let d : BitVec 6 := 11
  let a : BitVec 4 := 3
  let sz : BitVec 2 := 3
  let off : BitVec 12 := 0
  let m := q.mods
  let ea := q.ea a off
  let n := Machine.sizeOf sz
  let mw : Mods := { m with scope := min m.scope 2 }
  let window := m.space = 2 ∧ (q.val (areg a)).toNat < 2 ^ 56 ∧ q.badReg (areg a) = false ∧ ea.toNat < 2 ^ 29 ∧ ea.toNat / 2 ^ 21 ≤ 191 ∧
    ea.toNat % n = 0 ∧ q.badReg d = false ∧ q.copyStop 2 ea.toNat n = none
  (window) ∧ (m.order = 0) ∧ (m.oflag = false) ∧ (q.creditStop mw.queue 1 = none)) := meets_of (by decide +kernel) (by decide +kernel)
theorem met_QueuedStores_5_2 : Meets (under 0x28040) (.stq 11 3 3 0) (fun q =>
  let d : BitVec 6 := 11
  let a : BitVec 4 := 3
  let sz : BitVec 2 := 3
  let off : BitVec 12 := 0
  let m := q.mods
  let ea := q.ea a off
  let n := Machine.sizeOf sz
  let mw : Mods := { m with scope := min m.scope 2 }
  let window := m.space = 2 ∧ (q.val (areg a)).toNat < 2 ^ 56 ∧ q.badReg (areg a) = false ∧ ea.toNat < 2 ^ 29 ∧ ea.toNat / 2 ^ 21 ≤ 191 ∧
    ea.toNat % n = 0 ∧ q.badReg d = false ∧ q.copyStop 2 ea.toNat n = none
  (window) ∧ (m.order = 2) ∧ (m.oflag = false) ∧ ((∀ x ∈ q.immediateStops [] mw, x = none)) ∧ ((q.beforeImmediate [] mw).creditStop mw.queue 1 = none)) := meets_of (by decide +kernel) (by decide +kernel)
theorem met_QueuedStores_5_3 : Meets (under 0x28040) (.stf 11 3 3 0) (fun q =>
  let d : BitVec 6 := 11
  let a : BitVec 4 := 3
  let sz : BitVec 2 := 3
  let off : BitVec 12 := 0
  let m := q.mods
  let ea := q.ea a off
  let n := Machine.sizeOf sz
  let mw : Mods := { m with scope := min m.scope 2 }
  let window := m.space = 2 ∧ (q.val (areg a)).toNat < 2 ^ 56 ∧ q.badReg (areg a) = false ∧ ea.toNat < 2 ^ 29 ∧ ea.toNat / 2 ^ 21 ≤ 191 ∧
    ea.toNat % n = 0 ∧ q.badReg d = false ∧ q.copyStop 2 ea.toNat n = none
  (window) ∧ ((m.order = 0 ∨ m.order = 2)) ∧ ((∀ x ∈ q.immediateStops [] mw, x = none)) ∧ ((q.beforeImmediate [] mw).creditStop mw.queue 1 = none)) := meets_of (by decide +kernel) (by decide +kernel)
theorem met_QueuedStores_5_3_b : Meets (under 0x20040) (.stf 11 3 3 0) (fun q =>
  let d : BitVec 6 := 11
  let a : BitVec 4 := 3
  let sz : BitVec 2 := 3
  let off : BitVec 12 := 0
  let m := q.mods
  let ea := q.ea a off
  let n := Machine.sizeOf sz
  let mw : Mods := { m with scope := min m.scope 2 }
  let window := m.space = 2 ∧ (q.val (areg a)).toNat < 2 ^ 56 ∧ q.badReg (areg a) = false ∧ ea.toNat < 2 ^ 29 ∧ ea.toNat / 2 ^ 21 ≤ 191 ∧
    ea.toNat % n = 0 ∧ q.badReg d = false ∧ q.copyStop 2 ea.toNat n = none
  (window) ∧ ((m.order = 0 ∨ m.order = 2)) ∧ ((∀ x ∈ q.immediateStops [] mw, x = none)) ∧ ((q.beforeImmediate [] mw).creditStop mw.queue 1 = none)) := meets_of (by decide +kernel) (by decide +kernel)
theorem met_Patterns_1 : Meets vectors (.patld 3 35 4) (fun q =>
  let a : BitVec 6 := 35
  let count : BitVec 6 := 4
  let n := count.toNat + 1
  let off := (q.val a).toNat
  (q.badReg a = false) ∧ (off % 16 = 0) ∧ (off + 16 * n ≤ q.core.spadSize)) := meets_of (by decide +kernel) (by decide +kernel)
theorem met_Patterns_2 : Meets vectors (.patsw) (fun q =>
  (q.core.patlds = [])) := meets_of (by decide +kernel) (by decide +kernel)
theorem met_Patterns_3 :
  let s : State := loading
  let c : Nat := 0
  let p : PatLoad := ({ gang := 1, due := 9, bank := 1, first := 3, offset := 0x40, count := 2 })
  let rest : List PatLoad := ([])
  ((s.core c).patlds = p :: rest) ∧ (Tab.rising s.cores = true) ∧ (Tab.rising (s.core c).share.pats = true) := by decide +kernel
theorem met_ReductionsAndScans_2 :
  let fn : BitVec 2 := 0
  let ty : BitVec 4 := 2
  let s : State := vectors
  (ty.toNat < 8) ∧ (fn = 0#2) := by decide +kernel
theorem met_ShufflesAndCopies_3 :
  let lane : BitVec 1 := 1
  let s : State := vectors
  (lane = 1#1) := by decide +kernel
theorem met_ShufflesAndCopies_4 :
  let lane : BitVec 1 := 0
  let s : State := vectors
  (lane = 0#1) := by decide +kernel
theorem met_Branches : MeetsAll base [.br 1 0 4, .br 0 0 4, .brk 3 0 4, .brk 3 3 4] := meetsAll_of (by decide +kernel)
theorem met_ScalarFloat : MeetsAll base [.fadd 10 11 12 12, .fsub 10 11 12 12, .fmul 10 11 12 8, .ffma 10 11 12 12 13, .fmin 10 11 12 12, .fmax 10 11 12 13, .fcmp 10 11 12 12 3, .fcvt 10 11 12 8 0, .fcvt 10 11 3 12 1] := meetsAll_of (by decide +kernel)
theorem met_VectorArithmetic : MeetsAll vectors [.vadd 10 11 12 12 5 0, .vsub 10 11 12 3 5 0, .vmul 10 11 12 12 5 0, .vfma 10 11 12 12 5 0 13, .vmin 10 11 12 2 5 0, .vmax 10 11 12 12 5 0] := meetsAll_of (by decide +kernel)
theorem met_VectorBits : MeetsAll vectors [.vabs 10 11 12 5, .vneg 10 11 1 5, .vand 10 11 12 1 5 0, .vor 10 11 12 1 5 0, .vxor 10 11 12 1 5 0, .vnot 10 11 1 5, .vshl 10 11 12 2 5 0, .vshr 10 11 12 2 5 0] := meetsAll_of (by decide +kernel)
theorem met_VectorCompareSelect : MeetsAll vectors [.vcmp 2 3 11 12 12 5 0, .vsel 10 11 12 2 5 0] := meetsAll_of (by decide +kernel)
theorem met_VectorConvert : MeetsAll vectors [.vcvt 10 11 0 12 9 5, .vdeq 10 11 9 5 12 1, .vquant 10 11 12 9 5 0 13 0] := meetsAll_of (by decide +kernel)
theorem met_ReductionsAndScans : MeetsAll vectors [.vred 10 11 1 0 12 5, .vred 10 11 0 1 2 5, .vscan 10 11 0 12 5] := meetsAll_of (by decide +kernel)
theorem met_SpecialFunctions : MeetsAll vectors [.vexp2 10 11 12 5, .vlog2 10 11 12 5, .vrcp 10 11 12 5, .vrsq 10 11 12 5, .vsqrt 10 11 12 5, .vtanh 10 11 12 5, .vsig 10 11 12 5, .vsin 10 11 12 5, .vcos 10 11 12 5] := meetsAll_of (by decide +kernel)
theorem met_VectorDraw : MeetsAll vectors [.vdraw 10 11 3 5 12 0x81 0 0, .vdraw 10 11 3 5 12 0x81 1 1] := meetsAll_of (by decide +kernel)
theorem met_ShufflesAndCopies : MeetsAll vectors [.shuf 10 11 12 13, .xcopy 10 11 0 0 3, .xcopy 10 11 2 4 3, .xbcast 10 11 1 7 3, .xbcast 10 11 0 0 3] := meetsAll_of (by decide +kernel)
theorem met_Patterns : MeetsAll vectors [.patld 3 35 4, .patsw] := meetsAll_of (by decide +kernel)
theorem met_MatrixInstructions_1 : Meets matrixCore (.mcall 9 3 7) (fun q =>
  let routine : BitVec 8 := 7
  let reserved : Nat := 0
  let words : List (BitVec 64) := ([0#64])
  let call := (Tab.get q.share.mp 0 0).toNat
  let u := q.strand
  (Tab.find? q.core.routines routine.toNat = some (reserved, words)) ∧ (callReserved call = false) ∧ ((∀ i < 8, call.testBit i = true → i < u.accs)) ∧ ((∀ i < 8, call.testBit (8 + i) = true → (Tab.get q.share.rings {} i).size ≠ 0)) ∧ (q.core.mq.length < 16) ∧ (reserved ≤ q.core.collFree)) := meets_of (by decide +kernel) (by decide +kernel)
theorem met_MatrixInstructions_2 : Meets matrixCore (.mpset 3 11) (fun q =>
  let a : BitVec 6 := 11
  (q.badReg a = false)) := meets_of (by decide +kernel) (by decide +kernel)
theorem met_MatrixInstructions_3_1 : Meets matrixCore (.accrd 10 2 12 1 0) (fun q =>
  let b : BitVec 6 := 12
  let t : BitVec 3 := 2
  let idx : BitVec 1 := 1
  let pair : BitVec 5 := 0
  let u := q.strand
  let p := if idx = 1#1 then (q.val b).toNat else pair.toNat
  (p < 32) ∧ (u.badPair t.toNat p = []) ∧ (q.tileBusy (2 ^ t.toNat) = false)) := meets_of (by decide +kernel) (by decide +kernel)
theorem met_MatrixInstructions_3_2 : Meets matrixCore (.accrd 10 2 12 1 0) (fun q =>
  let b : BitVec 6 := 12
  let t : BitVec 3 := 2
  let idx : BitVec 1 := 1
  let pair : BitVec 5 := 0
  let u := q.strand
  let p := if idx = 1#1 then (q.val b).toNat else pair.toNat
  (p < 32) ∧ (u.badPair t.toNat p = [])) := meets_of (by decide +kernel) (by decide +kernel)
theorem met_MatrixInstructions_3_3 : Meets tornTile (.accrd 10 2 0 0 5) (fun q =>
  let b : BitVec 6 := 0
  let t : BitVec 3 := 2
  let idx : BitVec 1 := 0
  let pair : BitVec 5 := 5
  let w := (2 * 2048 + 5 * 64)
  let rest := (([] : List Nat))
  let u := q.strand
  let p := if idx = 1#1 then (q.val b).toNat else pair.toNat
  (p < 32) ∧ (u.badPair t.toNat p = w :: rest)) := meets_of (by decide +kernel) (by decide +kernel)
theorem met_MatrixInstructions_4 : Meets matrixCore (.accwr 2 11 0 0 19) (fun q =>
  let b : BitVec 6 := 0
  let t : BitVec 3 := 2
  let idx : BitVec 1 := 0
  let pair : BitVec 5 := 19
  let p := if idx = 1#1 then (q.val b).toNat else pair.toNat
  (p < 32) ∧ (q.tileBusy (2 ^ t.toNat) = false)) := meets_of (by decide +kernel) (by decide +kernel)
theorem met_MatrixInstructions_5 : Meets matrixCore (.accz 6) (fun q =>
  let mask : BitVec 8 := 6
  (q.tileBusy mask.toNat = false)) := meets_of (by decide +kernel) (by decide +kernel)
theorem met_MicroControl_1 : MeetsMicro micro0 (fun m =>
  let tile : BitVec 3 := 2
  let t := m.tileNo tile
  (m.op.tiles.testBit t = true)) := meetsMicro_of (by decide +kernel) (by decide +kernel)
theorem met_MicroControl_2 : MeetsMicro microNoTile (fun m =>
  let tile : BitVec 3 := 2
  let t := m.tileNo tile
  (m.op.tiles.testBit t = false)) := meetsMicro_of (by decide +kernel) (by decide +kernel)
theorem met_MicroControl_3_1 : MeetsMicro micro0 (fun m =>
  let csel : BitVec 6 := 0
  let imm : BitVec 32 := 3
  let n := m.count csel imm
  ((Instr.kloop csel imm).defect = none) ∧ (m.op.loops.length < 2) ∧ (0 < n)) := meetsMicro_of (by decide +kernel) (by decide +kernel)
theorem met_MicroControl_3_2 : MeetsMicro micro0 (fun m =>
  let csel : BitVec 6 := 0
  let imm : BitVec 32 := 0
  let n := m.count csel imm
  ((Instr.kloop csel imm).defect = none) ∧ (m.op.loops.length < 2) ∧ (n = 0)) := meetsMicro_of (by decide +kernel) (by decide +kernel)
theorem met_MicroControl_4_1 : MeetsMicro (microLoop 2) (fun m =>
  let w := 0
  let r := 2
  let rest := (([] : List (Nat × Nat)))
  (m.op.loops = (w, r) :: rest) ∧ (0 < r)) := meetsMicro_of (by decide +kernel) (by decide +kernel)
theorem met_MicroControl_4_2 : MeetsMicro (microLoop 0) (fun m =>
  let w := 0
  let r := 0
  let rest := (([] : List (Nat × Nat)))
  (m.op.loops = (w, r) :: rest) ∧ (r = 0)) := meetsMicro_of (by decide +kernel) (by decide +kernel)
theorem met_MicroControl_5 : MeetsMicro micro0 (fun m =>
  (True)) := meetsMicro_of (by decide +kernel) (by decide +kernel)
theorem met_MatrixRetires_1 : MeetsMicro micro0 (fun m =>
  let s : State := micro0
  let x : Nat := 0
  let t : Strand := ((micro0.strand 0 0).getD {})
  (Tab.rising s.cores = true) ∧ (m.ctx = some x) ∧ (m.st.strand m.core x = some t)) := meetsMicro_of (by decide +kernel) (by decide +kernel)
theorem met_MicroStep_1 : MeetsMicro (microRings 2048) (fun m =>
  let tile : BitVec 3 := 2
  let ra : BitVec 3 := 0
  let rb : BitVec 3 := 1
  let csel : BitVec 6 := 0
  let ctl : BitVec 4 := 3
  let imm : BitVec 32 := 1
  let i := Instr.kstep tile ra rb csel ctl imm
  let t := m.tileNo tile
  let a := m.ringNo ra
  let b := m.ringNo rb
  let n := m.count csel imm
  let m1 := (m.readRing a).readRing b
  (i.defect = none) ∧ (m.op.tiles.testBit t = true) ∧ (m.op.rings.testBit a = true) ∧ (m.op.rings.testBit b = true) ∧ (m1.scaleRange (Tab.get m.op.kpos 0 t) (n - m.op.stepDone) = false) ∧ (0 < n) ∧ (m1.present a b = true)) := meetsMicro_of (by decide +kernel) (by decide +kernel)
theorem met_MicroStep_1_b : MeetsMicro (microRings 2048) (fun m =>
  let tile : BitVec 3 := 2
  let ra : BitVec 3 := 0
  let rb : BitVec 3 := 1
  let csel : BitVec 6 := 0
  let ctl : BitVec 4 := 3
  let imm : BitVec 32 := 2
  let i := Instr.kstep tile ra rb csel ctl imm
  let t := m.tileNo tile
  let a := m.ringNo ra
  let b := m.ringNo rb
  let n := m.count csel imm
  let m1 := (m.readRing a).readRing b
  (i.defect = none) ∧ (m.op.tiles.testBit t = true) ∧ (m.op.rings.testBit a = true) ∧ (m.op.rings.testBit b = true) ∧ (m1.scaleRange (Tab.get m.op.kpos 0 t) (n - m.op.stepDone) = false) ∧ (0 < n) ∧ (m1.present a b = true)) := meetsMicro_of (by decide +kernel) (by decide +kernel)
theorem met_MicroStep_2 : MeetsMicro (microRings 2048) (fun m =>
  let tile : BitVec 3 := 2
  let ra : BitVec 3 := 0
  let rb : BitVec 3 := 1
  let csel : BitVec 6 := 0
  let ctl : BitVec 4 := 3
  let imm : BitVec 32 := 0
  let i := Instr.kstep tile ra rb csel ctl imm
  let t := m.tileNo tile
  let a := m.ringNo ra
  let b := m.ringNo rb
  let n := m.count csel imm
  let m1 := (m.readRing a).readRing b
  (i.defect = none) ∧ (m.op.tiles.testBit t = true) ∧ (m.op.rings.testBit a = true) ∧ (m.op.rings.testBit b = true) ∧ (m1.scaleRange (Tab.get m.op.kpos 0 t) (n - m.op.stepDone) = false) ∧ (n = 0)) := meetsMicro_of (by decide +kernel) (by decide +kernel)
theorem met_MatrixElements_1 :
  let fmt : Word := 0x0001000000000000
  let i : Nat := 0
  let j : Nat := 0
  (i < 64) ∧ (j < 64) ∧ (bits fmt.toNat 51 48 = 1) := by decide +kernel
theorem met_MatrixElements_2 :
  let fmt : Word := 0
  let i : Nat := 0
  let j : Nat := 0
  (i < 64) ∧ (j < 64) ∧ (bits fmt.toNat 51 48 ≠ 1) := by decide +kernel
theorem met_MicroTiles_1 : MeetsMicro micro0 (fun m0 =>
  let tile : BitVec 3 := 2
  let mp : BitVec 3 := 2
  let t := m0.tileNo tile
  let m := m0.readTile t
  let w := (Tab.get m0.op.mp 0 mp.toNat).toNat
  let k := m.st.core m.core
  (m0.op.tiles.testBit t = true) ∧ ((m0.tile t).isInt = false) ∧ (w % 2 ^ 24 + 256 ≤ k.spadSize) ∧ ((∀ i < 64, (m.core, (w % 2 ^ 24 + 4 * i) / 8) ∉ m.st.badSpad))) := meetsMicro_of (by decide +kernel) (by decide +kernel)
theorem met_MicroTiles_2 : MeetsMicro (microRings 2048) (fun m0 =>
  let tile : BitVec 3 := 2
  let t := m0.tileNo tile
  (m0.op.tiles.testBit t = true) ∧ (t ∈ m0.op.zeroed)) := meetsMicro_of (by decide +kernel) (by decide +kernel)
theorem met_MicroTiles_3 : MeetsMicro micro0 (fun m0 =>
  let tile : BitVec 3 := 2
  let mp : BitVec 3 := 2
  let t := m0.tileNo tile
  let m := m0.readTile t
  let w := (Tab.get m0.op.mp 0 mp.toNat).toNat
  (m0.op.tiles.testBit t = true) ∧ ((Instr.kepi tile 0#2 mp).defect = none) ∧ (badDest 0 (bits m.op.fmt.toNat 47 44) w = false)) := meetsMicro_of (by decide +kernel) (by decide +kernel)
theorem met_MicroTiles_4 : MeetsMicro micro0 (fun m0 =>
  let tile : BitVec 3 := 2
  let mp : BitVec 3 := 2
  let t := m0.tileNo tile
  let m := m0.readTile t
  let w := (Tab.get m0.op.mp 0 mp.toNat).toNat
  let k := m.st.core m.core
  (m0.op.tiles.testBit t = true) ∧ ((Instr.kepi tile 1#2 mp).defect = none) ∧ (badDest 1 (bits m.op.fmt.toNat 47 44) w = false) ∧ ((m.op.reserved ≠ 0 ∨ k.collFree ≠ 0))) := meetsMicro_of (by decide +kernel) (by decide +kernel)
theorem met_MicroTiles_5_1 : MeetsMicro microView (fun m0 =>
  let tile : BitVec 3 := 2
  let mp : BitVec 3 := 2
  let v := (({ front := 0x10000, shadow := 0x20000, length := 0x10000, owner := 1 } : Vitrine))
  let t := m0.tileNo tile
  let m := m0.readTile t
  let w := (Tab.get m0.op.mp 0 mp.toNat).toNat
  (m0.op.tiles.testBit t = true) ∧ ((Instr.kepi tile 2#2 mp).defect = none) ∧ (badDest 2 (bits m.op.fmt.toNat 47 44) w = false) ∧ (Tab.find? m.st.vitrines (routeIndex (BitVec.ofNat 64 w)) = some v) ∧ (v.owner = m.owner)) := meetsMicro_of (by decide +kernel) (by decide +kernel)
theorem met_MicroTiles_5_2 : MeetsMicro micro0 (fun m0 =>
  let tile : BitVec 3 := 2
  let mp : BitVec 3 := 2
  let t := m0.tileNo tile
  let m := m0.readTile t
  let w := (Tab.get m0.op.mp 0 mp.toNat).toNat
  (m0.op.tiles.testBit t = true) ∧ ((Instr.kepi tile 2#2 mp).defect = none) ∧ (badDest 2 (bits m.op.fmt.toNat 47 44) w = false) ∧ ((∀ v, Tab.find? m.st.vitrines (routeIndex (BitVec.ofNat 64 w)) = some v → v.owner ≠ m.owner))) := meetsMicro_of (by decide +kernel) (by decide +kernel)
theorem met_PhasesAndCopies_1_1 : Meets base (.phase 0) (fun q =>
  let scope : BitVec 3 := 0
  (scope = 0#3)) := meets_of (by decide +kernel) (by decide +kernel)
theorem met_PhasesAndCopies_1_2 : Meets base (.phase 3) (fun q =>
  let scope : BitVec 3 := 3
  let t := q.strand
  let c := q.cur.core
  let unfrozen := ∀ r < 4, q.st.frozenTrap c r t = none
  let done := fun (x : Nat) => q.cur.unsent = false ∧ q.st.writerDone t.gang t.member t.slot (q.cur.begun + 1) x = true
  (scope ≠ 0#3) ∧ (unfrozen) ∧ (done scope.toNat)) := meets_of (by decide +kernel) (by decide +kernel)
theorem met_PhasesAndCopies_2 : Meets vitrined (.publish 11) (fun q =>
  let a : BitVec 6 := 11
  let v : Vitrine := ({ front := 5, shadow := 0x1000, length := 0x1000, owner := base.gangOwner 1, gen := 2 })
  let t := q.strand
  let c := q.cur.core
  let unfrozen := ∀ r < 4, q.st.frozenTrap c r t = none
  let done := fun (x : Nat) => q.cur.unsent = false ∧ q.st.writerDone t.gang t.member t.slot (q.cur.begun + 1) x = true
  let i := (q.val a).toNat
  (i < 8192) ∧ (Tab.find? q.st.vitrines i = some v) ∧ (v.owner = q.st.gangOwner t.gang) ∧ (unfrozen) ∧ (done 3) ∧ (q.st.copying t (fun k => k.into.contains i) = false) ∧ ((∀ o ∈ q.core.mq, o.id ≤ q.cur.begun → o.routesTo i = false))) := meets_of (by decide +kernel) (by decide +kernel)
theorem met_PhasesAndCopies_3 : Meets vitrined (.vwait 10 11 12) (fun q =>
  let a : BitVec 6 := 11
  let g : BitVec 6 := 12
  let v : Vitrine := ({ front := 5, shadow := 0x1000, length := 0x1000, owner := base.gangOwner 1, gen := 2 })
  let t := q.strand
  let i := (q.val a).toNat
  (t.answer = none) ∧ (i < 8192) ∧ (Tab.find? q.st.vitrines i = some v) ∧ (v.owner = q.st.gangOwner t.gang) ∧ (v.removing = false) ∧ ((v.gen - (q.val g).setWidth 32).toNat < 2 ^ 31)) := meets_of (by decide +kernel) (by decide +kernel)
theorem met_PhasesAndCopies_4 : Meets (answered 0) (.vwait 10 11 12) (fun q =>
  let t := q.strand
  (t.answer.isSome = true)) := meets_of (by decide +kernel) (by decide +kernel)
theorem met_PhasesAndCopies_5 : Meets fencing (.fence 10 6 1) (fun q =>
  let mask : BitVec 4 := 6
  let kind : BitVec 1 := 1
  let t := q.strand
  let c := q.cur.core
  let queues := (List.range 4).filter (fun x => mask = 0#4 || mask.getLsbD x)
  let waits := fun (last : Nat) => q.st.fenceWaits c t queues (kind == 1#1) last
  ((∀ x ∈ queues, q.st.frozenTrap c x t = none)) ∧ (waits q.cur.begun = false) ∧ (waits q.st.nextReq = true)) := meets_of (by decide +kernel) (by decide +kernel)
theorem met_PhasesAndCopies_6 : Meets base (.fence 10 0 0) (fun q =>
  let mask : BitVec 4 := 0
  let kind : BitVec 1 := 0
  let t := q.strand
  let c := q.cur.core
  let queues := (List.range 4).filter (fun x => mask = 0#4 || mask.getLsbD x)
  let waits := fun (last : Nat) => q.st.fenceWaits c t queues (kind == 1#1) last
  ((∀ x ∈ queues, q.st.frozenTrap c x t = none)) ∧ (waits q.cur.begun = false) ∧ (waits q.st.nextReq = false)) := meets_of (by decide +kernel) (by decide +kernel)
theorem met_PhasesAndCopies_8 : Meets copying (.copy 37 3) (fun q =>
  let a : BitVec 6 := 37
  let n : BitVec 3 := 3
  let s1 : State := (((slotBun copying (.copy 37 3)).st.publish 0 0 (fun _ => false)).1)
  let t := q.strand
  let c := q.cur.core
  let i := (q.val a).toNat
  let desc := q.spadBytes i 64
  let copy := copyOf desc (s1.nextReq + 1) t.gang t.member t.slot n.toNat
  let range := copy.sourceRange
  let other := copy.destRange
  let inside := fun (r : BufRec) => inRange copy.sspace range r.sector || inRange copy.dspace other r.sector
  (q.regAddrStop a 1 64 64 = none) ∧ (q.badWord i 64 = none) ∧ (copyRefused desc = false) ∧ ((Tab.get q.share.spans {} n.toNat).live = false) ∧ (q.core.copies.length < 16) ∧ (q.st.publish c q.cur.ctx inside = (s1, true))) := meets_of (by decide +kernel) (by decide +kernel)
theorem met_PhasesAndCopies_9 : Meets tornWord (.copy 37 3) (fun q =>
  let a : BitVec 6 := 37
  let e := 0x108
  let i := (q.val a).toNat
  (q.regAddrStop a 1 64 64 = none) ∧ (q.badWord i 64 = some e)) := meets_of (by decide +kernel) (by decide +kernel)
theorem met_BarriersAndWaits_2 : Meets base (.barrive 36 11 1 0) (fun q =>
  let a : BitVec 6 := 36
  let b : BitVec 6 := 11
  let queue : BitVec 2 := 1
  let fn : BitVec 2 := 0
  let va := (q.val a).toNat
  let v := (q.val b).toNat
  let m := barriveMods queue
  let parts := loadParts (loadRun va 0 16)
  let sent := q.beforeImmediate parts m
  (q.regAddrStop a 0 16 16 = none) ∧ ((fn ≠ 2#2 → v < 65536)) ∧ ((fn = 1#2 → v ≠ 0)) ∧ (q.copyStop 0 va 16 = none) ∧ ((∀ x ∈ q.immediateStops parts m, x = none)) ∧ (sent.creditStop m.queue 1 = none)) := meets_of (by decide +kernel) (by decide +kernel)
theorem met_BarriersAndWaits_2_b : Meets base (.barrive 36 11 1 1) (fun q =>
  let a : BitVec 6 := 36
  let b : BitVec 6 := 11
  let queue : BitVec 2 := 1
  let fn : BitVec 2 := 1
  let va := (q.val a).toNat
  let v := (q.val b).toNat
  let m := barriveMods queue
  let parts := loadParts (loadRun va 0 16)
  let sent := q.beforeImmediate parts m
  (q.regAddrStop a 0 16 16 = none) ∧ ((fn ≠ 2#2 → v < 65536)) ∧ ((fn = 1#2 → v ≠ 0)) ∧ (q.copyStop 0 va 16 = none) ∧ ((∀ x ∈ q.immediateStops parts m, x = none)) ∧ (sent.creditStop m.queue 1 = none)) := meets_of (by decide +kernel) (by decide +kernel)
theorem met_BarriersAndWaits_2_c : Meets base (.barrive 36 0 1 2) (fun q =>
  let a : BitVec 6 := 36
  let b : BitVec 6 := 0
  let queue : BitVec 2 := 1
  let fn : BitVec 2 := 2
  let va := (q.val a).toNat
  let v := (q.val b).toNat
  let m := barriveMods queue
  let parts := loadParts (loadRun va 0 16)
  let sent := q.beforeImmediate parts m
  (q.regAddrStop a 0 16 16 = none) ∧ ((fn ≠ 2#2 → v < 65536)) ∧ ((fn = 1#2 → v ≠ 0)) ∧ (q.copyStop 0 va 16 = none) ∧ ((∀ x ∈ q.immediateStops parts m, x = none)) ∧ (sent.creditStop m.queue 1 = none)) := meets_of (by decide +kernel) (by decide +kernel)
theorem met_BarriersAndWaits_3 : Meets (answered 0) (.bwait 10 36 11 1 4) (fun q =>
  let a : BitVec 6 := 36
  let b : BitVec 6 := 11
  let queue : BitVec 2 := 1
  let texp : BitVec 5 := 4
  let st : Nat := 0
  let gen : Nat := 6
  let s1 : State := (((slotBun (answered 0) (.bwait 10 36 11 1 4)).waiter 0x20000 16 0 1 (some 7) 0 0 0 4).1)
  let w : Waiter := (okWaiter ((slotBun (answered 0) (.bwait 10 36 11 1 4)).waiter 0x20000 16 0 1 (some 7) 0 0 0 4))
  let t := q.strand
  let va := (q.val a).toNat
  let v := (q.val b).toNat
  (t.answer = some (st, gen)) ∧ (st < 16) ∧ (q.regAddrStop a 0 16 16 = none) ∧ (q.waiter va 16 0 queue.toNat (some (v % 65536)) 0 0 0 texp.toNat = (s1, .ok w))) := meets_of (by decide +kernel) (by decide +kernel)
theorem met_BarriersAndWaits_4 : Meets (answered 1) (.wait 10 36 11 2 4 0 0 1 1 0) (fun q =>
  let a : BitVec 6 := 36
  let b : BitVec 6 := 11
  let c : BitVec 6 := 0
  let queue : BitVec 2 := 1
  let space : BitVec 2 := 0
  let texp : BitVec 5 := 4
  let cond : BitVec 3 := 2
  let sz : BitVec 1 := 1
  let masked : BitVec 1 := 0
  let st : Nat := 1
  let gen : Nat := 6
  let s1 : State := (((slotBun (answered 1) (.wait 10 36 11 2 4 0 0 1 1 0)).waiter 0x20000 8 0 1 none 2 (BitVec.allOnes 64) 7 4).1)
  let w : Waiter := (okWaiter ((slotBun (answered 1) (.wait 10 36 11 2 4 0 0 1 1 0)).waiter 0x20000 8 0 1 none 2 (BitVec.allOnes 64) 7 4))
  let t := q.strand
  let va := (q.val a).toNat
  let n := if sz = 1#1 then 8 else 4
  let mask := if masked = 1#1 then q.val c else BitVec.allOnes 64
  (t.answer = some (st, gen)) ∧ (st < 16) ∧ (q.regAddrStop a space.toNat n n = none) ∧ (q.waiter va n space.toNat queue.toNat none cond.toNat mask (q.val b) texp.toNat = (s1, .ok w))) := meets_of (by decide +kernel) (by decide +kernel)
theorem met_BarriersAndWaits_4_b : Meets (answered 0) (.wait 10 35 11 2 4 12 1 0 1 1) (fun q =>
  let a : BitVec 6 := 35
  let b : BitVec 6 := 11
  let c : BitVec 6 := 12
  let queue : BitVec 2 := 1
  let space : BitVec 2 := 1
  let texp : BitVec 5 := 4
  let cond : BitVec 3 := 2
  let sz : BitVec 1 := 0
  let masked : BitVec 1 := 1
  let st : Nat := 0
  let gen : Nat := 6
  let s1 : State := (((slotBun (answered 0) (.wait 10 35 11 2 4 12 1 0 1 1)).waiter 0x40 4 1 1 none 2 2 7 4).1)
  let w : Waiter := (okWaiter ((slotBun (answered 0) (.wait 10 35 11 2 4 12 1 0 1 1)).waiter 0x40 4 1 1 none 2 2 7 4))
  let t := q.strand
  let va := (q.val a).toNat
  let n := if sz = 1#1 then 8 else 4
  let mask := if masked = 1#1 then q.val c else BitVec.allOnes 64
  (t.answer = some (st, gen)) ∧ (st < 16) ∧ (q.regAddrStop a space.toNat n n = none) ∧ (q.waiter va n space.toNat queue.toNat none cond.toNat mask (q.val b) texp.toNat = (s1, .ok w))) := meets_of (by decide +kernel) (by decide +kernel)
theorem met_BarriersAndWaits_5 : Meets retired (.mwait 10 0 3) (fun q =>
  let all : BitVec 1 := 0
  let tag : BitVec 4 := 3
  let t := q.strand
  let covers := fun (x : Nat) => all = 1#1 || x == tag.toNat
  ((∀ x ∈ t.checksums, covers x = false)) ∧ ((∀ o ∈ q.core.mq, o.gang = t.gang → o.member = t.member → o.slot = t.slot → covers o.tag = true → q.cur.begun < o.id))) := meets_of (by decide +kernel) (by decide +kernel)
theorem met_StreamsRingsWalks_1 : Meets base (.sbind 48 1 2) (fun q =>
  let d : BitVec 6 := 48
  let n := d.toNat % 8
  let bound := Tab.find? q.share.streams n
  (bound = none)) := meets_of (by decide +kernel) (by decide +kernel)
theorem met_StreamsRingsWalks_2 : Meets memory (.sunbind 49) (fun q =>
  let d : BitVec 6 := 49
  let n := d.toNat % 8
  (q.st.inFlight q.cur.core n = 0)) := meets_of (by decide +kernel) (by decide +kernel)
theorem met_StreamsRingsWalks_3 : Meets ringed (.ringp 2 11 1 0) (fun q =>
  let a : BitVec 6 := 11
  let ring : BitVec 3 := 2
  let reg : BitVec 1 := 1
  let count : BitVec 7 := 0
  let k := if reg = 1#1 then (q.val a).toNat else count.toNat
  let r := Tab.get q.share.rings {} ring.toNat
  let legal := r.size ≠ 0 ∧ k < 65536 ∧ k ≤ r.size
  (legal) ∧ (r.occupancy + k ≤ r.size)) := meets_of (by decide +kernel) (by decide +kernel)
theorem met_StreamsRingsWalks_4 : Meets ringed (.ringa 2 0 0 12) (fun q =>
  let a : BitVec 6 := 0
  let ring : BitVec 3 := 2
  let reg : BitVec 1 := 0
  let count : BitVec 7 := 12
  let k := if reg = 1#1 then (q.val a).toNat else count.toNat
  let r := Tab.get q.share.rings {} ring.toNat
  let legal := r.size ≠ 0 ∧ k < 65536 ∧ k ≤ r.size
  (legal) ∧ (k ≤ r.occupancy)) := meets_of (by decide +kernel) (by decide +kernel)
theorem met_StreamsRingsWalks_6 : Meets ringed (.ringp 2 14 1 0) (fun q =>
  let a : BitVec 6 := 14
  let ring : BitVec 3 := 2
  let reg : BitVec 1 := 1
  let count : BitVec 7 := 0
  let k := if reg = 1#1 then (q.val a).toNat else count.toNat
  let r := Tab.get q.share.rings {} ring.toNat
  let legal := r.size ≠ 0 ∧ k < 65536 ∧ k ≤ r.size
  (¬ legal)) := meets_of (by decide +kernel) (by decide +kernel)
theorem met_StreamsRingsWalks_7 : Meets (walking 0) (.walk 37) (fun q =>
  let a : BitVec 6 := 37
  let s1 : State := (((slotBun (walking 0) (.walk 37)).st.publish 0 0 (fun _ => true)).1)
  let c := q.cur.core
  let desc := q.spadBytes (q.val a).toNat 64
  let w := descWord desc
  let hops := bits (w 0) 31 24
  let toRing := (w 0).testBit 16
  let wq := bits (w 5) 4 3
  let stack := q.st.walkStack c q.slotNo (w 1 % 2 ^ 56 + 8 * bits (w 0) 63 32)
  let landed := ((Tab.find? q.share.streams (w 5 % 8)).map (·.elems.length)).getD 0
  (q.regAddrStop a 1 64 64 = none) ∧ (q.badWord (q.val a).toNat 64 = none) ∧ (q.walkRefused desc = false) ∧ (q.share.bad.contains (if toRing then 32 + 2 * (w 5 % 8) else 64 + w 5 % 8) = false) ∧ ((q.st.walks.filter (fun e => e.2.stack == stack && !e.2.finished)).length < 512) ∧ (q.st.publish c q.cur.ctx (fun _ => true) = (s1, true)) ∧ ((toRing = false → (⟨s1, q.cur⟩ : Bun).creditStop wq (hops + 1) = none ∧ landed + q.st.inFlight c (w 5 % 8) + hops + 1 ≤ 65535))) := meets_of (by decide +kernel) (by decide +kernel)
theorem met_StreamsRingsWalks_7_b : Meets (walking 1) (.walk 37) (fun q =>
  let a : BitVec 6 := 37
  let s1 : State := (((slotBun (walking 1) (.walk 37)).st.publish 0 0 (fun _ => true)).1)
  let c := q.cur.core
  let desc := q.spadBytes (q.val a).toNat 64
  let w := descWord desc
  let hops := bits (w 0) 31 24
  let toRing := (w 0).testBit 16
  let wq := bits (w 5) 4 3
  let stack := q.st.walkStack c q.slotNo (w 1 % 2 ^ 56 + 8 * bits (w 0) 63 32)
  let landed := ((Tab.find? q.share.streams (w 5 % 8)).map (·.elems.length)).getD 0
  (q.regAddrStop a 1 64 64 = none) ∧ (q.badWord (q.val a).toNat 64 = none) ∧ (q.walkRefused desc = false) ∧ (q.share.bad.contains (if toRing then 32 + 2 * (w 5 % 8) else 64 + w 5 % 8) = false) ∧ ((q.st.walks.filter (fun e => e.2.stack == stack && !e.2.finished)).length < 512) ∧ (q.st.publish c q.cur.ctx (fun _ => true) = (s1, true)) ∧ ((toRing = false → (⟨s1, q.cur⟩ : Bun).creditStop wq (hops + 1) = none ∧ landed + q.st.inFlight c (w 5 % 8) + hops + 1 ≤ 65535))) := meets_of (by decide +kernel) (by decide +kernel)
theorem met_StreamsRingsWalks_8 : Meets graphed (.coll 11 37) (fun q =>
  let a : BitVec 6 := 11
  let b : BitVec 6 := 37
  let ring : BitVec 3 := 0
  let r := Tab.get q.share.rings {} ring.toNat
  let t := q.strand
  let c := q.cur.core
  let unfrozen := ∀ r < 4, q.st.frozenTrap c r t = none
  (q.regAddrStop b 1 64 64 = none) ∧ (q.badWord (q.val b).toNat 64 = none) ∧ ((q.val a).toNat < 65536) ∧ ((Tab.find? q.st.coll.graphs (q.val a).toNat).isSome = true) ∧ (unfrozen) ∧ (q.cur.unsent = false) ∧ (q.st.writerDone t.gang t.member t.slot (q.cur.begun + 1) 3 = true)) := meets_of (by decide +kernel) (by decide +kernel)
theorem met_StreamsRingsWalks_9 : Meets tornGraph (.coll 11 37) (fun q =>
  let a : BitVec 6 := 11
  let b : BitVec 6 := 37
  let e := 0x108
  (q.regAddrStop b 1 64 64 = none) ∧ ((q.val a).toNat < 65536) ∧ ((Tab.find? q.st.coll.graphs (q.val a).toNat).isSome = true) ∧ (q.badWord (q.val b).toNat 64 = some e)) := meets_of (by decide +kernel) (by decide +kernel)
theorem met_StreamsRingsWalks_10_1 : Meets base (.lprobe 10 36) (fun q =>
  let a : BitVec 6 := 36
  let pa : Nat := 0x20000
  let off : Nat := 0x20000
  let s1 : State := (((slotBun base (.lprobe 10 36)).st.translate 0 0 0x20000 .load).1)
  let c := q.cur.core
  (q.regAddrStop a 0 1 1 = none) ∧ (q.core.isFrozen 0 = false) ∧ (q.creditStop 0 1 = none) ∧ (q.st.translate c q.slotNo (q.val a).toNat .load = (s1, .ok pa)) ∧ (q.probeWaits pa = false) ∧ (s1.place pa = .local_ off)) := meets_of (by decide +kernel) (by decide +kernel)
theorem met_StreamsRingsWalks_10_2 : Meets (routed memory) (.lprobe 10 37) (fun q =>
  let a : BitVec 6 := 37
  let pa : Nat := (2^44)
  let off : Nat := 0
  let m : Nat := 1
  let s1 : State := (((slotBun (routed memory) (.lprobe 10 37)).st.translate 0 0 0x40000000 .load).1)
  let t := q.strand
  let c := q.cur.core
  (q.regAddrStop a 0 1 1 = none) ∧ (q.core.isFrozen 0 = false) ∧ (q.creditStop 0 1 = none) ∧ (q.st.translate c q.slotNo (q.val a).toNat .load = (s1, .ok pa)) ∧ (q.probeWaits pa = false) ∧ (s1.place pa = .remote m off) ∧ (t.answer = none)) := meets_of (by decide +kernel) (by decide +kernel)
theorem met_ExitAndYield_3 : Meets base (.yield 36) (fun q =>
  let a : BitVec 6 := 36
  let pa : Nat := 0x20000
  let s1 : State := (((slotBun base (.yield 36)).st.translate 0 0 0x20000 .store).1)
  let t := q.strand
  let clear := t.checksums = [] ∧ ∀ r < 4, q.st.frozenTrap q.cur.core r t = none
  (clear) ∧ (q.cur.unsent = false) ∧ (q.st.writerDone t.gang t.member t.slot (q.cur.begun + 1) everyStore = true) ∧ (q.st.unretired q.cur.core t = false) ∧ (t.inflight = []) ∧ (q.handler = false) ∧ (q.regAddrStop a 0 64 64 = none) ∧ ((∀ i < 6, q.dataResidue (BitVec.ofNat 6 (1 + i)) = none)) ∧ (q.st.translate q.cur.core q.slotNo (q.val a).toNat .store = (s1, .ok pa)) ∧ ((match q.st.place pa with
          | .local_ _ => true
          | .remote _ _ => true
          | _ => false) = true)) := meets_of (by decide +kernel) (by decide +kernel)
theorem met_StreamsRingsWalks_5_1 :
  let a : BitVec 6 := 0
  let ring : BitVec 3 := 2
  let reg : BitVec 1 := 0
  let count : BitVec 7 := 12
  let s : State := ringed
  let q : Bun := (slotBun s .nop)
  let k := if reg = 1#1 then (q.val a).toNat else count.toNat
  let r := Tab.get q.share.rings {} ring.toNat
  (r.size ≠ 0) ∧ (r.head < 2 * r.size) ∧ (r.tail < 2 * r.size) ∧ (r.occupancy ≤ r.size) ∧ (r.occupancy + k ≤ r.size) := by decide +kernel
theorem met_StreamsRingsWalks_5_2 :
  let a : BitVec 6 := 0
  let ring : BitVec 3 := 2
  let reg : BitVec 1 := 0
  let count : BitVec 7 := 12
  let s : State := ringed
  let q : Bun := (slotBun s .nop)
  let k := if reg = 1#1 then (q.val a).toNat else count.toNat
  let r := Tab.get q.share.rings {} ring.toNat
  (r.size ≠ 0) ∧ (r.head < 2 * r.size) ∧ (r.tail < 2 * r.size) ∧ (r.occupancy ≤ r.size) ∧ (r.occupancy + k ≤ r.size) := by decide +kernel
theorem met_StreamsRingsWalks_5_3 :
  let a : BitVec 6 := 0
  let ring : BitVec 3 := 2
  let reg : BitVec 1 := 0
  let count : BitVec 7 := 12
  let s : State := ringed
  let q : Bun := (slotBun s .nop)
  let k := if reg = 1#1 then (q.val a).toNat else count.toNat
  let r := Tab.get q.share.rings {} ring.toNat
  (r.size ≠ 0) ∧ (r.head < 2 * r.size) ∧ (r.tail < 2 * r.size) ∧ (r.occupancy ≤ r.size) ∧ (k ≤ r.occupancy) := by decide +kernel
theorem met_StreamsRingsWalks_5_4 :
  let a : BitVec 6 := 0
  let ring : BitVec 3 := 2
  let reg : BitVec 1 := 0
  let count : BitVec 7 := 12
  let s : State := ringed
  let q : Bun := (slotBun s .nop)
  let k := if reg = 1#1 then (q.val a).toNat else count.toNat
  let r := Tab.get q.share.rings {} ring.toNat
  (r.size ≠ 0) ∧ (r.head < 2 * r.size) ∧ (r.tail < 2 * r.size) ∧ (r.occupancy ≤ r.size) ∧ (k ≤ r.occupancy) := by decide +kernel
theorem met_StreamsRingsWalks_5_5 :
  let ring : BitVec 3 := 2
  let s : State := ringed
  let q : Bun := (slotBun s .nop)
  let r := Tab.get q.share.rings {} ring.toNat
  (r.size ≠ 0) ∧ (r.head < 2 * r.size) ∧ (r.tail < 2 * r.size) ∧ (r.occupancy ≤ r.size) ∧ (Tab.rising q.st.cores = true) := by decide +kernel
theorem met_StreamsRingsWalks_5_6 :
  let ring : BitVec 3 := 2
  let s : State := ringed
  let q : Bun := (slotBun s .nop)
  let r := Tab.get q.share.rings {} ring.toNat
  (r.size ≠ 0) ∧ (r.head < 2 * r.size) ∧ (r.tail < 2 * r.size) ∧ (r.occupancy ≤ r.size) ∧ (Tab.rising q.st.cores = true) := by decide +kernel
theorem met_StreamsRingsWalks_10_3 : Meets (probed 0) (.lprobe 10 37) (fun q =>
  let a : BitVec 6 := 37
  let pa : Nat := (2^44)
  let off : Nat := 0
  let m : Nat := 1
  let st : Nat := 0
  let v : Nat := 77
  let s1 : State := (((slotBun (probed 0) (.lprobe 10 37)).st.translate 0 0 0x40000000 .load).1)
  let t := q.strand
  let c := q.cur.core
  (q.regAddrStop a 0 1 1 = none) ∧ (q.core.isFrozen 0 = false) ∧ (q.creditStop 0 1 = none) ∧ (q.st.translate c q.slotNo (q.val a).toNat .load = (s1, .ok pa)) ∧ (q.probeWaits pa = false) ∧ (s1.place pa = .remote m off) ∧ (t.answer = some (st, v)) ∧ (st < 16)) := meets_of (by decide +kernel) (by decide +kernel)
theorem met_StreamsRingsWalks_10_4 : Meets (probed 18) (.lprobe 10 37) (fun q =>
  let a : BitVec 6 := 37
  let pa : Nat := (2^44)
  let off : Nat := 0
  let m : Nat := 1
  let st : Nat := 18
  let v : Nat := 6
  let s1 : State := (((slotBun (probed 18) (.lprobe 10 37)).st.translate 0 0 0x40000000 .load).1)
  let t := q.strand
  let c := q.cur.core
  (q.regAddrStop a 0 1 1 = none) ∧ (q.core.isFrozen 0 = false) ∧ (q.creditStop 0 1 = none) ∧ (q.st.translate c q.slotNo (q.val a).toNat .load = (s1, .ok pa)) ∧ (q.probeWaits pa = false) ∧ (s1.place pa = .remote m off) ∧ (t.answer = some (st, v)) ∧ (16 ≤ st)) := meets_of (by decide +kernel) (by decide +kernel)
theorem met_PhasesAndCopies : MeetsAll base [.drain] := meetsAll_of (by decide +kernel)
theorem met_BarriersAndWaits : MeetsAll spanned [.span 10 35 6] := meetsAll_of (by decide +kernel)
theorem met_StreamsRingsWalks : MeetsAll base [.tsread 10] := meetsAll_of (by decide +kernel)
theorem met_RequestsPerformed_1 :
  let req : Nat := 4
  let i : Nat := 0
  let off : Nat := 0x20000
  let r : Request := loadReq
  let p : Part := (partOf inL1)
  let e : TlbEntry := (pageOf inL1)
  let s : State := inL1
  let d := 77
  let next := r.next = some i ∧ r.parts[i]? = some p ∧ r.setWait = false ∧ s.mayPerform req r p = true
  let paged := r.bad = false ∧ p.sent = false ∧ s.hitFor r p.addr = some e
  let place := s.place (e.ppage + (p.addr - e.vpage))
  let global := next ∧ paged ∧ r.space = 0 ∧ e.allows r.need = true
  let line := off / 128
  let sector := off % 128 / 32
  let hit := (s.core r.core).l1Find line sector
  let cached := r.order = .none ∧ r.cache = 0
  (Tab.find? s.reqs req = some r) ∧ (global) ∧ (place = .local_ off) ∧ (r.kind = .load) ∧ (cached) ∧ (hit = some d) := by decide +kernel
theorem met_RequestsPerformed_2_1 :
  let req : Nat := 4
  let i : Nat := 0
  let off : Nat := 0x20000
  let r : Request := loadReq
  let p : Part := (partOf inL2)
  let e : TlbEntry := (pageOf inL2)
  let s : State := inL2
  let next := r.next = some i ∧ r.parts[i]? = some p ∧ r.setWait = false ∧ s.mayPerform req r p = true
  let paged := r.bad = false ∧ p.sent = false ∧ s.hitFor r p.addr = some e
  let place := s.place (e.ppage + (p.addr - e.vpage))
  let global := next ∧ paged ∧ r.space = 0 ∧ e.allows r.need = true
  let key := s.slotKey r.slotOwner
  let line := off / 128
  let sector := off % 128 / 32
  let hit := (s.core r.core).l1Find line sector
  let cached := r.order = .none ∧ r.cache = 0
  (Tab.find? s.reqs req = some r) ∧ (global) ∧ (place = .local_ off) ∧ (r.kind = .load) ∧ (r.published = false) ∧ (r.cache ≠ 3) ∧ ((cached → hit = none)) ∧ (s.badRead off key p.mask.toNat = false) ∧ (s.holds line key (1 <<< sector) = true) := by decide +kernel
theorem met_RequestsPerformed_2_2 :
  let req : Nat := 4
  let i : Nat := 0
  let off : Nat := 0x20000
  let r : Request := loadReq
  let p : Part := (partOf loadSent)
  let e : TlbEntry := (pageOf loadSent)
  let s : State := loadSent
  let next := r.next = some i ∧ r.parts[i]? = some p ∧ r.setWait = false ∧ s.mayPerform req r p = true
  let paged := r.bad = false ∧ p.sent = false ∧ s.hitFor r p.addr = some e
  let place := s.place (e.ppage + (p.addr - e.vpage))
  let global := next ∧ paged ∧ r.space = 0 ∧ e.allows r.need = true
  let key := s.slotKey r.slotOwner
  let line := off / 128
  let sector := off % 128 / 32
  let hit := (s.core r.core).l1Find line sector
  let cached := r.order = .none ∧ r.cache = 0
  (Tab.find? s.reqs req = some r) ∧ (global) ∧ (place = .local_ off) ∧ (r.kind = .load) ∧ (r.published = false) ∧ (r.cache ≠ 3) ∧ ((cached → hit = none)) ∧ (s.badRead off key p.mask.toNat = false) ∧ (s.holds line key (1 <<< sector) = false) ∧ (s.setHeld req line = false) := by decide +kernel
theorem met_RequestsPerformed_3_1 :
  let req : Nat := 4
  let i : Nat := 0
  let off : Nat := 0x20000
  let r : Request := storeReq
  let p : Part := (partOf storeSent)
  let e : TlbEntry := (pageOf storeSent)
  let s : State := ({ storeSent with reqs := storeSent.reqs ++ [(5, { storeReq with setWait := true })] })
  let next := r.next = some i ∧ r.parts[i]? = some p ∧ r.setWait = false ∧ s.mayPerform req r p = true
  let paged := r.bad = false ∧ p.sent = false ∧ s.hitFor r p.addr = some e
  let place := s.place (e.ppage + (p.addr - e.vpage))
  let global := next ∧ paged ∧ r.space = 0 ∧ e.allows r.need = true
  let line := off / 128
  let reads := r.kind = .load ∨ r.kind = .pref
  let barrives := match r.kind with
    | .barrive _ _ => true
    | _ => false
  (Tab.find? s.reqs req = some r) ∧ (global) ∧ (place = .local_ off) ∧ (¬ reads) ∧ (barrives = false) ∧ (s.setHeld req line = true) := by decide +kernel
theorem met_RequestsPerformed_3_2 :
  let req : Nat := 4
  let i : Nat := 0
  let off : Nat := 0x20000
  let r : Request := storeReq
  let p : Part := (partOf storeSent)
  let e : TlbEntry := (pageOf storeSent)
  let s : State := storeSent
  let s1 : State := (homeState (storeSent.atHome .store 0x20000 (storeSent.slotKey 0) 0xFF 0 false (some 0)))
  let next := r.next = some i ∧ r.parts[i]? = some p ∧ r.setWait = false ∧ s.mayPerform req r p = true
  let paged := r.bad = false ∧ p.sent = false ∧ s.hitFor r p.addr = some e
  let place := s.place (e.ppage + (p.addr - e.vpage))
  let global := next ∧ paged ∧ r.space = 0 ∧ e.allows r.need = true
  let key := s.slotKey r.slotOwner
  let line := off / 128
  let old := s.peek off 32 key
  let mates := s.mergedWith req r p
  let all := (mates ++ [(req, r)]).mergeSort (fun a b => a.1 ≤ b.1)
  let out := s.mergedKind r.core (all.map (·.2.kind))
  let kind := if mates.isEmpty then r.kind else out.1
  let start : State := if mates.isEmpty then s else { s with free := s.free + 1 }
  let reads := r.kind = .load ∨ r.kind = .pref
  let barrives := match r.kind with
    | .barrive _ _ => true
    | _ => false
  (Tab.find? s.reqs req = some r) ∧ (global) ∧ (place = .local_ off) ∧ (¬ reads) ∧ (barrives = false) ∧ (s.setHeld req line = false) ∧ (start.atHome kind off key p.mask.toNat p.data.toNat (r.cache == 3) (some r.core) = .done s1 old) := by decide +kernel
theorem met_RequestsPerformed_3_2_b :
  let req : Nat := 4
  let i : Nat := 0
  let off : Nat := 0x20000
  let r : Request := amoReq
  let p : Part := (partOf (withReq amoReq id))
  let e : TlbEntry := (pageOf (withReq amoReq id))
  let s : State := (withReq amoReq id)
  let s1 : State := (homeState ((withReq amoReq id).atHome amoReq.kind 0x20000 ((withReq amoReq id).slotKey 0) 0xFF 0 false (some 0)))
  let next := r.next = some i ∧ r.parts[i]? = some p ∧ r.setWait = false ∧ s.mayPerform req r p = true
  let paged := r.bad = false ∧ p.sent = false ∧ s.hitFor r p.addr = some e
  let place := s.place (e.ppage + (p.addr - e.vpage))
  let global := next ∧ paged ∧ r.space = 0 ∧ e.allows r.need = true
  let key := s.slotKey r.slotOwner
  let line := off / 128
  let old := s.peek off 32 key
  let mates := s.mergedWith req r p
  let all := (mates ++ [(req, r)]).mergeSort (fun a b => a.1 ≤ b.1)
  let out := s.mergedKind r.core (all.map (·.2.kind))
  let kind := if mates.isEmpty then r.kind else out.1
  let start : State := if mates.isEmpty then s else { s with free := s.free + 1 }
  let reads := r.kind = .load ∨ r.kind = .pref
  let barrives := match r.kind with
    | .barrive _ _ => true
    | _ => false
  (Tab.find? s.reqs req = some r) ∧ (global) ∧ (place = .local_ off) ∧ (¬ reads) ∧ (barrives = false) ∧ (s.setHeld req line = false) ∧ (start.atHome kind off key p.mask.toNat p.data.toNat (r.cache == 3) (some r.core) = .done s1 old) := by decide +kernel
theorem met_RequestsPerformed_4 :
  let req : Nat := 4
  let i : Nat := 0
  let r : Request := ({ storeReq with bad := true })
  let p : Part := (partOf storeSent)
  let s : State := (withReq { storeReq with bad := true } id)
  let next := r.next = some i ∧ r.parts[i]? = some p ∧ r.setWait = false ∧ s.mayPerform req r p = true
  (Tab.find? s.reqs req = some r) ∧ (next) ∧ (r.bad = true) ∧ (p.sent = false) := by decide +kernel
theorem met_RequestsPerformed_5 :
  let req : Nat := 4
  let i : Nat := 0
  let r : Request := windowReq
  let p : Part := (partOf (withReq windowReq id))
  let s : State := (withReq windowReq id)
  let next := r.next = some i ∧ r.parts[i]? = some p ∧ r.setWait = false ∧ s.mayPerform req r p = true
  let wp := windowPlace r.core p.addr
  (Tab.find? s.reqs req = some r) ∧ (next) ∧ (r.bad = false) ∧ (r.space = 2) ∧ (s.windowFault wp.1 r.slotOwner wp.2 32 = none) ∧ ((∀ x ∈ s.badSpad, x.1 ≠ wp.1)) := by decide +kernel
theorem met_RequestsPerformed_5_b :
  let req : Nat := 4
  let i : Nat := 0
  let r : Request := ({ windowReq with kind := .store, stream := none })
  let p : Part := (partOf (withReq windowReq id))
  let s : State := (withReq { windowReq with kind := .store, stream := none } id)
  let next := r.next = some i ∧ r.parts[i]? = some p ∧ r.setWait = false ∧ s.mayPerform req r p = true
  let wp := windowPlace r.core p.addr
  (Tab.find? s.reqs req = some r) ∧ (next) ∧ (r.bad = false) ∧ (r.space = 2) ∧ (s.windowFault wp.1 r.slotOwner wp.2 32 = none) ∧ ((∀ x ∈ s.badSpad, x.1 ≠ wp.1)) := by decide +kernel
theorem met_RequestsPerformed_6_1 :
  let req : Nat := 4
  let i : Nat := 0
  let off : Nat := 0
  let r : Request := farReq
  let p : Part := (partOf farSent)
  let e : TlbEntry := (pageOf farSent)
  let s : State := farSent
  let m := 1
  let next := r.next = some i ∧ r.parts[i]? = some p ∧ r.setWait = false ∧ s.mayPerform req r p = true
  let paged := r.bad = false ∧ p.sent = false ∧ s.hitFor r p.addr = some e
  let place := s.place (e.ppage + (p.addr - e.vpage))
  let global := next ∧ paged ∧ r.space = 0 ∧ e.allows r.need = true
  (Tab.find? s.reqs req = some r) ∧ (global) ∧ (place = .remote m off) ∧ (r.kind ≠ .pref) ∧ (counterOffset off = false) := by decide +kernel
theorem met_RequestsPerformed_7 :
  let req : Nat := 4
  let i : Nat := 0
  let r : Request := farAsked
  let p : Part := (partOf (routed (withReq farAsked id)))
  let s : State := (routed (withReq farAsked id))
  let next := r.next = some i ∧ r.parts[i]? = some p ∧ r.setWait = false ∧ s.mayPerform req r p = true
  (Tab.find? s.reqs req = some r) ∧ (next) ∧ (r.space = 0) ∧ (p.sent = true) := by decide +kernel
theorem met_RequestsPerformed_8 :
  let req : Nat := 4
  let i : Nat := 0
  let off : Nat := 0x20000
  let pa : Nat := ((setWaiting.partPlace { storeReq with setWait := true } (partOf setWaiting)).2)
  let r : Request := ({ storeReq with setWait := true })
  let p : Part := (partOf setWaiting)
  let s : State := setWaiting
  let s1 : State := ((setWaiting.homeWrite 0x20000 32 0xFF 0 (setWaiting.slotKey 0) false).getD State.reset)
  let key := s.slotKey r.slotOwner
  let line := off / 128
  (Tab.find? s.reqs req = some r) ∧ (r.next = some i) ∧ (r.parts[i]? = some p) ∧ (r.setWait = true) ∧ (s.partPlace r p = (0, pa)) ∧ (off = pa % 2 ^ 44) ∧ (s.setHeld req line = false) ∧ (r.kind = .store) ∧ (s.badAt off key = false) ∧ (s.homeWrite off 32 p.mask.toNat p.data.toNat key (r.cache == 3) = some s1) := by decide +kernel
theorem met_RequestsPerformed_9 :
  let req : Nat := 4
  let i : Nat := 0
  let off : Nat := 0x20000
  let r : Request := barrierReq
  let p : Part := (partOf barrierSent)
  let e : TlbEntry := (pageOf barrierSent)
  let s : State := barrierSent
  let s1 : State := ((barrierSent.barrierPerform 0x20000 (barrierSent.slotKey 0) 0 5).getD State.reset)
  let op := 0
  let v := 5
  let paged := r.bad = false ∧ p.sent = false ∧ s.hitFor r p.addr = some e
  let place := s.place (e.ppage + (p.addr - e.vpage))
  let key := s.slotKey r.slotOwner
  let line := off / 128
  let first := (lowest 32 (fun i => p.mask.toNat.testBit i)).getD 0
  (Tab.find? s.reqs req = some r) ∧ (r.kind = .barrive op v) ∧ (r.parts[0]? = some p) ∧ (r.finished = false) ∧ (s.mayPerform req r p = true) ∧ (paged) ∧ (e.allows .atomic = true) ∧ (place = .local_ off) ∧ (s.badAt off key = false) ∧ (r.published = false) ∧ (s.setHeld req line = false) ∧ (s.barrierPerform (off + first) key op v = some s1) := by decide +kernel
theorem met_RequestsPerformed_10 :
  let req : Nat := 4
  let off : Nat := 0x20000
  let r : Request := loadReq
  let s : State := filling
  let s1 : State := ((filling.completeFill { line := 0x400, sectors := 1, streaming := false, nocomp := false, key := loadSent.slotKey 0 }).getD State.reset)
  let f := ({ line := 0x400, sectors := 1, streaming := false, nocomp := false, key := loadSent.slotKey 0 })
  let line := off / 128
  (Tab.find? s.reqs req = some r) ∧ ((s.cluster (homeCluster (line * 128))).fills.find? (fun f => f.line == line) = some f) ∧ (s.completeFill f = some s1) := by decide +kernel
theorem met_RequestsFinished_1 :
  let req : Nat := 4
  let w : Nat := 1
  let r : Request := (finished loadReq)
  let st : Stream := stream0
  let s : State := (intoStream (finished loadReq))
  (Tab.find? s.reqs req = some r) ∧ (r.stream = some w) ∧ (r.finished = true) ∧ (r.resend = false) ∧ (s.landsFirst req r w = true) ∧ ((s.core r.core).gang = some r.gang) ∧ (Tab.find? (s.core r.core).share.streams w = some st) := by decide +kernel
theorem met_RequestsFinished_1_b :
  let req : Nat := 4
  let w : Nat := 1
  let r : Request := (faulted loadReq)
  let st : Stream := stream0
  let s : State := (intoStream (faulted loadReq))
  (Tab.find? s.reqs req = some r) ∧ (r.stream = some w) ∧ (r.finished = true) ∧ (r.resend = false) ∧ (s.landsFirst req r w = true) ∧ ((s.core r.core).gang = some r.gang) ∧ (Tab.find? (s.core r.core).share.streams w = some st) := by decide +kernel
theorem met_RequestsFinished_3_1 :
  let req : Nat := 4
  let r : Request := ({ finished storeReq with orphan := true })
  let s : State := (withReq { finished storeReq with orphan := true } id)
  let engines := match r.kind with
    | .copyWrite _ => true
    | .collWrite _ _ _ => true
    | _ => false
  (Tab.find? s.reqs req = some r) ∧ (r.isStore = true) ∧ (r.held = false) ∧ (r.settled = true) ∧ (engines = false) ∧ (r.orphan = true) := by decide +kernel
theorem met_RequestsFinished_3_2 :
  let req : Nat := 4
  let r : Request := ({ finished storeReq with remote := true, path := 2 })
  let s : State := (withReq { finished storeReq with remote := true, path := 2 } id)
  let counts := match r.kind with
    | .store => r.multicast || (r.remote && !r.immediate)
    | .chunk _ _ => r.remote
    | _ => false
  let engines := match r.kind with
    | .copyWrite _ => true
    | .collWrite _ _ _ => true
    | _ => false
  (Tab.find? s.reqs req = some r) ∧ (r.isStore = true) ∧ (r.held = false) ∧ (r.settled = true) ∧ (engines = false) ∧ (r.orphan = false) ∧ (r.faultOf = none) ∧ (counts = true) := by decide +kernel
theorem met_RequestsFinished_3_3 :
  let req : Nat := 4
  let r : Request := (finished storeReq)
  let s : State := (withReq (finished storeReq) id)
  let counts := match r.kind with
    | .store => r.multicast || (r.remote && !r.immediate)
    | .chunk _ _ => r.remote
    | _ => false
  let engines := match r.kind with
    | .copyWrite _ => true
    | .collWrite _ _ _ => true
    | _ => false
  (Tab.find? s.reqs req = some r) ∧ (r.isStore = true) ∧ (r.held = false) ∧ (r.settled = true) ∧ (engines = false) ∧ (r.orphan = false) ∧ (r.faultOf = none) ∧ (counts = false) := by decide +kernel
theorem met_RequestsFinished_3_4 :
  let req : Nat := 4
  let r : Request := (faulted storeReq)
  let s : State := (withReq (faulted storeReq) id)
  let engines := match r.kind with
    | .copyWrite _ => true
    | .collWrite _ _ _ => true
    | _ => false
  (Tab.find? s.reqs req = some r) ∧ (r.isStore = true) ∧ (r.held = false) ∧ (r.settled = true) ∧ (engines = false) ∧ (r.orphan = false) ∧ (r.faultOf.isSome = true) := by decide +kernel
theorem met_RequestsFinished_4 :
  let core : Nat := 0
  let ctx : Nat := 0
  let n : Nat := 0
  let v : Waiter := wait0
  let s : State := ({ quiet with waiters := [wait0] })
  (s.waiters.find? (fun w => w.core == core && w.ctx == ctx && w.asker.isNone) = some v) ∧ (v.deadline = some n) ∧ (n ≤ s.now) := by decide +kernel
theorem met_RequestsFinished_4_b :
  let core : Nat := 0
  let ctx : Nat := 0
  let n : Nat := 0
  let v : Waiter := ({ wait0 with barrier := none, size := 8 })
  let s : State := ({ quiet with waiters := [{ wait0 with barrier := none, size := 8 }] })
  (s.waiters.find? (fun w => w.core == core && w.ctx == ctx && w.asker.isNone) = some v) ∧ (v.deadline = some n) ∧ (n ≤ s.now) := by decide +kernel
theorem met_RequestsFinished_5_1 :
  let req : Nat := 4
  let i : Nat := 0
  let r : Request := lostReq
  let p : Part := (partOf walkable)
  let entry : TlbEntry := (((walkable.walk 0 0x50000000).2.toOption.getD farPage))
  let s : State := walkable
  let s1 : State := ((walkable.walk 0 0x50000000).1)
  let alone := ∀ e ∈ s.reqs, e.1 ≠ req → e.2.slotOwner ≠ r.slotOwner ∨ coreCluster e.2.core ≠ coreCluster r.core
  let walks := r.next = some i ∧ r.parts[i]? = some p ∧ r.space = 0 ∧ p.sent = false ∧ s.hitFor r p.addr = none ∧ s.mayPerform req r p = true ∧ alone ∧ Tab.rising s.reqs = true
  (Tab.find? s.reqs req = some r) ∧ (walks) ∧ (s.walk r.slotOwner p.addr = (s1, .ok entry)) ∧ (entry.allows r.need = true) ∧ (s1.reqs = s.reqs) ∧ (s1.tlbHit r.core r.slotOwner p.addr = none) := by decide +kernel
theorem met_RequestsFinished_5_2 :
  let req : Nat := 4
  let i : Nat := 0
  let n : Nat := 0
  let r : Request := lostReq
  let p : Part := (partOf (withReq lostReq id))
  let s : State := (withReq lostReq id)
  let s1 : State := (((withReq lostReq id).walk 0 0x50000000).1)
  let alone := ∀ e ∈ s.reqs, e.1 ≠ req → e.2.slotOwner ≠ r.slotOwner ∨ coreCluster e.2.core ≠ coreCluster r.core
  let walks := r.next = some i ∧ r.parts[i]? = some p ∧ r.space = 0 ∧ p.sent = false ∧ s.hitFor r p.addr = none ∧ s.mayPerform req r p = true ∧ alone ∧ Tab.rising s.reqs = true
  (Tab.find? s.reqs req = some r) ∧ (walks) ∧ (s.walk r.slotOwner p.addr = (s1, .error n)) ∧ (s1.reqs = s.reqs) := by decide +kernel
theorem met_EnginesAct_1 :
  let c : Nat := 0
  let o : MatrixOp := ((idleOp.bestOp 0).getD ((microOf idleOp).op))
  let s : State := idleOp
  ((∀ e ∈ (s.core c).mq, e.running = false)) ∧ (s.bestOp c = some o) ∧ (Tab.rising s.cores = true) := by decide +kernel
theorem met_EnginesAct_2 :
  let c : Nat := 0
  let n : Nat := 2
  let y : CopyOp := copyOp0
  let y1 : CopyOp := (((copyState copyOp0).copyRuns 0 copyOp0 [0]).2.1)
  let f : CopyEnd := .made
  let s : State := (copyState copyOp0)
  let s1 : State := (((copyState copyOp0).copyRuns 0 copyOp0 [0]).1)
  ((s.core c).copies.find? (fun z => z.span == n) = some y) ∧ (s.copyReady c y = true) ∧ (n < 8) ∧ (s.copyRuns c y ((List.range y.runs).drop y.made) = (s1, y1, f)) ∧ (y1.span = n) := by decide +kernel
theorem met_EnginesAct_2_b :
  let c : Nat := 0
  let n : Nat := 2
  let y : CopyOp := ({ copyOp0 with src := 0x50000000 })
  let y1 : CopyOp := (((copyState { copyOp0 with src := 0x50000000 }).copyRuns 0 { copyOp0 with src := 0x50000000 } [0]).2.1)
  let f : CopyEnd := (((copyState { copyOp0 with src := 0x50000000 }).copyRuns 0 { copyOp0 with src := 0x50000000 } [0]).2.2)
  let s : State := (copyState { copyOp0 with src := 0x50000000 })
  let s1 : State := (((copyState { copyOp0 with src := 0x50000000 }).copyRuns 0 { copyOp0 with src := 0x50000000 } [0]).1)
  ((s.core c).copies.find? (fun z => z.span == n) = some y) ∧ (s.copyReady c y = true) ∧ (n < 8) ∧ (s.copyRuns c y ((List.range y.runs).drop y.made) = (s1, y1, f)) ∧ (y1.span = n) := by decide +kernel
theorem met_EnginesAct_3_1 :
  let id : Nat := 3
  let rec_ : Nat := (((walkState walk0).walkStep walk0).2.1)
  let w : Walk := walk0
  let w1 : Walk := (((walkState walk0).walkStep walk0).2.2.1)
  let fault : Option (Nat × Nat) := (((walkState walk0).walkStep walk0).2.2.2)
  let s : State := (walkState walk0)
  let s1 : State := (((walkState walk0).walkStep walk0).1)
  (Tab.find? s.walks id = some w) ∧ ((s.gang w.gang).isSome = true) ∧ (w.finished = false) ∧ (s.engineRuns w.gang w.member w.slot = true) ∧ (s.walkMayDeliver id w = true) ∧ (s.priorStoresDone id w.gang w.member w.slot (fun r _ => r.published) = true) ∧ (s.walkStep w = (s1, rec_, w1, fault)) ∧ (w.toRing = false) := by decide +kernel
theorem met_EnginesAct_4 :
  let c : Nat := 0
  let k : CollChunk := chunk0
  let rest : List CollChunk := ([])
  let s : State := chunkState
  let strand := (s.locate k.gang k.member k.slot).bind (fun x => s.strand x.1 x.2)
  ((s.core c).collq = k :: rest) ∧ (strand.all (fun t => !t.resumed) = true) ∧ (s.engineRuns k.gang k.member k.slot = true) := by decide +kernel
theorem met_RequestsPerformed_6_2 :
  let req : Nat := 4
  let i : Nat := 0
  let off : Nat := 0xF0000000000
  let r : Request := counterReq
  let p : Part := (partOf counterSent)
  let e : TlbEntry := (pageOf counterSent)
  let s : State := counterSent
  let m := 1
  let next := r.next = some i ∧ r.parts[i]? = some p ∧ r.setWait = false ∧ s.mayPerform req r p = true
  let paged := r.bad = false ∧ p.sent = false ∧ s.hitFor r p.addr = some e
  let place := s.place (e.ppage + (p.addr - e.vpage))
  let global := next ∧ paged ∧ r.space = 0 ∧ e.allows r.need = true
  (Tab.find? s.reqs req = some r) ∧ (global) ∧ (place = .remote m off) ∧ (r.kind ≠ .pref) ∧ (counterOffset off = true) ∧ (r.kind = .load) ∧ (counterRead p.mask.toNat r.unit = true) := by decide +kernel
theorem met_RequestsPerformed_6_3 :
  let req : Nat := 4
  let i : Nat := 0
  let off : Nat := 0xF0000000000
  let r : Request := ({ counterReq with kind := .store })
  let p : Part := (partOf counterSent)
  let e : TlbEntry := (pageOf counterSent)
  let s : State := ({ counterSent with reqs := [(4, { counterReq with kind := .store })] })
  let m := 1
  let next := r.next = some i ∧ r.parts[i]? = some p ∧ r.setWait = false ∧ s.mayPerform req r p = true
  let paged := r.bad = false ∧ p.sent = false ∧ s.hitFor r p.addr = some e
  let place := s.place (e.ppage + (p.addr - e.vpage))
  let global := next ∧ paged ∧ r.space = 0 ∧ e.allows r.need = true
  (Tab.find? s.reqs req = some r) ∧ (global) ∧ (place = .remote m off) ∧ (r.kind ≠ .pref) ∧ (counterOffset off = true) ∧ (r.kind ≠ .load ∨ counterRead p.mask.toNat r.unit = false) := by decide +kernel
theorem met_RequestsFinished_2 :
  let req : Nat := 4
  let r : Request := ({ finished loadReq with stream := none, orphan := true })
  let s : State := (withReq { finished loadReq with stream := none, orphan := true } id)
  (Tab.find? s.reqs req = some r) ∧ (r.stream = none) ∧ (r.orphan = true) ∧ (r.changes = false) ∧ (r.finished = true) := by decide +kernel
theorem met_EnginesAct_3_2 :
  let id : Nat := 3
  let rec_ : Nat := (((ringWalk walkRing0).walkStep walkRing0).2.1)
  let w : Walk := walkRing0
  let w1 : Walk := (((ringWalk walkRing0).walkStep walkRing0).2.2.1)
  let fault : Option (Nat × Nat) := (((ringWalk walkRing0).walkStep walkRing0).2.2.2)
  let s : State := (ringWalk walkRing0)
  let s1 : State := (((ringWalk walkRing0).walkStep walkRing0).1)
  (Tab.find? s.walks id = some w) ∧ ((s.gang w.gang).isSome = true) ∧ (w.finished = false) ∧ (s.engineRuns w.gang w.member w.slot = true) ∧ (s.walkMayDeliver id w = true) ∧ (s.priorStoresDone id w.gang w.member w.slot (fun r _ => r.published) = true) ∧ (s.walkStep w = (s1, rec_, w1, fault)) ∧ (w.toRing = true) ∧ (w1.finished = true) := by decide +kernel
theorem met_EnginesAct_3_2_b :
  let id : Nat := 3
  let rec_ : Nat := (((ringWalk walkLost).walkStep walkLost).2.1)
  let w : Walk := walkLost
  let w1 : Walk := (((ringWalk walkLost).walkStep walkLost).2.2.1)
  let fault : Option (Nat × Nat) := (((ringWalk walkLost).walkStep walkLost).2.2.2)
  let s : State := (ringWalk walkLost)
  let s1 : State := (((ringWalk walkLost).walkStep walkLost).1)
  (Tab.find? s.walks id = some w) ∧ ((s.gang w.gang).isSome = true) ∧ (w.finished = false) ∧ (s.engineRuns w.gang w.member w.slot = true) ∧ (s.walkMayDeliver id w = true) ∧ (s.priorStoresDone id w.gang w.member w.slot (fun r _ => r.published) = true) ∧ (s.walkStep w = (s1, rec_, w1, fault)) ∧ (w.toRing = true) ∧ (w1.finished = true) := by decide +kernel
theorem met_EnginesAct_3_3 :
  let id : Nat := 3
  let rec_ : Nat := (((ringWalk walkRing7).walkStep walkRing7).2.1)
  let w : Walk := walkRing7
  let w1 : Walk := (((ringWalk walkRing7).walkStep walkRing7).2.2.1)
  let fault : Option (Nat × Nat) := (((ringWalk walkRing7).walkStep walkRing7).2.2.2)
  let s : State := (ringWalk walkRing7)
  let s1 : State := (((ringWalk walkRing7).walkStep walkRing7).1)
  let unit := w1.unit ++ [BitVec.ofNat 64 rec_]
  (Tab.find? s.walks id = some w) ∧ ((s.gang w.gang).isSome = true) ∧ (w.finished = false) ∧ (s.engineRuns w.gang w.member w.slot = true) ∧ (s.walkMayDeliver id w = true) ∧ (s.priorStoresDone id w.gang w.member w.slot (fun r _ => r.published) = true) ∧ (s.walkStep w = (s1, rec_, w1, fault)) ∧ (w.toRing = true) ∧ (w1.finished = false) ∧ (unit.length = 8) := by decide +kernel
theorem met_EnginesAct_3_4 :
  let id : Nat := 3
  let rec_ : Nat := (((ringWalk walkRing1).walkStep walkRing1).2.1)
  let w : Walk := walkRing1
  let w1 : Walk := (((ringWalk walkRing1).walkStep walkRing1).2.2.1)
  let fault : Option (Nat × Nat) := (((ringWalk walkRing1).walkStep walkRing1).2.2.2)
  let s : State := (ringWalk walkRing1)
  let s1 : State := (((ringWalk walkRing1).walkStep walkRing1).1)
  let unit := w1.unit ++ [BitVec.ofNat 64 rec_]
  (Tab.find? s.walks id = some w) ∧ ((s.gang w.gang).isSome = true) ∧ (w.finished = false) ∧ (s.engineRuns w.gang w.member w.slot = true) ∧ (s.walkMayDeliver id w = true) ∧ (s.priorStoresDone id w.gang w.member w.slot (fun r _ => r.published) = true) ∧ (s.walkStep w = (s1, rec_, w1, fault)) ∧ (w.toRing = true) ∧ (w1.finished = false) ∧ (unit.length ≠ 8) := by decide +kernel
theorem met_FabricEvents_1_1 :
  let msg : RemoteMsg := farStore
  let q : Nat := 0
  let off : Nat := 0x20000
  let d : Nat := ((match quiet.atHomeNow .store 0x20000 (quiet.slotKey 0) 0xFF 0x77 with | .done _ d => d | _ => 1))
  let kind : ReqKind := .store
  let s : State := quiet
  let s1 : State := farDone
  let taken := s.router.off = false ∧ s.now ≤ msg.sentAt + 2 ^ 19 ∧ msg.kind ≠ .withdraw
  let fresh := taken ∧ s.router.seen.find? (fun (e : Nat × Nat × Nat × Nat × BitVec 256) => e.1 == msg.source && e.2.1 == msg.queue && e.2.2.1 == msg.seq) = none ∧ s.answersHibernating msg.owner = false
  let draws := match msg.kind with
    | .draw _ _ _ _ _ _ _ => true
    | _ => false
  let before := if kind = .load then (s.homeRead (off / 32 * 32) 32 (s.slotKey q) msg.full).1 else s
  (fresh) ∧ (s.slotOf msg.owner = some q) ∧ (s.place (s.modnum * 2 ^ 44 + msg.addr) = .local_ off) ∧ (remoteKind msg.kind = some kind) ∧ (before.atHomeNow kind (off / 32 * 32) (s.slotKey q) msg.mask.toNat msg.data.toNat = .done s1 d) ∧ (draws = false) := by decide +kernel
theorem met_FabricEvents_2 :
  let msg : RemoteMsg := farStore
  let s : State := ({ quiet with router := { quiet.router with seen := [(1, 0, 5, 0, 9)] } })
  let e := ((1, 0, 5, 0, 9))
  let taken := s.router.off = false ∧ s.now ≤ msg.sentAt + 2 ^ 19 ∧ msg.kind ≠ .withdraw
  (taken) ∧ (s.router.seen.find? (fun (e : Nat × Nat × Nat × Nat × BitVec 256) => e.1 == msg.source && e.2.1 == msg.queue && e.2.2.1 == msg.seq) = some e) := by decide +kernel
theorem met_FabricEvents_3 :
  let msg : RemoteMsg := ({ farStore with owner := 9 })
  let s : State := quiet
  let taken := s.router.off = false ∧ s.now ≤ msg.sentAt + 2 ^ 19 ∧ msg.kind ≠ .withdraw
  let fresh := taken ∧ s.router.seen.find? (fun (e : Nat × Nat × Nat × Nat × BitVec 256) => e.1 == msg.source && e.2.1 == msg.queue && e.2.2.1 == msg.seq) = none ∧ s.answersHibernating msg.owner = false
  (fresh) ∧ (s.slotOf msg.owner = none) := by decide +kernel
theorem met_FabricEvents_4 :
  let module : Nat := 1
  let s : State := (routed quiet)
  (s.moduleState module ≠ .lost) := by decide +kernel
theorem met_FabricEvents_5 :
  let module : Nat := 1
  let req : Nat := 4
  let since : Nat := 0
  let addr : Nat := 0x40000000
  let r : Request := farAsked
  let s : State := unanswered
  let silent := fun (m : Nat) => Tab.get s.router.modules .lost m == .reachable
  (Tab.find? s.reqs req = some r) ∧ (r.sentAt = some since) ∧ (since + 2 ^ 20 ≤ s.now) ∧ (r.parts.findSome? (fun p => ((r.awaited p).find? silent).map (·, p.firstByte)) = some (module, addr)) := by decide +kernel
theorem met_FabricEvents_6 :
  let link : Nat := 0
  let s : State := quiet
  (link < 36) ∧ (link ∉ s.router.linksDown) ∧ (Tab.rising s.host = true) := by decide +kernel
theorem met_FabricEvents_6_b :
  let link : Nat := 35
  let s : State := ({ quiet with router := { quiet.router with failed := [(35, 15)] } })
  (link < 36) ∧ (link ∉ s.router.linksDown) ∧ (Tab.rising s.host = true) := by decide +kernel
theorem met_FabricEvents_7 :
  let link : Nat := 35
  let s : State := quiet
  (link ∉ s.router.linksDown) := by decide +kernel
theorem met_FabricEvents_8 :
  let link : Nat := 0
  let s : State := linkDown
  (link ∈ s.router.linksDown) := by decide +kernel
theorem met_FabricEvents_9 :
  let module : Nat := 1
  let since : Nat := 5
  let s : State := pathless
  (Tab.find? s.router.pathless module = some since) ∧ (since + 100000 ≤ s.now) := by decide +kernel
theorem met_FabricEvents_10 :
  let module : Nat := 7
  let paths : List (List Nat) := ([[1],[2,3]])
  let s : State := pathless
  (paths ≠ []) ∧ ((∀ p ∈ paths, 1 ≤ p.length ∧ p.length ≤ 3 ∧ p.headD 0 < 36)) ∧ (module < 3072) ∧ (module ≠ s.modnum) := by decide +kernel
theorem met_FabricEvents_11 :
  let s : State := (quiet.setHreg 0x2000 5)
  (s.supply = 5) := by decide +kernel
theorem met_CollectiveEvents_1_1 :
  let c : Nat := 0
  let x : Nat := 0
  let graph : Nat := 7
  let table : Nat := 0x100
  let issued : Nat := 3
  let bundle : Word := 0x10000
  let holds : List Hold := ([])
  let t : Strand := handed
  let s : State := handing
  let s1 : State := ((handing.writerHalf 0 0 3).1)
  (s.strand c x = some t) ∧ (t.holds = .coll graph table bundle issued :: holds) ∧ (s.writerHalf c x 3 = (s1, true)) ∧ (s1.heldTrap c ((s1.strand c x).getD t) (List.range 4) false = none) ∧ (s1.coll.replays.length < 64) ∧ (s1.supply < 3) ∧ (s1.coll.held = []) ∧ (s1.coll.aborts = []) ∧ ((s1.core c).share.bad.contains 7 = false) ∧ (s1.badWord c table 64 = none) := by decide +kernel
theorem met_CollectiveEvents_2_1 :
  let graph : Nat := 7
  let step : Nat := 1
  let r : Replay := ({ replay0 with key := none })
  let s : State := (replaying 1 [{ replay0 with key := none }])
  let held := s.replayOf graph step = some r
  (s.engineAway = false) ∧ (held) ∧ (r.key = none) := by decide +kernel
theorem met_CollectiveEvents_3 :
  let chunk : ChunkMsg := chunkMsg0
  let r : Replay := replay0
  let s : State := (replaying 1 [replay0])
  let takes := s.router.off = false ∧ s.answersHibernating chunk.owner = false ∧ (s.slotOf chunk.owner).isSome = true
  let chunkKnown := (Tab.find? s.coll.graphs chunk.graph).isSome = true ∧ takes
  (chunkKnown) ∧ (s.replayOf chunk.graph chunk.step = some r) ∧ (r.status = 0) := by decide +kernel
theorem met_CollectiveEvents_4 :
  let chunk : ChunkMsg := ({ chunkMsg0 with step := 2 })
  let s : State := (replaying 1 [replay0])
  let takes := s.router.off = false ∧ s.answersHibernating chunk.owner = false ∧ (s.slotOf chunk.owner).isSome = true
  let chunkKnown := (Tab.find? s.coll.graphs chunk.graph).isSome = true ∧ takes
  let reached := Tab.get s.coll.steps 0 chunk.graph
  (chunkKnown) ∧ (s.replayOf chunk.graph chunk.step = none) ∧ (reached < chunk.step) ∧ (chunk.step ≤ reached + 2) := by decide +kernel
theorem met_CollectiveEvents_4_b :
  let chunk : ChunkMsg := ({ chunkMsg0 with step := 3 })
  let s : State := (replaying 1 [replay0])
  let takes := s.router.off = false ∧ s.answersHibernating chunk.owner = false ∧ (s.slotOf chunk.owner).isSome = true
  let chunkKnown := (Tab.find? s.coll.graphs chunk.graph).isSome = true ∧ takes
  let reached := Tab.get s.coll.steps 0 chunk.graph
  (chunkKnown) ∧ (s.replayOf chunk.graph chunk.step = none) ∧ (reached < chunk.step) ∧ (chunk.step ≤ reached + 2) := by decide +kernel
theorem met_CollectiveEvents_5 :
  let chunk : ChunkMsg := chunkMsg0
  let s : State := (replaying 1 [])
  let takes := s.router.off = false ∧ s.answersHibernating chunk.owner = false ∧ (s.slotOf chunk.owner).isSome = true
  let chunkKnown := (Tab.find? s.coll.graphs chunk.graph).isSome = true ∧ takes
  let reached := Tab.get s.coll.steps 0 chunk.graph
  (chunkKnown) ∧ (s.replayOf chunk.graph chunk.step = none) ∧ (chunk.step ≤ reached) ∧ ((chunk.graph, chunk.step, chunk.op) ∉ s.coll.flushed) := by decide +kernel
theorem met_CollectiveEvents_6 :
  let graph : Nat := 7
  let step : Nat := 1
  let op : Nat := 0
  let since : Nat := 5
  let o : CollOp := (collOp0 1)
  let r : Replay := ({ replay0 with since := [(0, 5)] })
  let s : State := (replaying 1 [{ replay0 with since := [(0, 5)] }])
  let g := s.graphOf graph
  let held := s.replayOf graph step = some r
  (held) ∧ (g.ops[op]? = some o) ∧ (o.kind = 1) ∧ (Tab.find? r.since op = some since) ∧ (r.loose = true) ∧ (s.replayRuns r = true) ∧ (op ∉ r.ran) ∧ (since + 2 ^ g.texp ≤ s.now) ∧ (g.comb ≠ 7) := by decide +kernel
theorem met_CollectiveEvents_7 :
  let chunk : ChunkMsg := chunkMsg0
  let s : State := (replaying 1 [replay0])
  let takes := s.router.off = false ∧ s.answersHibernating chunk.owner = false ∧ (s.slotOf chunk.owner).isSome = true
  (takes) := by decide +kernel
theorem met_CollectiveEvents_8 :
  let graph : Nat := 7
  let step : Nat := 1
  let i : Nat := 0
  let since : Nat := 5
  let r : Replay := ({ replay0 with rootHeld := some (0, 5), ran := [0] })
  let s : State := (replaying 1 [{ replay0 with rootHeld := some (0, 5), ran := [0] }])
  let g := s.graphOf graph
  let held := s.replayOf graph step = some r
  (held) ∧ (r.rootHeld = some (i, since)) ∧ (since + 2 ^ (g.texp + 2) ≤ s.now) ∧ (s.replayRuns r = true) := by decide +kernel
theorem met_CollectiveEvents_9 :
  let chunk : ChunkMsg := ({ chunkMsg0 with owner := 9 })
  let s : State := (replaying 1 [replay0])
  (s.router.off = false) ∧ (s.answersHibernating chunk.owner = false) ∧ (s.slotOf chunk.owner = none) := by decide +kernel
theorem met_CollectiveEvents_10 :
  let msg : AbortMsg := abort0
  let r : Replay := replay0
  let s : State := (replaying 1 [replay0])
  (s.engineAway = false) ∧ (s.replayOf msg.graph msg.step = some r) ∧ (r.status = 0) ∧ (r.closing = false) ∧ ((msg.graph, msg.step) ∉ s.coll.forwarded) := by decide +kernel
theorem met_CollectiveEvents_11 :
  let graph : Nat := 7
  let step : Nat := 1
  let r : Replay := ({ replay0 with ran := [0, 1] })
  let s : State := (replaying 1 [{ replay0 with ran := [0, 1] }])
  let g := s.graphOf graph
  let held := s.replayOf graph step = some r
  (held) ∧ ((s.coll.replays.find? (fun x => x.graph == graph)).map (·.step) = some step) ∧ (s.supply < 3) ∧ (s.replayWrites graph step = false) ∧ ((r.status ≠ 0 ∨ r.closing = true ∨ g.ops.length ≤ r.ran.length ∧ r.rootHeld = none ∧ g.vit = none)) := by decide +kernel
theorem met_CollectiveEvents_11_b :
  let graph : Nat := 7
  let step : Nat := 1
  let r : Replay := ({ replay0 with status := 4 })
  let s : State := (replaying 1 [{ replay0 with status := 4 }])
  let g := s.graphOf graph
  let held := s.replayOf graph step = some r
  (held) ∧ ((s.coll.replays.find? (fun x => x.graph == graph)).map (·.step) = some step) ∧ (s.supply < 3) ∧ (s.replayWrites graph step = false) ∧ ((r.status ≠ 0 ∨ r.closing = true ∨ g.ops.length ≤ r.ran.length ∧ r.rootHeld = none ∧ g.vit = none)) := by decide +kernel
theorem met_FabricEvents_1_2 :
  let msg : RemoteMsg := farDraw
  let q : Nat := 0
  let off : Nat := 0x20000
  let d : Nat := ((match quiet.atHomeNow (kindOf farDraw) 0x20000 (quiet.slotKey 0) 0xFFFF 0x77 with | .done _ d => d | _ => 1))
  let kind : ReqKind := ((kindOf farDraw))
  let s : State := quiet
  let s1 : State := (drawDone quiet)
  let taken := s.router.off = false ∧ s.now ≤ msg.sentAt + 2 ^ 19 ∧ msg.kind ≠ .withdraw
  let fresh := taken ∧ s.router.seen.find? (fun (e : Nat × Nat × Nat × Nat × BitVec 256) => e.1 == msg.source && e.2.1 == msg.queue && e.2.2.1 == msg.seq) = none ∧ s.answersHibernating msg.owner = false
  let draws := match msg.kind with
    | .draw _ _ _ _ _ _ _ => true
    | _ => false
  let before := if kind = .load then (s.homeRead (off / 32 * 32) 32 (s.slotKey q) msg.full).1 else s
  let unit := Config.cores + homeCluster off
  let splits := before.drawSplits unit kind msg.mask.toNat d
  (fresh) ∧ (s.slotOf msg.owner = some q) ∧ (s.place (s.modnum * 2 ^ 44 + msg.addr) = .local_ off) ∧ (remoteKind msg.kind = some kind) ∧ (before.atHomeNow kind (off / 32 * 32) (s.slotKey q) msg.mask.toNat msg.data.toNat = .done s1 d) ∧ (draws = true) ∧ (splits = []) := by decide +kernel
theorem met_FabricEvents_1_3 :
  let msg : RemoteMsg := farDraw
  let q : Nat := 0
  let off : Nat := 0x20000
  let d : Nat := ((match struck.atHomeNow (kindOf farDraw) 0x20000 (struck.slotKey 0) 0xFFFF 0x77 with | .done _ d => d | _ => 1))
  let kind : ReqKind := ((kindOf farDraw))
  let s : State := struck
  let s1 : State := (drawDone struck)
  let taken := s.router.off = false ∧ s.now ≤ msg.sentAt + 2 ^ 19 ∧ msg.kind ≠ .withdraw
  let fresh := taken ∧ s.router.seen.find? (fun (e : Nat × Nat × Nat × Nat × BitVec 256) => e.1 == msg.source && e.2.1 == msg.queue && e.2.2.1 == msg.seq) = none ∧ s.answersHibernating msg.owner = false
  let draws := match msg.kind with
    | .draw _ _ _ _ _ _ _ => true
    | _ => false
  let before := if kind = .load then (s.homeRead (off / 32 * 32) 32 (s.slotKey q) msg.full).1 else s
  let unit := Config.cores + homeCluster off
  let splits := before.drawSplits unit kind msg.mask.toNat d
  (fresh) ∧ (s.slotOf msg.owner = some q) ∧ (s.place (s.modnum * 2 ^ 44 + msg.addr) = .local_ off) ∧ (remoteKind msg.kind = some kind) ∧ (before.atHomeNow kind (off / 32 * 32) (s.slotKey q) msg.mask.toNat msg.data.toNat = .done s1 d) ∧ (draws = true) ∧ (splits ≠ []) := by decide +kernel
theorem met_FabricEvents_7_b :
  let link : Nat := 40
  let s : State := quiet
  (link ∉ s.router.linksDown) := by decide +kernel
theorem met_CollectiveEvents_1_2 :
  let c : Nat := 0
  let x : Nat := 0
  let graph : Nat := 7
  let table : Nat := 0x100
  let issued : Nat := 3
  let bundle : Word := 0x10000
  let holds : List Hold := ([])
  let t : Strand := handed
  let s : State := ({ handing with badSpad := [(0, 0x108 / 8)] })
  let s1 : State := (({ handing with badSpad := [(0, 0x108 / 8)] }.writerHalf 0 0 3).1)
  let w := 0x108
  (s.strand c x = some t) ∧ (t.holds = .coll graph table bundle issued :: holds) ∧ (s.writerHalf c x 3 = (s1, true)) ∧ (s1.heldTrap c ((s1.strand c x).getD t) (List.range 4) false = none) ∧ (s1.coll.replays.length < 64) ∧ (s1.supply < 3) ∧ (s1.coll.held = []) ∧ (s1.coll.aborts = []) ∧ ((s1.core c).share.bad.contains 7 = false) ∧ (s1.badWord c table 64 = some w) := by decide +kernel
theorem met_CollectiveEvents_2_2 :
  let graph : Nat := 7
  let step : Nat := 1
  let r : Replay := replay0
  let s : State := (replaying 1 [replay0])
  let held := s.replayOf graph step = some r
  (s.engineAway = false) ∧ (held) ∧ (r.key ≠ none) := by decide +kernel
theorem met_CollectiveEvents_2_3 :
  let graph : Nat := 7
  let step : Nat := 1
  let s : State := (replaying 1 [])
  (s.engineAway = false) ∧ (s.replayOf graph step = none) ∧ (step ≤ Tab.get s.coll.steps 0 graph) := by decide +kernel
theorem met_CollectiveEvents_2_4 :
  let graph : Nat := 7
  let step : Nat := 2
  let s : State := (replaying 1 [])
  (s.engineAway = false) ∧ (s.replayOf graph step = none) ∧ (Tab.get s.coll.steps 0 graph < step) ∧ ((∀ e ∈ s.coll.starts, e.1 ≠ graph ∨ e.2.1 ≠ step)) := by decide +kernel
theorem met_CollectiveEvents_12 :
  let graph : Nat := 7
  let step : Nat := 1
  let r : Replay := replay0
  let s : State := (replaying 1 [replay0])
  let g := s.graphOf graph
  let held := s.replayOf graph step = some r
  (held) ∧ ((s.coll.replays.find? (fun x => x.graph == graph)).map (·.step) = some step) ∧ (s.supply < 3) ∧ (s.replayWrites graph step = false) ∧ (r.status = 0) ∧ (r.closing = false) ∧ ((r.ran.length < g.ops.length ∨ r.rootHeld.isSome = true)) := by decide +kernel
theorem met_LaunchEvents_1 :
  let queue : Nat := 0
  let tail : Nat := 16
  let s : State := queued
  let q := queue % 2048
  let log2n := bits (s.queueReg q 8) 12 8
  let head := s.queueReg q 0x18 % 2 ^ 32
  let open_ := s.hreg 0x3830 = 0 ∧ s.hostWrites = true ∧ s.ready = true
  (open_) ∧ ((tail % 2 ^ 32 + 2 ^ 32 - head) % 2 ^ 32 ≤ 2 ^ log2n) := by decide +kernel
theorem met_LaunchEvents_2 :
  let queue : Nat := 0
  let s : State := queued
  let q := queue % 2048
  let log2n := bits (s.queueReg q 8) 12 8
  let head := s.queueReg q 0x18 % 2 ^ 32
  let base := bits (s.queueReg q 0) 55 7 * 128 + 128 * (head % 2 ^ log2n)
  let read := s.homeRead base 128 0 true
  (s.ready = true) ∧ (s.memoryStill = false) ∧ (s.queueEnabled q = true) ∧ (head ≠ s.queueReg q 0x10 % 2 ^ 32) ∧ ((s.queueReg q 0).testBit 63 = false) ∧ (inHbm base = true) ∧ ((nestRecord read.2).wellFormed = true) := by decide +kernel
theorem met_LaunchEvents_3 :
  let src : Nat := 5
  let h : Waiting := waiting0
  let s : State := offered
  let slot := (s.slotOf h.owner).getD 32
  (s.launch.nests.length < 4096) ∧ (s.heads.find? (fun h => s.launch.nests.all (fun n => n.2.owner != h.2.owner || !h.2.rec_.conflicts n.2.rec_)) = some (src, h)) ∧ ((∃ k ∈ List.range 4, h.rec_.gangCores ≤ (s.partition slot k).length)) := by decide +kernel
theorem met_LaunchEvents_4 :
  let cl : Nat := 0
  let nest : Nat := 1
  let n : Nest := nest0
  let cs : List Nat := ([0])
  let s : State := placing
  let s0 := s.noteFirst
  (s0.placementOrder.findSome? (fun e => (s0.placeable e.1 e.2).map (fun p => (e, p))) = some ((nest, n), (cl, cs))) := by decide +kernel
theorem met_LaunchEvents_5 :
  let cl : Nat := 0
  let nest : Nat := 1
  let n : Nest := nestBig
  let s : State := reserving
  let i := 0
  let since := 0
  let s0 := s.noteFirst
  let fits := s0.clusterServes cl = true ∧ n.rec_.gangCores ≤ (s0.partition ((s0.slotOf n.owner).getD 32) cl).length
  (s0.nextGangs.head? = some (nest, n)) ∧ (s0.launch.first = some (nest, i, since)) ∧ (s0.placeable nest n = none) ∧ (since + 16000 ≤ s0.now) ∧ (s0.windowCluster n.owner n.rec_.window = none) ∧ (fits) ∧ ((∀ k < 4, k ≠ cl → s0.clusterServes k = false)) ∧ (cl < 4) ∧ ((∀ k < 4, (s0.cluster k).reservation = none)) := by decide +kernel
theorem met_LaunchEvents_6 :
  let c : Nat := 0
  let image : Nat := yieldImage
  let n : Nest := nest0
  let v : Gang := gang0
  let f : Nat × Nat × Nat × Nat := folio0
  let s : State := yielded
  let s1 : State := yieldRead.1
  let s2 : State := yieldWritten
  let folioSlot := s.gangSlot f.2.1
  let out := s.setCluster (coreCluster c) { s.cluster (coreCluster c) with folios := (s.cluster (coreCluster c)).folios.erase f }
  (s.pickFolio c = some f) ∧ (s.gang f.2.1 = some v) ∧ (s.nest v.nest = some n) ∧ (out.agentRead folioSlot f.1 64 = (s1, .ok image)) ∧ (s1.agentWrite folioSlot f.1 8 (image % 2 ^ 64 - (image % 2 ^ 64 &&& 2 ^ 56)) = (s2, none)) := by decide +kernel
theorem met_LaunchEvents_7 :
  let g : Nat := 1
  let v : Gang := ({ gang0 with mode := .preempting })
  let s : State := sealing
  (s.gang g = some v) ∧ (v.mode = .preempting) ∧ (s.sealable g v = true) := by decide +kernel
theorem met_LaunchEvents_8 :
  let g : Nat := 1
  let v : Gang := ({ gang0 with mode := .preempting })
  let s : State := dueSealing
  let d := 0
  let y := 0
  (s.gang g = some v) ∧ (v.mode = .preempting) ∧ (s.sealable g v = false) ∧ (s.dueIn g v = some (d, y)) := by decide +kernel
theorem met_LaunchEvents_9 :
  let g : Nat := 1
  let s : State := resuming
  (s.launch.preempted.find? (fun g => s.causeEnded g) = some g) := by decide +kernel
theorem met_LaunchEvents_10 :
  let nest : Nat := 1
  let n : Nest := nestDone
  let s : State := retiring
  let report : Report := { owner := n.owner, source := n.source, rec_ := n.rec_, status := n.status, gangs := n.ended, seq := nest, tStart := n.tStart, energy := n.energy, mhz := if n.mhzCycles = 0 then 0 else n.mhzSum / n.mhzCycles, throttle := n.throttle, feats := n.feats }
  let dropped := { s with launch := { s.launch with nests := Tab.erase s.launch.nests nest } }
  (s.nest nest = some n) ∧ (s.memoryStill = false) ∧ (n.placed ≤ n.ended) ∧ ((n.stopped = true ∨ n.rec_.total ≤ n.placed)) ∧ ((∀ e ∈ s.reqs, e.2.isStore = true → e.2.slotOwner = (s.slotOf n.owner).getD 32 → (s.gang e.2.gang).isSome = true)) ∧ ((∀ k < 4, ∀ m, ((dropped.complete report).cluster k).reservation = some m → m ≠ nest)) := by decide +kernel
theorem met_SupplyEvents_1 :
  let s : State := (supply 0)
  (Tab.rising s.host = true) ∧ (Tab.rising s.islands = true) := by decide +kernel
theorem met_SupplyEvents_2 :
  let s : State := (supply 0)
  (Tab.rising s.host = true) ∧ (Tab.rising s.islands = true) := by decide +kernel
theorem met_SupplyEvents_2_b :
  let s : State := ({ supply 0 with power := { quiet.power with inputTicks := 999 } })
  (Tab.rising s.host = true) ∧ (Tab.rising s.islands = true) := by decide +kernel
theorem met_SupplyEvents_3 :
  let sensor : Nat := 5
  let s : State := sensorStuck
  (Tab.rising s.host = true) ∧ (Tab.rising s.islands = true) ∧ (sensor < 128) ∧ (sensor ∉ s.power.retired) ∧ (s.sensorFails sensor = true) := by decide +kernel
theorem met_SupplyEvents_4 :
  let addr : Nat := 0x20000
  let s : State := (supply 0)
  let st := s.supply
  (Tab.rising s.host = true) ∧ (Tab.rising s.islands = true) ∧ (inHbm addr = true) ∧ (st ≠ 4) ∧ (st ≠ 5) ∧ (s.power.off = false) ∧ (addr / 8 ∉ s.bad) := by decide +kernel
theorem met_SupplyEvents_5 :
  let reserve : Nat := 4000000000
  let input : Bool := true
  let s : State := (supply 0)
  let st := s.supply
  (Tab.rising s.host = true) ∧ (Tab.rising s.islands = true) ∧ (st ≠ 3) ∧ (st ≠ 4) ∧ (st ≠ 5) ∧ ((input = true ∨ reserve < s.eWarn)) := by decide +kernel
theorem met_SupplyEvents_5_b :
  let reserve : Nat := 0
  let input : Bool := false
  let s : State := (supply 1)
  let st := s.supply
  (Tab.rising s.host = true) ∧ (Tab.rising s.islands = true) ∧ (st ≠ 3) ∧ (st ≠ 4) ∧ (st ≠ 5) ∧ ((input = true ∨ reserve < s.eWarn)) := by decide +kernel
theorem met_SupplyEvents_5_c :
  let reserve : Nat := 50
  let input : Bool := false
  let s : State := (quiet.setHreg 0x2078 100)
  let st := s.supply
  (Tab.rising s.host = true) ∧ (Tab.rising s.islands = true) ∧ (st ≠ 3) ∧ (st ≠ 4) ∧ (st ≠ 5) ∧ ((input = true ∨ reserve < s.eWarn)) := by decide +kernel
theorem met_SupplyEvents_6_1 :
  let c : Nat := 0
  let x : Nat := 0
  let t : Strand := (strandOf supplyHandled)
  let s : State := supplyHandled
  let st := s.supply
  let q := s.gangSlot t.gang
  let halting := st = 3 ∨ st = 6
  let meets := halting ∧ s.strand c x = some t ∧ t.atBoundary = true ∧ s.dueTrap c x true = none
  (Tab.rising s.host = true) ∧ (Tab.rising s.islands = true) ∧ (meets) ∧ (s.gangTurn t.gang = true) ∧ (t.supplyBy = none) ∧ (t.saved = false) ∧ (t.resumed = false) ∧ (s.inHandler q t.pc.toNat = false) ∧ ((s.slotReg q 0).testBit 62 = true) := by decide +kernel
theorem met_SupplyEvents_6_2 :
  let c : Nat := 0
  let x : Nat := 0
  let t : Strand := (strandOf (supply 6))
  let s : State := (supply 6)
  let st := s.supply
  let q := s.gangSlot t.gang
  let halting := st = 3 ∨ st = 6
  let meets := halting ∧ s.strand c x = some t ∧ t.atBoundary = true ∧ s.dueTrap c x true = none
  (Tab.rising s.host = true) ∧ (Tab.rising s.islands = true) ∧ (meets) ∧ (s.gangTurn t.gang = true) ∧ (t.supplyBy = none) ∧ (t.saved = false) ∧ (t.resumed = false) ∧ (s.inHandler q t.pc.toNat = false) ∧ ((s.slotReg q 0).testBit 62 = false) := by decide +kernel
theorem met_SupplyEvents_8 :
  let c : Nat := 0
  let x : Nat := 0
  let t : Strand := (strandOf dueSupply)
  let s : State := dueSupply
  let i := trapInfo0
  let st := s.supply
  let halting := st = 3 ∨ st = 6
  (Tab.rising s.host = true) ∧ (Tab.rising s.islands = true) ∧ (halting) ∧ (s.strand c x = some t) ∧ (t.atBoundary = true) ∧ (s.dueTrap c x true = some i) := by decide +kernel
theorem met_SupplyEvents_9 :
  let c : Nat := 0
  let x : Nat := 0
  let since : Nat := 5
  let t : Strand := (strandOf overrun)
  let s : State := overrun
  let st := s.supply
  let halting := st = 3 ∨ st = 6
  let meets := halting ∧ s.strand c x = some t ∧ t.atBoundary = true ∧ s.dueTrap c x true = none
  (Tab.rising s.host = true) ∧ (Tab.rising s.islands = true) ∧ (meets) ∧ (t.saved = false) ∧ (t.supplyBy = some since) ∧ (0 < since) ∧ (since ≤ s.now) ∧ (t.resumed = false) := by decide +kernel
theorem met_SupplyEvents_10 :
  let s : State := allSaved
  let st := s.supply
  (Tab.rising s.host = true) ∧ (Tab.rising s.islands = true) ∧ (s.saveDone = true) ∧ (st = 3) := by decide +kernel
theorem met_SupplyEvents_11 :
  let s : State := (supply 4)
  let st := s.supply
  (Tab.rising s.host = true) ∧ (Tab.rising s.islands = true) ∧ (st = 4) := by decide +kernel
theorem met_SupplyEvents_11_b :
  let s : State := twoCatalogues
  let st := s.supply
  (Tab.rising s.host = true) ∧ (Tab.rising s.islands = true) ∧ (st = 4) := by decide +kernel
theorem met_SupplyEvents_12 :
  let s : State := ({ supply 0 with now := 20000, power := { quiet.power with dropSince := some 0 } })
  let st := s.supply
  (Tab.rising s.host = true) ∧ (Tab.rising s.islands = true) ∧ (st = 0) ∧ ((∃ since, s.power.dropSince = some since ∧ since + 20000 ≤ s.now)) := by decide +kernel
theorem met_SupplyEvents_13 :
  let reserve : Nat := 5
  let s : State := (supply 1)
  let st := s.supply
  (Tab.rising s.host = true) ∧ (Tab.rising s.islands = true) ∧ (st = 1) ∧ ((reserve < 3000000000 ∨ s.power.sagSince + 500000000 ≤ s.now)) := by decide +kernel
theorem met_SupplyEvents_13_b :
  let reserve : Nat := 4000000000
  let s : State := ({ supply 1 with now := 500000000 })
  let st := s.supply
  (Tab.rising s.host = true) ∧ (Tab.rising s.islands = true) ∧ (st = 1) ∧ ((reserve < 3000000000 ∨ s.power.sagSince + 500000000 ≤ s.now)) := by decide +kernel
theorem met_SupplyEvents_14 :
  let n : Nat := 3
  let reserve : Nat := 5
  let s : State := (((supply 2).setHreg 0x2038 0x1B).setHreg 0x2008 9)
  let st := s.supply
  let held := s.setReserve reserve
  (Tab.rising s.host = true) ∧ (Tab.rising s.islands = true) ∧ (st = 2) ∧ (held.power.dropSince.isSome = true) ∧ ((s.power.shedAt = 0 ∨ s.power.shedAt + 100000000 ≤ s.now)) ∧ (((List.range 4).map (fun i => bits (s.hreg 0x2038).toNat (2 * i + 1) (2 * i))).find? (fun c => !(s.cluster c).shed) = some n) := by decide +kernel
theorem met_SupplyEvents_15 :
  let n : Nat := 3
  let reserve : Nat := 3500000000
  let rest : List Nat := ([1])
  let s : State := shedding
  let held := s.setReserve reserve
  (Tab.rising s.host = true) ∧ (Tab.rising s.islands = true) ∧ (3500000000 ≤ reserve) ∧ (held.power.charging = true) ∧ (s.power.shedOrder = n :: rest) := by decide +kernel
theorem met_SupplyEvents_16 :
  let reserve : Nat := 3500000000
  let s : State := (supply 2)
  let st := s.supply
  let held := s.setReserve reserve
  (Tab.rising s.host = true) ∧ (Tab.rising s.islands = true) ∧ (st = 1 ∨ st = 2) ∧ (3500000000 ≤ reserve) ∧ (held.power.charging = true) := by decide +kernel
theorem met_SupplyEvents_16_b :
  let reserve : Nat := 4000000000
  let s : State := (supply 1)
  let st := s.supply
  let held := s.setReserve reserve
  (Tab.rising s.host = true) ∧ (Tab.rising s.islands = true) ∧ (st = 1 ∨ st = 2) ∧ (3500000000 ≤ reserve) ∧ (held.power.charging = true) := by decide +kernel
theorem met_SupplyEvents_17 :
  let s : State := (supply 5)
  let st := s.supply
  (Tab.rising s.host = true) ∧ (Tab.rising s.islands = true) ∧ (st = 3 ∨ st = 4 ∨ st = 5) := by decide +kernel
theorem met_SupplyEvents_18 :
  let sensor : Nat := 5
  let s : State := ((supply 0).setHreg (0x5300 + 8 * 5) 110000)
  let st := s.supply
  (Tab.rising s.host = true) ∧ (Tab.rising s.islands = true) ∧ (st ≠ 3) ∧ (st ≠ 4) ∧ (st ≠ 5) ∧ (st ≠ 6) ∧ ((List.range 128).find? (fun k => k % 4 != 3 && decide (110000 ≤ s.sensor k)) = some sensor) := by decide +kernel
theorem met_SupplyEvents_19_2 :
  let since : Nat := 0
  let s : State := ({ cooling with power := { cooling.power with catalogues := [] } })
  let st := s.supply
  let cooling := ({ s with power := { s.power with off := false, regions := [] } }.log 0 0x0102 6 7 0 0 0).logBadSlot
  (Tab.rising s.host = true) ∧ (Tab.rising s.islands = true) ∧ (st = 6) ∧ (s.power.off = true) ∧ (s.power.coolSince = some since) ∧ (since + 1000000000 ≤ s.now) ∧ (cooling.newestValid = none) := by decide +kernel
theorem met_SupplyEvents_20 :
  let s : State := State.reset
  let st := s.supply
  (Tab.rising s.host = true) ∧ (Tab.rising s.islands = true) ∧ (st = 0) ∧ (s.hreg 0x1000 = 0) := by decide +kernel
theorem met_SupplyEvents_20_b :
  let s : State := State.reset
  let st := s.supply
  (Tab.rising s.host = true) ∧ (Tab.rising s.islands = true) ∧ (st = 0) ∧ (s.hreg 0x1000 = 0) := by decide +kernel
theorem met_SupplyEvents_21_1 :
  let reserve : Nat := 4000000000
  let s : State := ({ quiet.setHreg 0x1000 3 with now := 1000000000, power := { quiet.power with inputSince := some 0 } })
  let held := s.setReserve reserve
  let resumed := (held.enterPhase 4).logBadSlot
  (Tab.rising s.host = true) ∧ (Tab.rising s.islands = true) ∧ (s.hreg 0x1000 = 3) ∧ (s.eWarn + 1000000000 ≤ reserve) ∧ ((∃ since, s.power.inputSince = some since ∧ since + 1000000000 ≤ s.now)) ∧ (resumed.catalogueDue = false ∨ resumed.newestValid = none) := by decide +kernel
theorem met_SupplyEvents_22 :
  let master : Nat := 1
  let s : State := (routed (supply 0))
  (Tab.rising s.host = true) ∧ (Tab.rising s.islands = true) ∧ ((s.hreg 0x1100).getLsbD 63 = false) ∧ (s.moduleState master = .reachable) ∧ (s.power.master = none) ∧ (s.hreg 0x1000 ≠ 0) := by decide +kernel
theorem met_SupplyEvents_22_b :
  let master : Nat := 1
  let s : State := (routed (supply 0))
  (Tab.rising s.host = true) ∧ (Tab.rising s.islands = true) ∧ ((s.hreg 0x1100).getLsbD 63 = false) ∧ (s.moduleState master = .reachable) ∧ (s.power.master = none) ∧ (s.hreg 0x1000 ≠ 0) := by decide +kernel
theorem met_SupplyEvents_22_c :
  let master : Nat := 1
  let s : State := (routed (supply 0))
  (Tab.rising s.host = true) ∧ (Tab.rising s.islands = true) ∧ ((s.hreg 0x1100).getLsbD 63 = false) ∧ (s.moduleState master = .reachable) ∧ (s.power.master = none) ∧ (s.hreg 0x1000 ≠ 0) := by decide +kernel
theorem met_SupplyEvents_24 :
  let master : Nat := 1
  let since : Nat := 4
  let s : State := mastered
  (Tab.rising s.host = true) ∧ (Tab.rising s.islands = true) ∧ (s.power.master = some (master, since)) ∧ (since + 1000000 ≤ s.now) := by decide +kernel
theorem met_SupplyEvents_25 :
  let s : State := ({ quiet.setHreg 0x1000 5 with now := 10000000 })
  (Tab.rising s.host = true) ∧ (Tab.rising s.islands = true) ∧ (s.power.master = none) ∧ (s.hreg 0x1000 = 5) ∧ (s.power.phaseSince + 10000000 ≤ s.now) := by decide +kernel
theorem met_SupplyEvents_7 :
  let c : Nat := 0
  let x : Nat := 0
  let t : Strand := (strandOf savedHiber)
  let s : State := savedHiber
  let st := s.supply
  let halting := st = 3 ∨ st = 6
  let meets := halting ∧ s.strand c x = some t ∧ t.atBoundary = true ∧ s.dueTrap c x true = none
  (Tab.rising s.host = true) ∧ (Tab.rising s.islands = true) ∧ (meets) ∧ (t.saved = true) := by decide +kernel
theorem met_HostEvents_1 :
  let s : State := (hosting.setHreg 0x3830 1)
  (Tab.rising s.host = true) ∧ (s.hreg 0x3830 = 1) := by decide +kernel
theorem met_HostEvents_2_10 :
  let key : BitVec 64 := 0x5741524D
  let s : State := hosting
  (Tab.rising s.host = true) ∧ (s.hreg 0x3830 = 0) ∧ (s.hostWrites = true) ∧ ((key = 0x5741524D#64)) ∧ (s.hreg 0x1000 ≠ 0xF0) := by decide +kernel
theorem met_HostEvents_2_11 :
  let addr : Nat := 0x200000
  let s : State := (placed 0x200000 [1])
  let at_ := bits addr 55 6 * 64
  let nonce := s.deviceRead at_ 64
  (Tab.rising s.host = true) ∧ (s.hreg 0x3830 = 0) ∧ (s.hostWrites = true) ∧ (s.hbmRange at_ 64 = true) ∧ (s.hbmRange (bits nonce 447 384) 448 = true) := by decide +kernel
theorem met_HostEvents_2_12 :
  let slot : Nat := 0
  let s : State := hosting
  let ready := s.ready = true
  let commanded := ready ∧ slot < 32 ∧ s.slotValid slot = true ∧ s.slotReg slot 0x38 ≠ 2 ∧ s.slotReg slot 0x38 ≠ 4
  (Tab.rising s.host = true) ∧ (s.hreg 0x3830 = 0) ∧ (s.hostWrites = true) ∧ (commanded) := by decide +kernel
theorem met_HostEvents_2_1 :
  let slot : Nat := 0
  let s : State := suspended
  let owner := s.slotOwner slot
  (Tab.rising s.host = true) ∧ (slot < 32) ∧ (s.slotReg slot 0x38 = 2) ∧ ((∀ g ∈ s.ownerGangs owner, (s.gang g).map (·.mode) = some GangMode.preempted)) := by decide +kernel
theorem met_HostEvents_2_13 :
  let slot : Nat := 0
  let s : State := (hosting.setSlotReg 0 0x38 3)
  let ready := s.ready = true
  let commanded := ready ∧ slot < 32 ∧ s.slotValid slot = true ∧ s.slotReg slot 0x38 ≠ 2 ∧ s.slotReg slot 0x38 ≠ 4
  (Tab.rising s.host = true) ∧ (s.hreg 0x3830 = 0) ∧ (s.hostWrites = true) ∧ (commanded) ∧ (s.slotReg slot 0x38 = 3) := by decide +kernel
theorem met_HostEvents_2_14 :
  let slot : Nat := 0
  let s : State := hosting
  let ready := s.ready = true
  let commanded := ready ∧ slot < 32 ∧ s.slotValid slot = true ∧ s.slotReg slot 0x38 ≠ 2 ∧ s.slotReg slot 0x38 ≠ 4
  (Tab.rising s.host = true) ∧ (s.hreg 0x3830 = 0) ∧ (s.hostWrites = true) ∧ (commanded) := by decide +kernel
theorem met_HostEvents_2_15 :
  let slot : Nat := 0
  let value : BitVec 64 := 3
  let s : State := hosting
  let ready := s.ready = true
  (Tab.rising s.host = true) ∧ (s.hreg 0x3830 = 0) ∧ (s.hostWrites = true) ∧ (ready) ∧ (slot < 32) ∧ (s.islandsTaken slot (value.toNat % 2 ^ 32) = false) := by decide +kernel
theorem met_HostEvents_2_16 :
  let s : State := hosting
  let ready := s.ready = true
  (Tab.rising s.host = true) ∧ (s.hreg 0x3830 = 0) ∧ (s.hostWrites = true) ∧ (ready) := by decide +kernel
theorem met_HostEvents_2_17 :
  let s : State := hosting
  (Tab.rising s.host = true) ∧ (s.hreg 0x3830 = 0) ∧ (s.hostWrites = true) := by decide +kernel
theorem met_HostEvents_2_18 :
  let addr : Nat := 0x200000
  let s : State := (placed 0x200000 [3, 1, 2, 3])
  let keyAt := s.deviceRead addr 176
  let keySlot := keyAt % 2 ^ 64
  (Tab.rising s.host = true) ∧ (s.hreg 0x3830 = 0) ∧ (s.hostWrites = true) ∧ (s.hbmRange addr 176 = true) ∧ (keySlot < 32) ∧ (s.slotValid keySlot = false) := by decide +kernel
theorem met_HostEvents_2_19 :
  let value : BitVec 64 := 0x200000
  let sets : Map (Nat × List Word) := ((routineImage.routineSet 0x200000 0 (List.range 2049) []).getD [])
  let s : State := routineImage
  let va := bits value.toNat 55 6 * 64
  let q := value.toNat % 64
  (Tab.rising s.host = true) ∧ (s.hreg 0x3830 = 0) ∧ (s.hostWrites = true) ∧ (q < 32) ∧ (s.routineSet va 0 (List.range 2049) [] = some sets) := by decide +kernel
theorem met_HostEvents_2_2 :
  let slot : Nat := 0
  let index : Nat := 0
  let value : BitVec 64 := 0
  let s : State := reloading
  let q := value.toNat % 64
  (Tab.rising s.host = true) ∧ ((s.core index).reload = true) ∧ ((s.core index).mq = []) ∧ ((List.range 32).find? (fun q => s.slotValid q && (s.slotIslands q).testBit (coreIsland index)) = some slot) := by decide +kernel
theorem met_HostEvents_2_20 :
  let value : BitVec 64 := 0x0300000000200000
  let s : State := (placed 0x200000 [6])
  let va := bits value.toNat 55 6 * 64
  (Tab.rising s.host = true) ∧ (s.hreg 0x3830 = 0) ∧ (s.hostWrites = true) ∧ (s.hbmRange va 384 = true) := by decide +kernel
theorem met_HostEvents_2_21 :
  let value : BitVec 64 := 0x200000
  let s : State := vitrineImage
  let va := bits value.toNat 55 6 * 64
  let q := value.toNat % 64
  let unit := s.deviceRead va 32
  let word := fun (i : Nat) => bits unit (64 * i + 63) (64 * i)
  (Tab.rising s.host = true) ∧ (s.hreg 0x3830 = 0) ∧ (s.hostWrites = true) ∧ ((∀ e ∈ s.vitrines, e.2.removing = false)) ∧ (q < 32) ∧ (s.slotValid q = true) ∧ (s.hbmRange va 32 = true) ∧ (word 3 ≤ 8191) ∧ (word 2 ≠ 0) ∧ (word 0 % 64 = 0) ∧ (word 1 % 64 = 0) ∧ ((word 1 + word 2 ≤ word 0 ∨ word 0 + word 2 ≤ word 1)) ∧ (Tab.find? s.vitrines (word 3) = none) := by decide +kernel
theorem met_HostEvents_2_22 :
  let index : Nat := 7
  let v : Vitrine := vitrine0
  let s : State := (showing vitrine0)
  (Tab.rising s.host = true) ∧ (s.hreg 0x3830 = 0) ∧ (s.hostWrites = true) ∧ (Tab.find? s.vitrines index = some v) := by decide +kernel
theorem met_HostEvents_2_3 :
  let index : Nat := 7
  let v : Vitrine := ({ vitrine0 with removing := true })
  let s : State := (showing { vitrine0 with removing := true })
  (Tab.rising s.host = true) ∧ (Tab.find? s.vitrines index = some v) ∧ (v.removing = true) ∧ ((∀ e ∈ s.cores, (∀ y ∈ e.2.copies, index ∉ y.into) ∧ ∀ x ∈ e.2.ctxs, Hold.publish index ∉ x.2.holds)) ∧ ((∀ r ∈ s.coll.replays, (s.graphOf r.graph).vit ≠ some index)) ∧ ((∀ e ∈ Tab.erase s.vitrines index, e.2.removing = false)) := by decide +kernel
theorem met_HostEvents_2_23 :
  let addr : Nat := 0x200000
  let size : Nat := 8
  let g : Nat := 7
  let gr : Graph := ((graphHeader (graphImage.deviceRead 0x200000 64)).2.1)
  let nops : Nat := 1
  let s : State := graphImage
  let at_ := bits addr 55 6 * 64
  let graphed := s.deviceSeen at_ (64 + 32 * nops)
  let images := (List.range nops).map (fun i => graphed.deviceRead (at_ + 64 + 32 * i) 32)
  let loaded := { gr with ops := images.map collOp }
  let n := min size 32
  (Tab.rising s.host = true) ∧ (s.hreg 0x3830 = 0) ∧ (s.hostWrites = true) ∧ (s.hbmRange at_ 64 = true) ∧ (graphHeader (s.deviceRead at_ 64) = (g, gr, nops)) ∧ (headerGood (s.deviceRead at_ 64) = true) ∧ (s.hbmRange at_ (64 + 32 * nops) = true) ∧ (images.zipIdx.all (fun e => opGood e.1 s.modnum ((s.hreg 0x020).getLsbD 6) loaded e.2 (collOp e.1)) = true) ∧ (s.coll.graphs.foldl (fun n e => if e.1 = g then n else n + e.2.ops.length) 0 + nops ≤ 16384) ∧ ((∀ r ∈ s.coll.replays, r.graph ≠ g)) := by decide +kernel
theorem met_HostEvents_2_24 :
  let s : State := hosting
  (Tab.rising s.host = true) ∧ (s.hreg 0x3830 = 0) ∧ (s.hostWrites = true) := by decide +kernel
theorem met_HostEvents_2_25 :
  let s : State := hosting
  (Tab.rising s.host = true) ∧ (s.hreg 0x3830 = 0) ∧ (s.hostWrites = true) := by decide +kernel
theorem met_HostEvents_2_25_b :
  let s : State := (hosting.setHreg 0x4100 0x8000000000000000)
  (Tab.rising s.host = true) ∧ (s.hreg 0x3830 = 0) ∧ (s.hostWrites = true) := by decide +kernel
theorem met_HostEvents_2_4 :
  let s : State := (hosting.setHreg 0x5208 0x1234567890)
  (Tab.rising s.host = true) := by decide +kernel
theorem met_HostEvents_2_7 :
  let off : Nat := 0x5208
  let s : State := ({ (hosting.setHreg 0x5208 0x1234567890) with agenda := [.read 0x5208] })
  let rest := ([])
  (Tab.rising s.host = true) ∧ (s.agenda = .read off :: rest) ∧ (off < 0x400000 ∨ 0x500000 ≤ off) := by decide +kernel
theorem met_HostEvents_2_5 :
  let off : Nat := 0x5208
  let s : State := ({ hosting with power := { hosting.power with latched := [(0x5208, 5)] } })
  let h := 5#32
  (Tab.rising s.host = true) ∧ (Tab.find? s.power.latched (off / 8 * 8) = some h) := by decide +kernel
theorem met_HostEvents_2_9 :
  let addr : Nat := 0x200000
  let size : Nat := 8
  let s : State := (placed 0x200000 [1, 2, 3, 4])
  let k := 0
  let n := min size 32
  (Tab.rising s.host = true) ∧ (s.hostKey = some k) ∧ (inHbm (addr + n - 1) = true) ∧ (s.stackServes (addr / 2 ^ 36) = true) ∧ (s.power.off = false) ∧ (s.supply ≠ 5) ∧ (addr % 32 + n ≤ 32) ∧ (0 < n) ∧ (s.badRead addr k (maskRange (addr % 32) n) = false) := by decide +kernel
theorem met_HostEvents_2_27 :
  let addr : Nat := 0x200000
  let mask : BitVec 32 := 0xFF
  let s : State := hosting
  let s1 : State := (hosting.claimLine (0x200000 / 128) 0)
  let k := 0
  let a := addr / 32 * 32
  (Tab.rising s.host = true) ∧ (s.hreg 0x3830 = 0) ∧ (s.hostWrites = true) ∧ (s.hostKey = some k) ∧ (inHbm a = true) ∧ (s.stackServes (a / 2 ^ 36) = true) ∧ (s.power.off = false) ∧ (mask ≠ 0) ∧ (s1 = s.claimLine (a / 128) k) ∧ ((mask = 0xFFFFFFFF#32 ∨ s1.badAt a k = false)) := by decide +kernel
theorem met_HostEvents_2_27_b :
  let addr : Nat := 0x200000
  let mask : BitVec 32 := 0xFF
  let s : State := (lineHeld 1)
  let s1 : State := ((lineHeld 1).claimLine (0x200000 / 128) 0)
  let k := 0
  let a := addr / 32 * 32
  (Tab.rising s.host = true) ∧ (s.hreg 0x3830 = 0) ∧ (s.hostWrites = true) ∧ (s.hostKey = some k) ∧ (inHbm a = true) ∧ (s.stackServes (a / 2 ^ 36) = true) ∧ (s.power.off = false) ∧ (mask ≠ 0) ∧ (s1 = s.claimLine (a / 128) k) ∧ ((mask = 0xFFFFFFFF#32 ∨ s1.badAt a k = false)) := by decide +kernel
theorem met_HostEvents_2_27_c :
  let addr : Nat := 0x200000
  let mask : BitVec 32 := 0xFF
  let s : State := (lineHeld 0)
  let s1 : State := ((lineHeld 0).claimLine (0x200000 / 128) 0)
  let k := 0
  let a := addr / 32 * 32
  (Tab.rising s.host = true) ∧ (s.hreg 0x3830 = 0) ∧ (s.hostWrites = true) ∧ (s.hostKey = some k) ∧ (inHbm a = true) ∧ (s.stackServes (a / 2 ^ 36) = true) ∧ (s.power.off = false) ∧ (mask ≠ 0) ∧ (s1 = s.claimLine (a / 128) k) ∧ ((mask = 0xFFFFFFFF#32 ∨ s1.badAt a k = false)) := by decide +kernel
theorem met_HostEvents_2_28 :
  let off : Nat := 0x2038
  let s : State := hosting
  (Tab.rising s.host = true) ∧ (s.hreg 0x3830 = 0) ∧ (s.hostWrites = true) ∧ (off < 0x3000) := by decide +kernel
theorem met_HostEvents_2_29 :
  let slot : Nat := 0
  let s : State := hosting
  (Tab.rising s.host = true) ∧ (s.hreg 0x3830 = 0) ∧ (s.hostWrites = true) ∧ (slot < 32) ∧ (s.ready = true) := by decide +kernel
theorem met_CheckpointEvents_4_1 :
  let addr : Nat := 0x200000
  let s : State := listImage
  let at_ := bits addr 55 6 * 64
  let entries := s.listEntries at_ (List.range 1024)
  let list := entries.map (fun (e : Nat × Nat) => (bits e.1 63 48, e.1 % 2 ^ 44, bits e.2 63 32, e.2 % 2 ^ 32))
  let first := fun (e : Nat × Nat × Nat × Nat) => e.2.1
  let last := fun (e : Nat × Nat × Nat × Nat) => e.2.1 + 65536 * e.2.2.2
  let apart := fun (e f : Nat × Nat × Nat × Nat) => last f ≤ first e ∨ last e ≤ first f
  let save := (0, (s.hreg 0x2040).toNat, 0, ((s.hreg 0x2048).toNat + 65535) / 65536)
  (Tab.rising s.host = true) ∧ (s.hreg 0x3830 = 0) ∧ (s.hostWrites = true) ∧ (s.hbmRange at_ 16 = true) ∧ ((∀ e ∈ entries, bits e.1 47 44 = 0 ∧ bits e.1 15 0 = 0)) ∧ ((∀ e ∈ list, ∀ h < 8, s.stackServes h = true ∨ last e ≤ h * 2 ^ 36 ∨ (h + 1) * 2 ^ 36 ≤ first e)) ∧ ((∀ e ∈ list, last e ≤ 2 ^ 39)) ∧ (list.length ≤ 1023) ∧ (list.foldl (fun n e => n + e.2.2.2) 0 ≤ 500 * 16384) ∧ ((∀ e ∈ list, apart e save)) ∧ (list.Pairwise apart) := by decide +kernel
theorem met_CheckpointEvents_4_1_b :
  let addr : Nat := 0x200000
  let s : State := hosting
  let at_ := bits addr 55 6 * 64
  let entries := s.listEntries at_ (List.range 1024)
  let list := entries.map (fun (e : Nat × Nat) => (bits e.1 63 48, e.1 % 2 ^ 44, bits e.2 63 32, e.2 % 2 ^ 32))
  let first := fun (e : Nat × Nat × Nat × Nat) => e.2.1
  let last := fun (e : Nat × Nat × Nat × Nat) => e.2.1 + 65536 * e.2.2.2
  let apart := fun (e f : Nat × Nat × Nat × Nat) => last f ≤ first e ∨ last e ≤ first f
  let save := (0, (s.hreg 0x2040).toNat, 0, ((s.hreg 0x2048).toNat + 65535) / 65536)
  (Tab.rising s.host = true) ∧ (s.hreg 0x3830 = 0) ∧ (s.hostWrites = true) ∧ (s.hbmRange at_ 16 = true) ∧ ((∀ e ∈ entries, bits e.1 47 44 = 0 ∧ bits e.1 15 0 = 0)) ∧ ((∀ e ∈ list, ∀ h < 8, s.stackServes h = true ∨ last e ≤ h * 2 ^ 36 ∨ (h + 1) * 2 ^ 36 ≤ first e)) ∧ ((∀ e ∈ list, last e ≤ 2 ^ 39)) ∧ (list.length ≤ 1023) ∧ (list.foldl (fun n e => n + e.2.2.2) 0 ≤ 500 * 16384) ∧ ((∀ e ∈ list, apart e save)) ∧ (list.Pairwise apart) := by decide +kernel
theorem met_CheckpointEvents_4_2 :
  let s : State := resumingOwners
  (Tab.rising s.host = true) ∧ (s.hreg 0x3830 = 0) ∧ (s.hostWrites = true) ∧ (s.ready = true) ∧ (s.supply = 7) := by decide +kernel
theorem met_CheckpointEvents_4_2_b :
  let s : State := resumingOwners
  (Tab.rising s.host = true) ∧ (s.hreg 0x3830 = 0) ∧ (s.hostWrites = true) ∧ (s.ready = true) ∧ (s.supply = 7) := by decide +kernel
theorem met_CheckpointEvents_4_3 :
  let addr : Nat := 0x200000
  let members : List Nat := ([0, 1, 2])
  let stream : List Byte := ((requestImage.captureRegions false).2.1)
  let regions : List Region := ((requestImage.captureRegions false).2.2)
  let s : State := requestImage
  let s1 : State := ((requestImage.captureRegions false).1)
  let at_ := bits addr 55 6 * 64
  let w := s.deviceRead at_ 64
  let seen := s.deviceSeen at_ 64
  let group := bits w 51 48 + 1
  let own := bits w 47 40
  let named := (List.range group).map (fun k => bits w (64 + 12 * k + 11) (64 + 12 * k))
  (Tab.rising s.host = true) ∧ (s.hreg 0x3830 = 0) ∧ (s.hostWrites = true) ∧ (s.power.checkpoint = none) ∧ (s.hbmRange at_ 64 = true) ∧ (bits w 63 56 = 1) ∧ (3 ≤ group) ∧ (own < group) ∧ (bits w 55 52 = 0) ∧ (bits w 39 1 = 0) ∧ (bits w 255 (64 + 12 * group) = 0) ∧ (bits w 511 256 = 0) ∧ (members = named) ∧ (members.getD own 4096 = s.modnum) ∧ ((∀ m ∈ members, m < 3072)) ∧ (members.Nodup) ∧ (seen.captureRegions (w.testBit 0) = (s1, stream, regions)) := by decide +kernel
theorem met_CheckpointEvents_4_4 :
  let addr : Nat := 0x8000000000
  let s : State := hosting
  let at_ := bits addr 55 6 * 64
  (Tab.rising s.host = true) ∧ (s.hreg 0x3830 = 0) ∧ (s.hostWrites = true) ∧ (s.power.checkpoint = none) ∧ (s.hbmRange at_ 64 = false) := by decide +kernel
theorem met_CheckpointEvents_1 :
  let off : Nat := ((areaSet.appendArea [1, 2, 3]).2.getD 0)
  let source : Nat := 1
  let bytes : List Byte := ([1, 2, 3])
  let s : State := areaSet
  let s1 : State := ((areaSet.appendArea [1, 2, 3]).1)
  let owner := source / 4096
  (Tab.rising s.host = true) ∧ (s.router.off = false) ∧ (s.answersHibernating owner = false) ∧ (owner = 0 ∨ (s.slotOf owner).isSome = true) ∧ (s.appendArea bytes = (s1, some off)) := by decide +kernel
theorem met_CheckpointEvents_2 :
  let source : Nat := (1 + 4096 * 9)
  let s : State := areaSet
  let owner := source / 4096
  (Tab.rising s.host = true) ∧ (s.router.off = false) ∧ (s.answersHibernating owner = false) ∧ (owner ≠ 0) ∧ (s.slotOf owner = none) := by decide +kernel
theorem met_CheckpointEvents_4_6 :
  let addr : Nat := 0x200000
  let shards : List (List Byte) := ([])
  let s : State := hosting
  let at_ := bits addr 55 6 * 64
  let away := decide (2 ^ 44 ≤ at_) && at_ / 2 ^ 44 != s.modnum
  let image := if away then shards.headD [] else s.catalogueAt (at_ % 2 ^ 44)
  let parts := if away then shards.drop 1 else shards
  let found := (parseCatalogue image).bind (s.chainOf parts ((s.hreg 0x2068).toNat / 32 + parts.length + 1))
  (Tab.rising s.host = true) ∧ (s.hreg 0x3830 = 0) ∧ (s.hostWrites = true) ∧ (found = none) := by decide +kernel
theorem met_HostEvents_2_6 :
  let off : Nat := 0x5208
  let s : State := hosting
  (Tab.rising s.host = true) ∧ (Tab.find? s.power.latched (off / 8 * 8) = none) := by decide +kernel
theorem met_HostEvents_2_8 :
  let off : Nat := 0x400000
  let s : State := ({ supply 3 with agenda := [.read 0x400000] })
  let rest := ([])
  (Tab.rising s.host = true) ∧ (s.agenda = .read off :: rest) ∧ (0x400000 ≤ off) ∧ (off < 0x500000) := by decide +kernel
theorem met_HostEvents_2_7_b :
  let off : Nat := 0x5208
  let s : State := ({ supply 3 with agenda := [.read 0x5208] })
  let rest := ([])
  (Tab.rising s.host = true) ∧ (s.agenda = .read off :: rest) ∧ (off < 0x400000 ∨ 0x500000 ≤ off) := by decide +kernel
theorem met_HostEvents_2_9_b :
  let addr : Nat := 0x200000
  let size : Nat := 8
  let s : State := (placed 0x200000 [1, 2, 3, 4] (supply 3))
  let k := 0
  let n := min size 32
  (Tab.rising s.host = true) ∧ (s.hostKey = some k) ∧ (inHbm (addr + n - 1) = true) ∧ (s.stackServes (addr / 2 ^ 36) = true) ∧ (s.power.off = false) ∧ (s.supply ≠ 5) ∧ (addr % 32 + n ≤ 32) ∧ (0 < n) ∧ (s.badRead addr k (maskRange (addr % 32) n) = false) := by decide +kernel
theorem met_CheckpointEvents_1_b :
  let off : Nat := ((areaWarned.appendArea [1, 2, 3]).2.getD 0)
  let source : Nat := 1
  let bytes : List Byte := ([1, 2, 3])
  let s : State := areaWarned
  let s1 : State := ((areaWarned.appendArea [1, 2, 3]).1)
  let owner := source / 4096
  (Tab.rising s.host = true) ∧ (s.router.off = false) ∧ (s.answersHibernating owner = false) ∧ (owner = 0 ∨ (s.slotOf owner).isSome = true) ∧ (s.appendArea bytes = (s1, some off)) := by decide +kernel
theorem met_BundleFrame_1 :
  let s : State := quiet
  let k : Cursor := issued0
  let t : Strand := (strandOf quiet)
  let writesSr := fun (n : Nat) => k.shares.any (fun e => match e with | .crw m _ => m == n | _ => false)
  (Tab.rising s.cores = true) ∧ (Tab.rising (s.core k.core).ctxs = true) ∧ (s.strand k.core k.ctx = some t) ∧ (k.holds = []) ∧ (k.dues = []) ∧ (t.due = []) ∧ (writesSr 1 = false) := by decide +kernel
theorem met_BundleFrame_3 :
  let s : State := quiet
  let k : Cursor := issued0
  let t : Strand := (strandOf quiet)
  let writesSr := fun (n : Nat) => k.shares.any (fun e => match e with | .crw m _ => m == n | _ => false)
  (Tab.rising s.cores = true) ∧ (Tab.rising (s.core k.core).ctxs = true) ∧ (s.strand k.core k.ctx = some t) ∧ (k.holds = []) ∧ (k.dues = []) ∧ (t.due = []) ∧ (writesSr 1 = false) ∧ (k.stores = []) ∧ (writesSr 4 = false) := by decide +kernel
theorem met_TrapEntry_1 :
  let s : State := trapping
  let c : Nat := 0
  let x : Nat := 0
  let i : TrapInfo := trapInfo0
  let t : Strand := (strandOf trapping)
  (Tab.rising s.cores = true) ∧ (s.strand c x = some t) ∧ (s.dueTrap c x false = some i) := by decide +kernel
theorem met_TrapEntry_2 :
  let s : State := trapping
  let c : Nat := 0
  let x : Nat := 0
  let i : TrapInfo := trapInfo0
  let t : Strand := (strandOf trapping)
  let e : TlbEntry := homePage
  let off : Nat := (trapping.frameAddr 0 0 0)
  let q := s.gangSlot t.gang
  let fa := s.frameAddr q c x
  let async := i.cause = 0x0D ∨ i.cause = 0x0F
  let mine := fun (r : Request) => r.published && r.gang == t.gang && r.member == t.member && r.slot == t.slot
  let mapped := fa % 256 = 0 ∧ e.w = true ∧
    (∀ r ∈ s.reqs, mine r.2 = true → (r.2.core = c ∧ r.2.slotOwner = q) ∨ ∀ p ∈ r.2.parts, p.done = true ∨ p.addr < fa ∨ fa + 256 ≤ p.addr) ∧
    ∀ a ∈ List.range 256, s.tlbHit c q (fa + a) = some e ∧ s.place (e.ppage + (fa + a - e.vpage)) = .local_ (off + a)
  (Tab.rising s.cores = true) ∧ (s.strand c x = some t) ∧ (s.dueTrap c x false = some i) ∧ (mapped) ∧ (s.slotReg q 0x10 ≠ 0) ∧ ((i.cause = 0x10 ∨ s.inHandler q (i.bundle.getD 0).toNat = false ∧ (async → s.inHandler q t.pc.toNat = false))) := by decide +kernel
theorem met_TrapEntry_3 :
  let s : State := trapping
  let c : Nat := 0
  let x : Nat := 0
  let i : TrapInfo := trapInfo0
  let bundle : Word := 0x10000
  let pc : Word := 0x10008
  let t : Strand := (strandOf trapping)
  let e : TlbEntry := homePage
  let off : Nat := (trapping.frameAddr 0 0 0)
  let q := s.gangSlot t.gang
  let fa := s.frameAddr q c x
  let async := i.cause = 0x0D ∨ i.cause = 0x0F
  let mine := fun (r : Request) => r.published && r.gang == t.gang && r.member == t.member && r.slot == t.slot
  let mapped := fa % 256 = 0 ∧ e.w = true ∧
    (∀ r ∈ s.reqs, mine r.2 = true → (r.2.core = c ∧ r.2.slotOwner = q) ∨ ∀ p ∈ r.2.parts, p.done = true ∨ p.addr < fa ∨ fa + 256 ≤ p.addr) ∧
    ∀ a ∈ List.range 256, s.tlbHit c q (fa + a) = some e ∧ s.place (e.ppage + (fa + a - e.vpage)) = .local_ (off + a)
  (Tab.rising s.cores = true) ∧ (s.strand c x = some t) ∧ (mapped) ∧ (s.slotReg q 0x10 ≠ 0) ∧ ((i.cause = 0x10 ∨ s.inHandler q bundle.toNat = false ∧ (async → s.inHandler q pc.toNat = false))) := by decide +kernel
theorem met_TrapEntry_4 :
  let s : State := (trapping.setSlotReg 0 0x10 0)
  let c : Nat := 0
  let x : Nat := 0
  let t : Strand := (strandOf trapping)
  let q := s.gangSlot t.gang
  (Tab.rising s.cores = true) ∧ (s.strand c x = some t) ∧ (s.slotReg q 0x10 = 0) := by decide +kernel
theorem met_StepRunsDecoded_1 :
  let s : State := ({ issuing 0x04433040 with agenda := [.event .trigfire, .issue 0] })
  let i : Instr := .trigfire
  let rest : List Turn := ([.issue 0])
  (s.agenda = .event i :: rest) ∧ ((Turn.event i).isHostWrite = false ∨ s.hreg 0x3830 = 0) := by decide +kernel
theorem met_StepRunsDecoded_2 :
  let s : State := ({ (quiet.setHreg 0x3830 1) with agenda := [.event .trigfire, .issue 0] })
  let i : Instr := .trigfire
  let rest : List Turn := ([.issue 0])
  (s.agenda = .event i :: rest) ∧ ((Turn.event i).isHostWrite = true) ∧ (s.hreg 0x3830 ≠ 0) := by decide +kernel
theorem met_StepRunsDecoded_3 :
  let s : State := microTurn0
  let c : Nat := 0
  let i : Instr := (.kzero 2#3)
  let rest : List Turn := ([])
  let o : MatrixOp := (queuedOp microTurn0)
  let w : BitVec 64 := 0x1400000000000000
  let now := { s with agenda := rest }
  (s.agenda = .micro c :: rest) ∧ ((s.core c).mq.find? (·.running) = some o) ∧ (o.words[o.at_]? = some w) ∧ (decodeMicro w = .ok i) ∧ (now.mayRunOp c o = true) ∧ (o.routine ∉ (s.core c).tornWords) := by decide +kernel
/-! ### Witnesses that a decision procedure does not give in one piece -/

/-- Core 0's one strand stands at a bundle of one slot, which runs to the cursor `issueRan`'s. -/
def Alone (s : State) (ok : Verdict → Bool) : Prop :=
  let b := issueBegan s
  let f := issueFetched s
  let p := issueStaged s
  let r := issueReading s
  s.agenda = [.issue 0] ∧ b.candidates 0 = [0] ∧ b.strand 0 0 = some (strandOf b) ∧ f.2 = .bundle [p] 6 0 ∧
    readSlot (slotClass p.slot) p.word p.parcel = some r ∧
    exec r.instr { f.1 with cursor := some (issueCursor s) } = .next (issueRan s) ∧
    ∃ k, (issueRan s).cursor = some k ∧ ok k.verdict = true
theorem alone_of {s : State} {ok : Verdict → Bool}
    (h : s.agenda = [.issue 0] ∧ (issueBegan s).candidates 0 = [0] ∧ (issueBegan s).strand 0 0 = some (strandOf (issueBegan s)) ∧
      (issueFetched s).2 = .bundle [issueStaged s] 6 0 ∧
      readSlot (slotClass (issueStaged s).slot) (issueStaged s).word (issueStaged s).parcel = some (issueReading s))
    (hx : (onward (exec (issueReading s).instr { (issueFetched s).1 with cursor := some (issueCursor s) })).isSome = true)
    (hk : (issueRan s).cursor.any (fun k => ok k.verdict) = true) : Alone s ok := by
  obtain ⟨h1, h2, h3, h4, h5⟩ := h
  refine ⟨h1, h2, h3, h4, h5, ?_, ?_⟩
  · exact next_of hx
  · cases hc : (issueRan s).cursor with
    | none => rw [hc] at hk; cases hk
    | some k => rw [hc] at hk; exact ⟨k, rfl, hk⟩

/-- A load issues; one at a misaligned address traps. -/
theorem met_StepRunsDecoded_4 : Alone (issuing 0x04433040) (fun v => v == .go) := alone_of (by decide +kernel) (by decide +kernel) (by decide +kernel)
theorem met_StepRunsDecoded_5 : Alone (issuing 0x04433041) (fun v => match v with | .trap _ => true | _ => false) := alone_of (by decide +kernel) (by decide +kernel) (by decide +kernel)
theorem met_StepRunsDecoded_6 : (readSlot .m 0x04433040#32 0#16).isSome = true := by decide +kernel
/-- A bundle whose one register write stands at once. -/
theorem met_BundleFrame_result :
    let t := strandOf quiet
    let w : Landing := { dst := .reg 5, val := 77, due := 1 }
    issued0.writes = [] ++ w :: [{ dst := .vec 3, val := 9, due := 6 }, { dst := .flags, val := 4, due := 1 }] ∧ w.clash = false ∧
      w.due ≤ (quiet.core 0).cycle + 1 ∧ issued0.loads = [] ∧ t.inflight = [] := by decide +kernel
/-- Another strand beside the one that issues. -/
theorem met_BundleFrame_others : ∃ v, (quiet.mapCore 0 (fun k => { k with ctxs := k.ctxs ++ [(1, {})] })).strand 0 1 = some v ∧ Tab.rising (quiet.mapCore 0 (fun k => { k with ctxs := k.ctxs ++ [(1, {})] })).cores = true :=
  ⟨{}, by decide +kernel⟩
theorem met_StepKeepsMemoryOk : (issuing 0x04433040).MemoryOk ∧ (onward (step (issuing 0x04433040))).isSome = true :=
  ⟨by unfold State.MemoryOk; decide +kernel, by decide +kernel⟩
theorem met_StepKeepsTablesOk : (issuing 0x04433040).TablesOk ∧ (onward (step (issuing 0x04433040))).isSome = true := by
  have h : (issuing 0x04433040).power.catalogues = [] := by decide +kernel
  refine ⟨⟨⟨by decide +kernel, by decide +kernel⟩, by decide +kernel, by decide +kernel, by decide +kernel, ?_⟩, by decide +kernel⟩
  rw [h]
  intro e he
  cases he
theorem some_of {α β : Type} (x : α × Option β) (d : β) (h : x.2.isSome = true) : x = (x.1, some (x.2.getD d)) := by
  obtain ⟨a, b⟩ := x
  cases b <;> simp_all
/-- A checkpoint whose shards are placed and whose Catalogue fits the area. -/
theorem met_CheckpointEvents_3 :
    let s := checkpointing
    (Tab.rising s.host = true ∧ s.power.checkpoint = some checkpoint0 ∧ s.memoryStill = false ∧
      (checkpoint0.shards.filter (fun e => e.1 != checkpoint0.own)).length ≤ [0x400].length ∧ ∀ a ∈ [0x400], a < 2 ^ 44) ∧
      shardsPlaced = (shardsPlaced.1, some (shardsPlaced.2.getD [])) ∧ catalogueArea = (catalogueArea.1, some (catalogueArea.2.getD 0)) :=
  ⟨by decide +kernel, some_of shardsPlaced [] (by decide +kernel), some_of catalogueArea 0 (by decide +kernel)⟩

/-! ### Catalogues whose seal verifies -/

theorem valid_signed (c : Catalogue) (m : Nat) : (c.signed m).valid m = true := by simp [Catalogue.valid, Catalogue.signed, Config.verifies, Catalogue.body]
theorem logBadSlot_of {s : State} {e : Nat × Catalogue} {l : List (Nat × Catalogue)} (h : s.slotsBySeq = e :: l) (hv : e.2.valid s.modnum = true) : s.logBadSlot = s := by
  simp [State.logBadSlot, h, hv]
theorem newestValid_of {s : State} {e : Nat × Catalogue} {l : List (Nat × Catalogue)} (h : s.slotsBySeq = e :: l) (hv : e.2.valid s.modnum = true) (hk : e.2.kind ≤ 1) :
    s.newestValid = some e.2 := by
  simp [State.newestValid, h, hv, hk]
theorem slotsBySeq_of {s : State} {k : Catalogue} (h : s.power.catalogues = [(1, k)]) : s.slotsBySeq = [(1, k)] := by
  simp [State.slotsBySeq, h, Tab.find?]
theorem power_log {s : State} (h : s.hreg 0x4100 = 0) (c source cls code owner : Nat) (a d : Word) : (s.log c source cls code owner a d).power = s.power := by
  have h1 : (s.pushLog c { time := s.now, source := source, cls := cls, code := code, owner := owner, addr := a, detail := d }).hreg 0x4100 = 0 := h
  unfold State.log State.logEntry
  simp only [h1]
  rw [if_neg (by simp)]
  rfl
/-- A thermal emergency that is over, with its Catalogue. -/
theorem met_SupplyEvents_19_1 :
    let s := sealedCooling
    let cooling := ({ s with power := { s.power with off := false, regions := [] } }.log 0 0x0102 6 7 0 0 0).logBadSlot
    (Tab.rising s.host = true ∧ Tab.rising s.islands = true ∧ s.supply = 6 ∧ s.power.off = true ∧ s.power.coolSince = some 0 ∧ 0 + 1000000000 ≤ s.now) ∧
      cooling.newestValid = some (catalogueOf 1) ∧ (catalogueOf 1).kind = 1 := by
  intro s cooling
  have h : (({ s with power := { s.power with off := false, regions := [] } } : State).log 0 0x0102 6 7 0 0 0).slotsBySeq = [(1, catalogueOf 1)] :=
    slotsBySeq_of (by rw [power_log (by decide +kernel)]; rfl)
  have hv : (catalogueOf 1).valid (({ s with power := { s.power with off := false, regions := [] } } : State).log 0 0x0102 6 7 0 0 0).modnum = true := by
    have hm : (({ s with power := { s.power with off := false, regions := [] } } : State).log 0 0x0102 6 7 0 0 0).modnum = 0 := by decide +kernel
    rw [hm]
    exact valid_signed _ 0
  refine ⟨by decide +kernel, ?_, rfl⟩
  show State.newestValid (State.logBadSlot _) = _
  rw [logBadSlot_of h hv]
  exact newestValid_of h hv (by decide)
/-- A restart with the Catalogue of a drain to replay. -/
theorem met_SupplyEvents_21_2 :
    let s := sealedRestoring
    let resumed := ((s.setReserve 4000000000).setHreg 0x1000 4).logBadSlot
    (Tab.rising s.host = true ∧ Tab.rising s.islands = true ∧ s.hreg 0x1000 = 3 ∧ s.eWarn + 1000000000 ≤ 4000000000 ∧ s.power.inputSince = some 0 ∧ 0 + 1000000000 ≤ s.now) ∧
      resumed.catalogueDue = true ∧ resumed.newestValid = some (catalogueOf 0) := by
  intro s resumed
  have h : ((s.setReserve 4000000000).setHreg 0x1000 4).slotsBySeq = [(1, catalogueOf 0)] := rfl
  have hv : (catalogueOf 0).valid ((s.setReserve 4000000000).setHreg 0x1000 4).modnum = true := valid_signed _ _
  have hr : resumed = (s.setReserve 4000000000).setHreg 0x1000 4 := logBadSlot_of h hv
  rw [hr]
  refine ⟨by decide +kernel, by decide +kernel, newestValid_of h hv (by decide)⟩

theorem ofBytes_bytesOf (n : Nat) : ∀ v, ofBytes (bytesOf n v) = v % 256 ^ n := by
  induction n with
  | zero => intro v; simp [bytesOf, ofBytes, Nat.mod_one]
  | succ n ih =>
    intro v
    have h : bytesOf (n + 1) v = byteOf v 0 :: bytesOf n (v / 256) := by
      rw [bytesOf, bytesOf, List.range_succ_eq_map, List.map_cons, List.map_map]
      congr 1
      apply List.map_congr_left
      intro i _
      show BitVec.ofNat 8 (v >>> (8 * (i + 1))) = BitVec.ofNat 8 ((v / 256) >>> (8 * i))
      rw [show 8 * (i + 1) = 8 + 8 * i by omega, Nat.shiftRight_add, Nat.shiftRight_eq_div_pow v 8]
    have e : ofBytes (bytesOf (n + 1) v) = ofBytes (bytesOf n (v / 256)) * 256 + (byteOf v 0).toNat := by rw [h]; rfl
    rw [e, ih, Nat.pow_succ', Nat.mod_mul]
    show _ + v % 256 = _
    omega
theorem toNat_bytes {n : Nat} (v : BitVec (8 * n)) : BitVec.ofNat (8 * n) (ofBytes (bytesOf n v.toNat)) = v := by
  have h : ofBytes (bytesOf n v.toNat) = v.toNat := by
    rw [ofBytes_bytesOf, show (256 : Nat) = 2 ^ 8 by rfl, ← Nat.pow_mul]
    exact Nat.mod_eq_of_lt v.isLt
  rw [h, BitVec.ofNat_toNat, BitVec.setWidth_eq]
/-- The bytes of a signed Catalogue are a Catalogue. -/
theorem parse_signed {l body : List Byte} (hl : l = body ++ signatureBytes (Config.sign (Config.sha384 body))) (h1 : bits (ofBytes ((l.drop 0).take 8)) 63 56 = 1)
    (h2 : bits (ofBytes ((l.drop 0).take 8)) 55 48 = 2) (h3 : catalogueSize (ofBytes ((l.drop 0).take 8)) = body.length + 96)
    (h4 : ofBytes ((l.drop 0).take 8) % 65536 = 0) (h5 : ofBytes ((l.drop 32).take 48) = 0) : ∃ c, parseCatalogue l = some c ∧ c.prev = 0 ∧ c.regions = [] := by
  have hs : (signatureBytes (Config.sign (Config.sha384 body))).length = 96 := by simp [signatureBytes, bytesOf]
  have hlen : l.length = body.length + 96 := by rw [hl, List.length_append, hs]
  have ht : l.take body.length = body := by rw [hl]; simp
  have hd : (l.drop body.length).take 96 = signatureBytes (Config.sign (Config.sha384 body)) := by rw [hl, List.drop_left, List.take_of_length_le (by omega)]
  have hg : BitVec.ofNat 768 (ofBytes ((l.drop body.length).take 96).reverse) = Config.sign (Config.sha384 body) := by
    rw [hd, signatureBytes, List.reverse_reverse]
    exact toNat_bytes (n := 96) (Config.sign (Config.sha384 body))
  unfold parseCatalogue
  simp only [h1, h2, h3, h4, h5, hlen, Nat.add_sub_cancel, ht, hg, Config.verifies, beq_self_eq_true]
  simp
theorem bytes_signed (c : Catalogue) (m : Nat) : (c.signed m).bytes m = (c.signed m).body m ++ signatureBytes (Config.sign (Config.sha384 ((c.signed m).body m))) := rfl
/-- A member returns the Catalogue of a checkpoint, the first of its chain. -/
theorem met_CheckpointEvents_4_5 :
    let s := hosting
    let l := (catalogueOf 2).bytes 0
    (Tab.rising s.host = true ∧ s.hreg 0x3830 = 0 ∧ s.hostWrites = true ∧ s.power.checkpoint = none) ∧ 2 ^ 44 / 2 ^ 44 ≠ s.modnum ∧
      ∃ c, (parseCatalogue l).bind (s.chainOf [] ((s.hreg 0x2068).toNat / 32 + ([] : List (List Byte)).length + 1)) = some [c] ∧ (s.applyCheckpoint c ([].take c.shards.length)).2 = [] := by
  intro s l
  obtain ⟨c, hc, hp, hr⟩ := parse_signed (l := l) (body := (catalogueOf 2).body 0) (bytes_signed (wholeCatalogue 2) 0) (by decide +kernel) (by decide +kernel) (by decide +kernel) (by decide +kernel) (by decide +kernel)
  refine ⟨by decide +kernel, by decide +kernel, c, ?_, ?_⟩
  · rw [hc]
    simp [State.chainOf, hp]
  · unfold State.applyCheckpoint
    simp only [hr, List.zipIdx_nil, List.filter_nil, List.map_nil]
/-! ### Words -/

/-- Every word of a list, with its extension parcel, decodes in its slot class to the instruction beside it. -/
def Decodes (c : SlotClass) (l : List (BitVec 32 × BitVec 16 × Instr)) : Prop := ∀ e ∈ l, decodeSlot c e.1 e.2.1 = .ok e.2.2
theorem decodes_of {c : SlotClass} {l : List (BitVec 32 × BitVec 16 × Instr)} (h : l.all (fun e => decodeSlot c e.1 e.2.1 == .ok e.2.2) = true) : Decodes c l :=
  fun e he => by simpa using List.all_eq_true.1 h e he

/-- One word of each opcode of the S slot, its fields put together as the opcode table places them (R65 to R75). -/
theorem test_words_scalar_1 : Decodes .s [
  (0x04A2CC21, 0x0000, .add 10 11 12 2 1),
  (0x08A2CC21, 0x0000, .sub 10 11 12 2 1),
  (0x0CA2CC21, 0x0000, .mul 10 11 12 2 1),
  (0x10A2CC20, 0x0000, .mulh 10 11 12 2),
  (0x14A2CC20, 0x0000, .divs 10 11 12 2),
  (0x18A2CC50, 0x0000, .divn 10 11 12 5),
  (0x1CA2CC20, 0x0000, .rem 10 11 12 2),
  (0x20A2CC20, 0x0000, .and 10 11 12 2),
  (0x24A2CC20, 0x0000, .or 10 11 12 2),
  (0x28A2CC20, 0x0000, .xor 10 11 12 2),
  (0x2CA2C020, 0x0000, .not 10 11 2),
  (0x30A2CC20, 0x0000, .shl 10 11 12 2),
  (0x34A2CC20, 0x0000, .shr 10 11 12 2),
  (0x38A2CC20, 0x0000, .sar 10 11 12 2),
  (0x3CA2CC20, 0x0000, .rot 10 11 12 2),
  (0x40A2CC20, 0x0000, .min 10 11 12 2),
  (0x44A2CC20, 0x0000, .max 10 11 12 2),
  (0x48A2CC22, 0x0000, .cmp 10 11 12 2 2),
  (0x50A2C020, 0x0000, .popc 10 11 2),
  (0x54A2C020, 0x0000, .clz 10 11 2),
  (0x58A2C020, 0x0000, .ctz 10 11 2),
  (0x5CA2CC40, 0x0000, .pack 10 11 12 4)] := decodes_of (by decide +kernel)
/-- One word of each opcode of the S slot, its fields put together as the opcode table places them (R65 to R75). -/
theorem test_words_scalar_2 : Decodes .s [
  (0x60A2C123, 0x0000, .addi 10 11 291),
  (0x6CA2E146, 0x0000, .bfx 10 11 1 5 6),
  (0x70A2C146, 0x0000, .bfi 10 11 5 6),
  (0x80A2CCC0, 0x0000, .fadd 10 11 12 12),
  (0x84A2CCC0, 0x0000, .fsub 10 11 12 12),
  (0x88A2CCC0, 0x0000, .fmul 10 11 12 12),
  (0x90A2CCC0, 0x0000, .fmin 10 11 12 12),
  (0x94A2CCC0, 0x0000, .fmax 10 11 12 12),
  (0x98A2CCC2, 0x0000, .fcmp 10 11 12 12 2),
  (0x9CA2CC41, 0x0000, .fcvt 10 11 12 4 1),
  (0xA4A2CCC1, 0x0000, .dscale 10 11 12 1),
  (0x4CA2CC00, 0x3400, .sel 10 11 12 13),
  (0x64A00234, 0x4321, .movi 10 281559604),
  (0x68A2A6E5, 0xE377, .movh 10 10 954066661),
  (0x8CA2CCC0, 0x3400, .ffma 10 11 12 12 13),
  (0xA0828C00, 0x3800, .dmerge 8 10 12 14 0)] := decodes_of (by decide +kernel)
/-- One word of each opcode of the B slot, its fields put together as the opcode table places them (R65 to R75). -/
theorem test_words_control : Decodes .b [
  (0x069FFFF0, 0x0000, .br 1 9 1048560),
  (0x0AAFFFF0, 0x0000, .brk 5 2 1048560),
  (0x0C9FFFF0, 0x0000, .call 9 1048560),
  (0x10900000, 0x0000, .ret 9),
  (0x182FFFF0, 0x0000, .endl 2 1048560),
  (0x2002C000, 0x0000, .yield 11),
  (0x24A2C000, 0x0000, .spawn 10 11),
  (0x28000000, 0x0000, .exit),
  (0x2C00005A, 0x0000, .trap 90),
  (0x30000000, 0x0000, .tret),
  (0x34000000, 0x0000, .hiber),
  (0x40A00007, 0x0000, .crr 10 7),
  (0x4402C007, 0x0000, .crw 11 7),
  (0xFC000000, 0x0000, .nop),
  (0x1410000F, 0x0203, .loop 1 15 0 1 3)] := decodes_of (by decide +kernel)
/-- One word of each opcode of the M slots, its fields put together as the opcode table places them (R65 to R75). -/
theorem test_words_memory : Decodes .m [
  (0x04A33038, 0x0000, .ld 10 3 3 56),
  (0x08A33038, 0x0000, .st 10 3 3 56),
  (0x20A32038, 0x0000, .ldq 10 3 2 56),
  (0x24A32038, 0x0000, .stq 10 3 2 56),
  (0x28A30038, 0x0000, .ldsec 10 3 56),
  (0x34A33038, 0x0000, .stf 10 3 3 56),
  (0x44031038, 0x0000, .pref 3 1 56),
  (0x0CA35040, 0x0007, .vld 10 3 5 64 0 0 7),
  (0x10A35040, 0x2600, .vst 10 3 5 64 9 1 0),
  (0x2F253000, 0x0980, .gatherq 50 5 3 0 2 3 0),
  (0x30A52020, 0x10E0, .scatterq 10 5 2 32 4 1 6),
  (0x43131048, 0x36C0, .amo 49 3 1 72 13 1 0 3 0),
  (0x40039040, 0x3A05, .amoDraw 3 64 14 129 1)] := decodes_of (by decide +kernel)
/-- One word of each opcode of the V slots, its fields put together as the opcode table places them (R65 to R75). -/
theorem test_words_vector_1 : Decodes .v [
  (0x04A2CCCB, 0x0000, .vadd 10 11 12 12 5 1),
  (0x08A2CCCB, 0x0000, .vsub 10 11 12 12 5 1),
  (0x0CA2CCCB, 0x0000, .vmul 10 11 12 12 5 1),
  (0x14A2CCCB, 0x0000, .vmin 10 11 12 12 5 1),
  (0x18A2CCCB, 0x0000, .vmax 10 11 12 12 5 1),
  (0x1CA2C0CA, 0x0000, .vabs 10 11 12 5),
  (0x20A2C0CA, 0x0000, .vneg 10 11 12 5),
  (0x24A2CC2B, 0x0000, .vand 10 11 12 2 5 1),
  (0x28A2CC2B, 0x0000, .vor 10 11 12 2 5 1),
  (0x2CA2CC2B, 0x0000, .vxor 10 11 12 2 5 1),
  (0x30A2C02A, 0x0000, .vnot 10 11 2 5),
  (0x34A2CC2B, 0x0000, .vshl 10 11 12 2 5 1),
  (0x38A2CC2B, 0x0000, .vshr 10 11 12 2 5 1),
  (0x3D12CCCB, 0x0000, .vcmp 2 1 11 12 12 5 1),
  (0x40A2CCCA, 0x0000, .vsel 10 11 12 12 5 0),
  (0x44A2DC4A, 0x0000, .vcvt 10 11 1 12 4 5),
  (0x50A2C5CA, 0x0000, .vred 10 11 1 1 12 5),
  (0x54A2C1CA, 0x0000, .vscan 10 11 1 12 5),
  (0x60A2C0CA, 0x0000, .vexp2 10 11 12 5),
  (0x64A2C0CA, 0x0000, .vlog2 10 11 12 5),
  (0x68A2C0CA, 0x0000, .vrcp 10 11 12 5),
  (0x6CA2C0CA, 0x0000, .vrsq 10 11 12 5)] := decodes_of (by decide +kernel)
/-- One word of each opcode of the V slots, its fields put together as the opcode table places them (R65 to R75). -/
theorem test_words_vector_2 : Decodes .v [
  (0x70A2C0CA, 0x0000, .vsqrt 10 11 12 5),
  (0x74A2C0CA, 0x0000, .vtanh 10 11 12 5),
  (0x78A2C0CA, 0x0000, .vsig 10 11 12 5),
  (0x80A2C0CA, 0x0000, .vsin 10 11 12 5),
  (0x84A2C0CA, 0x0000, .vcos 10 11 12 5),
  (0x10A2CCCB, 0x3400, .vfma 10 11 12 12 5 1 13),
  (0x48A2CC8A, 0x3401, .vquant 10 11 12 8 5 0 13 1),
  (0x4CA2C08A, 0x3401, .vdeq 10 11 8 5 13 1),
  (0xA085C0C2, 0x2801, .vdraw 8 23 0 1 10 0 0 1)] := decodes_of (by decide +kernel)
/-- One word of each opcode of the X slot, its fields put together as the opcode table places them (R65 to R75). -/
theorem test_words_exchange : Decodes .x [
  (0x0812C004, 0x0000, .patld 1 11 4),
  (0x0C000000, 0x0000, .patsw),
  (0x20A2C04A, 0x0000, .xcopy 10 11 1 1 2),
  (0x24A2C08D, 0x0000, .xbcast 10 11 1 1 5),
  (0x40024202, 0x0000, .mcall 9 2 2),
  (0x4422C000, 0x0000, .mpset 2 11),
  (0x60A04013, 0x0000, .accrd 10 1 0 0 19),
  (0x6412C013, 0x0000, .accwr 1 11 0 0 19),
  (0x68000006, 0x0000, .accz 6),
  (0x04A2CC00, 0x3400, .shuf 10 11 12 13)] := decodes_of (by decide +kernel)
/-- One word of each opcode of the E slot, its fields put together as the opcode table places them (R65 to R75). -/
theorem test_words_engine : Decodes .e [
  (0x04000003, 0x0000, .phase 3),
  (0x0802C000, 0x0000, .publish 11),
  (0x0CA2CC00, 0x0000, .vwait 10 11 12),
  (0x10A00061, 0x0000, .fence 10 6 1),
  (0x2002C001, 0x0000, .copy 11 1),
  (0x24000000, 0x0000, .drain),
  (0x28A2CC00, 0x0000, .span 10 11 12),
  (0x4002CC05, 0x0000, .barrive 11 12 1 1),
  (0x44A2CC31, 0x0000, .bwait 10 11 12 1 17),
  (0x4CA00019, 0x0000, .mwait 10 1 9),
  (0x60A00005, 0x0000, .sbind 10 1 1),
  (0x64A00000, 0x0000, .sunbind 10),
  (0x6812C094, 0x0000, .ringp 1 11 1 20),
  (0x6C12C094, 0x0000, .ringa 1 11 1 20),
  (0x8002C000, 0x0000, .walk 11),
  (0x8402CC00, 0x0000, .coll 11 12),
  (0x88A2C000, 0x0000, .lprobe 10 11),
  (0x8CA00000, 0x0000, .tsread 10),
  (0x48B90C18, 0x0080, .wait 11 36 12 0 24 0 0 1 0 0)] := decodes_of (by decide +kernel)

/-- Words that the spec writes out in its own programs. -/
theorem test_words_of_the_spec :
    decodeSlot .m 0x04433040#32 0#16 = .ok (.ld 4 3 3 0x40) ∧
    decodeSlot .v 0x042001C0#32 0#16 = .ok (.vadd 2 0 1 12 0 0) ∧
    decodeSlot .s 0x68A2A6E5#32 0xE377#16 = .ok (.movh 10 10 0x38DDE6E5) ∧
    decodeSlot .b 0x1410000F#32 0x0203#16 = .ok (.loop 1 15 0 1 3) ∧
    decodeSlot .b 0x181FFFFD#32 0#16 = .ok (.endl 1 (-3)) ∧
    decodeSlot .v 0x3D2105C2#32 0#16 = .ok (.vcmp 2 2 4 5 12 1 0) ∧
    decodeSlot .v 0x505106C0#32 0#16 = .ok (.vred 5 4 1 2 12 0) ∧
    decodeSlot .x 0x24614080#32 0#16 = .ok (.xbcast 6 5 1 0 0) ∧
    decodeSlot .x 0x4000C200#32 0#16 = .ok (.mcall 3 2 0) ∧
    decodeSlot .x 0x44138000#32 0#16 = .ok (.mpset 1 14) ∧
    decodeSlot .e 0x63200001#32 0#16 = .ok (.sbind 50 0 1) ∧
    decodeSlot .m 0x23242000#32 0#16 = .ok (.ldq 50 4 2 0) ∧
    decodeSlot .e 0x400B5301#32 0#16 = .ok (.barrive 45 19 0 1) ∧
    decodeSlot .s 0xA0828C00#32 0x3800#16 = .ok (.dmerge 8 10 12 14 0) ∧
    decodeSlot .e 0x48B90C18#32 0x0080#16 = .ok (.wait 11 36 12 0 24 0 0 1 0 0) ∧
    decodeSlot .s 0x70518300#32 0#16 = .ok (.bfi 5 6 12 0) := by decide +kernel

/-- The micro-words, by the fields of R153: UOP [63:60], TILE [59:57], RA [56:54], RB [53:51], CSEL [50:45], F13 [44:32], IMM [31:0]. -/
theorem test_micro_words :
    decodeMicro (0#64) = .ok .kend ∧ decodeMicro (1#64 <<< 60 ||| 2#64 <<< 57) = .ok (.kzero 2) ∧
    decodeMicro (2#64 <<< 60 ||| 3#64 <<< 57 ||| 1#64 <<< 54 ||| 2#64 <<< 51 ||| 7#64) = .ok (.kstep 3 1 2 0 0 7) ∧
    decodeMicro (3#64 <<< 60 ||| 33#64 <<< 45) = .ok (.kloop 33 0) ∧ decodeMicro (4#64 <<< 60) = .ok .kendl := by decide +kernel
/-- The 16-bit header's slots and the 6-byte bundle of a word: a load in M0. -/
theorem test_step_fetches : (after regs0 32 0x04433040).isSome = true := by decide +kernel

/-! ### Ill-formed instructions -/

/-- One instruction for each check of Machine/Legal.lean. -/
def illFormed : List Instr := List.flatten [
  [.add 48 1 2 2 0, .add 1 56 2 2 0, .add 1 2 56 2 0, .add 1 2 3 8 0, .mulh 1 2 3 9, .divs 1 2 3 4, .divn 1 2 3 3, .not 1 2 8, .cmp 1 2 3 2 6, .sel 1 2 3 60, .pack 1 2 3 7, .addi 60 1 0, .movi 50 0, .movh 1 60 0, .bfx 1 2 0 60 10, .bfi 1 2 60 10, .fadd 1 2 3 9, .ffma 1 2 3 12 60, .fcmp 1 2 3 12 5, .fcvt 1 2 15 12 0, .dmerge 31 2 3 4 0, .dmerge 1 0 3 4 0, .dscale 1 2 3 1, .brk 1 4 0, .call 0 0, .loop 0 0 60 0 0, .loop 0 0 1 1 0, .loop 0 0 1 0 5, .yield 31, .spawn 1 48],
  [.crr 1 14, .crr 1 15, .crr 1 72, .crw 1 0, .crw 1 9, .crw 1 50, .ld 60 0 0 0, .vld 1 1 0 0 60 1 0, .vld 1 1 0 0 1 1 1, .vst 1 1 0 0 1 0 1, .ldq 47 0 0 0, .stq 60 0 0 0, .gatherq 56 0 0 0 0 0 0, .amo 1 0 0 0 1 1 0 3 0, .amo 0 0 9 0 1 0 0 3 0, .amo 0 0 0 0 1 0 0 1 0, .amo 0 0 8 0 1 0 0 3 0, .amo 0 0 0 0 1 0 0 3 1, .amo 50 0 0 0 1 0 0 3 0, .amoDraw 0 0 31 0 0, .pref 0 2 0, .vadd 1 2 8 12 0 1, .vadd 1 2 3 9 0 0, .vabs 1 2 9 0, .vand 1 2 3 8 0 0, .vnot 1 2 8 0, .vcmp 5 0 2 3 12 0 0, .vcmp 4 0 2 3 2 0 0, .vcmp 0 0 2 3 0 0 0, .vcvt 1 2 0 13 12 0],
  [.vcvt 1 2 0 12 13 0, .vquant 1 2 3 12 0 0 4 0, .vquant 1 2 3 9 0 0 48 0, .vdeq 1 2 8 0 4 0, .vred 1 2 0 3 12 0, .vscan 1 2 0 9 0, .vexp2 1 2 9 0, .vdraw 31 1 0 0 1 0 0 0, .patld 60 33 10, .patld 0 1 0, .xcopy 1 2 3 0 0, .xcopy 1 2 0 1 0, .xbcast 1 2 0 1 0, .mpset 0 60, .accrd 1 0 60 1 0, .accrd 1 0 1 1 1, .accrd 1 0 1 0 0, .phase 5, .publish 60, .vwait 31 1 2, .fence 48 0 0, .copy 1 0, .span 1 2 3, .span 1 33 60, .barrive 1 2 0 0, .barrive 33 2 0 3, .barrive 33 2 0 2, .bwait 1 1 2 0 0, .wait 1 33 2 6 0 0 0 0 0 0, .wait 1 33 2 0 0 0 3 0 0 0],
  [.wait 1 33 2 0 0 1 0 0 0 0, .mwait 1 1 1, .sbind 47 0 0, .sbind 50 3 0, .sunbind 47, .ringp 0 60 1 0, .ringp 0 1 1 1, .ringa 0 1 0 1, .walk 1, .coll 60 33, .coll 1 1, .lprobe 1 1, .tsread 48, .kstep 0 0 0 1 0 0, .kstep 0 0 0 0 0 65536, .kloop 40 1, .kepi 0 3 0]]
/-- None of them is well formed. -/
theorem test_ill_formed : illFormed.filter Instr.wellFormed = [] := by decide +kernel

/-! ### Single values -/

/-- A block of R93's worked example: 300, 0.1, −1.0 and 0.005 to E4M3 (FP32 codes), and with 1000 and 0.0025 (Table 6). -/
theorem test_block : quantise fmtF8a ([0x43960000, 0x3DCCCCCD, 0xBF800000, 0x3BA3D70A].map fmt32.decode) 0 = (0x7F, [0x79, 0x1D, 0xB8, 0x00], flagUF) ∧
    (quantise fmtF8a ([0x447A0000, 0x3DCCCCCD, 0xBF800000, 0x3B23D70A].map fmt32.decode) 0).1 = 0x80 ∧
    (quantise fmtF8a ([0x447A0000, 0x3DCCCCCD, 0xBF800000, 0x3B23D70A].map fmt32.decode) 0).2.1 = [0x7E, 0x15, 0xB0, 0x00] ∧
    (quantise fmtF8a ([0x447A0000, 0x3DCCCCCD, 0xBF800000, 0x3B23D70A].map fmt32.decode) 0).2.2 = flagUF ||| flagOF := by decide +kernel
/-- Keys about 3.0 (R352, Table 3). -/
theorem test_keys : fmt32.key 0x40400000 = some 0x8080 ∧ fmt32.key 0x40410000 = some 0x8082 ∧ fmt32.key 0x40418000 = some 0x8083 ∧
    diverges (some 0x8080) (some 0x8082) = false ∧ diverges (some 0x8080) (some 0x8083) = true ∧ diverges (some 0x8080) (fmt32.key 0x7FC00000) = true := by decide +kernel
/-- The corrupted sum of R348's example: the prediction 2 against the sum's residue 1; uncorrupted, 1 against 1. -/
theorem test_residue : predictAdd 0 2 0xFFFFFFFFFFFFFFFF 2 = 1 ∧ predictAdd 0 2 0xFFFFFFFFFFFFFFEF 2 = 2 ∧ res 0xFFFFFFFFFFFFFFF1 = 1 := by decide +kernel
/-- The full frame of R31's example is 46,368 bytes: 16 vector registers, 2 tiles, 5 landed sectors, 2 unsent requests and 3 buffered stores. -/
theorem test_frame_length :
    let e : Element := { req := 0, data := 0, fault := none, maker := some (0, 0) }
    let t : Strand := { gang := 1, member := 0, slot := 0, vregs := 16, accs := 2, phase := List.replicate 3 { sector := 0, mask := 1, data := 0, queue := 0 } }
    let s := { quiet with reqs := [(4, { loadReq with slot := 0 }), (5, { loadReq with slot := 0 })] }
    let s := s.mapCore 0 (onShare (fun h => { h with streams := [(1, { queue := 1, elemSz := 1, elems := List.replicate 5 e })] }))
    (s.fullFrame 0 t 1 0 true).1 = 46368 := by decide +kernel
/-- A vitrine whose shadow lies at 0x1000 with LENGTH 64: a copy into it writes the sector at 0x1020 and not the one at 0x1040 (R439). -/
theorem test_vitrine_bound : let y : CopyOp := { copyOf 0 1 1 0 0 0 with limit := vitrinesEnd [(3, { front := 0, shadow := 0x1000, length := 64, owner := 7 })] }
    y.beyond 0x1020 32 = false ∧ y.beyond 0x1040 32 = true := by decide +kernel
/-- Shifts of R108: 0xFFFFFFF0 right by 4 as .i32 fills with 0; a count of the width or more gives 0. -/
theorem test_shifts : shift108 1 32 0xFFFFFFF0 4 = 0x0FFFFFFF ∧ shift108 0 64 1 (2 ^ 63) = 0 ∧ shift108 2 32 0x80000000 40 = -1 := by decide +kernel

end Witnesses
end Sys2Proof.Tests
end

section
/-! What a control register holds once it is written, and the forms that the state after reset stands in. -/
namespace Sys2Proof.Proofs
open Sys2Proof Sys2Proof.Machine Sys2Proof.Laws

/-- Settles O58: after reset memory, the cores, the islands, the requests and the Catalogues are empty tables, and the host
registers that reset gives a value are listed with rising offsets. -/
theorem resetMemoryOk : Obligations.ResetMemoryOk := by
  have hcores : CoresOk State.reset.cores := ⟨rfl, List.forall_mem_nil _⟩
  have hhost : Tab.rising State.reset.host = true := by decide
  exact ⟨⟨memory_wf_reset, List.forall_mem_nil _⟩, hcores, hhost, rfl, rfl, List.forall_mem_nil _⟩

/-! ### A control register once it is written -/

theorem find?_filter_key {α : Type} {m : Map α} {p : Nat × α → Bool} {k : Nat} (h : ∀ v, p (k, v) = false) :
    Tab.find? (m.filter p) k = none := by
  induction m with
  | nil => rfl
  | cons e r ih =>
    obtain ⟨j, v⟩ := e
    rw [List.filter_cons]
    split
    · next hp =>
      have hj : j ≠ k := by rintro rfl; rw [h] at hp; cases hp
      rw [Tab.find?, if_neg hj, ih]
    · exact ih

/-- The scratchpad bytes at or above its new end are lost when SPLIT is written (R52). -/
theorem resplit_spad_beyond {k : Core} {v : Word} {o : Nat} (ho : (k.resplit v).spadSize ≤ o) :
    Tab.get (k.resplit v).spad 0#8 o = 0#8 := by
  have hf : Tab.find? (k.resplit v).spad o = none := find?_filter_key (fun _ => decide_eq_false (Nat.not_lt.2 ho))
  rw [Tab.get, hf]; rfl

theorem core_mapCore_self {s : State} (h : Tab.rising s.cores = true) (c : Nat) (f : Core → Core) :
    (s.mapCore c f).core c = f (s.core c) := by rw [core_mapCore h, if_pos rfl]

theorem strand_mapStrand_self {s : State} (h : Tab.rising s.cores = true) {c x : Nat} {t : Strand} (f : Strand → Strand)
    (ht : s.strand c x = some t) : (s.mapStrand c x f).strand c x = some (f t) := by
  unfold State.mapStrand
  rw [ht, strand_setStrand h, if_pos ⟨rfl, rfl⟩]

section
variable {s : State} (h : Tab.rising s.cores = true) (c x : Nat) (v : Word)
include h

theorem writeControl_age : (s.writeControl c x 2 v).core c = { s.core c with age := if v.toNat % 256 < 8 then 8 else v &&& 0xFF } := by
  simp [State.writeControl, core_mapCore_self h]
theorem writeControl_role : (s.writeControl c x 3 v).core c = { s.core c with role := v &&& 0x3F } := by
  simp [State.writeControl, core_mapCore_self h]
theorem writeControl_split : (s.writeControl c x 4 v).core c = (s.core c).resplit v :=
  (show (s.writeControl c x 4 v).core c = (s.mapCore c (fun k => k.resplit v)).core c from rfl).trans (core_mapCore_self h c _)
theorem writeControl_mdef : ((s.writeControl c x 5 v).core c).share = { (s.core c).share with mdef := v &&& 0xFE7 } := by
  simp [State.writeControl, core_mapCore_self h]
theorem writeControl_qcfg : ((s.writeControl c x 6 v).core c).share = { (s.core c).share with qcfg := v &&& 0xFFFF } := by
  simp [State.writeControl, core_mapCore_self h]
theorem writeControl_dseed : ((s.writeControl c x 7 v).core c).share = { (s.core c).share with dseed := v } := by
  simp [State.writeControl, core_mapCore_self h]
theorem writeControl_fsel : ((s.writeControl c x 8 v).core c).share = { (s.core c).share with fsel := v &&& 0x7F } := by
  simp [State.writeControl, core_mapCore_self h]

end

/-- Settles O17, each register read back from the one update of its core or strand that `State.writeControl` makes. -/
theorem controlWritten : Obligations.ControlWritten := by
  unfold Obligations.ControlWritten
  intro s c x t v h
  dsimp only
  have hsplit := writeControl_split h c x v
  rw [writeControl_age h, writeControl_role h, writeControl_mdef h, writeControl_qcfg h, writeControl_dseed h, writeControl_fsel h, hsplit]
  refine ⟨rfl, rfl, rfl, rfl, rfl, rfl, rfl, rfl, fun o ho => ?_, fun ht => strand_mapStrand_self h _ ht⟩
  unfold State.spadByte
  rw [hsplit]
  exact resplit_spad_beyond ho

end Sys2Proof.Proofs
end

section
/-! The operations that requests, bundles and agents share keep memory in its canonical form: logs, translation, reads and
writes of virtual memory, requests and phase buffers.

Each lemma of these sections says of one function of the model that the state it leaves is in the form where the state it is
given is. Within them `by exact` stands where a proof can be read only once the state it speaks of is known. -/
namespace Sys2Proof.Proofs
open Sys2Proof Sys2Proof.Machine Sys2Proof.Laws

variable {s t : State}

/-! ### What the proofs below are put together from -/

/-- The state of an answer that is a state with something beside it. -/
theorem memoryOk_fst {α : Type} {p : State × α} {a : α} (h : p.1.MemoryOk) (he : p = (t, a)) : t.MemoryOk := by
  rw [he] at h
  exact h

theorem memoryOk_ite_fst {α : Type} {c : Prop} [Decidable c] {p q : State × α} (hp : p.1.MemoryOk) (hq : q.1.MemoryOk) :
    (if c then p else q).1.MemoryOk := by
  split
  · exact hp
  · exact hq

/-- A fold that carries something beside the state. -/
theorem memoryOk_foldl_fst {α β : Type} {f : State × β → α → State × β} (hf : ∀ p x, p.1.MemoryOk → (f p x).1.MemoryOk) {l : List α}
    {p : State × β} (h : p.1.MemoryOk) : (l.foldl f p).1.MemoryOk := by
  induction l generalizing p with
  | nil => exact h
  | cons x r ih => exact ih (hf p x h)

/-- Every core changed at once, no scratchpad among the changes. -/
theorem memoryOk_mapCores (h : s.MemoryOk) {f : Nat × Core → Core} (hf : ∀ e, Memory.wf e.2.spad = true → Memory.wf (f e).spad = true) :
    State.MemoryOk { s with cores := s.cores.map (fun e => (e.1, f e)) } := by
  refine ⟨h.1, fun e he => ?_⟩
  obtain ⟨x, hx, rfl⟩ := List.mem_map.1 he
  exact hf x (h.2 x hx)

theorem memoryOk_elim {α : Type} {o : Option α} {f : α → State} (hn : s.MemoryOk) (hf : ∀ x, (f x).MemoryOk) : (o.elim s f).MemoryOk := by
  cases o with
  | none => exact hn
  | some x => exact hf x

/-! ### Logs, the L2 and requests -/

variable {c x slot va pa off n v id : Nat}

theorem memoryOk_logEntry {e : LogEntry} (h : s.MemoryOk) : (s.logEntry c e).MemoryOk :=
  memoryOk_ite (memoryOk_fire (memoryOk_pushLog h c e) _) (memoryOk_pushLog h c e)

theorem memoryOk_correct {die source sector : Nat} (h : s.MemoryOk) : (s.correct die source sector).MemoryOk :=
  memoryOk_ite h (memoryOk_log (by exact h) ..)

theorem memoryOk_showLog {e : LogEntry} (h : s.MemoryOk) : (s.showLog c e).MemoryOk := memoryOk_ite h h

theorem memoryOk_settleLogs (h : s.MemoryOk) : s.settleLogs.MemoryOk :=
  memoryOk_foldl (fun _ _ h => memoryOk_foldl (fun _ _ h => memoryOk_showLog h) _ h) _ h

theorem memoryOk_touchLine {line : Nat} (h : s.MemoryOk) : (s.touchLine line).MemoryOk := by
  unfold State.touchLine
  dsimp only
  split <;> exact h

theorem memoryOk_testBarrier {obj gen : Nat} (h : s.MemoryOk) : (s.testBarrier obj gen).MemoryOk :=
  memoryOk_ite (memoryOk_answerBarrier h ..) (memoryOk_foldl (fun _ _ h => memoryOk_ite (memoryOk_answer h ..) h) _ h)

theorem memoryOk_addReq {r : Request} (h : s.MemoryOk) : (s.addReq r).MemoryOk := h
theorem memoryOk_dropReq (h : s.MemoryOk) : (s.dropReq id).MemoryOk := h
theorem memoryOk_setGang {v : Gang} (h : s.MemoryOk) : (s.setGang n v).MemoryOk := h
theorem memoryOk_setNest {v : Nest} (h : s.MemoryOk) : (s.setNest n v).MemoryOk := h

theorem memoryOk_retireStore (h : s.MemoryOk) : (s.retireStore id).MemoryOk := by
  unfold State.retireStore
  split
  · exact h
  · dsimp only
    split <;> exact h

/-! ### Translation -/

theorem memoryOk_tlbInstall {e : TlbEntry} (h : s.MemoryOk) : (s.tlbInstall c e).MemoryOk :=
  memoryOk_setCluster (memoryOk_mapCore h c rfl) ..

theorem memoryOk_walkFrom {table : Nat} {levels : List (Nat × Nat × Option Nat)} (h : s.MemoryOk) :
    (s.walkFrom slot va table levels).1.MemoryOk := by
  induction levels generalizing s table with
  | nil => exact h
  | cons l rest ih =>
    unfold State.walkFrom
    dsimp only
    split
    · exact h
    · have h1 := memoryOk_homeRead h ((table + 8 * bits va (l.1 + l.2.1 - 1) l.1) % 2 ^ 44) 8 (s.slotKey slot) true
      split
      · exact h1
      · split
        · split
          · exact h1
          · split <;> exact h1
        · split
          · exact h1
          · exact ih h1

theorem memoryOk_walk (h : s.MemoryOk) : (s.walk slot va).1.MemoryOk := memoryOk_walkFrom h

theorem memoryOk_translate {need : Need} (h : s.MemoryOk) : (s.translate c slot va need).1.MemoryOk := by
  unfold State.translate
  split
  · split <;> exact h
  · split
    · next he => exact memoryOk_fst (memoryOk_walk h) he
    · next he =>
      have h1 := memoryOk_fst (memoryOk_walk h) he
      split
      · exact memoryOk_tlbInstall h1
      · exact h1

/-! ### Other modules -/

theorem memoryOk_freeReply {module owner addr : Nat} (h : s.MemoryOk) : (s.freeReply module owner addr).1.MemoryOk := by
  unfold State.freeReply
  dsimp only
  split
  · exact h
  · split
    · exact memoryOk_log (by exact h) ..
    · split <;> exact h

theorem memoryOk_askRemote {module owner : Nat} (h : s.MemoryOk) : (s.askRemote module off n owner).1.MemoryOk := by
  unfold State.askRemote
  split
  next he =>
  have h1 := memoryOk_fst (memoryOk_freeReply (by exact h)) he
  split <;> exact h1

theorem memoryOk_tellRemote {module owner : Nat} (h : s.MemoryOk) : (s.tellRemote module off n v owner).1.MemoryOk :=
  memoryOk_freeReply (by exact h)

/-! ### Virtual memory of a core -/

theorem memoryOk_sectorRead (h : s.MemoryOk) : (s.sectorRead c slot va n).1.MemoryOk := by
  unfold State.sectorRead
  split
  · next he => exact memoryOk_fst (memoryOk_translate h) he
  · next he =>
    have h1 := memoryOk_fst (memoryOk_translate h) he
    split
    · split
      · exact h1
      · exact memoryOk_homeRead h1 ..
    · split
      · next he => exact memoryOk_fst (memoryOk_askRemote h1) he
      · next he => exact memoryOk_fst (memoryOk_askRemote h1) he
    all_goals exact h1

theorem memoryOk_sectorWrite (h : s.MemoryOk) : (s.sectorWrite c slot va n v).1.MemoryOk := by
  unfold State.sectorWrite
  split
  · next he => exact memoryOk_fst (memoryOk_translate h) he
  · next he =>
    have h1 := memoryOk_fst (memoryOk_translate h) he
    split
    · split
      · exact h1
      · exact memoryOk_engineWrite h1 ..
    · exact memoryOk_tellRemote h1
    all_goals exact h1

theorem memoryOk_readRuns {runs : List (Nat × Nat × Nat)} {acc : Nat} (h : s.MemoryOk) : (s.readRuns c slot runs acc).1.MemoryOk := by
  induction runs generalizing s acc with
  | nil => exact h
  | cons run rest ih =>
    unfold State.readRuns
    split
    · next he => exact memoryOk_fst (memoryOk_sectorRead h) he
    · next he => exact ih (memoryOk_fst (memoryOk_sectorRead h) he)

theorem memoryOk_writeRuns {runs : List (Nat × Nat × Nat)} (h : s.MemoryOk) : (s.writeRuns c slot v runs).1.MemoryOk := by
  induction runs generalizing s with
  | nil => exact h
  | cons run rest ih =>
    unfold State.writeRuns
    split
    · next he => exact memoryOk_fst (memoryOk_sectorWrite h) he
    · next he => exact ih (memoryOk_fst (memoryOk_sectorWrite h) he)

theorem memoryOk_virtRead (h : s.MemoryOk) : (s.virtRead c slot va n).1.MemoryOk := memoryOk_readRuns h
theorem memoryOk_virtWrite (h : s.MemoryOk) : (s.virtWrite c slot va n v).1.MemoryOk := memoryOk_writeRuns h

/-! ### Phase buffers -/

theorem memoryOk_sendRecord {b : BufRec} (h : s.MemoryOk) : (s.sendRecord c x b).MemoryOk := by
  unfold State.sendRecord
  split
  · exact h
  · exact memoryOk_setStrand h ..

theorem memoryOk_sendRecords {recs : List BufRec} (h : s.MemoryOk) : (s.sendRecords c x recs).1.MemoryOk := by
  induction recs generalizing s with
  | nil => exact h
  | cons b rest ih =>
    unfold State.sendRecords
    split
    · exact h
    · exact ih (memoryOk_sendRecord h)

theorem memoryOk_publish {p : BufRec → Bool} (h : s.MemoryOk) : (s.publish c x p).1.MemoryOk := by
  unfold State.publish
  split
  · exact h
  · exact memoryOk_sendRecords h

theorem memoryOk_publishOldest (h : s.MemoryOk) : (s.publishOldest c x n).1.MemoryOk := by
  unfold State.publishOldest
  split
  · exact h
  · exact memoryOk_sendRecords h

theorem memoryOk_writerHalf {scope : Nat} (h : s.MemoryOk) : (s.writerHalf c x scope).1.MemoryOk := by
  unfold State.writerHalf
  split
  · exact h
  · dsimp only
    split
    · exact memoryOk_publish h
    · exact h

theorem memoryOk_readerHalf {scope : Nat} (h : s.MemoryOk) : (s.readerHalf c scope).MemoryOk := memoryOk_ite (memoryOk_mapCore h c rfl) h

end Sys2Proof.Proofs
end

section
/-! What ends a strand or a gang, takes and returns a trap, waits, and issues a bundle keeps memory in its canonical form. -/
namespace Sys2Proof.Proofs
open Sys2Proof Sys2Proof.Machine Sys2Proof.Laws

variable {s : State} {c x g id : Nat}

/-! ### Strands and gangs that end -/

theorem memoryOk_bereave {p : Nat → Request → Bool} (h : s.MemoryOk) : (s.bereave p).MemoryOk := h

theorem memoryOk_dropLoads {gang member slot : Nat} (h : s.MemoryOk) : (s.dropLoads c gang member slot).MemoryOk :=
  memoryOk_mapCore (memoryOk_bereave h) c rfl

theorem memoryOk_releaseShare (h : s.MemoryOk) : (s.releaseShare c).MemoryOk := by
  unfold State.releaseShare
  have h1 := memoryOk_mapCore (memoryOk_bereave (p := fun _ r => r.core == c && r.stream.isSome) h) c (f := fun k =>
    { k with patlds := [], copies := k.copies.map (fun y => { y with span := 8 }), share := { k.share with streams := [], bad := [] } }) rfl
  exact h1

theorem memoryOk_withdraw (h : s.MemoryOk) : (s.withdraw c x).MemoryOk := h

theorem memoryOk_removeStrand (h : s.MemoryOk) : (s.removeStrand c x).MemoryOk := by
  unfold State.removeStrand
  have h2 := memoryOk_mapCore (memoryOk_withdraw (c := c) (x := x) h) c (f := fun k => { k with ctxs := Tab.erase k.ctxs x }) rfl
  exact memoryOk_ite (memoryOk_mapCore (memoryOk_releaseShare h2) c rfl) h2

theorem memoryOk_strandEnded (h : s.MemoryOk) : (s.strandEnded g).MemoryOk := by
  unfold State.strandEnded
  split
  · exact h
  · split
    · exact h
    · dsimp only
      split <;> exact h

theorem memoryOk_haltOn (h : s.MemoryOk) : (s.haltOn g c).MemoryOk := by
  unfold State.haltOn
  dsimp only
  split
  · refine memoryOk_foldl (fun _ _ h => memoryOk_removeStrand h) _ (memoryOk_mapCore ?_ c rfl)
    exact h
  · exact h

theorem memoryOk_stopGang (h : s.MemoryOk) : (s.stopGang g).MemoryOk := by
  unfold State.stopGang
  split
  · exact h
  · next v _ =>
    have h1 := memoryOk_foldl (f := fun s c => s.haltOn g c) (fun _ _ h => memoryOk_haltOn h) v.cores h
    dsimp only
    split
    · exact memoryOk_strandEnded (by exact h1)
    · exact h1

theorem memoryOk_settleEnding (h : s.MemoryOk) : (s.settleEnding g).MemoryOk := memoryOk_ite (memoryOk_stopGang h) h

theorem memoryOk_endGang {status : Nat} (h : s.MemoryOk) : (s.endGang g status).MemoryOk := by
  unfold State.endGang
  split
  · exact h
  · have h1 := memoryOk_stopGang (g := g) h
    dsimp only
    split <;> exact h1

/-! ### Pattern loads and phase sectors -/

theorem memoryOk_completePatld (h : s.MemoryOk) : (s.completePatld c).MemoryOk := by
  unfold State.completePatld
  split
  · exact h
  · exact memoryOk_mapCore (by exact h) c rfl

theorem memoryOk_completePatlds (h : s.MemoryOk) : (s.completePatlds c).MemoryOk :=
  memoryOk_foldl (fun _ _ h => memoryOk_completePatld h) _ h
theorem memoryOk_settlePatlds (h : s.MemoryOk) : (s.settlePatlds c).MemoryOk :=
  memoryOk_foldl (fun _ _ h => memoryOk_completePatld h) _ h

theorem memoryOk_landPart {i : Nat} (h : s.MemoryOk) : (s.landPart id i).MemoryOk := by
  unfold State.landPart
  split
  · exact h
  · split
    · exact h
    · dsimp only
      split
      · next he =>
        have h1 := memoryOk_fst (memoryOk_translate h) he
        exact h1
      · next he =>
        have h1 := memoryOk_fst (memoryOk_translate h) he
        split
        · split
          · exact h1
          · exact memoryOk_writeNow h1 ..
        all_goals exact h1

theorem memoryOk_performSectors {p : Nat → Bool} (h : s.MemoryOk) : (s.performSectors c x p).MemoryOk := by
  unfold State.performSectors
  split
  · exact h
  · exact memoryOk_foldl (fun _ _ h => memoryOk_ite (memoryOk_foldl (fun _ _ h => memoryOk_ite (memoryOk_landPart h) h) _ h) h) _
      (memoryOk_foldl (fun _ _ h => memoryOk_sendRecord h) _ h)

/-! ### Traps -/

theorem memoryOk_takeTrap {i : TrapInfo} {bundle pc : Word} (h : s.MemoryOk) : (s.takeTrap c x i bundle pc).MemoryOk := by
  unfold State.takeTrap
  split
  · exact h
  · next t0 _ =>
    extract_lets q owner src t s1 fa mine s3
    have h3 : s3.MemoryOk := memoryOk_performSectors (memoryOk_completePatlds (memoryOk_withdraw (memoryOk_setStrand h ..)))
    split
    next s4 failed he =>
    have h4 := memoryOk_fst (memoryOk_virtWrite h3) he
    extract_lets s5 s6 s7
    have h5 : s5.MemoryOk := memoryOk_mapCore h4 c rfl
    have h6 : s6.MemoryOk := by
      unfold s6
      split
      · exact memoryOk_log h5 ..
      · exact h5
    have h7 : s7.MemoryOk := memoryOk_ite (memoryOk_fire h6 _) h6
    exact memoryOk_ite (memoryOk_endGang (memoryOk_mapStrand (memoryOk_logEntry h7) ..)) (memoryOk_mapStrand h7 ..)

theorem memoryOk_haltStrand (h : s.MemoryOk) : (s.haltStrand c x).MemoryOk :=
  memoryOk_mapStrand (memoryOk_withdraw (memoryOk_completePatlds h)) ..

theorem memoryOk_readFrame {t : Strand} (h : s.MemoryOk) : (s.readFrame c x t).1.MemoryOk := by
  unfold State.readFrame
  dsimp only
  split
  · next he => exact memoryOk_fst (memoryOk_virtRead h) he
  · next he => exact memoryOk_fst (memoryOk_virtRead h) he

theorem memoryOk_resolveLoad {w : Nat} {retry : Bool} (h : s.MemoryOk) : (s.resolveLoad c w retry).MemoryOk := by
  unfold State.resolveLoad
  split
  · exact h
  · split
    · exact h
    · split
      · dsimp only
        split
        · exact memoryOk_addReq (memoryOk_mapCore h c rfl)
        · exact memoryOk_ite (memoryOk_readerHalf (memoryOk_mapCore h c rfl)) (memoryOk_mapCore h c rfl)
      · exact h

theorem memoryOk_resolveStore {q : Nat} {retry : Bool} (h : s.MemoryOk) : (s.resolveStore c q retry).MemoryOk := by
  unfold State.resolveStore
  split
  · exact h
  · extract_lets s1
    have h1 : s1.MemoryOk := memoryOk_mapCore h c rfl
    split
    · exact h1
    · split
      · exact h1
      · split
        · exact memoryOk_retireStore h1
        · exact memoryOk_ite (memoryOk_retireStore h1) h1

theorem memoryOk_returnTrap (h : s.MemoryOk) : (s.returnTrap c x).MemoryOk := by
  unfold State.returnTrap
  split
  · exact h
  · dsimp only
    split
    · next he => exact memoryOk_takeTrap (memoryOk_setStrand (memoryOk_fst (memoryOk_readFrame h) he) ..)
    · next he =>
      have h1 := memoryOk_fst (memoryOk_readFrame h) he
      split
      · exact memoryOk_takeTrap (memoryOk_setStrand h1 ..)
      · split
        · exact memoryOk_resolveLoad (memoryOk_setStrand h1 ..)
        · exact memoryOk_ite (memoryOk_resolveStore (memoryOk_setStrand h1 ..)) (memoryOk_setStrand h1 ..)

theorem memoryOk_parkTrap {t : Strand} {i : TrapInfo} (h : s.MemoryOk) : (s.parkTrap c x t i).MemoryOk :=
  memoryOk_takeTrap (memoryOk_setStrand h ..)

theorem memoryOk_addDues {new : List TrapInfo} (h : s.MemoryOk) : (s.addDues c x new).MemoryOk := memoryOk_mapStrand h ..

theorem memoryOk_enterDue {landed : Bool} (h : s.MemoryOk) : (s.enterDue c x landed).MemoryOk := by
  unfold State.enterDue
  split
  · exact memoryOk_takeTrap (memoryOk_setStrand h ..)
  · exact h

/-! ### Waits and stalls -/

theorem memoryOk_testWaiter {w : Waiter} (h : s.MemoryOk) : (s.testWaiter w).MemoryOk := by
  unfold State.testWaiter
  split
  · dsimp only
    split
    · exact memoryOk_answer h ..
    · split
      · exact memoryOk_answer (by exact h) ..
      · split
        · exact memoryOk_answer (by exact h) ..
        · exact h
  · exact memoryOk_testSpad h ..
  · exact memoryOk_testGlobal (memoryOk_touchLine h) ..
  · exact memoryOk_testBarrier (memoryOk_touchLine h)

theorem memoryOk_sendWaiter {w : Waiter} (h : s.MemoryOk) : (s.sendWaiter w).MemoryOk := by
  unfold State.sendWaiter
  split <;> exact memoryOk_testWaiter (by exact h)

theorem memoryOk_addWaiter {w : Waiter} (h : s.MemoryOk) : (s.addWaiter w).MemoryOk := by
  unfold State.addWaiter
  split
  · split
    · exact memoryOk_ite (memoryOk_testWaiter h) h
    · exact memoryOk_ite (memoryOk_sendWaiter (by exact h)) h
  · exact memoryOk_ite (memoryOk_sendWaiter (by exact h)) h

theorem memoryOk_probeAway {module off owner : Nat} (h : s.MemoryOk) : (s.probeAway c x module off owner).MemoryOk := by
  unfold State.probeAway
  split
  next he =>
  exact memoryOk_free (memoryOk_mapStrand (memoryOk_fst (memoryOk_freeReply (by exact h)) he) ..) _

theorem memoryOk_act {a : StallAct} (h : s.MemoryOk) : (s.act c x a).MemoryOk := by
  unfold State.act
  cases a with
  | nothing => exact h
  | oldest n => exact memoryOk_publishOldest h
  | sectors l => exact memoryOk_publish h
  | vwait i => exact memoryOk_mapStrand h ..
  | publish scope => exact memoryOk_writerHalf h
  | phase scope => exact memoryOk_writerHalf (memoryOk_mapStrand h ..)
  | banks => exact memoryOk_mapStrand h ..
  | wait w => exact memoryOk_addWaiter h
  | probe module off owner => exact memoryOk_probeAway h

theorem memoryOk_stalled {why : Stall} {a : StallAct} (h : s.MemoryOk) : (s.stalled c x why a).MemoryOk :=
  memoryOk_act (memoryOk_mapStrand h ..)

/-! ### Held bundles and commitment -/

theorem memoryOk_finishYield {pa va : Nat} {live : List Word} {next : Word} (h : s.MemoryOk) :
    (s.finishYield c x va pa live next).MemoryOk := by
  unfold State.finishYield
  split
  · exact h
  · dsimp only
    split
    · exact h
    · refine memoryOk_removeStrand (memoryOk_setCluster ?_ ..)
      split
      · exact memoryOk_engineWrite (memoryOk_engineWrite h ..) ..
      · exact memoryOk_tellRemote (memoryOk_tellRemote h)
      · exact h

theorem memoryOk_swapVitrine {i : Nat} (h : s.MemoryOk) : (s.swapVitrine i).MemoryOk := by
  unfold State.swapVitrine
  split
  · exact h
  · split <;> exact h

theorem memoryOk_hibernate (h : s.MemoryOk) : (s.hibernate c x).MemoryOk := memoryOk_ite (memoryOk_mapStrand h ..) h
theorem memoryOk_release (h : s.MemoryOk) : (s.release c x).MemoryOk := memoryOk_mapStrand h ..
theorem memoryOk_resetPaths {queues : List Nat} (h : s.MemoryOk) : (s.resetPaths c queues).MemoryOk := memoryOk_mapCore h c rfl

theorem memoryOk_finishDrain {t : Strand} {bundle : Word} (h : s.MemoryOk) : (s.finishDrain c x t bundle).MemoryOk := by
  unfold State.finishDrain
  extract_lets mine lines fs told s1
  have htold : told.MemoryOk := memoryOk_mapCores h (fun _ he => he)
  have h1 : s1.MemoryOk := memoryOk_release (memoryOk_mapCore htold c rfl)
  split
  · exact memoryOk_mapStrand h1 ..
  · exact h1

theorem memoryOk_continueHold (h : s.MemoryOk) : (s.continueHold c x).MemoryOk := by
  unfold State.continueHold
  split
  · exact h
  · next t _ =>
    extract_lets held writer
    have hheld : ∀ {queues scope ready f}, (∀ s : State, s.MemoryOk → (f s).MemoryOk) → (held queues scope ready f).MemoryOk := by
      intro queues scope ready f hf
      unfold held
      split
      next he =>
      have h1 := memoryOk_fst (memoryOk_writerHalf h) he
      dsimp only
      split
      · exact memoryOk_ite (memoryOk_setStrand h1 ..) (memoryOk_parkTrap h1)
      · exact memoryOk_ite (hf _ h1) h1
    have hwriter : ∀ {scope ready f}, (∀ s : State, s.MemoryOk → (f s).MemoryOk) → (writer scope ready f).MemoryOk :=
      fun {scope ready f} => @hheld (List.range 4) scope ready f
    clear_value writer held
    split
    · exact h
    · exact hwriter fun _ h => memoryOk_readerHalf (memoryOk_release h)
    · exact hwriter fun _ h => memoryOk_swapVitrine (memoryOk_release h)
    · exact memoryOk_ite h (memoryOk_finishDrain h)
    · exact hwriter fun _ h => memoryOk_strandEnded (memoryOk_removeStrand (memoryOk_dropLoads h))
    · exact hwriter fun _ h => memoryOk_finishYield h
    · exact hwriter fun _ h => h
    · exact hheld fun _ h => memoryOk_release (memoryOk_resetPaths (memoryOk_mapStrand (memoryOk_free h _) ..))
    · exact memoryOk_hibernate (memoryOk_release h)
    · exact memoryOk_returnTrap (memoryOk_release h)

theorem memoryOk_continueHolds (h : s.MemoryOk) : (s.continueHolds c).MemoryOk := by
  have h1 := memoryOk_foldl (f := fun s (e : Nat × Strand) => s.continueHold c e.1) (fun _ _ h => memoryOk_continueHold h) (s.core c).ctxs h
  exact memoryOk_elim h1 fun _ => memoryOk_settleEnding h1

theorem memoryOk_applyShare {w : ShareWrite} (h : s.MemoryOk) : (s.applyShare c x w).MemoryOk := by
  unfold State.applyShare
  cases w with
  | crw cr v => exact memoryOk_writeControl (memoryOk_mapCore h c rfl) ..
  | mp n v => exact memoryOk_mapCore h c rfl
  | bind n q e => exact memoryOk_mapCore h c rfl
  | unbind n => exact memoryOk_mapCore h c rfl
  | push ring n => exact memoryOk_mapCore h c rfl
  | pop ring n => exact memoryOk_mapCore h c rfl
  | patsw => exact memoryOk_mapCore h c rfl

theorem memoryOk_popStreams {ws : List Nat} (h : s.MemoryOk) : (s.popStreams c ws).MemoryOk := memoryOk_mapCore h c rfl

theorem memoryOk_commit {cur : Cursor} (h : s.MemoryOk) : (s.commit cur).MemoryOk := by
  unfold State.commit
  extract_lets c x s1 cycle
  have h1 : s1.MemoryOk := memoryOk_popStreams (by exact h)
  split
  next s2 loaded he =>
  have h2 := memoryOk_fst (memoryOk_performSpad h1 ..) he
  extract_lets s3 next s4 s5
  have h3 : s3.MemoryOk := memoryOk_foldl (fun _ _ h => memoryOk_applyShare h) _ h2
  have h5 : s5.MemoryOk := memoryOk_free (memoryOk_mapCore (memoryOk_addDues (memoryOk_mapStrand h3 ..)) c rfl) _
  exact memoryOk_enterDue (memoryOk_continueHold h5)

end Sys2Proof.Proofs
end

section
/-! A slot instruction keeps memory in its canonical form: what it reads, publishes and buffers while its bundle is examined,
and the effects it joins to the bundle. -/
namespace Sys2Proof.Proofs
open Sys2Proof Sys2Proof.Machine Sys2Proof.Laws

/-- Every next state that an outcome gives has its memory in canonical form. -/
def LeadsOk (o : Host.Outcome State Fault Refusal) : Prop := ∀ t, o = .next t → t.MemoryOk

variable {s t : State} {i : Instr}

theorem leadsOk_next (h : s.MemoryOk) : LeadsOk (.next s) := fun _ ht => Host.Outcome.next.inj ht ▸ h
theorem leadsOk_fault {e : Fault} : LeadsOk (.fault e) := fun _ h => nomatch h
theorem leadsOk_refused {e : Refusal} : LeadsOk (.refused e) := fun _ h => nomatch h

/-! ### Effects on the bundle being examined -/

variable {b : Bun}

theorem stOk_withState {f : State → State} (h : (f b.st).MemoryOk) : (b.withState f).st.MemoryOk := h
theorem stOk_ite {p : Prop} [Decidable p] {b1 b2 : Bun} (h1 : b1.st.MemoryOk) (h2 : b2.st.MemoryOk) : (if p then b1 else b2).st.MemoryOk := by
  split
  · exact h1
  · exact h2

section
variable {d : Dest} {x : BitVec 6} {n n1 : Nat} {p : Option Nat} (h : b.st.MemoryOk)
include h

theorem stOk_write {v : BitVec 4096} : (b.write d v n).st.MemoryOk := h
theorem stOk_writePredicted {v : Word} : (b.writePredicted x v n p).st.MemoryOk := stOk_ite h h
theorem stOk_writeReg {v : Word} : (b.writeReg x v n).st.MemoryOk := stOk_ite h h
theorem stOk_writePred {k : BitVec 3} {v : Pred} : (b.writePred k v n).st.MemoryOk := stOk_ite h h
theorem stOk_writeVec {v : Vec} : (b.writeVec x v n).st.MemoryOk := h
theorem stOk_writeLanes {v : Vec} {lanes : Pred} : (b.writeLanes x v lanes n).st.MemoryOk := h
theorem stOk_writeLc {k : BitVec 2} {v : BitVec 32} : (b.writeLc k v p).st.MemoryOk := h
theorem stOk_raise {f : BitVec 6} : (b.raise f n).st.MemoryOk := stOk_ite h h
theorem stOk_raiseZm {f : BitVec 6} {zm : Bool} : (b.raiseZm f zm n).st.MemoryOk := h
theorem stOk_shareWrite {w : ShareWrite} : (b.shareWrite w).st.MemoryOk := h
theorem stOk_addDue {e : TrapInfo} : (b.addDue e).st.MemoryOk := h
theorem stOk_addHold {e : Hold} : (b.addHold e).st.MemoryOk := h
theorem stOk_jump {taken : Bool} {v : Word} : (b.jump taken v).st.MemoryOk := stOk_ite h h
theorem stOk_narrow : b.narrow.st.MemoryOk := stOk_raise h
theorem stOk_tornTable : (b.tornTable n).st.MemoryOk := h
theorem stOk_writeInt {ty : BitVec 4} {v : Int} : (b.writeInt x ty v n).st.MemoryOk := stOk_writeReg h
theorem stOk_arith {y z : BitVec 6} {ty : BitVec 4} {sat : BitVec 1} {v : Int} {f : Nat → Nat → Nat} :
    (b.arith x y z ty sat v n f).st.MemoryOk := stOk_raise (stOk_writePredicted h)
theorem stOk_writeFloat {r : Nat × Flags} : (b.writeFloat x r n).st.MemoryOk := stOk_raise (stOk_writeReg h)
theorem stOk_writePair {v : Triple} : (b.writePair x v n).st.MemoryOk := stOk_writeReg (stOk_writeReg h)

theorem stOk_shadowed {f : Nat → Bool} {l : List Split} : (b.shadowed n n1 f l).st.MemoryOk := by
  unfold Bun.shadowed
  have h1 : (b.withState (fun s => s.spend b.cur.core n f)).st.MemoryOk := h
  exact stOk_ite h1 (stOk_addDue h1)

theorem stOk_writeShadowed {f : Fmt} {r : Nat × Flags} : (b.writeShadowed x f r n).st.MemoryOk := stOk_shadowed (stOk_writeFloat h)
theorem stOk_elements {k : BitVec 3} {f : Nat → Nat × Flags} : (b.elements x n k n1 f).st.MemoryOk := stOk_raise (stOk_writeLanes h)
theorem stOk_shadowedElements {unit : Nat} {k : BitVec 3} {f : Nat → Nat × Flags × List Split} :
    (b.shadowedElements unit x n k n1 f).st.MemoryOk := stOk_ite (stOk_elements h) (stOk_shadowed (stOk_elements h))

section
variable {y z : BitVec 6} {ty : BitVec 4} {k : BitVec 3} {bw : BitVec 1}
theorem stOk_binary {fi : Int → Int → Int} {ff : Fmt → Nat → Nat → Nat × Flags} : (b.binary x y z ty k bw fi ff).st.MemoryOk := stOk_elements h
theorem stOk_binaryShadowed {fi : Int → Int → Int} {ff : Fmt → Nat → Nat → Nat × Flags} :
    (b.binaryShadowed x y z ty k bw fi ff).st.MemoryOk := stOk_shadowedElements h
theorem stOk_bitwise {f : Nat → Nat → Nat → Nat} : (b.bitwise x y z ty k bw f).st.MemoryOk := stOk_elements h
theorem stOk_unary {f : Nat → Nat × Flags} : (b.unary x y ty k n f).st.MemoryOk := stOk_elements h
theorem stOk_function : (b.function n x y ty k).st.MemoryOk := stOk_shadowedElements h
end

/-! ### Requests and buffered stores of a slot -/

theorem stOk_enter {r : Request} : (b.enter r).st.MemoryOk := h
theorem stOk_spadStore {bytes : List (Nat × Byte)} : (b.spadStore bytes).st.MemoryOk := h
theorem stOk_spadLoad {old : BitVec 4096} {bytes : List (Nat × Nat)} : (b.spadLoad d n old bytes).st.MemoryOk := by
  unfold Bun.spadLoad
  split <;> exact stOk_ite h h

theorem memoryOk_flush {f : BufRec → Bool} {a : StallAct} : (b.flush f a).1.MemoryOk := memoryOk_publish h
theorem memoryOk_flushSectors {parts : List Part} : (b.flushSectors parts).1.MemoryOk := memoryOk_flush h

theorem stOk_beforeImmediate {parts : List Part} {m : Mods} : (b.beforeImmediate parts m).st.MemoryOk :=
  memoryOk_flushSectors (stOk_ite (memoryOk_publish h) h)

theorem stOk_sendLoad {kind : ReqKind} {parts : List Part} {m : Mods} {secOnly : Bool} : (b.sendLoad x kind parts m secOnly n).st.MemoryOk :=
  stOk_enter (stOk_ite (stOk_beforeImmediate h) h)

theorem stOk_sendStore {parts : List Part} {m : Mods} {immediate remote flag : Bool} : (b.sendStore parts m immediate remote flag).st.MemoryOk := by
  have h1 : (if m.space = 2 then b.narrow else b).st.MemoryOk := stOk_ite (stOk_narrow h) h
  exact stOk_enter (stOk_ite (stOk_beforeImmediate h1) (stOk_ite (stOk_beforeImmediate h1) h1))

theorem stOk_sendParts {parts : List Part} {m : Mods} : (b.sendParts parts m).st.MemoryOk := by
  unfold Bun.sendParts
  generalize parts.zipIdx = l
  induction l generalizing b with
  | nil => exact h
  | cons e r ih => exact ih (stOk_enter h)
end

theorem memoryOk_bufferParts {c x queue : Nat} {nocomp : Bool} {parts : List Part} (h : s.MemoryOk) :
    (s.bufferParts c x queue nocomp parts).1.MemoryOk := by
  induction parts generalizing s with
  | nil => exact h
  | cons p rest ih =>
    unfold State.bufferParts
    split
    · exact h
    · dsimp only
      split
      · exact memoryOk_ite_fst (ih (memoryOk_mapStrand (memoryOk_publishOldest h) ..)) (memoryOk_publishOldest h)
      · exact memoryOk_ite_fst (ih (memoryOk_mapStrand h ..)) h

theorem stOk_buffered {parts : List Part} {m : Mods} (h : b.st.MemoryOk) : (b.buffered parts m).st.MemoryOk := memoryOk_bufferParts h

theorem memoryOk_waiter {va size space queue : Nat} {barrier : Option Nat} {cond texp : Nat} {mask cmp : Word} (h : b.st.MemoryOk) :
    (b.waiter va size space queue barrier cond mask cmp texp).1.MemoryOk := by
  unfold Bun.waiter
  dsimp only
  split
  · exact h
  · split
    · split <;> exact h
    · split
      · next he => exact memoryOk_fst (memoryOk_translate h) he
      · next he =>
        have h1 := memoryOk_fst (memoryOk_translate h) he
        split
        · split <;> exact h1
        all_goals exact h1

theorem memoryOk_spawnRecord {cluster owner : Nat} {r : NestRec} (h : s.MemoryOk) : (s.spawnRecord cluster owner r).1.MemoryOk := by
  unfold State.spawnRecord
  split
  · exact h
  · split <;> exact h

theorem stOk_readRegisters {l : List Nat} (h : b.st.MemoryOk) : (b.readRegisters l).st.MemoryOk := by
  unfold Bun.readRegisters
  split
  · exact h
  · next n rest _ =>
    extract_lets stream b1
    have h1 : b1.st.MemoryOk := memoryOk_mapCore h _ (by
      generalize b.st.core b.cur.core = k
      rfl)
    obtain ⟨ws, hws⟩ := shareWrites_eq b1 (fun r => .unbind (r - 64)) ((n :: rest).filter stream)
    refine stOk_addDue ?_
    rw [hws]
    exact h1

/-! ### A slot of the bundle -/

theorem leadsOk_runSlot {f : Bun → Except Stop Bun} (h : s.MemoryOk)
    (hf : ∀ q b, q.st.MemoryOk → f q = .ok b → b.st.MemoryOk) : LeadsOk (s.runSlot i f) := by
  intro t ht
  obtain ⟨c, -, rfl | ⟨v, ds, rfl⟩ | ⟨b, hb, rfl⟩⟩ := runSlot_next ht
  · exact h
  · exact h
  · refine hf _ b ?_ hb
    rw [pop_st]
    exact stOk_readRegisters h

/-- A slot that checks its operands and then joins its effect to the bundle. -/
theorem leadsOk_check {l : Bun → List (Option Stop)} {e : Bun → Bun → Bun} (h : s.MemoryOk)
    (he : ∀ q, q.st.MemoryOk → (e q q).st.MemoryOk) : LeadsOk (s.runSlot i (fun b => b.check (l b) (e b))) :=
  leadsOk_runSlot h fun q b hq hb => by
    obtain ⟨-, rfl⟩ := check_ok.1 hb
    exact he q hq

theorem leadsOk_scalar {e : Bun → Bun} (h : s.MemoryOk) (he : ∀ q, q.st.MemoryOk → (e q).st.MemoryOk) : LeadsOk (s.scalar i e) :=
  leadsOk_check h he

end Sys2Proof.Proofs
end

section
/-! Each slot instruction keeps memory in its canonical form. -/
namespace Sys2Proof.Proofs
open Sys2Proof Sys2Proof.Machine Sys2Proof.Laws

variable {s : State}

/-! ### Scalar and control slots -/

theorem leadsOk_execFcvt {d a : BitVec 6} {sty ty : BitVec 4} {rm : BitVec 2} (h : s.MemoryOk) : LeadsOk (execFcvt d a sty ty rm s) :=
  leadsOk_scalar h fun q hq => by
    dsimp only
    split
    · exact stOk_writeShadowed hq
    · exact stOk_writeFloat hq

theorem leadsOk_execDmerge {d a b c : BitVec 6} {greedy : BitVec 1} (h : s.MemoryOk) : LeadsOk (execDmerge d a b c greedy s) :=
  leadsOk_scalar h fun _ hq => stOk_shadowed (stOk_raiseZm (stOk_writePair hq))
theorem leadsOk_execDscale {d a b : BitVec 6} {mode : BitVec 1} (h : s.MemoryOk) : LeadsOk (execDscale d a b mode s) :=
  leadsOk_scalar h fun _ hq => stOk_shadowed (stOk_raiseZm (stOk_writePair hq))
theorem leadsOk_execCall {r : BitVec 5} {off : BitVec 20} (h : s.MemoryOk) : LeadsOk (execCall r off s) :=
  leadsOk_check h fun _ hq => stOk_jump (stOk_writeReg hq)
theorem leadsOk_execLoop {n : BitVec 2} {off : BitVec 20} {c : BitVec 6} {imm : BitVec 1} {cnt : BitVec 9} (h : s.MemoryOk) :
    LeadsOk (execLoop n off c imm cnt s) :=
  leadsOk_check h fun _ hq => stOk_ite (stOk_jump (stOk_writeLc hq)) (stOk_writeLc hq)
theorem leadsOk_execEndl {n : BitVec 2} {off : BitVec 20} (h : s.MemoryOk) : LeadsOk (execEndl n off s) :=
  leadsOk_check h fun _ hq => stOk_ite (stOk_jump (stOk_writeLc hq)) hq
theorem leadsOk_execYield {a : BitVec 6} (h : s.MemoryOk) : LeadsOk (execYield a s) :=
  leadsOk_check h fun _ hq => stOk_addHold (stOk_withState (memoryOk_translate hq))
theorem leadsOk_execSpawn {d a : BitVec 6} (h : s.MemoryOk) : LeadsOk (execSpawn d a s) :=
  leadsOk_check h fun _ hq => stOk_writeReg (stOk_withState (memoryOk_spawnRecord (memoryOk_virtRead hq)))
theorem leadsOk_execCrw {a : BitVec 6} {cr : BitVec 14} (h : s.MemoryOk) : LeadsOk (execCrw a cr s) :=
  leadsOk_check h fun _ hq => stOk_ite (stOk_write hq) (stOk_shareWrite hq)

/-! ### Memory slots -/

theorem leadsOk_execLd {d : BitVec 6} {a : BitVec 4} {sz : BitVec 2} {off : BitVec 12} (h : s.MemoryOk) : LeadsOk (execLd d a sz off s) :=
  leadsOk_check h fun _ hq => stOk_ite (stOk_spadLoad (stOk_narrow hq)) (stOk_sendLoad (stOk_narrow hq))
theorem leadsOk_execSt {d : BitVec 6} {a : BitVec 4} {sz : BitVec 2} {off : BitVec 12} (h : s.MemoryOk) : LeadsOk (execSt d a sz off s) :=
  leadsOk_check h fun _ hq => stOk_ite (stOk_spadStore (stOk_narrow hq)) (stOk_enter (stOk_narrow hq))
theorem leadsOk_execVld {d : BitVec 6} {a : BitVec 4} {k : BitVec 3} {off : BitVec 12} {c : BitVec 6} {reg : BitVec 1} {simm : BitVec 9}
    (h : s.MemoryOk) : LeadsOk (execVld d a k off c reg simm s) :=
  leadsOk_check h fun _ hq => stOk_ite (stOk_spadLoad (stOk_narrow hq)) (stOk_sendLoad (stOk_narrow hq))
theorem leadsOk_execVst {d : BitVec 6} {a : BitVec 4} {k : BitVec 3} {off : BitVec 12} {c : BitVec 6} {reg : BitVec 1} {simm : BitVec 9}
    (h : s.MemoryOk) : LeadsOk (execVst d a k off c reg simm s) :=
  leadsOk_runSlot h fun q b hq hb => by
    have h1 := stOk_narrow hq
    extract_lets m ea stride space v bytes parts live at hb
    obtain ⟨-, rfl⟩ := check_ok.1 hb
    exact stOk_ite (stOk_spadStore h1) (stOk_ite h1 (stOk_enter h1))

/-- LDQ and LDSEC. -/
theorem leadsOk_queuedLoad {i : Instr} {d : BitVec 6} {a : BitVec 4} {off : BitVec 12} {n elemSz : Nat} {secOnly : Bool} (h : s.MemoryOk) :
    LeadsOk (s.runSlot i (fun b => b.queuedLoad d a off n elemSz secOnly)) :=
  leadsOk_runSlot h fun q b hq hb => by
    unfold Bun.queuedLoad at hb
    obtain ⟨-, rfl⟩ := check_ok.1 hb
    exact stOk_sendLoad (stOk_ite (stOk_narrow hq) hq)

theorem leadsOk_execStq {d : BitVec 6} {a : BitVec 4} {sz : BitVec 2} {off : BitVec 12} (h : s.MemoryOk) : LeadsOk (execStq d a sz off s) :=
  leadsOk_check h fun _ hq => stOk_ite (stOk_sendStore hq) (stOk_buffered hq)
theorem leadsOk_execStf {d : BitVec 6} {a : BitVec 4} {sz : BitVec 2} {off : BitVec 12} (h : s.MemoryOk) : LeadsOk (execStf d a sz off s) :=
  leadsOk_check h fun _ hq => stOk_sendStore hq
theorem leadsOk_execGatherq {d : BitVec 6} {a : BitVec 4} {sz : BitVec 2} {off : BitVec 12} {c : BitVec 6} {shift : BitVec 2} {k : BitVec 3}
    (h : s.MemoryOk) : LeadsOk (execGatherq d a sz off c shift k s) :=
  leadsOk_check h fun _ hq => stOk_sendLoad hq
theorem leadsOk_execScatterq {d : BitVec 6} {a : BitVec 4} {sz : BitVec 2} {off : BitVec 12} {c : BitVec 6} {shift : BitVec 2} {k : BitVec 3}
    (h : s.MemoryOk) : LeadsOk (execScatterq d a sz off c shift k s) :=
  leadsOk_check h fun _ hq => stOk_ite (stOk_sendParts hq) (stOk_buffered (stOk_sendParts hq))
theorem leadsOk_execAmo {d : BitVec 6} {a fn : BitVec 4} {off : BitVec 12} {c : BitVec 6} {ret sgn : BitVec 1} {sz : BitVec 2} {newv : BitVec 6}
    (h : s.MemoryOk) : LeadsOk (execAmo d a fn off c ret sgn sz newv s) :=
  leadsOk_check h fun _ hq => stOk_ite (stOk_enter (stOk_beforeImmediate hq)) (stOk_enter (stOk_beforeImmediate hq))
theorem leadsOk_execAmoDraw {a : BitVec 4} {off : BitVec 12} {c : BitVec 6} {tag : BitVec 8} {greedy : BitVec 1} (h : s.MemoryOk) :
    LeadsOk (execAmoDraw a off c tag greedy s) :=
  leadsOk_check h fun _ hq => stOk_raiseZm (stOk_enter (stOk_beforeImmediate hq))
theorem leadsOk_execPref {a : BitVec 4} {ext : BitVec 2} {off : BitVec 12} (h : s.MemoryOk) : LeadsOk (execPref a ext off s) :=
  leadsOk_check h fun _ hq => stOk_enter hq

/-! ### Ordering, copies, waits, streams and rings -/

theorem leadsOk_execPhase {scope : BitVec 3} (h : s.MemoryOk) : LeadsOk (execPhase scope s) :=
  leadsOk_runSlot h fun q b hq hb => by
    split at hb
    · obtain ⟨-, rfl⟩ := check_ok.1 hb
      exact hq
    · obtain ⟨-, rfl⟩ := check_ok.1 hb
      exact stOk_addHold hq

theorem leadsOk_execPublish {a : BitVec 6} (h : s.MemoryOk) : LeadsOk (execPublish a s) :=
  leadsOk_check h fun _ hq => stOk_addHold hq

theorem leadsOk_execVwait {d a g : BitVec 6} (h : s.MemoryOk) : LeadsOk (execVwait d a g s) :=
  leadsOk_runSlot h fun q b hq hb => by
    dsimp only at hb
    split at hb
    · obtain ⟨-, rfl⟩ := check_ok.1 hb
      exact stOk_writeReg (stOk_writeReg hq)
    · split at hb
      · obtain ⟨-, rfl⟩ := check_ok.1 hb
        exact hq
      · split at hb
        · obtain ⟨-, rfl⟩ := check_ok.1 hb
          exact stOk_writeReg (stOk_writeReg hq)
        · obtain ⟨-, rfl⟩ := check_ok.1 hb
          exact stOk_writeReg (stOk_writeReg (stOk_withState (memoryOk_readerHalf hq)))

theorem leadsOk_execFence {d : BitVec 6} {mask : BitVec 4} {kind : BitVec 1} (h : s.MemoryOk) : LeadsOk (execFence d mask kind s) :=
  leadsOk_check h fun _ hq => stOk_ite (stOk_addHold hq) (stOk_withState (memoryOk_resetPaths (stOk_writeReg hq)))

theorem leadsOk_execCopy {a : BitVec 6} {span : BitVec 3} (h : s.MemoryOk) : LeadsOk (execCopy a span s) :=
  leadsOk_runSlot h fun q b hq hb => by
    extract_lets n off d t base src dst into touched flush address at hb
    have h1 : flush.1.MemoryOk := memoryOk_flush hq
    split at hb
    · obtain ⟨-, rfl⟩ := check_ok.1 hb
      exact stOk_tornTable hq
    · obtain ⟨-, rfl⟩ := check_ok.1 hb
      exact stOk_withState (memoryOk_mapCore (by exact h1) _ rfl)

theorem leadsOk_execBarrive {a x : BitVec 6} {queue op : BitVec 2} (h : s.MemoryOk) : LeadsOk (execBarrive a x queue op s) :=
  leadsOk_check h fun _ hq => stOk_enter (stOk_beforeImmediate hq)

theorem leadsOk_execBwait {d a x : BitVec 6} {queue : BitVec 2} {texp : BitVec 5} (h : s.MemoryOk) : LeadsOk (execBwait d a x queue texp s) :=
  leadsOk_check h fun _ hq =>
    have h1 := stOk_writeReg (stOk_withState (memoryOk_waiter hq))
    stOk_ite (stOk_withState (memoryOk_readerHalf h1)) h1

theorem leadsOk_execWait {d a x : BitVec 6} {cond : BitVec 3} {texp : BitVec 5} {c : BitVec 6} {space : BitVec 2} {sz : BitVec 1}
    {queue : BitVec 2} {masked : BitVec 1} (h : s.MemoryOk) : LeadsOk (execWait d a x cond texp c space sz queue masked s) :=
  leadsOk_check h fun _ hq =>
    have h1 := stOk_writeReg (stOk_withState (memoryOk_waiter hq))
    stOk_ite (stOk_withState (memoryOk_readerHalf h1)) h1

theorem leadsOk_execMwait {d : BitVec 6} {all : BitVec 1} {tag : BitVec 4} (h : s.MemoryOk) : LeadsOk (execMwait d all tag s) :=
  leadsOk_check h fun _ hq => stOk_writeReg (stOk_withState (memoryOk_mapStrand hq ..))

theorem leadsOk_execSunbind {d : BitVec 6} (h : s.MemoryOk) : LeadsOk (execSunbind d s) :=
  leadsOk_check h fun _ hq => stOk_ite (stOk_shareWrite hq) hq

/-- RINGP and RINGA. -/
theorem leadsOk_ringMove {i : Instr} {ring : BitVec 3} {a : BitVec 6} {reg : BitVec 1} {count : BitVec 7} {push : Bool} (h : s.MemoryOk) :
    LeadsOk (s.runSlot i (fun b => b.ringMove ring a reg count push)) :=
  leadsOk_runSlot h fun q b hq hb => by
    obtain ⟨-, rfl⟩ := check_ok.1 hb
    exact stOk_ite hq (stOk_shareWrite hq)

theorem leadsOk_execWalk {a : BitVec 6} (h : s.MemoryOk) : LeadsOk (execWalk a s) :=
  leadsOk_runSlot h fun q b hq hb => by
    extract_lets d w queue target hops toRing address torn b1 t stack busy flush after landed at hb
    have h1 : b1.st.MemoryOk := stOk_ite hq (stOk_readRegisters hq)
    have hflush : flush.1.MemoryOk := memoryOk_flush h1
    clear_value torn
    split at hb
    · obtain ⟨-, rfl⟩ := check_ok.1 hb
      exact stOk_tornTable h1
    · obtain ⟨-, rfl⟩ := check_ok.1 hb
      exact stOk_withState (by exact hflush)

theorem leadsOk_execColl {a x : BitVec 6} (h : s.MemoryOk) : LeadsOk (execColl a x s) :=
  leadsOk_runSlot h fun q b hq hb => by
    dsimp only at hb
    split at hb
    · obtain ⟨-, rfl⟩ := check_ok.1 hb
      exact stOk_tornTable hq
    · obtain ⟨-, rfl⟩ := check_ok.1 hb
      exact stOk_addHold hq

theorem leadsOk_execLprobe {d a : BitVec 6} (h : s.MemoryOk) : LeadsOk (execLprobe d a s) :=
  leadsOk_check h fun q hq => by
    have h1 := memoryOk_translate (c := q.cur.core) (slot := q.slotNo) (va := (q.val a).toNat) (need := .load) hq
    dsimp only
    split
    · exact stOk_writeReg h1
    · exact stOk_writeReg h1
    all_goals exact h1

/-! ### Matrix and pattern slots -/

theorem leadsOk_execMcall {tag : BitVec 4} {prio : BitVec 3} {n : BitVec 8} (h : s.MemoryOk) : LeadsOk (execMcall tag prio n s) :=
  leadsOk_check h fun q hq => stOk_withState (memoryOk_mapCore (by exact hq) _ rfl)

theorem leadsOk_execAccrd {d : BitVec 6} {t : BitVec 3} {x : BitVec 6} {idx : BitVec 1} {pair : BitVec 5} (h : s.MemoryOk) :
    LeadsOk (execAccrd d t x idx pair s) :=
  leadsOk_check h fun q hq => by
    split
    · exact stOk_writeVec hq
    · exact stOk_addDue (stOk_writeVec hq)

theorem leadsOk_execAccwr {t : BitVec 3} {a x : BitVec 6} {idx : BitVec 1} {pair : BitVec 5} (h : s.MemoryOk) : LeadsOk (execAccwr t a x idx pair s) :=
  leadsOk_check h fun _ hq => stOk_withState (memoryOk_mapStrand hq ..)
theorem leadsOk_execAccz {mask : BitVec 8} (h : s.MemoryOk) : LeadsOk (execAccz mask s) :=
  leadsOk_check h fun _ hq => stOk_withState (memoryOk_mapStrand hq ..)

theorem leadsOk_execPatld {first a count : BitVec 6} (h : s.MemoryOk) : LeadsOk (execPatld first a count s) :=
  leadsOk_check h fun q hq => by
    dsimp only
    split
    · exact stOk_addDue (stOk_withState (memoryOk_mapCore hq _ rfl))
    · exact stOk_withState (memoryOk_mapCore hq _ rfl)

/-! ### Vector slots -/

theorem leadsOk_execVdraw {d a : BitVec 6} {g k : BitVec 3} {c : BitVec 6} {tag : BitVec 8} {mode all : BitVec 1} (h : s.MemoryOk) :
    LeadsOk (execVdraw d a g k c tag mode all s) :=
  leadsOk_scalar h fun _ hq => stOk_ite (stOk_shadowed (stOk_raiseZm (stOk_writePair hq))) (stOk_shadowed (stOk_raiseZm (stOk_writePair hq)))
theorem leadsOk_execXbcast {d a : BitVec 6} {lane : BitVec 1} {j : BitVec 4} {g : BitVec 3} (h : s.MemoryOk) : LeadsOk (execXbcast d a lane j g s) :=
  leadsOk_scalar h fun _ hq => stOk_ite (stOk_writeVec hq) (stOk_writeVec hq)
theorem leadsOk_execVquant {d a b : BitVec 6} {ty : BitVec 4} {k : BitVec 3} {bw : BitVec 1} {c : BitVec 6} {rm : BitVec 2} (h : s.MemoryOk) :
    LeadsOk (execVquant d a b ty k bw c rm s) :=
  leadsOk_scalar h fun _ hq => stOk_raise (stOk_writeReg (stOk_writeLanes hq))

end Sys2Proof.Proofs
end

section
/-! The path of a request, the units that answer it, copies and walks keep memory in its canonical form. -/
namespace Sys2Proof.Proofs
open Sys2Proof Sys2Proof.Machine Sys2Proof.Laws

variable {s t : State} {c x off key n v id i sub status data : Nat} {r : Request} {p : Part}

/-! ### Replays of the collective engine, as far as requests touch them -/

theorem memoryOk_setReplay {y : Replay} (h : s.MemoryOk) : (s.setReplay y).MemoryOk := h
theorem memoryOk_sendAbort {m : AbortMsg} (h : s.MemoryOk) : (s.sendAbort m).MemoryOk := memoryOk_ite h h
theorem memoryOk_failReplay {y : Replay} {m : AbortMsg} (h : s.MemoryOk) : (s.failReplay y m).MemoryOk :=
  memoryOk_ite h (memoryOk_sendAbort (memoryOk_setReplay h))

theorem memoryOk_ackCollWrite {graph step : Nat} {op : Option Nat} (h : s.MemoryOk) : (s.ackCollWrite id graph step op r).MemoryOk := by
  unfold State.ackCollWrite
  split
  · exact h
  · dsimp only
    split
    · split
      · exact memoryOk_failReplay (by exact h)
      · exact memoryOk_log (by exact h) ..
    · exact h

/-! ### A sector performed at its home -/

theorem memoryOk_barrierPerform {op : Nat} (h : s.MemoryOk) (ht : s.barrierPerform off key op v = some t) : t.MemoryOk := by
  unfold State.barrierPerform at ht
  extract_lets obj w gen expect arrived next word tag write at ht
  have hwrite : ∀ {v : Nat} {u : State}, write v = some u → State.MemoryOk u := by
    intro v u hu
    obtain ⟨s1, h1, rfl⟩ := Option.map_eq_some_iff.1 hu
    exact memoryOk_testGlobal (memoryOk_markDirty (memoryOk_l2Write h h1) _) ..
  clear_value write
  split at ht
  · split at ht
    · cases ht
      exact memoryOk_touchLine h
    · split at ht
      all_goals
        obtain ⟨s1, h1, rfl⟩ := Option.map_eq_some_iff.1 ht
        exact memoryOk_testBarrier (hwrite h1)
  · obtain ⟨s1, h1, rfl⟩ := Option.map_eq_some_iff.1 ht
    have h2 := hwrite h1
    exact memoryOk_testBarrier (by exact h2)
  · obtain ⟨s1, h1, rfl⟩ := Option.map_eq_some_iff.1 ht
    have h2 := hwrite h1
    exact memoryOk_testBarrier (by exact h2)

/-- The state of an answer that a home has performed an access. -/
theorem memoryOk_done {d e : Nat} (h : s.MemoryOk) (ht : HomeResult.done s d = .done t e) : t.MemoryOk := by
  obtain ⟨rfl, -⟩ := HomeResult.done.inj ht
  exact h

/-- What a home answers of a write that it may or may not have made. -/
theorem memoryOk_ofWrite {o : Option State} {old d : Nat} (ho : ∀ u, o = some u → State.MemoryOk u)
    (ht : (match o with
      | some s1 => HomeResult.done s1 old
      | none => .wait) = .done t d) : t.MemoryOk := by
  cases o with
  | none => cases ht
  | some u => exact memoryOk_done (ho u rfl) ht

theorem memoryOk_atHome {kind : ReqKind} {mask d : Nat} {nocomp : Bool} {core : Option Nat} (h : s.MemoryOk)
    (ht : s.atHome kind off key mask data nocomp core = .done t d) : t.MemoryOk := by
  unfold State.atHome at ht
  extract_lets bad first old ofWrite at ht
  cases kind with
  | load =>
    dsimp only at ht
    split at ht
    · cases ht
    · exact memoryOk_done (memoryOk_touchLine h) ht
  | pref =>
    exact memoryOk_done (memoryOk_touchLine h) ht
  | store =>
    dsimp only at ht
    split at ht
    · cases ht
    · exact memoryOk_ofWrite (fun _ hu => memoryOk_homeWrite h hu) ht
  | amo fn size sgn y new =>
    dsimp only at ht
    split at ht
    · cases ht
    · exact memoryOk_ofWrite (fun _ hu => memoryOk_homeWrite h hu) ht
  | draw tag greedy k m w i n =>
    dsimp only at ht
    split at ht
    · cases ht
    · exact memoryOk_ofWrite (fun _ hu => memoryOk_homeWrite (memoryOk_free h _) hu) ht
  | barrive op v =>
    dsimp only at ht
    split at ht
    · cases ht
    · exact memoryOk_ofWrite (fun _ hu => memoryOk_barrierPerform h hu) ht
  | copyWrite id =>
    exact memoryOk_done h ht
  | collWrite graph step op =>
    exact memoryOk_done h ht
  | chunk comb phase =>
    dsimp only at ht
    split at ht
    · cases ht
    · exact memoryOk_ofWrite (fun _ hu => memoryOk_homeWrite (memoryOk_free h _) hu) ht

theorem memoryOk_atHomeNow {kind : ReqKind} {mask d : Nat} (h : s.MemoryOk)
    (ht : s.atHomeNow kind off key mask data = .done t d) : t.MemoryOk := by
  unfold State.atHomeNow at ht
  split at ht
  · exact memoryOk_atHome (memoryOk_settleSet h _) ht
  · exact memoryOk_atHome h ht

/-! ### The parts of a request -/

theorem memoryOk_mergedDone {mates : List (Nat × Request)} (h : s.MemoryOk) : (s.mergedDone mates).MemoryOk :=
  memoryOk_foldl (fun _ _ h => by exact h) _ h
theorem memoryOk_setPart {f : Part → Part} (h : s.MemoryOk) : (s.setPart id r i f).MemoryOk := memoryOk_ite h h
theorem memoryOk_faultPart {retry : Bool} (h : s.MemoryOk) : (s.faultPart id r i sub retry).MemoryOk := memoryOk_setPart h
theorem memoryOk_donePart (h : s.MemoryOk) : (s.donePart id r i data).MemoryOk := memoryOk_setPart h
theorem memoryOk_sendAs {kind : ReqKind} {ms : List Nat} {path : Nat} (h : s.MemoryOk) : (s.sendAs kind id r i p ms off path).MemoryOk := h
theorem memoryOk_sendRemote {ms : List Nat} {path : Nat} (h : s.MemoryOk) : (s.sendRemote id r i p ms off path).MemoryOk := h

theorem memoryOk_reportSplits {free : Nat} {splits : List Split} (h : s.MemoryOk) : (s.reportSplits id r free splits).MemoryOk := by
  unfold State.reportSplits
  split
  · exact memoryOk_addDues h
  · exact h

theorem memoryOk_sendMerged {m : Nat} (h : s.MemoryOk) : (s.sendMerged id r i p m off).MemoryOk :=
  memoryOk_ite (memoryOk_sendRemote h) (memoryOk_foldl (fun _ _ h => by exact h) _ (memoryOk_reportSplits (memoryOk_sendAs h)))

theorem memoryOk_remoteAnswer (h : s.MemoryOk) : (s.remoteAnswer id r i p status data).MemoryOk := by
  unfold State.remoteAnswer
  extract_lets m mark s1 s2
  have hmark : ∀ v, (mark s v).MemoryOk := fun _ => h
  have h2 : s2.MemoryOk := memoryOk_donePart (hmark _)
  split
  · exact memoryOk_ite (memoryOk_ite (memoryOk_reportSplits h2) h2) (memoryOk_setPart (hmark _))
  · exact memoryOk_ite (memoryOk_faultPart (hmark _)) (memoryOk_ite (memoryOk_faultPart h) h)

theorem memoryOk_startFill (h : s.MemoryOk) : (s.startFill id r p off key).MemoryOk := memoryOk_ite h h
theorem memoryOk_markNocomp {line : Nat} (h : s.MemoryOk) : (s.markNocomp line).MemoryOk := h
theorem memoryOk_spend {unit : Nat} {f : Nat → Bool} (h : s.MemoryOk) : (s.spend c unit f).MemoryOk := h

theorem memoryOk_drawShadow {kind : ReqKind} {routers : List Split} {old : Nat} (h : t.MemoryOk) :
    (s.drawShadow t id r kind routers p old).MemoryOk := by
  unfold State.drawShadow
  split
  · exact memoryOk_reportSplits (memoryOk_spend h)
  · exact h

theorem l1Put_spad {k : Core} {line sector : Nat} : (k.l1Put line sector data).spad = k.spad := by
  unfold Core.l1Put
  dsimp only
  split <;> rfl

theorem memoryOk_performLocal (h : s.MemoryOk) : (s.performLocal id r i p off).MemoryOk := by
  unfold State.performLocal
  extract_lets key line sector reads ordinary mates all merged kind routers start
  split
  · exact memoryOk_ite (memoryOk_faultPart h) (memoryOk_donePart (memoryOk_mapCore h _ rfl))
  · refine memoryOk_ite (memoryOk_faultPart h) (memoryOk_ite h (memoryOk_ite (memoryOk_startFill h) ?_))
    have hstart : start.MemoryOk := memoryOk_ite h (memoryOk_free h _)
    split
    · exact memoryOk_faultPart h
    · exact h
    · next s0 d hd =>
      have h0 := memoryOk_atHome hstart hd
      extract_lets s1 s2 s3
      have h1 : s1.MemoryOk := memoryOk_ite h (memoryOk_mergedDone h0)
      have h2 : s2.MemoryOk := memoryOk_ite (memoryOk_markNocomp h1) (memoryOk_drawShadow h1)
      have h3 : s3.MemoryOk := memoryOk_ite (memoryOk_mapCore h2 _ l1Put_spad) (memoryOk_ite (memoryOk_mapCore h2 _ rfl) h2)
      exact memoryOk_donePart h3

theorem memoryOk_performWindow (h : s.MemoryOk) : (s.performWindow id r i p).MemoryOk := by
  unfold State.performWindow
  dsimp only
  split
  · exact memoryOk_faultPart h
  · exact memoryOk_ite (memoryOk_ite (memoryOk_faultPart h) (memoryOk_donePart (memoryOk_spadWrite h ..)))
      (memoryOk_ite (memoryOk_faultPart h) (memoryOk_donePart h))

theorem memoryOk_performOwn (h : s.MemoryOk) : (s.performOwn id r i p).MemoryOk :=
  memoryOk_ite (memoryOk_faultPart h) (memoryOk_donePart (memoryOk_spadWrite h ..))

theorem memoryOk_performMulticast {g : Nat} (h : s.MemoryOk) : (s.performMulticast id r i p g off).MemoryOk := by
  unfold State.performMulticast
  extract_lets src members away key own s1 there s2
  split
  · exact memoryOk_faultPart h
  · have h1 : s1.MemoryOk := memoryOk_ite (memoryOk_engineWrite h ..) h
    have h2 : s2.MemoryOk := memoryOk_ite h1 (memoryOk_sendRemote h1)
    clear_value own
    split
    · exact memoryOk_faultPart h2
    · exact memoryOk_ite (memoryOk_faultPart h2) (memoryOk_ite (memoryOk_donePart h1) h2)

theorem memoryOk_performGlobal (h : s.MemoryOk) : (s.performGlobal id r i p status data).MemoryOk := by
  unfold State.performGlobal
  refine memoryOk_ite (memoryOk_remoteAnswer h) ?_
  split
  · split
    · exact memoryOk_sendRemote h
    · exact memoryOk_performLocal h
    · exact memoryOk_faultPart h
    · exact memoryOk_faultPart h
  · split
    · exact h
    · refine memoryOk_ite (memoryOk_faultPart h) ?_
      dsimp only
      split
      · exact memoryOk_faultPart h
      · split
        · exact memoryOk_donePart h
        · exact memoryOk_faultPart h
      · exact memoryOk_performMulticast h
      · exact memoryOk_ite (memoryOk_donePart h) (memoryOk_ite (memoryOk_faultPart h) (memoryOk_sendMerged h))
      · split
        · exact h
        · exact memoryOk_performLocal h

/-! ### The events of a request -/

theorem leadsOk_execHomeRequest {req : Nat} {data : BitVec 256} (h : s.MemoryOk) : LeadsOk (execHomeRequest req status data s) := by
  refine leadsOk_next ?_
  split
  · exact h
  · split
    · exact h
    · split
      · exact h
      · exact memoryOk_ite h (memoryOk_ite (memoryOk_faultPart h) (memoryOk_ite (memoryOk_performWindow h)
          (memoryOk_ite (memoryOk_performOwn h) (memoryOk_performGlobal h))))

theorem leadsOk_execSetWaitRetry {req : Nat} (h : s.MemoryOk) : LeadsOk (execSetWaitRetry req s) := by
  refine leadsOk_next ?_
  split
  · exact h
  · refine memoryOk_ite h ?_
    split
    · exact h
    · split
      · exact h
      · split
        · exact memoryOk_performLocal h
        · exact h

theorem leadsOk_execBarrierArrival {req : Nat} (h : s.MemoryOk) : LeadsOk (execBarrierArrival req s) := by
  refine leadsOk_next ?_
  split
  · exact h
  · split
    · refine memoryOk_ite h ?_
      split
      · exact h
      · refine memoryOk_ite (memoryOk_faultPart h) ?_
        split
        · exact memoryOk_performLocal h
        · exact h
    · exact h

theorem leadsOk_execL2Fill {line : Nat} (h : s.MemoryOk) : LeadsOk (execL2Fill line s) := by
  refine leadsOk_next ?_
  split
  · exact h
  · exact memoryOk_getD h fun _ ht => memoryOk_completeFill h ht

theorem leadsOk_execPageWalk {req : Nat} (h : s.MemoryOk) : LeadsOk (execPageWalk req s) := by
  refine leadsOk_next ?_
  split
  · exact h
  · split
    · exact h
    · refine memoryOk_ite h ?_
      extract_lets joined failAll
      have hfail : ∀ {u sub}, State.MemoryOk u → (failAll u sub).MemoryOk := fun {u sub} hu => by
        refine memoryOk_foldl (fun s e h => ?_) _ hu
        split
        · exact memoryOk_faultPart h
        · exact h
      clear_value failAll
      split
      · next he => exact hfail (memoryOk_fst (memoryOk_walk h) he)
      · next he =>
        have h1 := memoryOk_fst (memoryOk_walk h) he
        refine memoryOk_ite (hfail h1) (memoryOk_foldl (fun s e h => ?_) _ h1)
        split
        · exact memoryOk_ite h (memoryOk_tlbInstall (by exact h))
        · exact h

theorem leadsOk_execElementLand {req : Nat} (h : s.MemoryOk) : LeadsOk (execElementLand req s) := by
  refine leadsOk_next ?_
  split
  · exact h
  · split
    · exact memoryOk_ite (memoryOk_dropReq h) h
    · refine memoryOk_ite h ?_
      extract_lets fault s1
      have h1 : s1.MemoryOk := memoryOk_dropReq h
      refine memoryOk_ite h1 ?_
      split
      · exact h1
      · exact memoryOk_ite (memoryOk_readerHalf (memoryOk_mapCore h1 _ rfl)) (memoryOk_mapCore h1 _ rfl)

/-! ### Copies -/

theorem freeSpan_spad {k : Core} {y : CopyOp} : (k.freeSpan y).spad = k.spad := by
  unfold Core.freeSpan
  dsimp only
  split <;> rfl
theorem endCopy_spad {k : Core} {y : CopyOp} {fault : Option (Nat × Word × Bool)} : (k.endCopy y fault).spad = k.spad := freeSpan_spad
theorem noteCopied_spad {k : Core} {y : CopyOp} {line : Nat} : (k.noteCopied y line).spad = k.spad := by
  unfold Core.noteCopied
  dsimp only
  split <;> rfl

theorem memoryOk_ackCopyWrite {copy : Nat} (h : s.MemoryOk) : (s.ackCopyWrite id copy r).MemoryOk := by
  refine memoryOk_ite h (memoryOk_mapCore (memoryOk_dropReq h) _ ?_)
  split
  · rfl
  · split
    · rfl
    · exact endCopy_spad

theorem leadsOk_execStoreAck {req : Nat} (h : s.MemoryOk) : LeadsOk (execStoreAck req s) := by
  refine leadsOk_next ?_
  split
  · exact h
  · split
    · exact memoryOk_ackCopyWrite h
    · exact memoryOk_ackCollWrite h
    · have h1 := memoryOk_retireStore (id := req) h
      exact memoryOk_ite h (memoryOk_ite h1 (memoryOk_ite (memoryOk_mapCore (by exact h) _ rfl)
        (memoryOk_ite h (memoryOk_ite (memoryOk_mapCore h1 _ rfl) h1))))

theorem memoryOk_copyRead {slot space : Nat} {a : Int} (h : s.MemoryOk) : (s.copyRead c slot space a n).1.MemoryOk := by
  unfold State.copyRead
  refine memoryOk_ite_fst h (memoryOk_ite_fst (memoryOk_virtRead h) ?_)
  dsimp only
  refine memoryOk_ite_fst h ?_
  split
  · exact h
  · split <;> exact h

theorem memoryOk_copyWrite {slot space : Nat} {a : Int} (h : s.MemoryOk) : (s.copyWrite c slot space a n v).1.MemoryOk := by
  unfold State.copyWrite
  refine memoryOk_ite_fst h (memoryOk_ite_fst (memoryOk_sectorWrite h) ?_)
  dsimp only
  refine memoryOk_ite_fst h ?_
  split
  · exact h
  · exact memoryOk_spadWrite h ..

theorem memoryOk_copyPlace {y : CopyOp} {a : Int} (h : s.MemoryOk) : (s.copyPlace c y a).1.MemoryOk := by
  unfold State.copyPlace
  refine memoryOk_ite_fst h ?_
  split
  · next he => exact memoryOk_fst (memoryOk_translate h) he
  · next he =>
    have h1 := memoryOk_fst (memoryOk_translate h) he
    split <;> exact h1

theorem memoryOk_keepCopy {y : CopyOp} (h : s.MemoryOk) : (s.keepCopy c y).MemoryOk := memoryOk_mapCore h c rfl

theorem memoryOk_copyWords {y : CopyOp} {sector : Nat} (h : s.MemoryOk) : (s.copyWords c y sector).1.MemoryOk := by
  refine memoryOk_foldl_fst (fun p w hp => ?_) h
  split
  · next he => exact memoryOk_fst (memoryOk_copyRead hp) he
  · next he => exact memoryOk_fst (memoryOk_copyRead hp) he

theorem memoryOk_copySource {y : CopyOp} {runs : List (Nat × Nat × Nat)} {acc : Nat} (h : s.MemoryOk) :
    (s.copySource c y runs acc).1.MemoryOk := by
  induction runs generalizing s y acc with
  | nil => exact h
  | cons run rest ih =>
    unfold State.copySource
    extract_lets of use keep
    have huse : ∀ {u z d}, State.MemoryOk u → (use u z d).1.MemoryOk := fun {u z d} hu => by
      unfold use
      split
      · exact hu
      · exact ih hu
    clear_value use
    split
    · exact huse h
    · split
      · next he => exact huse (memoryOk_fst (memoryOk_copyRead h) he)
      · next he => exact huse (memoryOk_copyWords (memoryOk_fst (memoryOk_copyRead h) he))
      · next he =>
        have h1 := memoryOk_fst (memoryOk_copyRead h) he
        split
        · next he => exact memoryOk_fst (memoryOk_copyRead h1) he
        · next he => exact ih (memoryOk_fst (memoryOk_copyRead h1) he)

theorem memoryOk_copySectors {y : CopyOp} {src dst : Int} {l : List (Nat × Nat × Nat)} (h : s.MemoryOk) :
    (s.copySectors c y src dst l).1.MemoryOk := by
  induction l generalizing s y with
  | nil => exact h
  | cons e rest ih =>
    unfold State.copySectors
    split
    · next he => exact memoryOk_fst (memoryOk_copySource h) he
    · next he =>
      have h1 := memoryOk_fst (memoryOk_copySource h) he
      dsimp only
      refine memoryOk_ite_fst h1 ?_
      split
      · next he =>
        have h2 := memoryOk_fst (memoryOk_copyPlace (memoryOk_free h1 _)) he
        exact h2
      · next he =>
        have h2 := memoryOk_fst (memoryOk_copyPlace (memoryOk_free h1 _)) he
        split
        · next he => exact memoryOk_fst (memoryOk_copyWrite h2) he
        · next he =>
          have h3 := memoryOk_fst (memoryOk_copyWrite h2) he
          exact ih (memoryOk_elim h3 fun _ => memoryOk_mapCore h3 _ noteCopied_spad)

theorem memoryOk_copyRuns {y : CopyOp} {ns : List Nat} (h : s.MemoryOk) : (s.copyRuns c y ns).1.MemoryOk := by
  induction ns generalizing s y with
  | nil => exact h
  | cons n rest ih =>
    unfold State.copyRuns
    dsimp only
    split
    · next he => exact ih (memoryOk_fst (memoryOk_copySectors h) he)
    · exact memoryOk_copySectors h

theorem leadsOk_execCopyComplete {core span : Nat} (h : s.MemoryOk) : LeadsOk (execCopyComplete core span s) := by
  refine leadsOk_next ?_
  split
  · exact h
  · split
    · next he => exact memoryOk_mapCore (memoryOk_fst (memoryOk_copyRuns h) he) _ endCopy_spad
    · next he => exact memoryOk_mapCore (memoryOk_fst (memoryOk_copyRuns h) he) _ endCopy_spad
    · next he =>
      have h1 := memoryOk_fst (memoryOk_copyRuns h) he
      exact memoryOk_ite (memoryOk_keepCopy (memoryOk_mapCore h1 _ freeSpan_spad)) (memoryOk_keepCopy h1)

/-! ### Walks -/

theorem memoryOk_dieTranslate {cl slot va : Nat} (h : s.MemoryOk) : (s.dieTranslate cl slot va).1.MemoryOk := by
  unfold State.dieTranslate
  split
  · exact memoryOk_ite_fst h h
  · split
    · next he => exact memoryOk_fst (memoryOk_walk h) he
    · next he =>
      have h1 := memoryOk_fst (memoryOk_walk h) he
      exact memoryOk_ite_fst (memoryOk_setCluster h1 ..) h1

theorem memoryOk_pierRead {w : Walk} {va : Nat} (h : s.MemoryOk) : (s.pierRead w va n).1.MemoryOk := by
  unfold State.pierRead
  dsimp only
  split
  · next he => exact memoryOk_fst (memoryOk_dieTranslate h) he
  · next he =>
    have h1 := memoryOk_fst (memoryOk_dieTranslate h) he
    split
    · exact memoryOk_ite_fst h1 (memoryOk_homeRead h1 ..)
    all_goals exact h1

theorem memoryOk_pierWeights {w : Walk} {lo : Nat} {l : List Nat} (h : s.MemoryOk) : (s.pierWeights w lo l).1.MemoryOk := by
  induction l generalizing s with
  | nil => exact h
  | cons i rest ih =>
    unfold State.pierWeights
    split
    · next he => exact memoryOk_fst (memoryOk_pierRead h) he
    · next he =>
      have h1 := memoryOk_fst (memoryOk_pierRead h) he
      split
      · next he => exact memoryOk_fst (ih h1) he
      · next he => exact memoryOk_fst (ih h1) he

theorem memoryOk_walkStep {w : Walk} (h : s.MemoryOk) : (s.walkStep w).1.MemoryOk := by
  unfold State.walkStep
  refine memoryOk_ite_fst h ?_
  dsimp only
  split
  · next he => exact memoryOk_fst (memoryOk_pierRead h) he
  · next he =>
    have h1 := memoryOk_fst (memoryOk_pierRead h) he
    split
    · next he => exact memoryOk_fst (memoryOk_pierRead h1) he
    · next he =>
      have h2 := memoryOk_fst (memoryOk_pierRead h1) he
      split
      · next he => exact memoryOk_fst (memoryOk_pierWeights h2) he
      · next he =>
        have h3 := memoryOk_fst (memoryOk_pierWeights h2) he
        refine memoryOk_ite_fst (memoryOk_free h3 _) ?_
        split
        · next he => exact memoryOk_fst (memoryOk_pierRead (memoryOk_free h3 _)) he
        · next he => exact memoryOk_fst (memoryOk_pierRead (memoryOk_free h3 _)) he

theorem memoryOk_walkFlags {w : Walk} (h : s.MemoryOk) : (s.walkFlags w).MemoryOk := by
  unfold State.walkFlags
  dsimp only
  split
  · exact memoryOk_mapStrand h ..
  · split
    · exact h
    · split
      · next he => exact memoryOk_fst (memoryOk_virtRead h) he
      · next he => exact memoryOk_virtWrite (memoryOk_fst (memoryOk_virtRead h) he)

theorem memoryOk_walkToStream {w : Walk} {rec_ : Nat} (h : s.MemoryOk) : (s.walkToStream w rec_).MemoryOk := by
  refine memoryOk_mapCore h _ ?_
  split
  · rfl
  · split <;> rfl

theorem memoryOk_walkToRing {w : Walk} {unit : List Word} (h : s.MemoryOk) : (s.walkToRing w unit).MemoryOk :=
  memoryOk_ite h (memoryOk_mapCore (memoryOk_spadWrite h ..) _ rfl)

theorem leadsOk_execWalkHop {walk : Nat} (h : s.MemoryOk) : LeadsOk (execWalkHop walk s) := by
  refine leadsOk_next ?_
  split
  · exact h
  · refine memoryOk_ite h (memoryOk_ite h ?_)
    split
    next s1 rec_ w1 fault he =>
    have h1 := memoryOk_fst (memoryOk_walkStep h) he
    extract_lets s2 s3 drop
    have h2 : s2.MemoryOk := by
      unfold s2
      split
      · exact memoryOk_log h1 ..
      · exact h1
    have h3 : s3.MemoryOk := memoryOk_ite (memoryOk_walkFlags h2) h2
    have hdrop : ∀ {u z}, State.MemoryOk u → (drop u z).MemoryOk := fun hu => memoryOk_ite hu hu
    clear_value drop
    exact memoryOk_ite (hdrop (memoryOk_walkToStream h3)) (memoryOk_ite (hdrop (memoryOk_walkToRing h3))
      (memoryOk_ite (hdrop (memoryOk_walkToRing h3)) (hdrop h3)))

end Sys2Proof.Proofs
end

section
/-! Micro-ops of the matrix engine, and the frames of halted strands, keep memory in its canonical form. -/
namespace Sys2Proof.Proofs
open Sys2Proof Sys2Proof.Machine Sys2Proof.Laws

variable {s t : State} {c x slot va n v : Nat} {m : Micro} {o : MatrixOp} {k : Core}

/-- A core set to one whose scratchpad is that of a core of a machine in the form. -/
theorem memoryOk_setCore_of {u : State} {d : Nat} (h : s.MemoryOk) (hu : u.MemoryOk) (hk : k.spad = (u.core d).spad) :
    (s.setCore c k).MemoryOk := memoryOk_setCore h c (hk ▸ wf_spad hu d)

/-! ### The matrix queue -/

theorem memoryOk_stopOp (h : s.MemoryOk) : (s.stopOp c).MemoryOk := memoryOk_mapCore h c rfl

theorem memoryOk_chooseOp (h : s.MemoryOk) : (s.chooseOp c).MemoryOk := by
  have h1 : (s.stopOp c).MemoryOk := memoryOk_stopOp h
  unfold State.chooseOp
  extract_lets s1 k
  split
  · exact h1
  · extract_lets start
    clear_value start
    split
    · exact memoryOk_setCore_of h1 h1 rfl
    · exact memoryOk_ite (memoryOk_setCore_of h1 h1 rfl) h1

theorem leadsOk_execMatrixChoose {core : Nat} (h : s.MemoryOk) : LeadsOk (execMatrixChoose core s) :=
  leadsOk_next (memoryOk_ite h (memoryOk_chooseOp h))

theorem leadsOk_micro {f : Micro → State} (h : s.MemoryOk) (hf : ∀ m, m.st.MemoryOk → (f m).MemoryOk) : LeadsOk (s.micro f) := by
  unfold State.micro
  split
  · exact leadsOk_fault
  · split
    · exact leadsOk_fault
    · exact leadsOk_next (hf _ (by exact h))

/-! ### What micro-ops share -/

theorem memoryOk_keep (h : m.st.MemoryOk) : m.keep.MemoryOk := memoryOk_mapCore h _ rfl
theorem microOk_withOp (h : m.st.MemoryOk) : ({ m with op := o } : Micro).st.MemoryOk := h
theorem memoryOk_waits (h : m.st.MemoryOk) : m.waits.MemoryOk := memoryOk_stopOp h

theorem microOk_setTile {d : Nat} {w : TileReg} (h : m.st.MemoryOk) : (m.setTile d w).st.MemoryOk := by
  unfold Micro.setTile
  split
  · exact h
  · exact memoryOk_mapStrand h ..
  · exact h

theorem microOk_torn {addr : Nat} (h : m.st.MemoryOk) : (m.torn addr).st.MemoryOk := by
  unfold Micro.torn
  split
  · exact memoryOk_addDues (memoryOk_free h _)
  · exact h

theorem microOk_renew {d : Nat} (h : m.st.MemoryOk) : (m.renew d).st.MemoryOk := by
  unfold Micro.renew
  split
  · exact h
  · exact memoryOk_mapStrand h ..
  · exact h

theorem microOk_readTile {d : Nat} (h : m.st.MemoryOk) : (m.readTile d).st.MemoryOk := by
  unfold Micro.readTile
  split
  · exact h
  · exact microOk_torn (microOk_renew (microOk_setTile h))

theorem microOk_readRing {r : Nat} (h : m.st.MemoryOk) : (m.readRing r).st.MemoryOk := by
  unfold Micro.readRing
  split
  · exact h
  · extract_lets s1
    have h1 : s1.MemoryOk := memoryOk_mapCore h _ rfl
    split
    · exact memoryOk_addDues h1
    · exact h1

theorem popRings_spad {rs : List Nat} : (popRings k o rs).1.spad = k.spad := by
  unfold popRings
  induction rs generalizing k o with
  | nil => rfl
  | cons r rest ih => exact ih

theorem memoryOk_logEmulated {owner : Nat} {fmt : Word} (h : s.MemoryOk) : (s.logEmulated c owner fmt).MemoryOk := by
  unfold State.logEmulated
  exact memoryOk_ite h (memoryOk_ite (memoryOk_log (memoryOk_mapCore h _ rfl) ..) (memoryOk_mapCore h _ rfl))

theorem memoryOk_retire (h : m.st.MemoryOk) : m.retire.MemoryOk := by
  unfold Micro.retire
  extract_lets k p src s1 o word s2 owner s3 s4
  have h1 : s1.MemoryOk := memoryOk_setCore_of (d := m.core) h h popRings_spad
  have h2 : s2.MemoryOk := by
    unfold s2
    split
    · exact memoryOk_mapStrand h1 ..
    · exact h1
  have h3 : s3.MemoryOk := memoryOk_logEmulated h2
  exact memoryOk_chooseOp (memoryOk_ite h3 (memoryOk_log h3 ..))

theorem memoryOk_fail {status : Nat} (h : m.st.MemoryOk) : (m.fail status).MemoryOk := memoryOk_retire (by exact h)
theorem memoryOk_reserved (h : m.st.MemoryOk) : m.reserved.MemoryOk := memoryOk_fail h

theorem microOk_finishStep {a b : Nat} {ctl : BitVec 4} (h : m.st.MemoryOk) : (m.finishStep a b ctl).st.MemoryOk :=
  memoryOk_setCore_of (d := m.core) h h popRings_spad

theorem microOk_makeStep {d a b : Nat} (h : m.st.MemoryOk) : (m.makeStep d a b).st.MemoryOk := by
  unfold Micro.makeStep
  extract_lets k w fa fb g ua ub head ca c1 cb kappa m0 r sums ta tb xa xb meets m1
  have h0 : m0.st.MemoryOk := microOk_readTile h
  clear_value m0
  have h1 : m1.st.MemoryOk := by
    unfold m1
    split
    · exact microOk_setTile h0
    · exact microOk_torn (microOk_setTile h0)
  exact h1

/-! ### The micro-ops -/

theorem leadsOk_execKend (h : s.MemoryOk) : LeadsOk (execKend s) := leadsOk_micro h fun _ hm => memoryOk_retire hm

theorem leadsOk_execKzero {tile : BitVec 3} (h : s.MemoryOk) : LeadsOk (execKzero tile s) :=
  leadsOk_micro h fun _ hm => memoryOk_ite (memoryOk_fail hm) (memoryOk_keep (microOk_setTile (microOk_renew hm)))

theorem leadsOk_execKloop {csel : BitVec 6} {imm : BitVec 32} (h : s.MemoryOk) : LeadsOk (execKloop csel imm s) :=
  leadsOk_micro h fun _ hm => memoryOk_ite (memoryOk_reserved hm) (memoryOk_ite (memoryOk_fail hm)
    (memoryOk_ite (memoryOk_keep (by exact hm)) (memoryOk_keep (by exact hm))))

theorem leadsOk_execKendl (h : s.MemoryOk) : LeadsOk (execKendl s) :=
  leadsOk_micro h fun m hm => by
    split
    · exact memoryOk_fail hm
    · exact memoryOk_keep (by exact hm)
    · exact memoryOk_keep (by exact hm)

theorem leadsOk_execKstep {tile ra rb : BitVec 3} {csel : BitVec 6} {ctl : BitVec 4} {imm : BitVec 32} (h : s.MemoryOk) :
    LeadsOk (execKstep tile ra rb csel ctl imm s) :=
  leadsOk_micro h fun m hm => by
    refine memoryOk_ite (memoryOk_reserved hm) (memoryOk_ite (memoryOk_fail hm) ?_)
    have h1 := microOk_readRing (r := m.ringNo rb) (microOk_readRing (r := m.ringNo ra) hm)
    refine memoryOk_ite (memoryOk_fail h1) (memoryOk_ite (memoryOk_keep (microOk_finishStep h1)) (memoryOk_ite (memoryOk_waits h1) ?_))
    extract_lets m1 m2
    have h2 : m1.st.MemoryOk := microOk_makeStep h1
    have h3 : m2.st.MemoryOk := by
      unfold m2
      split
      · exact microOk_finishStep h2
      · exact h2
    exact memoryOk_chooseOp (memoryOk_keep h3)

theorem leadsOk_execKrows {tile mp : BitVec 3} (h : s.MemoryOk) : LeadsOk (execKrows tile mp s) :=
  leadsOk_micro h fun m hm => by
    refine memoryOk_ite (memoryOk_fail hm) (memoryOk_ite (memoryOk_fail hm) (memoryOk_ite (memoryOk_fail hm) ?_))
    have h0 := microOk_readTile (d := m.tileNo tile) hm
    generalize m.readTile (m.tileNo tile) = m0 at h0 ⊢
    extract_lets d old torn rows flags image m1
    clear_value torn
    have h1 : m1.st.MemoryOk := by
      unfold m1
      split
      · exact microOk_setTile h0
      · exact microOk_torn (microOk_setTile h0)
    exact memoryOk_keep (by exact h1)

theorem leadsOk_execKsum {tile : BitVec 3} (h : s.MemoryOk) : LeadsOk (execKsum tile s) :=
  leadsOk_micro h fun m hm => by
    refine memoryOk_ite (memoryOk_fail hm) (memoryOk_ite (memoryOk_fail hm) ?_)
    have h0 := microOk_readTile (d := m.tileNo tile) hm
    generalize m.readTile (m.tileNo tile) = m0 at h0 ⊢
    exact memoryOk_keep (microOk_withOp h0)

theorem memoryOk_freeze {space a sub : Nat} {p : List Byte} (h : m.st.MemoryOk) : (m.freeze space a p sub).MemoryOk := by
  unfold Micro.freeze
  exact memoryOk_ite h (memoryOk_mapCore (by exact h) _ rfl)

theorem memoryOk_writeSpad {l : List (Nat × List Byte)} (h : m.st.MemoryOk) : (m.writeSpad l).MemoryOk := by
  induction l generalizing m with
  | nil => exact h
  | cons e rest ih => exact memoryOk_ite (memoryOk_freeze h) (ih (memoryOk_spadWrite h ..))

theorem memoryOk_writeView {vit : Vitrine} {l : List (Nat × List Byte)} (h : m.st.MemoryOk) : (m.writeView slot vit l).MemoryOk := by
  induction l generalizing m with
  | nil => exact h
  | cons e rest ih =>
    unfold Micro.writeView
    refine memoryOk_ite (memoryOk_freeze h) ?_
    split
    · next he => exact ih (memoryOk_fst (memoryOk_virtWrite h) he)
    · next he => exact memoryOk_freeze (memoryOk_fst (memoryOk_virtWrite h) he)

theorem leadsOk_execKepi {tile : BitVec 3} {route : BitVec 2} {mp : BitVec 3} (h : s.MemoryOk) : LeadsOk (execKepi tile route mp s) :=
  leadsOk_micro h fun m hm => by
    refine memoryOk_ite (memoryOk_reserved hm) (memoryOk_ite (memoryOk_fail hm) (memoryOk_ite (memoryOk_fail hm)
      (memoryOk_ite (memoryOk_waits hm) ?_)))
    have h0 := microOk_readTile (d := m.tileNo tile) hm
    generalize m.readTile (m.tileNo tile) = m0 at h0 ⊢
    refine memoryOk_ite (memoryOk_keep (memoryOk_writeSpad (by exact h0))) (memoryOk_ite
      (memoryOk_keep (memoryOk_setCore_of (by exact h0) h0 rfl)) ?_)
    extract_lets off writes view
    clear_value view
    split
    · exact memoryOk_keep (memoryOk_freeze (by exact h0))
    · exact memoryOk_keep (memoryOk_writeView (by exact h0))

/-! ### Frames -/

theorem memoryOk_saveFrame {queued : Bool} (h : s.MemoryOk) : (s.saveFrame c x queued).MemoryOk := by
  unfold State.saveFrame
  split
  · exact h
  · exact memoryOk_mapCore h _ rfl

theorem memoryOk_sealFrames {queued : Bool} {p : Strand → Bool} (h : s.MemoryOk) : (s.sealFrames queued p).MemoryOk :=
  memoryOk_of (memoryOk_foldl (fun _ _ h => memoryOk_foldl (fun _ _ h => memoryOk_ite (memoryOk_saveFrame h) h) _ h) s.cores h) rfl rfl

theorem restoreShare_spad : k.restoreShare.spad = k.spad := by
  unfold Core.restoreShare
  dsimp only
  split <;> rfl

end Sys2Proof.Proofs
end

section
/-! The launch path, the islands and the meters, and the fabric keep memory in its canonical form. -/
namespace Sys2Proof.Proofs
open Sys2Proof Sys2Proof.Machine Sys2Proof.Laws

variable {s t : State} {c x q slot va off n v j g cl owner addr : Nat}

/-! ### Reads and writes of the agents -/

theorem memoryOk_agentRead (h : s.MemoryOk) : (s.agentRead slot va n).1.MemoryOk := by
  refine memoryOk_foldl_fst (fun p run hp => ?_) h
  split
  · exact hp
  · split
    · next he => exact memoryOk_fst (memoryOk_walk hp) he
    · next he =>
      have h1 := memoryOk_fst (memoryOk_walk hp) he
      refine memoryOk_ite_fst h1 ?_
      split
      · exact memoryOk_ite_fst h1 (memoryOk_homeRead h1 ..)
      · split
        · next he => exact memoryOk_fst (memoryOk_askRemote h1) he
        · next he => exact memoryOk_fst (memoryOk_askRemote h1) he
      · exact h1
      · exact h1

theorem memoryOk_agentWrite (h : s.MemoryOk) : (s.agentWrite slot va n v).1.MemoryOk := by
  refine memoryOk_foldl_fst (fun p run hp => ?_) h
  split
  · exact hp
  · dsimp only
    split
    · next he => exact memoryOk_fst (memoryOk_walk hp) he
    · next he =>
      have h1 := memoryOk_fst (memoryOk_walk hp) he
      refine memoryOk_ite_fst h1 ?_
      split
      · exact memoryOk_ite_fst h1 (memoryOk_engineWrite h1 ..)
      · exact memoryOk_tellRemote h1
      · exact h1
      · exact h1

theorem memoryOk_agentRecord (h : s.MemoryOk) : (s.agentRecord slot va v).1.MemoryOk := by
  unfold State.agentRecord
  split
  · exact memoryOk_freeReply (by exact h)
  · exact memoryOk_agentWrite h

theorem memoryOk_linesSeen {key : Nat} (h : s.MemoryOk) : (s.linesSeen off n key).MemoryOk :=
  memoryOk_foldl (fun _ _ h => memoryOk_ite (memoryOk_touchLine h) h) _ h
theorem memoryOk_deviceSeen (h : s.MemoryOk) : (s.deviceSeen off n).MemoryOk := memoryOk_linesSeen h

/-! ### Queues, nests and gangs -/

theorem memoryOk_setQueueReg (h : s.MemoryOk) : (s.setQueueReg q off v).MemoryOk := h
theorem memoryOk_refuse {w : Word} (h : s.MemoryOk) : (s.refuse addr owner w).MemoryOk := memoryOk_log h ..
theorem memoryOk_hostWrite {w : Word} {early : Bool} {f : State → State} (h : s.MemoryOk) (hf : (f s).MemoryOk) :
    (s.hostWrite addr owner w early f).MemoryOk := memoryOk_ite h (memoryOk_ite (memoryOk_refuse h) hf)

theorem leadsOk_execDoorbell {queue tail : Nat} (h : s.MemoryOk) : LeadsOk (execDoorbell queue tail s) :=
  leadsOk_next (memoryOk_hostWrite h (memoryOk_ite (memoryOk_log h ..) (memoryOk_setQueueReg h)))

theorem memoryOk_nestIrq {source : Nat} {r : NestRec} {feats : Word} (h : s.MemoryOk) : (s.nestIrq source r feats).MemoryOk := memoryOk_ite h h
theorem memoryOk_ringWrite {log2n image : Nat} (h : s.MemoryOk) : (s.ringWrite slot addr log2n image).1.MemoryOk :=
  memoryOk_agentRecord (by exact h)

theorem memoryOk_complete {r : Report} (h : s.MemoryOk) : (s.complete r).MemoryOk := by
  unfold State.complete
  extract_lets sat thr slot words image where_ made s2
  have h1 : made.1.MemoryOk := by
    refine memoryOk_ite_fst ?_ h
    split
    · next he => exact memoryOk_fst (memoryOk_ringWrite h) he
    · next he => exact memoryOk_log (memoryOk_fst (memoryOk_ringWrite h) he) ..
  have h2 : s2.MemoryOk := memoryOk_nestIrq h1
  exact memoryOk_ite h2 (memoryOk_log h2 ..)

theorem memoryOk_enqueueNest {r : NestRec} (h : s.MemoryOk) : (s.enqueueNest n r owner).MemoryOk := h
theorem memoryOk_dropHead (h : s.MemoryOk) : (s.dropHead n).MemoryOk := by
  unfold State.dropHead
  split <;> exact h

theorem leadsOk_execNestTake {queue : Nat} (h : s.MemoryOk) : LeadsOk (execNestTake queue s) := by
  refine leadsOk_next (memoryOk_ite h ?_)
  extract_lets w at_
  split
  next s1 raw he =>
  have h1 : s1.MemoryOk := memoryOk_fst (memoryOk_ite_fst h (memoryOk_ite_fst (memoryOk_homeRead h ..) h)) he
  exact memoryOk_ite (memoryOk_enqueueNest (memoryOk_setQueueReg h1)) (memoryOk_complete (memoryOk_log (memoryOk_setQueueReg h1) ..))

theorem leadsOk_execNestOffer (h : s.MemoryOk) : LeadsOk (execNestOffer s) := by
  refine leadsOk_next (memoryOk_ite h ?_)
  split
  · exact h
  · next src w _ =>
    have h1 := memoryOk_dropHead (n := src) h
    exact memoryOk_ite (memoryOk_complete (by exact h1)) (memoryOk_setNest (by exact h1))

theorem memoryOk_settleReload (h : s.MemoryOk) : s.settleReload.MemoryOk := memoryOk_ite h (memoryOk_setHreg h ..)

theorem memoryOk_prepareCore {window member : Nat} (h : s.MemoryOk) : (s.prepareCore c slot g owner window member).MemoryOk := by
  unfold State.prepareCore
  extract_lets k rec0 rec1 k1 s1 s2
  have hk : Memory.wf k1.spad = true := by
    unfold k1
    split
    · exact wf_spad h c
    · rfl
  have h1 : s1.MemoryOk := memoryOk_ite h h
  have h2 : s2.MemoryOk := memoryOk_setCore h1 _ hk
  exact memoryOk_ite (memoryOk_settleReload h2) h2

theorem memoryOk_noteFirst (h : s.MemoryOk) : s.noteFirst.MemoryOk := memoryOk_ite h h

/-- The reservations of clusters given back. -/
theorem memoryOk_unreserve {nest : Nat} {l : List Nat} (h : s.MemoryOk) :
    (l.foldl (fun (s : State) cl =>
      if (s.cluster cl).reservation = some nest then s.setCluster cl { s.cluster cl with reservation := none } else s) s).MemoryOk :=
  memoryOk_foldl (fun _ _ h => memoryOk_ite (memoryOk_setCluster h ..) h) _ h

theorem memoryOk_placeGang {nest : Nat} {w : Nest} {cs : List Nat} (h : s.MemoryOk) : (s.placeGang nest w cl cs).MemoryOk := by
  unfold State.placeGang
  extract_lets g slot src s1 s2 s3 s4
  have h3 : s3.MemoryOk := memoryOk_foldl (fun _ _ h =>
    memoryOk_foldl (fun _ _ h => memoryOk_setStrand h ..) _ (memoryOk_prepareCore h)) _ (memoryOk_setGang (by exact h))
  exact memoryOk_unreserve (memoryOk_setNest h3)

theorem leadsOk_execGangPlace {cluster : Nat} (h : s.MemoryOk) : LeadsOk (execGangPlace cluster s) := by
  have h0 := memoryOk_noteFirst h
  refine leadsOk_next ?_
  extract_lets s0
  split
  · exact h0
  · exact memoryOk_ite (memoryOk_noteFirst (memoryOk_placeGang h0)) h0

theorem leadsOk_execClusterReserve {cluster : Nat} (h : s.MemoryOk) : LeadsOk (execClusterReserve cluster s) := by
  have h0 := memoryOk_noteFirst h
  refine leadsOk_next ?_
  extract_lets s0
  split
  · exact memoryOk_ite h0 (memoryOk_ite (memoryOk_setCluster h0 ..) h0)
  · exact h0

theorem leadsOk_execFolioPickup {core : Nat} (h : s.MemoryOk) : LeadsOk (execFolioPickup core s) := by
  refine leadsOk_next ?_
  split
  · exact h
  · next f _ =>
    extract_lets cl src s0
    have h0 : s0.MemoryOk := memoryOk_setCluster h ..
    clear_value s0
    split
    · exact h0
    · split
      · exact h0
      · next g _ n _ =>
        extract_lets failed
        have hfailed : ∀ {u}, State.MemoryOk u → (failed u).MemoryOk := fun hu => memoryOk_endGang (memoryOk_log hu ..)
        clear_value failed
        split
        · next he => exact hfailed (memoryOk_fst (memoryOk_agentRead h0) he)
        · next he =>
          have h1 := memoryOk_fst (memoryOk_agentRead h0) he
          extract_lets w0
          split
          · next he => exact hfailed (memoryOk_fst (memoryOk_agentWrite h1) he)
          · next he =>
            have h2 := memoryOk_fst (memoryOk_agentWrite h1) he
            exact memoryOk_readerHalf (memoryOk_setStrand (memoryOk_setGang (memoryOk_ite h2 (memoryOk_prepareCore h2))) ..)

theorem memoryOk_haltGang {w : Gang} (h : s.MemoryOk) : (s.haltGang g w).MemoryOk :=
  memoryOk_foldl (fun _ _ h => memoryOk_ite h (memoryOk_mapCore h _ rfl)) _ (memoryOk_sealFrames
    (memoryOk_foldl (fun _ _ h => memoryOk_ite h (memoryOk_foldl (fun _ _ h => memoryOk_haltStrand h) _ h)) _ h))

theorem memoryOk_requestPreempt {why : Nat} (h : s.MemoryOk) : (s.requestPreempt g why).MemoryOk := by
  unfold State.requestPreempt
  split
  · exact memoryOk_ite (memoryOk_setGang h) h
  · exact h

theorem leadsOk_execGangPreempt {gang : Nat} (h : s.MemoryOk) : LeadsOk (execGangPreempt gang s) := by
  refine leadsOk_next ?_
  split
  · exact h
  · next w _ =>
    split
    · exact memoryOk_ite (memoryOk_requestPreempt h) h
    · refine memoryOk_ite ?_ ?_
      · have h1 := memoryOk_haltGang (g := gang) (w := w) h
        exact memoryOk_of h1 rfl rfl
      · split
        · exact memoryOk_enterDue h
        · exact h
    · exact h

theorem memoryOk_runGang (h : s.MemoryOk) : (s.runGang g).MemoryOk := by
  unfold State.runGang
  split
  · exact h
  · extract_lets s1 s2
    have h1 : s1.MemoryOk := memoryOk_foldl (fun _ _ h => memoryOk_ite h
      (memoryOk_foldl (fun _ _ h => memoryOk_mapStrand h ..) _ (memoryOk_mapCore h _ (by exact restoreShare_spad)))) _ h
    exact h1

theorem leadsOk_execGangResume {gang : Nat} (h : s.MemoryOk) : LeadsOk (execGangResume gang s) :=
  leadsOk_next (memoryOk_ite (memoryOk_runGang h) h)

theorem memoryOk_endTerminate (h : s.MemoryOk) : (s.endTerminate slot).MemoryOk := memoryOk_ite h h

theorem leadsOk_execNestRetire {nest : Nat} (h : s.MemoryOk) : LeadsOk (execNestRetire nest s) := by
  refine leadsOk_next ?_
  split
  · exact h
  · exact memoryOk_ite h (memoryOk_endTerminate (memoryOk_noteFirst (memoryOk_unreserve (memoryOk_complete (by exact h)))))

/-! ### Islands, meters and sensors -/

theorem memoryOk_logThrottle {point : Nat} (h : s.MemoryOk) : (s.logThrottle j point).MemoryOk := memoryOk_log h ..

theorem leadsOk_execOperatingPointChange {island : Nat} {demands : List Nat} (h : s.MemoryOk) :
    LeadsOk (execOperatingPointChange island demands s) :=
  leadsOk_next (memoryOk_ite h (memoryOk_logThrottle (by exact h)))

theorem memoryOk_addEnergy {uj : Nat} (h : s.MemoryOk) : (s.addEnergy off uj).MemoryOk := h

theorem memoryOk_islandTick {nj : Nat} (h : s.MemoryOk) : (s.islandTick j nj).MemoryOk := by
  unfold State.islandTick
  refine memoryOk_foldl (fun s e h => ?_) _ (memoryOk_addEnergy (memoryOk_addEnergy (by exact h)))
  split
  · exact memoryOk_setNest h
  · exact h

theorem memoryOk_gangCycles {w : Gang} (h : s.MemoryOk) : (s.gangCycles g w n).MemoryOk := by
  unfold State.gangCycles
  split
  · exact h
  · exact memoryOk_setNest h

theorem memoryOk_meter (h : s.MemoryOk) : (s.meter n).MemoryOk := memoryOk_foldl (fun _ _ h => memoryOk_gangCycles h) _ h
theorem memoryOk_noteSensor {k raw : Nat} (h : s.MemoryOk) : (s.noteSensor k raw).MemoryOk := h
theorem memoryOk_setReserve {uj : Nat} (h : s.MemoryOk) : (s.setReserve uj).MemoryOk := memoryOk_of h rfl rfl

theorem leadsOk_execEnergyTick {readings sensors : List Nat} {input reserve : Nat} (h : s.MemoryOk) :
    LeadsOk (execEnergyTick readings sensors input reserve s) := by
  refine leadsOk_next ?_
  extract_lets s1 raw s3 cool drawn nj sum whole src s4 s5
  have h1 : s1.MemoryOk := memoryOk_foldl (fun _ _ h => memoryOk_islandTick h) _ h
  clear_value s1
  have h3 : s3.MemoryOk := memoryOk_foldl (fun _ _ h => memoryOk_noteSensor (memoryOk_setHreg h ..)) _ h1
  clear_value s3 whole cool
  have h4 : s4.MemoryOk := memoryOk_of h3 rfl rfl
  clear_value s4
  have h5 : s5.MemoryOk := memoryOk_addEnergy h4
  exact memoryOk_setReserve (memoryOk_ite (memoryOk_setHreg h5 ..) h5)

theorem leadsOk_execSensorRetired {sensor : Nat} (h : s.MemoryOk) : LeadsOk (execSensorRetired sensor s) :=
  leadsOk_next (memoryOk_ite h (memoryOk_log (by exact h) ..))

theorem leadsOk_execTrapEntry {core ctx : Nat} (h : s.MemoryOk) : LeadsOk (execTrapEntry core ctx s) := leadsOk_next (memoryOk_enterDue h)

/-! ### Requests of other modules -/

variable {msg : RemoteMsg} {kind : ReqKind} {status data unit old link id sub : Nat}

theorem memoryOk_answerRemote (h : s.MemoryOk) : (s.answerRemote msg status data).MemoryOk := h

theorem memoryOk_answerDone (h : t.MemoryOk) : (s.answerDone t msg kind unit old).MemoryOk := by
  unfold State.answerDone
  split
  · exact memoryOk_answerRemote (memoryOk_spend h)
  · exact memoryOk_answerRemote h

theorem memoryOk_dropRemote (h : s.MemoryOk) : (s.dropRemote msg).MemoryOk := h
theorem memoryOk_holdRemote {w : Waiter} (h : s.MemoryOk) : (s.holdRemote w).MemoryOk := memoryOk_ite h (memoryOk_testWaiter (by exact h))

theorem memoryOk_performRemote (h : s.MemoryOk) : (s.performRemote q msg).MemoryOk := by
  -- unfolded as a function: applied, the kernel would evaluate the place of its address
  generalize hf : @State.performRemote = f
  delta State.performRemote at hf
  subst hf
  beta_reduce
  generalize s.place _ = where_
  split
  · extract_lets key sector
    split
    · exact memoryOk_holdRemote h
    · exact memoryOk_holdRemote h
    · exact memoryOk_answerRemote h
    · split
      · exact h
      · extract_lets s1
        have h1 : s1.MemoryOk := memoryOk_ite (memoryOk_homeRead h ..) h
        split
        · next hd => exact memoryOk_answerDone (memoryOk_atHomeNow h1 hd)
        · exact memoryOk_answerRemote h1
        · exact h
  · split
    · exact memoryOk_answerRemote h
    · exact memoryOk_answerRemote h
  · exact memoryOk_answerRemote h

theorem leadsOk_execRemoteRequest (h : s.MemoryOk) : LeadsOk (execRemoteRequest msg s) := by
  refine leadsOk_next (memoryOk_ite h (memoryOk_ite (memoryOk_dropRemote h) ?_))
  split
  · exact h
  · refine memoryOk_ite (memoryOk_answerRemote h) ?_
    split
    · exact memoryOk_answerRemote h
    · exact memoryOk_performRemote h

/-! ### Links, paths and silent modules -/

theorem memoryOk_notePaths (h : s.MemoryOk) : s.notePaths.MemoryOk := memoryOk_foldl (fun _ _ h => memoryOk_setHreg h ..) _ h
theorem memoryOk_takeDown (h : s.MemoryOk) : (s.takeDown link).MemoryOk := memoryOk_log (by exact h) ..

theorem leadsOk_execLinkRetry (h : s.MemoryOk) : LeadsOk (execLinkRetry link s) :=
  leadsOk_next (memoryOk_ite h (memoryOk_ite (memoryOk_takeDown (by exact h)) h))

theorem leadsOk_execLinkDown (h : s.MemoryOk) : LeadsOk (execLinkDown link s) :=
  leadsOk_next (memoryOk_ite h (memoryOk_ite h (memoryOk_takeDown h)))

theorem leadsOk_execRouteRemove (h : s.MemoryOk) : LeadsOk (execRouteRemove link s) :=
  leadsOk_next (memoryOk_ite h (memoryOk_notePaths (by exact h)))

theorem memoryOk_failAway {gone : Nat → Bool} (h : s.MemoryOk) : (s.failAway id sub gone).MemoryOk := by
  unfold State.failAway
  split
  · exact h
  · refine memoryOk_foldl (fun s i h => ?_) _ h
    split
    · exact h
    · split
      · exact memoryOk_ite (memoryOk_faultPart h) h
      · exact h

theorem leadsOk_execRemoteNoAnswer {req : Nat} (h : s.MemoryOk) : LeadsOk (execRemoteNoAnswer req s) := by
  refine leadsOk_next ?_
  split
  · exact h
  · split
    · exact h
    · extract_lets silent
      clear_value silent
      split
      · exact h
      · exact memoryOk_ite h (memoryOk_log (memoryOk_failAway h) ..)

theorem leadsOk_execMcload {value : BitVec 64} (h : s.MemoryOk) : LeadsOk (execMcload value s) := by
  refine leadsOk_next (memoryOk_hostWrite h (memoryOk_ite h ?_))
  extract_lets map s1
  have h1 : s1.MemoryOk := memoryOk_deviceSeen h
  exact memoryOk_of h1 rfl rfl

theorem leadsOk_execRoute1ChunkApply {core : Nat} (h : s.MemoryOk) : LeadsOk (execRoute1ChunkApply core s) := by
  refine leadsOk_next ?_
  split
  · exact h
  · next k rest _ =>
    refine memoryOk_ite h ?_
    have h1 : (s.mapCore core (fun c => { c with collq := rest })).MemoryOk := memoryOk_mapCore h _ rfl
    exact h1

end Sys2Proof.Proofs
end

section
/-! The collective engine keeps memory in its canonical form. -/
namespace Sys2Proof.Proofs
open Sys2Proof Sys2Proof.Machine Sys2Proof.Laws

variable {s t : State} {r : Replay} {g : Graph} {o : CollOp} {m : ChunkMsg} {i base off len v graph step n : Nat}

theorem leadsOk_execGload {addr : Nat} (h : s.MemoryOk) : LeadsOk (execGload addr s) := by
  refine leadsOk_next ?_
  extract_lets at_ stat
  have hstat : ∀ {u w}, State.MemoryOk u → (stat u w).MemoryOk := fun hu => hu
  clear_value stat
  refine memoryOk_hostWrite h (memoryOk_ite (hstat h) ?_)
  extract_lets head
  split
  next num g0 nops _ =>
  refine memoryOk_ite (hstat (memoryOk_deviceSeen h)) ?_
  extract_lets s1 images g good used c
  have h1 : s1.MemoryOk := memoryOk_deviceSeen h
  clear_value s1 good used
  exact memoryOk_ite (hstat h1) (memoryOk_ite (hstat h1) (memoryOk_ite (hstat h1) (hstat (memoryOk_of h1 rfl rfl))))

/-! ### Reads, writes and faults of a replay -/

theorem memoryOk_failLost (h : s.MemoryOk) : (s.failLost graph step).MemoryOk := by
  unfold State.failLost
  split
  · exact h
  · refine memoryOk_ite (memoryOk_failReplay h) ?_
    extract_lets unrun
    clear_value unrun
    split
    · exact memoryOk_failReplay h
    · exact h

theorem memoryOk_collRead (h : s.MemoryOk) : (s.collRead r base off len).1.MemoryOk := memoryOk_ite_fst h (memoryOk_agentRead h)

theorem memoryOk_replayWrite {op : Option Nat} (h : s.MemoryOk) : (s.replayWrite r op base n v).1.MemoryOk := by
  refine memoryOk_foldl_fst (fun p run hp => ?_) h
  split
  · exact hp
  · extract_lets y
    split
    · exact memoryOk_agentWrite hp
    · exact hp

theorem memoryOk_collWrite (h : s.MemoryOk) : (s.collWrite r i base off len v).1.MemoryOk := memoryOk_ite_fst h (memoryOk_replayWrite h)

/-! ### Chunks -/

theorem memoryOk_addLate (h : s.MemoryOk) : (s.addLate m).MemoryOk := by
  unfold State.addLate
  extract_lets src hold word discarded
  have hdiscarded : ∀ {u}, State.MemoryOk u → (discarded u).MemoryOk := fun hu => memoryOk_log hu ..
  have hhold : hold.MemoryOk := h
  clear_value discarded hold
  split
  · exact memoryOk_ite (hdiscarded h) hhold
  · extract_lets g
    split
    · exact h
    · refine memoryOk_ite (hdiscarded h) (memoryOk_ite hhold ?_)
      extract_lets noted
      split
      · split
        · next he => exact memoryOk_failReplay (memoryOk_fst (memoryOk_collRead h) he)
        · next he =>
          have h1 := memoryOk_fst (memoryOk_collRead h) he
          extract_lets w
          split
          · next he => exact memoryOk_failReplay (memoryOk_fst (memoryOk_collWrite (memoryOk_free h1 _)) he)
          · next he => exact memoryOk_log (memoryOk_setReplay (memoryOk_fst (memoryOk_collWrite (memoryOk_free h1 _)) he)) ..
      · exact hdiscarded (memoryOk_setReplay h)

theorem memoryOk_forwardLate (h : s.MemoryOk) : (s.forwardLate m).MemoryOk := memoryOk_ite (memoryOk_addLate h) h

theorem memoryOk_deliver (h : s.MemoryOk) : (s.deliver r m).MemoryOk := by
  unfold State.deliver
  dsimp only
  split
  · exact h
  · exact memoryOk_ite h (memoryOk_ite (memoryOk_forwardLate h) (memoryOk_setReplay h))

theorem memoryOk_sendChunk {group : Bool} {data flushes : Nat} {missing : BitVec 256} (h : s.MemoryOk) :
    (s.sendChunk r o group data flushes missing).MemoryOk := by
  refine memoryOk_ite h (memoryOk_ite ?_ h)
  split
  · exact memoryOk_deliver (by exact h)
  · exact h

/-! ### The operations of a replay -/

theorem memoryOk_opDone (h : s.MemoryOk) : (s.opDone graph step i).MemoryOk := by
  unfold State.opDone
  split
  · exact h
  · next r _ =>
    extract_lets g r1 s1 mine
    refine memoryOk_ite ?_ (memoryOk_setReplay h)
    have h1 : s1.MemoryOk := memoryOk_ite (memoryOk_setReplay h) (memoryOk_setReplay h)
    clear_value s1
    exact memoryOk_foldl (fun _ _ h => memoryOk_addLate h) _ (memoryOk_of h1 rfl rfl)

theorem memoryOk_opFault {e : Nat × Nat} {dside : Bool} (h : s.MemoryOk) : (s.opFault graph step i e dside).MemoryOk := by
  unfold State.opFault
  split
  · exact h
  · exact memoryOk_failReplay h

theorem memoryOk_opSent (h : s.MemoryOk) : (s.opSent graph step i).MemoryOk :=
  memoryOk_ite (memoryOk_opFault (memoryOk_free h _)) (memoryOk_opDone (memoryOk_free h _))

theorem memoryOk_reduceInput {side : Nat} (h : s.MemoryOk) : (s.reduceInput r g i o side).1.MemoryOk := by
  unfold State.reduceInput
  dsimp only
  refine memoryOk_ite_fst ?_ ?_
  · split
    · next he => exact memoryOk_fst (memoryOk_collRead h) he
    · next he => exact memoryOk_fst (memoryOk_collRead h) he
  · split <;> exact h

theorem memoryOk_reduced (h : s.MemoryOk) : (s.reduced r g i o).1.MemoryOk := by
  unfold State.reduced
  split
  · next he => exact memoryOk_fst (memoryOk_reduceInput h) he
  · next he =>
    have h1 := memoryOk_fst (memoryOk_reduceInput h) he
    split
    · next he => exact memoryOk_fst (memoryOk_reduceInput h1) he
    · next he =>
      have h2 := memoryOk_fst (memoryOk_reduceInput h1) he
      split
      exact memoryOk_free h2 _

theorem memoryOk_runReduce (h : s.MemoryOk) : (s.runReduce r g i o).MemoryOk := by
  unfold State.runReduce
  extract_lets flushes
  clear_value flushes
  split
  · next he => exact memoryOk_opFault (memoryOk_fst (memoryOk_reduced h) he)
  · next s1 v n missing he =>
    have h1 := memoryOk_fst (memoryOk_reduced h) he
    extract_lets r1 s2 src s3
    have h2 : s2.MemoryOk := memoryOk_setReplay h1
    have h3 : s3.MemoryOk := memoryOk_ite h2 h2
    clear_value s3
    refine memoryOk_ite ?_ (memoryOk_opSent (memoryOk_sendChunk h3))
    split
    · next he => exact memoryOk_opFault (memoryOk_fst (memoryOk_collWrite h3) he)
    · next he => exact memoryOk_opDone (memoryOk_fst (memoryOk_collWrite h3) he)

theorem memoryOk_runOp (h : s.MemoryOk) : (s.runOp r g i o).MemoryOk := by
  unfold State.runOp
  extract_lets copied
  have hcopied : ∀ {u w}, State.MemoryOk u → (copied u w).MemoryOk := fun {u w} hu => by
    unfold copied
    split
    · next he => exact memoryOk_opFault (memoryOk_fst (memoryOk_collWrite hu) he)
    · next he => exact memoryOk_opDone (memoryOk_fst (memoryOk_collWrite hu) he)
  clear_value copied
  refine memoryOk_ite (memoryOk_runReduce h) (memoryOk_ite (hcopied h) ?_)
  split
  · next he => exact memoryOk_opFault (memoryOk_fst (memoryOk_collRead h) he)
  · next he =>
    have h1 := memoryOk_fst (memoryOk_collRead h) he
    exact memoryOk_ite (hcopied h1) (memoryOk_opSent (memoryOk_sendChunk h1))

theorem memoryOk_stopUnit (h : s.MemoryOk) : (s.stopUnit r).MemoryOk := by
  unfold State.stopUnit
  extract_lets g s1
  split
  · exact h
  · extract_lets n write x
    have hwrite : ∀ {x}, State.MemoryOk x.1 → (write x).MemoryOk := fun {x} hx => by
      unfold write
      split
      · exact memoryOk_collWrite hx
      · exact hx
    clear_value write
    have h1 : s1.MemoryOk := memoryOk_free h _
    exact memoryOk_ite (hwrite h1) (memoryOk_ite (hwrite (memoryOk_collRead h1)) (memoryOk_ite (hwrite (memoryOk_reduced h1)) h1))

theorem memoryOk_noteSince (h : s.MemoryOk) : (s.noteSince graph step).MemoryOk := by
  unfold State.noteSince
  split
  · exact h
  · exact memoryOk_setReplay h

theorem memoryOk_runReplay (h : s.MemoryOk) : (s.runReplay graph step).MemoryOk := by
  unfold State.runReplay
  refine memoryOk_noteSince (memoryOk_foldl (fun s e h => ?_) _ (memoryOk_failLost h))
  split
  · exact h
  · refine memoryOk_ite h ?_
    split
    · exact h
    · split
      · exact memoryOk_ite (memoryOk_setReplay (memoryOk_free h _)) (memoryOk_runOp (memoryOk_setReplay (memoryOk_free h _)))
      · exact h

theorem memoryOk_runGraph (h : s.MemoryOk) : (s.runGraph graph).MemoryOk := by
  unfold State.runGraph
  split
  · exact memoryOk_runReplay h
  · exact h

/-! ### The events of the engine -/

theorem memoryOk_sendStarts {key : Word} (h : s.MemoryOk) : (s.sendStarts graph step key).MemoryOk := h

theorem leadsOk_execCollHandoff {core ctx : Nat} (h : s.MemoryOk) : LeadsOk (execCollHandoff core ctx s) := by
  refine leadsOk_next ?_
  split
  · exact h
  · next t _ =>
    split
    · next graph table bundle issued rest _ =>
      split
      next s0 done he =>
      have h0 := memoryOk_fst (memoryOk_writerHalf h) he
      extract_lets torn s1 step g bases dseed root c key r mine src s2 s3 s4 s5 s6
      have htorn : ∀ {u j}, State.MemoryOk u → (torn u j).MemoryOk := fun hu => memoryOk_mapStrand hu ..
      clear_value torn
      refine memoryOk_ite h0 ?_
      split
      · exact memoryOk_settleEnding (htorn (memoryOk_release h0))
      · have h1 : s1.MemoryOk := memoryOk_ite (htorn (memoryOk_mapCore h0 _ rfl)) h0
        clear_value s1
        have h2 : s2.MemoryOk := memoryOk_of (memoryOk_release (c := core) (x := ctx) h1) rfl rfl
        clear_value s2
        have h3 : s3.MemoryOk := memoryOk_ite (memoryOk_sendStarts h2) h2
        clear_value s3
        have h4 : s4.MemoryOk := by
          refine memoryOk_foldl (fun s m h => ?_) _ h3
          split
          · exact memoryOk_deliver h
          · exact h
        clear_value s4
        have h5 : s5.MemoryOk := by
          unfold s5
          split
          · exact memoryOk_failReplay h4
          · exact h4
        clear_value s5
        have h6 : s6.MemoryOk := by
          refine memoryOk_ite ?_ h5
          split
          · exact memoryOk_failReplay h5
          · exact h5
        exact memoryOk_settleEnding (memoryOk_runGraph h6)
    · exact h

theorem leadsOk_execStartFlit {key : Nat} (h : s.MemoryOk) : LeadsOk (execStartFlit graph step key s) := by
  refine leadsOk_next (memoryOk_ite h ?_)
  extract_lets s1
  have h1 : s1.MemoryOk := memoryOk_sendStarts h
  clear_value s1
  split
  · exact memoryOk_ite h1 (memoryOk_runGraph (memoryOk_setReplay h1))
  · exact memoryOk_ite h1 h1

theorem memoryOk_takeChunk {take : State → State} (h : s.MemoryOk) (ht : (take s).MemoryOk) : (s.takeChunk m take).MemoryOk :=
  memoryOk_ite h (memoryOk_ite h (memoryOk_ite h ht))

theorem leadsOk_execChunkArrival (h : s.MemoryOk) : LeadsOk (execChunkArrival m s) := by
  refine leadsOk_next ?_
  extract_lets late
  have hlate : ∀ {u}, State.MemoryOk u → (late u).MemoryOk := fun hu => memoryOk_ite (memoryOk_forwardLate hu) (memoryOk_log hu ..)
  clear_value late
  refine memoryOk_takeChunk h (memoryOk_ite h ?_)
  split
  · exact memoryOk_ite (hlate h) (memoryOk_runGraph (memoryOk_deliver h))
  · exact memoryOk_ite (hlate h) (memoryOk_ite h h)

theorem leadsOk_execLooseFlush {op : Nat} (h : s.MemoryOk) : LeadsOk (execLooseFlush graph step op s) := by
  refine leadsOk_next ?_
  split
  · exact h
  · extract_lets g
    split
    · exact memoryOk_ite h (memoryOk_runGraph (memoryOk_runReduce h))
    · exact h

theorem leadsOk_execLateAddend (h : s.MemoryOk) : LeadsOk (execLateAddend m s) :=
  leadsOk_next (memoryOk_takeChunk h (memoryOk_runGraph (memoryOk_addLate h)))

theorem leadsOk_execRootReleaseTimeout (h : s.MemoryOk) : LeadsOk (execRootReleaseTimeout graph step s) := by
  refine leadsOk_next ?_
  split
  · exact h
  · extract_lets g
    split
    · exact h
    · exact memoryOk_ite h (memoryOk_runGraph (memoryOk_setReplay h))

theorem leadsOk_execAbortFlit {msg : AbortMsg} (h : s.MemoryOk) : LeadsOk (execAbortFlit msg s) := by
  refine leadsOk_next (memoryOk_ite h ?_)
  split
  · exact memoryOk_sendAbort (memoryOk_failReplay h)
  · have h1 := memoryOk_sendAbort (m := msg) h
    exact memoryOk_ite h1 (memoryOk_of h1 rfl rfl)

/-! ### The end of a replay -/

theorem memoryOk_logLost {a flag : Nat} (h : s.MemoryOk) : (s.logLost r a flag).MemoryOk := memoryOk_log h ..

theorem memoryOk_closeReplay (h : s.MemoryOk) : (s.closeReplay r).MemoryOk := by
  unfold State.closeReplay
  extract_lets g status good s1 s2
  have h1 : s1.MemoryOk := by
    unfold s1
    split
    · exact memoryOk_ite (memoryOk_swapVitrine h) h
    · exact h
  clear_value s1
  have h2 : s2.MemoryOk := by
    refine memoryOk_ite h1 ?_
    split
    · next he => exact memoryOk_fst (memoryOk_replayWrite h1) he
    · next he => exact memoryOk_logLost (memoryOk_fst (memoryOk_replayWrite h1) he)
  exact memoryOk_setReplay h2

theorem memoryOk_recordReplay (h : s.MemoryOk) : (s.recordReplay r).MemoryOk := by
  unfold State.recordReplay
  extract_lets g status words
  clear_value words
  split
  next s3 made he =>
  have h3 : s3.MemoryOk := by
    split at he
    · next hw =>
      obtain ⟨rfl, -⟩ := Prod.mk.inj he
      exact memoryOk_fst (memoryOk_ringWrite h) hw
    · next hw =>
      obtain ⟨rfl, -⟩ := Prod.mk.inj he
      exact memoryOk_logLost (memoryOk_fst (memoryOk_ringWrite h) hw)
  extract_lets s4
  have h4 : s4.MemoryOk := memoryOk_ite h3 (memoryOk_log h3 ..)
  clear_value s4
  exact memoryOk_runGraph (memoryOk_of h4 rfl rfl)

theorem memoryOk_endReplay (h : s.MemoryOk) : (s.endReplay r).MemoryOk := by
  have h1 : (if r.closing then s else s.closeReplay r).MemoryOk := memoryOk_ite h (memoryOk_closeReplay h)
  exact memoryOk_ite h1 (memoryOk_recordReplay h1)

theorem leadsOk_execReplayComplete (h : s.MemoryOk) : LeadsOk (execReplayComplete graph step s) := by
  refine leadsOk_next ?_
  split
  · exact h
  · next r _ =>
    extract_lets g turn awake own s1
    refine memoryOk_ite h (memoryOk_ite (memoryOk_endReplay h) (memoryOk_ite (memoryOk_runGraph h) (memoryOk_ite (memoryOk_endReplay h) ?_)))
    have h1 : s1.MemoryOk := memoryOk_failReplay h
    split
    · exact memoryOk_endReplay h1
    · exact h1

/-! ### Modules that answer no more -/

theorem memoryOk_failPeers {module status : Nat} (h : s.MemoryOk) : (s.failPeers module status).MemoryOk := by
  refine memoryOk_foldl (fun s r h => ?_) _ h
  extract_lets named
  clear_value named
  split
  · exact memoryOk_failReplay h
  · exact h

theorem leadsOk_execHibernatingAnswer {module : Nat} (h : s.MemoryOk) : LeadsOk (execHibernatingAnswer module s) :=
  leadsOk_next (memoryOk_ite h (memoryOk_failPeers (by exact h)))

theorem leadsOk_execModuleLost {module : Nat} (h : s.MemoryOk) : LeadsOk (execModuleLost module s) := by
  refine leadsOk_next ?_
  split
  · exact h
  · refine memoryOk_ite h ?_
    exact memoryOk_failPeers (memoryOk_foldl (fun _ _ h => memoryOk_failAway h) _ (memoryOk_log (by exact h) ..))

theorem leadsOk_execPathRestored {module : Nat} {paths : List (List Nat)} (h : s.MemoryOk) : LeadsOk (execPathRestored module paths s) :=
  leadsOk_next (memoryOk_ite h (memoryOk_notePaths (by exact h)))

theorem leadsOk_execRouterOff (h : s.MemoryOk) : LeadsOk (execRouterOff s) := leadsOk_next (memoryOk_ite h h)

end Sys2Proof.Proofs
end

section
/-! Supply warnings, the drain, the Catalogue and the restore keep memory in its canonical form. -/
namespace Sys2Proof.Proofs
open Sys2Proof Sys2Proof.Machine Sys2Proof.Laws

variable {s t : State} {c x g key base n reserve owner : Nat} {r : Region}

/-- Memory in the form, beside cores whose scratchpads are in it. -/
theorem memoryOk_of_cores (h : s.MemoryOk) (hm : t.mem = s.mem) (hc : ∀ e ∈ t.cores, Memory.wf e.2.spad = true) : t.MemoryOk :=
  ⟨hm ▸ h.1, hc⟩

/-! ### The supply state -/

theorem memoryOk_setSupply (h : s.MemoryOk) : (s.setSupply n).MemoryOk := h
theorem memoryOk_enterNormal (h : s.MemoryOk) : s.enterNormal.MemoryOk := h
theorem memoryOk_settleRestore (h : s.MemoryOk) : s.settleRestore.MemoryOk := memoryOk_ite h h

theorem memoryOk_stopReplays (h : s.MemoryOk) : s.stopReplays.MemoryOk := by
  refine memoryOk_foldl (fun s r h => ?_) _ h
  split
  · exact memoryOk_failReplay (memoryOk_ite (memoryOk_stopUnit h) h)
  · exact h

theorem leadsOk_execSupplyWarning {input : Bool} (h : s.MemoryOk) : LeadsOk (execSupplyWarning input reserve s) := by
  refine leadsOk_next ?_
  extract_lets st s1 src s2
  have h1 : s1.MemoryOk := memoryOk_setSupply (memoryOk_setReserve h)
  clear_value s1
  have h2 : s2.MemoryOk := memoryOk_of h1 rfl rfl
  exact memoryOk_ite h (memoryOk_stopReplays (memoryOk_log h2 ..))

theorem memoryOk_noteHalted (h : s.MemoryOk) : (s.noteHalted g).MemoryOk := memoryOk_ite h h

theorem memoryOk_meetSupply (h : s.MemoryOk) : (s.meetSupply c x).MemoryOk := by
  unfold State.meetSupply
  split
  · exact h
  · extract_lets q halt
    have hhalt : halt.MemoryOk := memoryOk_noteHalted (memoryOk_haltStrand h)
    clear_value halt
    exact memoryOk_ite h (memoryOk_ite (memoryOk_enterDue h) (memoryOk_ite hhalt (memoryOk_ite (memoryOk_log hhalt ..)
      (memoryOk_ite h (memoryOk_ite hhalt (memoryOk_mapStrand (memoryOk_takeTrap h) ..))))))

theorem leadsOk_execSupplyTrap {core ctx : Nat} (h : s.MemoryOk) : LeadsOk (execSupplyTrap core ctx s) :=
  leadsOk_next (memoryOk_ite (memoryOk_meetSupply h) h)
theorem leadsOk_execHandlerOverrun {core ctx : Nat} (h : s.MemoryOk) : LeadsOk (execHandlerOverrun core ctx s) :=
  leadsOk_next (memoryOk_ite (memoryOk_meetSupply h) h)

/-! ### The drain -/

theorem memoryOk_drainGroup (h : s.MemoryOk) : (s.drainGroup key base).1.MemoryOk :=
  memoryOk_foldl_fst (fun _ _ h => memoryOk_claimLine h ..) h

theorem drainOk_ite {p : Prop} [Decidable p] {a b : Drain × Region} (ha : a.1.st.MemoryOk) (hb : b.1.st.MemoryOk) :
    (if p then a else b).1.st.MemoryOk := by
  split
  · exact ha
  · exact hb

theorem drainOk_groups {d : Drain} {budget : Nat} {first : Bool} {l : List Nat} (h : d.st.MemoryOk) :
    (d.groups budget key first r l).1.st.MemoryOk := by
  induction l generalizing d r with
  | nil => exact h
  | cons i rest ih =>
    unfold Drain.groups
    split
    next s1 lines he =>
    have h1 : s1.MemoryOk := memoryOk_fst (memoryOk_ite_fst h (memoryOk_drainGroup h)) he
    extract_lets image n cost s2
    have h2 : s2.MemoryOk := memoryOk_foldl (fun _ _ h => memoryOk_log h ..) _ h1
    clear_value s2
    exact drainOk_ite h (ih h2)

theorem drainOk_region {d : Drain} {budget : Nat} (h : d.st.MemoryOk) : (d.region budget r).st.MemoryOk := by
  unfold Drain.region
  extract_lets off index key
  split
  · exact h
  · split
    next d1 r1 he =>
    have h1 : d1.st.MemoryOk := by
      have h0 := drainOk_groups (budget := budget) (key := key) (first := index == 0) (r := { r with key := key })
        (l := List.range (r.length / 4096)) h
      rw [he] at h0
      exact h0
    extract_lets digest size r2 s1
    have h2 : s1.MemoryOk := memoryOk_ite (memoryOk_log h1 ..) h1
    clear_value s1
    exact memoryOk_free h2 _

theorem memoryOk_drain {groups : Nat} (h : s.MemoryOk) : (s.drain groups).MemoryOk := by
  have hd : ∀ {l : List Region} {d : Drain} {budget : Nat}, d.st.MemoryOk → (l.foldl (fun (d : Drain) r => d.region budget r) d).st.MemoryOk := by
    intro l
    induction l with
    | nil => exact fun h => h
    | cons r rest ih => exact fun h => ih (drainOk_region h)
  unfold State.drain
  extract_lets w works d
  have h1 : d.st.MemoryOk := hd h
  clear_value d
  exact memoryOk_of h1 rfl rfl

theorem memoryOk_sealHalted (h : s.MemoryOk) : s.sealHalted.MemoryOk :=
  memoryOk_sealFrames (memoryOk_foldl (fun _ _ h => memoryOk_settleEnding h) _ h)

theorem memoryOk_dismissWaiters (h : s.MemoryOk) : s.dismissWaiters.MemoryOk := by
  refine memoryOk_foldl (fun s w h => ?_) _ (by exact h)
  split <;> exact h

theorem leadsOk_execSaveComplete {groups : Nat} (h : s.MemoryOk) : LeadsOk (execSaveComplete groups s) := by
  have h1 := memoryOk_dismissWaiters (memoryOk_sealHalted h)
  exact leadsOk_next (memoryOk_ite h (memoryOk_ite (memoryOk_drain (memoryOk_setSupply h1)) (memoryOk_ite (memoryOk_of h1 rfl rfl) h)))

/-! ### The Catalogue -/

theorem memoryOk_logStatus {index status : Nat} (h : s.MemoryOk) : (s.logStatus r index status).MemoryOk := memoryOk_ite h (memoryOk_log h ..)
theorem memoryOk_logUncorr {index : Nat} (h : s.MemoryOk) : (s.logUncorr r index).MemoryOk := memoryOk_ite h (memoryOk_log h ..)
theorem memoryOk_logRegion {index status : Nat} (h : s.MemoryOk) : (s.logRegion r index status).MemoryOk :=
  memoryOk_logStatus (memoryOk_log h ..)

theorem leadsOk_execSealed {energy : Nat} (h : s.MemoryOk) : LeadsOk (execSealed energy s) := by
  refine leadsOk_next ?_
  extract_lets thermal slot budget c src s1 s2 s3
  have h1 : s1.MemoryOk := memoryOk_of h rfl rfl
  clear_value s1
  have h2 : s2.MemoryOk := memoryOk_log (memoryOk_foldl (fun _ _ h => memoryOk_logStatus (memoryOk_logUncorr h)) _ h1) ..
  clear_value s2
  have h3 : s3.MemoryOk := memoryOk_flushL2 h2
  clear_value s3
  exact memoryOk_ite h (memoryOk_ite (memoryOk_setHreg (by exact memoryOk_of h3 rfl rfl) ..) (memoryOk_setHreg h2 ..))

/-! ### Sag, shed and the thermal state -/

theorem leadsOk_execEnterSag (h : s.MemoryOk) : LeadsOk (execEnterSag s) := leadsOk_next (memoryOk_ite (memoryOk_of h rfl rfl) h)

theorem leadsOk_execEnterShed (h : s.MemoryOk) : LeadsOk (execEnterShed reserve s) := by
  have h1 := memoryOk_setSupply (n := 2) (memoryOk_setReserve (uj := reserve) h)
  exact leadsOk_next (memoryOk_ite (memoryOk_of h1 rfl rfl) h)

theorem memoryOk_noteShedOrd (h : s.MemoryOk) : s.noteShedOrd.MemoryOk := memoryOk_ite h (memoryOk_setHreg h ..)

theorem leadsOk_execShed (h : s.MemoryOk) : LeadsOk (execShed reserve s) := by
  refine leadsOk_next ?_
  extract_lets s0 ord
  have h0 : s0.MemoryOk := memoryOk_setReserve h
  clear_value s0
  refine memoryOk_ite h0 ?_
  split
  · exact h0
  · extract_lets s1 src s2
    have h1 : s1.MemoryOk := memoryOk_foldl (fun _ _ h => memoryOk_ite (memoryOk_requestPreempt h) h) _ h0
    have h2 : s2.MemoryOk := memoryOk_setCluster h1 ..
    clear_value s2
    exact memoryOk_log (by exact memoryOk_of h2 rfl rfl) ..

theorem leadsOk_execClusterRestore (h : s.MemoryOk) : LeadsOk (execClusterRestore reserve s) := by
  refine leadsOk_next ?_
  extract_lets s1
  have h1 : s1.MemoryOk := memoryOk_setReserve h
  clear_value s1
  refine memoryOk_ite h1 ?_
  split
  · exact h1
  · exact memoryOk_of h1 rfl rfl

theorem leadsOk_execReturnNormal (h : s.MemoryOk) : LeadsOk (execReturnNormal reserve s) :=
  leadsOk_next (memoryOk_ite (memoryOk_enterNormal (memoryOk_setReserve h)) (memoryOk_setReserve h))

theorem leadsOk_execInputReturn (h : s.MemoryOk) : LeadsOk (execInputReturn s) := leadsOk_next (memoryOk_ite (memoryOk_of h rfl rfl) h)

theorem leadsOk_execThermal (h : s.MemoryOk) : LeadsOk (execThermal s) := by
  refine leadsOk_next (memoryOk_ite h ?_)
  split
  · exact h
  · exact memoryOk_stopReplays (memoryOk_log (by exact memoryOk_of h rfl rfl) ..)

/-! ### The restore -/

theorem memoryOk_restoreSaved {w : Saved} (h : s.MemoryOk) : (s.restoreSaved w).MemoryOk := by
  unfold State.restoreSaved
  extract_lets cores host s1 s2 owners
  have h1 : State.MemoryOk { s1 with cores := s1.cores.map (fun (e : Nat × Core) => (e.1, { e.2 with routines := s1.islandRoutines e.1 })) } := by
    refine memoryOk_of_cores h rfl fun e he => ?_
    obtain ⟨y, hy, rfl⟩ := List.mem_map.1 he
    obtain ⟨z, -, rfl⟩ := List.mem_map.1 hy
    rfl
  have h2 : s2.MemoryOk := memoryOk_foldl (fun _ _ h => memoryOk_setCluster h ..) _ (memoryOk_of h1 rfl rfl)
  clear_value s2
  exact memoryOk_of h2 rfl rfl

theorem memoryOk_replayRegion {status : Nat} (h : s.MemoryOk) : (s.replayRegion r status).MemoryOk :=
  memoryOk_foldl (fun _ _ h => memoryOk_setHbmSector h ..) _ h

theorem memoryOk_markLost {ok : Nat → Bool} (h : s.MemoryOk) : (s.markLost ok).MemoryOk := memoryOk_of h rfl rfl

theorem memoryOk_emptied (h : s.MemoryOk) : s.emptied.MemoryOk :=
  memoryOk_foldl (fun _ _ h => memoryOk_setCluster h ..) _ (memoryOk_of_cores h rfl fun _ he => nomatch he)

theorem memoryOk_replayCatalogue {w : Catalogue} (h : s.MemoryOk) : (s.replayCatalogue w).MemoryOk := by
  unfold State.replayCatalogue
  extract_lets whole s0 statuses s1 s2 at_ image s3 ok s4 s5
  have h0 : s0.MemoryOk := by
    unfold s0
    split
    · exact memoryOk_ite (memoryOk_restoreSaved h) (memoryOk_emptied h)
    · exact memoryOk_emptied h
  clear_value s0
  have h1 : s1.MemoryOk := memoryOk_ite h0 (memoryOk_foldl (fun _ _ h => memoryOk_replayRegion h) _ h0)
  clear_value s1
  have h2 : s2.MemoryOk := memoryOk_foldl (fun _ _ h => memoryOk_logRegion h) _ h1
  clear_value s2
  have h3 : s3.MemoryOk := memoryOk_ite h2 (memoryOk_deviceWrite h2 ..)
  clear_value s3
  have h4 : s4.MemoryOk := memoryOk_markLost h3
  clear_value s4
  have h5 : s5.MemoryOk := memoryOk_foldl (fun _ _ h => memoryOk_setCluster h ..) _ (memoryOk_flushL2 h4)
  clear_value s5
  exact memoryOk_ite (memoryOk_settleRestore (memoryOk_setSupply h5)) (memoryOk_enterNormal h5)

/-- Off and on again, no core keeps anything and memory lists nothing (R420). -/
theorem memoryOk_powerCycle {selftest : Word} {logs : Bool} : (s.powerCycle selftest logs).MemoryOk := by
  unfold State.powerCycle
  extract_lets p s1 s2 s3
  have h1 : s1.MemoryOk := ⟨rfl, fun _ he => nomatch he⟩
  clear_value s1
  have h2 : s2.MemoryOk := memoryOk_ite h1 (memoryOk_foldl (fun _ _ h => memoryOk_setCluster h ..) _ h1)
  clear_value s2
  have h3 : s3.MemoryOk := memoryOk_ite h2 (memoryOk_foldl (fun _ _ h => memoryOk_setHreg h ..) _ h2)
  exact memoryOk_setHreg (memoryOk_setHreg (memoryOk_setHreg h3 ..) ..) ..

theorem memoryOk_logSelftest (h : s.MemoryOk) : s.logSelftest.MemoryOk := memoryOk_ite h (memoryOk_log h ..)
theorem memoryOk_enterPhase (h : s.MemoryOk) : (s.enterPhase n).MemoryOk := memoryOk_of h rfl rfl
theorem memoryOk_bringUp (h : s.MemoryOk) : s.bringUp.MemoryOk := by
  have h1 := memoryOk_enterPhase (n := 1) h
  exact memoryOk_logSelftest (memoryOk_ite (memoryOk_setSupply h1) (memoryOk_enterNormal h1))

theorem memoryOk_bootTick (h : s.MemoryOk) : s.bootTick.MemoryOk := by
  refine memoryOk_ite (memoryOk_of h rfl rfl) ?_
  split
  · exact memoryOk_setHreg h ..
  · exact memoryOk_setHreg h ..
  · exact memoryOk_of h rfl rfl
  · exact h

theorem leadsOk_execPowerOn {firmware : Bool} {modnum : Nat} {selftest : BitVec 64} {routes : List Route} (h : s.MemoryOk) :
    LeadsOk (execPowerOn firmware modnum selftest routes s) := by
  refine leadsOk_next (memoryOk_ite h ?_)
  extract_lets s1 table s2
  have h1 : s1.MemoryOk := memoryOk_setHreg memoryOk_powerCycle ..
  clear_value s1
  exact memoryOk_ite (memoryOk_setHreg h1 ..) (memoryOk_bringUp (memoryOk_notePaths (memoryOk_of h1 rfl rfl)))

theorem memoryOk_logBadSlot (h : s.MemoryOk) : s.logBadSlot.MemoryOk := by
  unfold State.logBadSlot
  split
  · exact memoryOk_ite h (memoryOk_log (memoryOk_log h ..) ..)
  · exact h

theorem leadsOk_execRestoreBegin (h : s.MemoryOk) : LeadsOk (execRestoreBegin reserve s) := by
  have h1 := memoryOk_logBadSlot (memoryOk_enterPhase (n := 4) (memoryOk_setReserve (uj := reserve) h))
  refine leadsOk_next (memoryOk_ite h ?_)
  extract_lets s1
  split
  · exact memoryOk_replayCatalogue h1
  · exact memoryOk_enterNormal (memoryOk_markLost h1)

theorem memoryOk_resumeHalted (h : s.MemoryOk) : (s.resumeHalted g).MemoryOk :=
  memoryOk_foldl (fun _ _ h => memoryOk_ite h (memoryOk_foldl (fun _ _ h => memoryOk_mapStrand h ..) _
    (memoryOk_mapCore h _ restoreShare_spad))) _ h

theorem memoryOk_resumeOwner (h : s.MemoryOk) : (s.resumeOwner owner).MemoryOk := by
  unfold State.resumeOwner
  extract_lets mine back s1 active order s3 s2
  have hback : ∀ {u f}, State.MemoryOk u → (back u f).MemoryOk := fun {u f} hu => by
    unfold back
    split
    · exact memoryOk_ite (memoryOk_virtWrite hu) hu
    · exact hu
  clear_value back
  have h1 : s1.MemoryOk := memoryOk_foldl (fun _ _ h => hback h) _ h
  clear_value s1
  have h3 : s3.MemoryOk := memoryOk_foldl (fun _ _ h => memoryOk_resumeHalted h) _ h1
  clear_value s3
  exact memoryOk_settleRestore (memoryOk_of h3 rfl rfl)

/-- Owners resumed one after another. -/
theorem memoryOk_resumeOwners {l : List Nat} (h : s.MemoryOk) : (l.foldl (fun (s : State) k => s.resumeOwner k) s).MemoryOk :=
  memoryOk_foldl (fun _ _ h => memoryOk_resumeOwner h) _ h

theorem leadsOk_execRestoreResume (h : s.MemoryOk) : LeadsOk (execRestoreResume owner s) :=
  leadsOk_next (memoryOk_hostWrite h (memoryOk_ite h (memoryOk_resumeOwners h)))

theorem leadsOk_execThermalEnd (h : s.MemoryOk) : LeadsOk (execThermalEnd s) := by
  refine leadsOk_next ?_
  split
  · exact h
  · refine memoryOk_ite h ?_
    extract_lets src s1 s2
    have h2 : s2.MemoryOk := memoryOk_logBadSlot (memoryOk_log (by exact memoryOk_of h rfl rfl) ..)
    clear_value s2
    split
    · exact memoryOk_ite (memoryOk_enterNormal (memoryOk_emptied h2)) (memoryOk_resumeOwners (memoryOk_replayCatalogue h2))
    · exact memoryOk_enterNormal (memoryOk_emptied h2)

end Sys2Proof.Proofs
end

section
/-! The host's commands, time, owners, routines, Vitrines, checkpoints and upsets keep memory in its canonical form. -/
namespace Sys2Proof.Proofs
open Sys2Proof Sys2Proof.Machine Sys2Proof.Laws

variable {s t : State} {c x q slot off n addr owner : Nat}

/-! ### The accession list, time and reset -/

theorem leadsOk_execAcclist (h : s.MemoryOk) : LeadsOk (execAcclist addr s) := by
  refine leadsOk_next ?_
  extract_lets at_ stat kept
  have hstat : ∀ {u n k}, State.MemoryOk u → (stat u n k).MemoryOk := fun hu => memoryOk_setHreg hu ..
  clear_value stat
  refine memoryOk_hostWrite h (memoryOk_ite (hstat h) ?_)
  extract_lets es s1 list ends mapped save meets
  have h1 : s1.MemoryOk := memoryOk_deviceSeen h
  clear_value s1 list mapped meets save es
  exact memoryOk_ite (hstat h1) (memoryOk_ite (hstat h1) (memoryOk_ite (hstat h1)
    (hstat (memoryOk_setHreg (by exact memoryOk_of h1 rfl rfl) ..))))

theorem memoryOk_timeSet (h : s.MemoryOk) : s.timeSet.MemoryOk := memoryOk_ite (memoryOk_setHreg h ..) h

theorem leadsOk_execTimeExchange {master : Nat} {error : BitVec 32} (h : s.MemoryOk) : LeadsOk (execTimeExchange master error s) := by
  refine leadsOk_next ?_
  extract_lets own current e locked word src power s1
  have h0 : src.MemoryOk := memoryOk_setHreg h ..
  clear_value src
  have h1 : s1.MemoryOk := memoryOk_of h0 rfl rfl
  clear_value s1
  exact memoryOk_ite h (memoryOk_ite (memoryOk_timeSet h1) h1)

theorem leadsOk_execMasterLost {master : Nat} (h : s.MemoryOk) : LeadsOk (execMasterLost master s) := by
  refine leadsOk_next ?_
  split
  · exact h
  · exact memoryOk_ite h (memoryOk_of h rfl rfl)

theorem leadsOk_execTimePhaseTimeout (h : s.MemoryOk) : LeadsOk (execTimePhaseTimeout s) := leadsOk_next (memoryOk_ite (memoryOk_timeSet h) h)

theorem leadsOk_execWarmReset {key selftest : BitVec 64} (h : s.MemoryOk) : LeadsOk (execWarmReset key selftest s) := by
  refine leadsOk_next (memoryOk_ite h (memoryOk_hostWrite h ?_))
  extract_lets s0 s1 s2
  have h0 : s0.MemoryOk := memoryOk_flushL2 h
  have h1 : s1.MemoryOk := memoryOk_powerCycle
  clear_value s0 s1
  have h2 : s2.MemoryOk := ⟨h0.1, h1.2⟩
  exact memoryOk_bringUp (memoryOk_notePaths h2)

theorem leadsOk_execAttestationRequest (h : s.MemoryOk) : LeadsOk (execAttestationRequest addr s) := by
  refine leadsOk_next (memoryOk_hostWrite h (memoryOk_ite (memoryOk_setHreg h ..) (memoryOk_ite ?_ ?_)))
  · exact memoryOk_setHreg (memoryOk_deviceSeen h) ..
  · exact memoryOk_setHreg (memoryOk_deviceWrite (memoryOk_deviceSeen h) ..) ..

/-! ### Owners -/

theorem memoryOk_setSlotReg {v : Nat} (h : s.MemoryOk) : (s.setSlotReg q off v).MemoryOk := h

theorem memoryOk_ownerCommand {cmd : Nat} {f : State → State} (h : s.MemoryOk) (hf : (f s).MemoryOk) : (s.ownerCommand slot cmd f).MemoryOk :=
  memoryOk_hostWrite h (memoryOk_ite h hf)

theorem leadsOk_execSuspend (h : s.MemoryOk) : LeadsOk (execSuspend slot s) :=
  leadsOk_next (memoryOk_ownerCommand h (memoryOk_foldl (fun _ _ h => memoryOk_requestPreempt h) _ (memoryOk_setSlotReg h)))

theorem leadsOk_execOwnerSuspended (h : s.MemoryOk) : LeadsOk (execOwnerSuspended slot s) :=
  leadsOk_next (memoryOk_ite (memoryOk_setSlotReg h) h)

theorem leadsOk_execResume (h : s.MemoryOk) : LeadsOk (execResume slot s) :=
  leadsOk_next (memoryOk_ownerCommand h (memoryOk_ite (memoryOk_setSlotReg h) h))

theorem memoryOk_removeVitrine (h : s.MemoryOk) : (s.removeVitrine n).MemoryOk := by
  unfold State.removeVitrine
  split
  · exact h
  · extract_lets s1 s2
    have h1 : s1.MemoryOk := memoryOk_of h rfl rfl
    have h2 : s2.MemoryOk := memoryOk_mapCores h1 (by exact fun _ he => he)
    exact memoryOk_setHreg h2 ..

theorem memoryOk_abortWaiting (h : s.MemoryOk) : (s.abortWaiting owner).MemoryOk := by
  refine memoryOk_foldl (fun s e h => ?_) _ h
  extract_lets rest kept src s1
  have h1 : s1.MemoryOk := memoryOk_of h rfl rfl
  clear_value s1
  exact memoryOk_foldl (fun _ _ h => memoryOk_complete h) _ h1

theorem memoryOk_abortReplays (h : s.MemoryOk) : (s.abortReplays owner).MemoryOk := by
  refine memoryOk_foldl (fun s r h => ?_) _ h
  split
  · exact h
  · extract_lets s1
    have h1 : s1.MemoryOk := memoryOk_ite (memoryOk_setReplay h) (memoryOk_failReplay h)
    clear_value s1
    split
    · exact memoryOk_recordReplay (memoryOk_ite h1 (memoryOk_closeReplay h1))
    · exact h1

theorem memoryOk_abortNests (h : s.MemoryOk) : (s.abortNests owner).MemoryOk := by
  unfold State.abortNests
  extract_lets mine src s1
  have h1 : s1.MemoryOk := memoryOk_of h rfl rfl
  clear_value s1 mine
  exact memoryOk_noteFirst (memoryOk_foldl (fun _ _ h => memoryOk_ite (memoryOk_setCluster h ..) h) _ h1)

theorem memoryOk_power {p : Power} (h : s.MemoryOk) : State.MemoryOk { s with power := p } := h

theorem leadsOk_execTerminate (h : s.MemoryOk) : LeadsOk (execTerminate slot s) := by
  refine leadsOk_next (memoryOk_ownerCommand h ?_)
  extract_lets owner s1 s4 s5 s6
  have h1 : s1.MemoryOk := memoryOk_foldl (fun _ _ h => memoryOk_endGang h) _ (memoryOk_setSlotReg h)
  clear_value s1
  have h4 : s4.MemoryOk := memoryOk_abortReplays (memoryOk_abortWaiting (memoryOk_abortNests h1))
  clear_value s4
  have h5 : s5.MemoryOk := memoryOk_foldl (fun _ _ h => memoryOk_ite (memoryOk_setQueueReg h) h) _ h4
  clear_value s5
  have h6 : s6.MemoryOk := memoryOk_foldl (fun _ _ h => memoryOk_removeVitrine h) _ h5
  clear_value s6
  exact memoryOk_endTerminate (memoryOk_settleRestore (memoryOk_power h6))

theorem leadsOk_execIslandsWrite {value : BitVec 64} (h : s.MemoryOk) : LeadsOk (execIslandsWrite slot value s) :=
  leadsOk_next (memoryOk_hostWrite h (memoryOk_ite h (memoryOk_ite (memoryOk_refuse h) (memoryOk_setSlotReg h))))

theorem leadsOk_execRegselWrite {value : BitVec 64} (h : s.MemoryOk) : LeadsOk (execRegselWrite value s) :=
  leadsOk_next (memoryOk_hostWrite h (memoryOk_setHreg h ..))

/-! ### Invalidations, keys and routines -/

theorem memoryOk_dropEntries (h : s.MemoryOk) : (s.dropEntries q).MemoryOk := by
  unfold State.dropEntries
  split
  extract_lets drop
  have h1 := memoryOk_mapCores (f := fun e => { e.2 with utlb := drop e.2.utlb }) h fun _ he => he
  exact memoryOk_of h1 rfl rfl

theorem leadsOk_execInvcmd {value : BitVec 64} (h : s.MemoryOk) : LeadsOk (execInvcmd value s) :=
  leadsOk_next (memoryOk_hostWrite h (memoryOk_setHreg (memoryOk_setHreg (memoryOk_dropEntries h) ..) ..))

theorem leadsOk_execInvalidationComplete (h : s.MemoryOk) : LeadsOk (execInvalidationComplete s) :=
  leadsOk_next (memoryOk_ite h (memoryOk_setHreg (memoryOk_dropEntries h) ..))

theorem leadsOk_execKeyload (h : s.MemoryOk) : LeadsOk (execKeyload addr s) := by
  refine leadsOk_next (memoryOk_hostWrite h (memoryOk_ite (memoryOk_setHreg h ..) ?_))
  extract_lets w s1 q
  have h1 : s1.MemoryOk := memoryOk_deviceSeen h
  clear_value s1 w
  refine memoryOk_ite (memoryOk_setHreg (memoryOk_refuse h1) ..) ?_
  split
  · exact memoryOk_setHreg h1 ..
  · exact memoryOk_setHreg (by exact memoryOk_of h1 rfl rfl) ..

theorem leadsOk_execRtload {value : BitVec 64} (h : s.MemoryOk) : LeadsOk (execRtload value s) := by
  refine leadsOk_next (memoryOk_hostWrite h ?_)
  extract_lets q at_ s1 cores
  have h1 : s1.MemoryOk := memoryOk_deviceSeen h
  split
  · exact memoryOk_setHreg (memoryOk_ite h1 h) ..
  · extract_lets s2 s3
    have h2 : s2.MemoryOk := memoryOk_of h1 rfl rfl
    exact memoryOk_setHreg (memoryOk_foldl (fun _ _ h => memoryOk_mapCore h _ rfl) _ h2) ..

theorem leadsOk_execCoreRoutineLoad {core : Nat} (h : s.MemoryOk) : LeadsOk (execCoreRoutineLoad core s) :=
  leadsOk_next (memoryOk_ite h (memoryOk_settleReload (memoryOk_setCore_of (d := core) h h rfl)))

/-! ### Vitrines -/

theorem leadsOk_execVitload {value : BitVec 64} (h : s.MemoryOk) : LeadsOk (execVitload value s) := by
  refine leadsOk_next (memoryOk_hostWrite h ?_)
  extract_lets stat q at_ w s1 word
  have hstat : ∀ {u n}, State.MemoryOk u → (stat u n).MemoryOk := fun hu => memoryOk_setHreg hu ..
  have h1 : s1.MemoryOk := memoryOk_deviceSeen h
  clear_value stat s1 word
  exact memoryOk_ite (hstat h1) (memoryOk_ite (hstat h1) (memoryOk_ite (hstat h1) (memoryOk_ite (hstat h1) (hstat (memoryOk_of h1 rfl rfl)))))

theorem leadsOk_execVitclr {index : Nat} (h : s.MemoryOk) : LeadsOk (execVitclr index s) :=
  leadsOk_next (memoryOk_hostWrite h (memoryOk_removeVitrine h))

theorem leadsOk_execVitrineRemoved {index : Nat} (h : s.MemoryOk) : LeadsOk (execVitrineRemoved index s) := by
  refine leadsOk_next ?_
  split
  · exact h
  · have h1 : State.MemoryOk { s with vitrines := Tab.erase s.vitrines index } := memoryOk_of h rfl rfl
    exact memoryOk_ite h (memoryOk_ite h1 (memoryOk_setHreg h1 ..))

/-! ### Registers of the host -/

theorem leadsOk_execFeatDrvWrite {word : Nat} {value : BitVec 64} (h : s.MemoryOk) : LeadsOk (execFeatDrvWrite word value s) := by
  refine leadsOk_next (memoryOk_hostWrite h ?_)
  extract_lets s1
  have h1 : s1.MemoryOk := memoryOk_ite (memoryOk_setHreg h ..) h
  exact memoryOk_ite (memoryOk_setHreg h1 ..) h1

theorem leadsOk_execTrigctlArm {value : BitVec 64} (h : s.MemoryOk) : LeadsOk (execTrigctlArm value s) :=
  leadsOk_next (memoryOk_hostWrite h (memoryOk_setHreg (by exact memoryOk_ite (memoryOk_of h rfl rfl) h) ..))

theorem leadsOk_execTrigfire (h : s.MemoryOk) : LeadsOk (execTrigfire s) := leadsOk_next (memoryOk_hostWrite h (memoryOk_fire h _))

theorem memoryOk_hostRead (h : s.MemoryOk) : (s.hostRead off).MemoryOk := memoryOk_of h rfl rfl

theorem leadsOk_execEnergyLowRead (h : s.MemoryOk) : LeadsOk (execEnergyLowRead off s) := leadsOk_next (memoryOk_of h rfl rfl)

theorem leadsOk_execEnergyHighRead (h : s.MemoryOk) : LeadsOk (execEnergyHighRead off s) := by
  refine leadsOk_next ?_
  extract_lets a
  split
  · exact memoryOk_of h rfl rfl
  · exact memoryOk_of h rfl rfl

theorem leadsOk_execPatrolScrub {finding : Nat} (h : s.MemoryOk) : LeadsOk (execPatrolScrub addr finding s) :=
  leadsOk_next (memoryOk_ite h (memoryOk_ite (memoryOk_correct h) (memoryOk_ite
    (memoryOk_log (by exact memoryOk_ite (memoryOk_of h rfl rfl) (memoryOk_of h rfl rfl)) ..) h)))

/-! ### Loads and stores of the host -/

theorem leadsOk_execHostLoad {size : Nat} (h : s.MemoryOk) : LeadsOk (execHostLoad addr size s) := by
  refine leadsOk_next ?_
  extract_lets n ans refused
  have hans : ∀ {u v}, State.MemoryOk u → (ans u v).MemoryOk := fun hu => memoryOk_of hu rfl rfl
  have hrefused : (refused s).MemoryOk := hans (memoryOk_refuse h)
  clear_value ans refused
  split
  · exact hrefused
  · refine memoryOk_ite (memoryOk_ite (hans (memoryOk_linesSeen (memoryOk_free h _))) (hans (memoryOk_linesSeen h))) ?_
    split
    · exact memoryOk_ite (hans h) hrefused
    · exact hrefused

theorem leadsOk_execHostStore {mask : BitVec 32} {data : BitVec 256} (h : s.MemoryOk) : LeadsOk (execHostStore addr mask data s) := by
  refine leadsOk_next (memoryOk_hostWrite h ?_)
  split
  · exact memoryOk_refuse h
  · refine memoryOk_ite h ?_
    extract_lets s1 s3
    have h1 : s1.MemoryOk := memoryOk_claimLine h ..
    clear_value s1
    have h3 : s3.MemoryOk := memoryOk_ite h1 (memoryOk_setHbmSector h1 ..)
    exact memoryOk_ite (memoryOk_engineWrite h1 ..) (memoryOk_markDirty (memoryOk_testGlobal (memoryOk_clearTags h3 ..) ..) _)

theorem memoryOk_writeSlot {value : Word} (h : s.MemoryOk) : (s.writeSlot q value).MemoryOk := by
  unfold State.writeSlot
  extract_lets old v owner valid refused s1
  have h1 : s1.MemoryOk := memoryOk_setSlotReg h
  clear_value s1 refused valid
  refine memoryOk_ite (memoryOk_refuse h) (memoryOk_ite (memoryOk_ite h1 ?_) (memoryOk_ite (memoryOk_setSlotReg h1) h1))
  have h2 : (s1.setSlotReg q 0x38 1).MemoryOk := memoryOk_setSlotReg h1
  exact memoryOk_of h2 rfl rfl

theorem memoryOk_writeQueue {value : Word} (h : s.MemoryOk) : (s.writeQueue q off value).MemoryOk :=
  memoryOk_ite (memoryOk_setQueueReg h) (memoryOk_ite (memoryOk_setQueueReg h) h)

theorem leadsOk_execRegisterWrite {value : BitVec 64} (h : s.MemoryOk) : LeadsOk (execRegisterWrite off value s) := by
  refine leadsOk_next (memoryOk_hostWrite h ?_)
  extract_lets put m
  have hput : ∀ {k}, (put s k).MemoryOk := memoryOk_setSlotReg h
  clear_value put
  refine memoryOk_ite ?_ (memoryOk_ite (memoryOk_writeQueue h) (memoryOk_setHreg h ..))
  split
  · exact memoryOk_writeSlot h
  · exact memoryOk_ite (memoryOk_refuse h) hput
  · exact hput
  · exact hput
  · exact hput
  · exact h

/-! ### Checkpoints -/

theorem memoryOk_setCkstat {seq code : Nat} (h : s.MemoryOk) : (s.setCkstat seq code).MemoryOk := memoryOk_setHreg h ..

theorem memoryOk_captureGranule {key region : Nat} (h : s.MemoryOk) : (s.captureGranule key region off).1.MemoryOk := by
  unfold State.captureGranule
  extract_lets s0
  have h0 : s0.MemoryOk := memoryOk_of h rfl rfl
  clear_value s0
  refine memoryOk_foldl_fst (fun p i hp => ?_) h0
  split
  next he => exact memoryOk_fst (memoryOk_drainGroup hp) he

theorem memoryOk_captureRegions {diff : Bool} (h : s.MemoryOk) : (s.captureRegions diff).1.MemoryOk := by
  refine memoryOk_foldl_fst (fun p e hp => ?_) h
  extract_lets r key gs lines
  clear_value key gs lines
  split
  next s1 image bad he =>
  have h1 : s1.MemoryOk := by
    refine memoryOk_fst ?_ he
    refine memoryOk_foldl_fst (fun b o hb => ?_) hp
    dsimp only
    exact memoryOk_captureGranule hb
  exact h1

theorem leadsOk_execCkreq (h : s.MemoryOk) : LeadsOk (execCkreq addr s) := by
  refine leadsOk_next (memoryOk_hostWrite h ?_)
  extract_lets at_ v s1 w g own members good diff
  have h1 : s1.MemoryOk := memoryOk_deviceSeen h
  clear_value s1 good members
  refine memoryOk_ite h1 (memoryOk_ite (memoryOk_setCkstat h1) ?_)
  split
  next s2 stream regions he =>
  have h2 := memoryOk_fst (memoryOk_captureRegions h1) he
  exact memoryOk_setCkstat (by exact memoryOk_of h2 rfl rfl)

theorem memoryOk_appendArea {data : List Byte} (h : s.MemoryOk) : (s.appendArea data).1.MemoryOk := by
  unfold State.appendArea
  extract_lets base at_ s1
  have h1 : s1.MemoryOk := memoryOk_deviceWrite h ..
  clear_value s1
  exact memoryOk_ite_fst h (memoryOk_of h1 rfl rfl)

theorem leadsOk_execShardReceive {source : Nat} {data : List Byte} (h : s.MemoryOk) : LeadsOk (execShardReceive source data s) := by
  refine leadsOk_next ?_
  extract_lets module owner answer
  have hanswer : ∀ {u st v}, State.MemoryOk u → (answer u st v).MemoryOk := fun hu => hu
  clear_value answer
  refine memoryOk_ite h (memoryOk_ite (hanswer h) (memoryOk_ite (hanswer h) ?_))
  split
  · next he => exact hanswer (memoryOk_fst (memoryOk_appendArea h) he)
  · next he => exact hanswer (memoryOk_fst (memoryOk_appendArea h) he)

theorem memoryOk_placeEntries {members : List Nat} {own : Nat} {answers : List Nat} {l : List (Nat × Bool × Nat × List Byte)} (h : s.MemoryOk) :
    (s.placeEntries members own answers l).1.MemoryOk := by
  induction l generalizing s answers with
  | nil => exact h
  | cons e rest ih =>
    unfold State.placeEntries
    split
    next s1 off he =>
    have h1 : s1.MemoryOk := memoryOk_fst (memoryOk_ite_fst (memoryOk_appendArea h) h) he
    split
    · exact h1
    · split
      · next he => exact memoryOk_fst (ih h1) he
      · next he => exact memoryOk_fst (ih h1) he

theorem leadsOk_execCheckpointSeal {answers : List Nat} (h : s.MemoryOk) : LeadsOk (execCheckpointSeal answers s) := by
  refine leadsOk_next ?_
  extract_lets ended
  have hended : ∀ {u code}, State.MemoryOk u → (ended u code).MemoryOk := fun hu => memoryOk_setCkstat (by exact memoryOk_of hu rfl rfl)
  clear_value ended
  split
  · exact h
  · extract_lets sent
    refine memoryOk_ite h (memoryOk_ite (hended h) (memoryOk_ite (hended h) ?_))
    split
    · next he => exact hended (memoryOk_fst (memoryOk_placeEntries h) he)
    · next he =>
      have h1 := memoryOk_fst (memoryOk_placeEntries h) he
      extract_lets prev c0 c
      clear_value c
      split
      · next he => exact hended (memoryOk_fst (memoryOk_appendArea h1) he)
      · next he => exact hended (memoryOk_of (memoryOk_fst (memoryOk_appendArea h1) he) rfl rfl)

theorem memoryOk_applyCheckpoint {w : Catalogue} {got : List (List Byte)} (h : s.MemoryOk) : (s.applyCheckpoint w got).1.MemoryOk := by
  unfold State.applyCheckpoint
  extract_lets g data total stream lost hurt key s1
  clear_value stream hurt key
  exact memoryOk_foldl (fun _ _ h => memoryOk_ite h (memoryOk_foldl (fun _ _ h =>
    memoryOk_foldl (fun _ _ h => memoryOk_engineWrite h ..) _ h) _ h)) _ h

theorem memoryOk_catalogueSeen (h : s.MemoryOk) : (s.catalogueSeen off).MemoryOk := memoryOk_ite (memoryOk_deviceSeen h) h

theorem leadsOk_execCkrestore {shards : List (List Byte)} (h : s.MemoryOk) : LeadsOk (execCkrestore addr shards s) := by
  refine leadsOk_next (memoryOk_hostWrite h ?_)
  extract_lets at_ away s1
  split
  next image got _ =>
  have h1 : s1.MemoryOk := memoryOk_ite h (memoryOk_catalogueSeen h)
  clear_value s1
  split
  · exact memoryOk_setCkstat h1
  · next chain _ =>
    extract_lets s2 regions
    have h2 : s2.MemoryOk := memoryOk_foldl (fun _ _ h => memoryOk_ite h (memoryOk_elim h fun _ => memoryOk_catalogueSeen h)) _ h1
    clear_value s2
    refine memoryOk_ite (memoryOk_setCkstat h2) ?_
    split
    next s3 rest hurt he =>
    have h3 : s3.MemoryOk := memoryOk_fst (memoryOk_foldl_fst (by exact fun _ _ h => memoryOk_applyCheckpoint h) (by exact h2)) he
    refine memoryOk_setCkstat (memoryOk_foldl (fun _ _ h => memoryOk_logRegion (memoryOk_ite h ?_)) _ h3)
    exact memoryOk_foldl (fun _ _ h => memoryOk_engineWrite h ..) _ h

/-! ### Upsets -/

theorem memoryOk_upset {u : Upset} (h : s.MemoryOk) : (s.upset u).MemoryOk := by
  unfold State.upset
  cases u <;> dsimp only
  case register => exact memoryOk_mapStrand h ..
  case result => exact h
  case spad => exact h
  case l1Data => exact memoryOk_mapCore h _ rfl
  case corrected => exact memoryOk_correct h
  case accumulator => exact memoryOk_mapStrand h ..
  case l2Data => exact memoryOk_ite h h
  case l2Tag => exact h
  case hbm => exact h
  case l1Line => exact memoryOk_mapCore h _ rfl
  case microTlb => exact memoryOk_mapCore h _ rfl
  case dieTlb => exact memoryOk_setCluster h ..
  case microprogram => exact memoryOk_mapCore h _ rfl
  case gangShare => exact memoryOk_mapCore h _ rfl
  case phaseRecord => exact memoryOk_mapStrand h ..
  case queueRecord =>
    split
    · exact memoryOk_of h rfl rfl
    · exact h
  case element =>
    refine memoryOk_mapCore h _ ?_
    split <;> rfl
  case collective => exact memoryOk_of h rfl rfl
  case vitrine =>
    split
    · exact memoryOk_of h rfl rfl
    · exact h
  case scm =>
    split
    · exact memoryOk_of h rfl rfl
    · exact h

theorem memoryOk_reloadWords {routine : Nat} (h : s.MemoryOk) : (s.reloadWords c routine).MemoryOk := memoryOk_log (memoryOk_mapCore h _ rfl) ..

end Sys2Proof.Proofs
end

section
/-! Every instruction keeps memory in its canonical form. -/
namespace Sys2Proof.Proofs
open Sys2Proof Sys2Proof.Machine Sys2Proof.Laws

variable {s : State}

theorem leadsOk_execPatldComplete {core : Nat} (h : s.MemoryOk) : LeadsOk (execPatldComplete core s) := leadsOk_next (memoryOk_completePatld h)

theorem leadsOk_execWaitTimeout {core ctx : Nat} (h : s.MemoryOk) : LeadsOk (execWaitTimeout core ctx s) := by
  refine leadsOk_next ?_
  split
  · exact h
  · split
    · exact h
    · exact memoryOk_ite h (memoryOk_answer (by exact memoryOk_ite (memoryOk_of h rfl rfl) h) ..)

theorem leadsOk_exec {i : Instr} (h : s.MemoryOk) : LeadsOk (exec i s) := by
  cases i
  case add | sub | mul =>
    dsimp only [exec]
    exact leadsOk_scalar h fun _ hq => stOk_arith hq
  case mulh | divs | divn | rem | and | or | xor | not | shl | shr | sar | rot | min | max | popc | clz | ctz =>
    dsimp only [exec]
    exact leadsOk_scalar h fun _ hq => stOk_writeInt hq
  case cmp | sel | pack | movi | movh | bfx | bfi | crr | span | tsread =>
    dsimp only [exec]
    exact leadsOk_scalar h fun _ hq => stOk_writeReg hq
  case addi =>
    dsimp only [exec]
    exact leadsOk_scalar h fun _ hq => stOk_writePredicted hq
  case fadd | fsub | fmul | ffma =>
    dsimp only [exec]
    exact leadsOk_scalar h fun _ hq => stOk_writeShadowed hq
  case fmin | fmax | fcmp =>
    dsimp only [exec]
    exact leadsOk_scalar h fun _ hq => stOk_writeFloat hq
  case nop =>
    dsimp only [exec]
    exact leadsOk_scalar h fun _ hq => hq
  case br | brk | ret =>
    dsimp only [exec]
    exact leadsOk_check h fun _ hq => stOk_jump hq
  case exit | tret | hiber | drain =>
    dsimp only [exec]
    exact leadsOk_check h fun _ hq => stOk_addHold hq
  case trap =>
    dsimp only [exec]
    exact leadsOk_check h fun _ hq => stOk_addDue hq
  case mpset | sbind | patsw =>
    dsimp only [exec]
    exact leadsOk_check h fun _ hq => stOk_shareWrite hq
  case ldq | ldsec =>
    dsimp only [exec]
    exact leadsOk_queuedLoad h
  case ringp | ringa =>
    dsimp only [exec]
    exact leadsOk_ringMove h
  case vadd | vsub | vmul =>
    dsimp only [exec]
    exact leadsOk_scalar h fun _ hq => stOk_binaryShadowed hq
  case vmin | vmax =>
    dsimp only [exec]
    exact leadsOk_scalar h fun _ hq => stOk_binary hq
  case vand | vor | vxor | vshl | vshr =>
    dsimp only [exec]
    exact leadsOk_scalar h fun _ hq => stOk_bitwise hq
  case vabs | vneg | vnot =>
    dsimp only [exec]
    exact leadsOk_scalar h fun _ hq => stOk_unary hq
  case vfma | vcvt | vdeq =>
    dsimp only [exec]
    exact leadsOk_scalar h fun _ hq => stOk_shadowedElements hq
  case vcmp =>
    dsimp only [exec]
    exact leadsOk_scalar h fun _ hq => stOk_raise (stOk_writePred hq)
  case vsel | shuf =>
    dsimp only [exec]
    exact leadsOk_scalar h fun _ hq => stOk_writeVec hq
  case vred | vscan =>
    dsimp only [exec]
    exact leadsOk_scalar h fun _ hq => stOk_raise (stOk_writeVec hq)
  case vexp2 | vlog2 | vrcp | vrsq | vsqrt | vtanh | vsig | vsin | vcos =>
    dsimp only [exec]
    exact leadsOk_scalar h fun _ hq => stOk_function hq
  case xcopy =>
    dsimp only [exec]
    exact leadsOk_scalar h fun _ hq => stOk_writeLanes hq
  case fcvt => exact leadsOk_execFcvt h
  case dmerge => exact leadsOk_execDmerge h
  case dscale => exact leadsOk_execDscale h
  case call => exact leadsOk_execCall h
  case loop => exact leadsOk_execLoop h
  case endl => exact leadsOk_execEndl h
  case yield => exact leadsOk_execYield h
  case spawn => exact leadsOk_execSpawn h
  case crw => exact leadsOk_execCrw h
  case ld => exact leadsOk_execLd h
  case st => exact leadsOk_execSt h
  case vld => exact leadsOk_execVld h
  case vst => exact leadsOk_execVst h
  case stq => exact leadsOk_execStq h
  case gatherq => exact leadsOk_execGatherq h
  case scatterq => exact leadsOk_execScatterq h
  case stf => exact leadsOk_execStf h
  case amo => exact leadsOk_execAmo h
  case amoDraw => exact leadsOk_execAmoDraw h
  case pref => exact leadsOk_execPref h
  case vquant => exact leadsOk_execVquant h
  case vdraw => exact leadsOk_execVdraw h
  case patld => exact leadsOk_execPatld h
  case xbcast => exact leadsOk_execXbcast h
  case mcall => exact leadsOk_execMcall h
  case accrd => exact leadsOk_execAccrd h
  case accwr => exact leadsOk_execAccwr h
  case accz => exact leadsOk_execAccz h
  case phase => exact leadsOk_execPhase h
  case publish => exact leadsOk_execPublish h
  case vwait => exact leadsOk_execVwait h
  case fence => exact leadsOk_execFence h
  case copy => exact leadsOk_execCopy h
  case barrive => exact leadsOk_execBarrive h
  case bwait => exact leadsOk_execBwait h
  case wait => exact leadsOk_execWait h
  case mwait => exact leadsOk_execMwait h
  case sunbind => exact leadsOk_execSunbind h
  case walk => exact leadsOk_execWalk h
  case coll => exact leadsOk_execColl h
  case lprobe => exact leadsOk_execLprobe h
  case kzero => exact leadsOk_execKzero h
  case kstep => exact leadsOk_execKstep h
  case kloop => exact leadsOk_execKloop h
  case kendl => exact leadsOk_execKendl h
  case kepi => exact leadsOk_execKepi h
  case krows => exact leadsOk_execKrows h
  case ksum => exact leadsOk_execKsum h
  case kend => exact leadsOk_execKend h
  case matrixChoose => exact leadsOk_execMatrixChoose h
  case trapEntry => exact leadsOk_execTrapEntry h
  case elementLand => exact leadsOk_execElementLand h
  case storeAck => exact leadsOk_execStoreAck h
  case homeRequest => exact leadsOk_execHomeRequest h
  case l2Fill => exact leadsOk_execL2Fill h
  case setWaitRetry => exact leadsOk_execSetWaitRetry h
  case waitTimeout => exact leadsOk_execWaitTimeout h
  case barrierArrival => exact leadsOk_execBarrierArrival h
  case pageWalk => exact leadsOk_execPageWalk h
  case copyComplete => exact leadsOk_execCopyComplete h
  case patldComplete => exact leadsOk_execPatldComplete h
  case walkHop => exact leadsOk_execWalkHop h
  case remoteRequest => exact leadsOk_execRemoteRequest h
  case hibernatingAnswer => exact leadsOk_execHibernatingAnswer h
  case remoteNoAnswer => exact leadsOk_execRemoteNoAnswer h
  case linkRetry => exact leadsOk_execLinkRetry h
  case linkDown => exact leadsOk_execLinkDown h
  case routeRemove => exact leadsOk_execRouteRemove h
  case moduleLost => exact leadsOk_execModuleLost h
  case collHandoff => exact leadsOk_execCollHandoff h
  case startFlit => exact leadsOk_execStartFlit h
  case chunkArrival => exact leadsOk_execChunkArrival h
  case looseFlush => exact leadsOk_execLooseFlush h
  case lateAddend => exact leadsOk_execLateAddend h
  case rootReleaseTimeout => exact leadsOk_execRootReleaseTimeout h
  case abortFlit => exact leadsOk_execAbortFlit h
  case replayComplete => exact leadsOk_execReplayComplete h
  case route1ChunkApply => exact leadsOk_execRoute1ChunkApply h
  case doorbell => exact leadsOk_execDoorbell h
  case nestTake => exact leadsOk_execNestTake h
  case nestOffer => exact leadsOk_execNestOffer h
  case gangPlace => exact leadsOk_execGangPlace h
  case clusterReserve => exact leadsOk_execClusterReserve h
  case folioPickup => exact leadsOk_execFolioPickup h
  case gangPreempt => exact leadsOk_execGangPreempt h
  case gangResume => exact leadsOk_execGangResume h
  case nestRetire => exact leadsOk_execNestRetire h
  case operatingPointChange => exact leadsOk_execOperatingPointChange h
  case energyTick => exact leadsOk_execEnergyTick h
  case sensorRetired => exact leadsOk_execSensorRetired h
  case patrolScrub => exact leadsOk_execPatrolScrub h
  case supplyWarning => exact leadsOk_execSupplyWarning h
  case supplyTrap => exact leadsOk_execSupplyTrap h
  case handlerOverrun => exact leadsOk_execHandlerOverrun h
  case saveComplete => exact leadsOk_execSaveComplete h
  case sealed => exact leadsOk_execSealed h
  case enterSag => exact leadsOk_execEnterSag h
  case enterShed => exact leadsOk_execEnterShed h
  case shed => exact leadsOk_execShed h
  case clusterRestore => exact leadsOk_execClusterRestore h
  case returnNormal => exact leadsOk_execReturnNormal h
  case inputReturn => exact leadsOk_execInputReturn h
  case thermal => exact leadsOk_execThermal h
  case thermalEnd => exact leadsOk_execThermalEnd h
  case powerOn => exact leadsOk_execPowerOn h
  case restoreBegin => exact leadsOk_execRestoreBegin h
  case timeExchange => exact leadsOk_execTimeExchange h
  case masterLost => exact leadsOk_execMasterLost h
  case warmReset => exact leadsOk_execWarmReset h
  case attestationRequest => exact leadsOk_execAttestationRequest h
  case suspend => exact leadsOk_execSuspend h
  case ownerSuspended => exact leadsOk_execOwnerSuspended h
  case resume => exact leadsOk_execResume h
  case terminate => exact leadsOk_execTerminate h
  case islandsWrite => exact leadsOk_execIslandsWrite h
  case regselWrite => exact leadsOk_execRegselWrite h
  case invcmd => exact leadsOk_execInvcmd h
  case invalidationComplete => exact leadsOk_execInvalidationComplete h
  case keyload => exact leadsOk_execKeyload h
  case rtload => exact leadsOk_execRtload h
  case coreRoutineLoad => exact leadsOk_execCoreRoutineLoad h
  case mcload => exact leadsOk_execMcload h
  case vitload => exact leadsOk_execVitload h
  case vitclr => exact leadsOk_execVitclr h
  case vitrineRemoved => exact leadsOk_execVitrineRemoved h
  case gload => exact leadsOk_execGload h
  case featDrvWrite => exact leadsOk_execFeatDrvWrite h
  case acclist => exact leadsOk_execAcclist h
  case restoreResume => exact leadsOk_execRestoreResume h
  case ckreq => exact leadsOk_execCkreq h
  case shardReceive => exact leadsOk_execShardReceive h
  case checkpointSeal => exact leadsOk_execCheckpointSeal h
  case ckrestore => exact leadsOk_execCkrestore h
  case trigctlArm => exact leadsOk_execTrigctlArm h
  case trigfire => exact leadsOk_execTrigfire h
  case energyLowRead => exact leadsOk_execEnergyLowRead h
  case energyHighRead => exact leadsOk_execEnergyHighRead h
  case hostLoad => exact leadsOk_execHostLoad h
  case hostStore => exact leadsOk_execHostStore h
  case registerWrite => exact leadsOk_execRegisterWrite h
  case pathRestored => exact leadsOk_execPathRestored h
  case routerOff => exact leadsOk_execRouterOff h
  case timePhaseTimeout => exact leadsOk_execTimePhaseTimeout h

end Sys2Proof.Proofs
end

section
/-! Every step keeps memory in its canonical form: the examination and the issue of bundles, micro-ops, events, and what goes
with each turn. -/
namespace Sys2Proof.Proofs
open Sys2Proof Sys2Proof.Machine Sys2Proof.Laws

variable {s t : State} {c x n : Nat}

/-! ### Examining a bundle -/

theorem leadsOk_andThen {o : Host.Outcome State Fault Refusal} {f : State → Host.Outcome State Fault Refusal} (ho : LeadsOk o)
    (hf : ∀ u, u.MemoryOk → LeadsOk (f u)) : LeadsOk (andThen o f) := by
  cases o with
  | next u => exact hf u (ho u rfl)
  | fault e => exact leadsOk_fault
  | refused e => exact leadsOk_refused

theorem leadsOk_runStaged {p : Staged} (h : s.MemoryOk) : LeadsOk (s.runStaged p) := by
  unfold State.runStaged
  split
  · exact leadsOk_fault
  · split
    · exact leadsOk_exec (by exact memoryOk_of h rfl rfl)
    · refine leadsOk_next ?_
      split
      · exact h
      · exact memoryOk_of h rfl rfl
      · exact h

theorem leadsOk_runSlots {l : List Staged} (h : s.MemoryOk) : LeadsOk (s.runSlots l) := by
  induction l generalizing s with
  | nil => exact leadsOk_next h
  | cons p rest ih => exact leadsOk_andThen (leadsOk_runStaged h) fun _ hu => ih hu

theorem memoryOk_fetch {k : Strand} (h : s.MemoryOk) : (s.fetch c k).1.MemoryOk := by
  unfold State.fetch
  extract_lets pc q
  split
  · next he => exact memoryOk_fst (memoryOk_translate h) he
  · next he =>
    have h1 := memoryOk_fst (memoryOk_translate h) he
    split
    · exact memoryOk_touchLine h1
    · exact h1

/-- The bundle of an exam that came out ready was examined without leaving the form. -/
theorem memoryOk_of_examine {k : Cursor} (h : s.MemoryOk) (he : s.examine c x = .ready t k) : t.MemoryOk := by
  unfold State.examine at he
  split at he
  · cases he
  · split at he
    · cases he
    · cases he
    · next hf =>
      have h1 := memoryOk_fst (memoryOk_fetch h) hf
      split at he
      · cases he
      · cases he
      · next hr =>
        have h2 := leadsOk_runSlots (by exact memoryOk_of h1 rfl rfl) _ hr
        split at he
        · cases he
        · split at he
          · cases he
            exact h2
          · cases he
          · cases he

theorem memoryOk_skipPadding (h : s.MemoryOk) : (s.skipPadding c x n).MemoryOk := by
  induction n generalizing s with
  | zero => exact h
  | succ n ih =>
    unfold State.skipPadding
    split
    · exact h
    · split
      · next he => exact ih (memoryOk_setStrand (memoryOk_fst (memoryOk_fetch h) he) ..)
      · exact h

/-! ### The turn of a core -/

theorem memoryOk_beginCycle (h : s.MemoryOk) : (s.beginCycle c).MemoryOk := by
  unfold State.beginCycle
  extract_lets xs s1 s2 s3 s4
  have h1 : s1.MemoryOk := memoryOk_continueHolds h
  have h2 : s2.MemoryOk := memoryOk_foldl (fun _ _ h => memoryOk_enterDue h) _ h1
  clear_value s2
  have h3 : s3.MemoryOk := memoryOk_ite (memoryOk_foldl (fun _ _ h => memoryOk_meetSupply h) _ h2) h2
  clear_value s3
  have h4 : s4.MemoryOk := memoryOk_mapCore (memoryOk_settlePatlds h3) _ rfl
  exact memoryOk_foldl (fun _ _ h => memoryOk_skipPadding h) _ h4

theorem memoryOk_passOver {e : Nat × Exam} (h : s.MemoryOk) : (s.passOver c e).MemoryOk := by
  unfold State.passOver
  split
  · exact memoryOk_mapStrand h ..
  · exact memoryOk_mapStrand h ..
  · exact memoryOk_stalled h
  · exact h

theorem memoryOk_passOvers {l : List (Nat × Exam)} (h : s.MemoryOk) : (l.foldl (fun (s : State) e => s.passOver c e) s).MemoryOk :=
  memoryOk_foldl (fun _ _ h => memoryOk_passOver h) _ h

theorem memoryOk_idleCycle (h : s.MemoryOk) : (s.idleCycle c).MemoryOk := memoryOk_mapCore h c rfl

theorem memoryOk_trapBundle {i : TrapInfo} (h : s.MemoryOk) : (s.trapBundle c x i).MemoryOk := by
  unfold State.trapBundle
  split
  · exact h
  · extract_lets s1
    have h1 : s1.MemoryOk := memoryOk_mapStrand h ..
    clear_value s1
    exact memoryOk_idleCycle (memoryOk_ite (memoryOk_mapStrand h1 ..) (memoryOk_ite (memoryOk_enterDue h1) (memoryOk_takeTrap h1)))

theorem memoryOk_issueOne {e : Exam} (h : s.MemoryOk) (he : ∀ u k, e = .ready u k → u.MemoryOk) : (s.issueOne c x e).MemoryOk := by
  cases e with
  | ready u k => exact memoryOk_commit (he u k rfl)
  | trapped i => exact memoryOk_trapBundle h
  | idle => exact h
  | stalled why a => exact h
  | stopped f => exact h
  | refused r => exact h

/-- What fails while bundles are examined is no next state. -/
theorem leadsOk_of_firstFailure {l : List (Nat × Exam)} {o : Host.Outcome State Fault Refusal} (h : firstFailure l = some o) :
    LeadsOk o := by
  obtain ⟨e, -, he⟩ := List.exists_of_findSome?_eq_some h
  split at he
  · cases he
    exact leadsOk_fault
  · cases he
    exact leadsOk_refused
  · cases he

/-- The exam of a context among those made is one that was made, or idle. -/
theorem examOf_map_eq_ready {f : Nat → Exam} {l : List Nat} {k : Cursor} (h : examOf (l.map (fun x => (x, f x))) x = .ready t k) :
    ∃ y, f y = .ready t k := by
  unfold examOf at h
  cases hf : (l.map (fun x => (x, f x))).find? (fun e => e.1 == x) with
  | none =>
    rw [hf] at h
    cases h
  | some e =>
    obtain ⟨y, -, rfl⟩ := List.mem_map.1 (List.mem_of_find?_eq_some hf)
    rw [hf] at h
    exact ⟨y, h⟩

theorem leadsOk_issueTurn (h : s.MemoryOk) : LeadsOk (s.issueTurn c) := by
  unfold State.issueTurn
  extract_lets s0 exams ready
  have h0 : s0.MemoryOk := memoryOk_beginCycle h
  split
  · next hf => exact leadsOk_of_firstFailure hf
  · split
    · exact leadsOk_next (memoryOk_idleCycle (memoryOk_passOvers h0))
    · refine leadsOk_next (memoryOk_passOvers (memoryOk_issueOne h0 fun u k he => ?_))
      obtain ⟨y, hy⟩ := examOf_map_eq_ready he
      exact memoryOk_of_examine h0 hy

/-! ### Turns -/

theorem leadsOk_microTurn (h : s.MemoryOk) : LeadsOk (s.microTurn c) := by
  unfold State.microTurn
  split
  · exact leadsOk_next h
  · split
    · exact leadsOk_next (memoryOk_chooseOp h)
    · split
      · exact leadsOk_next (memoryOk_reloadWords h)
      · extract_lets s1
        have h1 : s1.MemoryOk := memoryOk_of h rfl rfl
        split
        · exact leadsOk_micro h1 fun _ hm => memoryOk_reserved hm
        · split
          · exact leadsOk_exec h1
          · exact leadsOk_micro h1 fun _ hm => memoryOk_reserved hm

theorem leadsOk_run {w : Turn} (h : s.MemoryOk) : LeadsOk (w.run s) := by
  unfold Turn.run
  cases w <;> dsimp only
  case issue => exact leadsOk_issueTurn h
  case micro => exact leadsOk_microTurn h
  case event => exact leadsOk_exec h
  case upset => exact leadsOk_next (memoryOk_upset h)
  case read => exact leadsOk_next (memoryOk_hostRead h)

theorem memoryOk_moveFlits (h : s.MemoryOk) : (s.moveFlits n).MemoryOk := memoryOk_of h rfl rfl

theorem memoryOk_tick (h : s.MemoryOk) : (s.tick n).MemoryOk := by
  unfold State.tick
  extract_lets s1
  have h1 : s1.MemoryOk := memoryOk_moveFlits (memoryOk_bootTick (memoryOk_noteShedOrd (memoryOk_settleLogs h)))
  clear_value s1
  split
  next p d _ =>
  extract_lets now metered
  have h2 : metered.MemoryOk := memoryOk_meter (memoryOk_power h1)
  clear_value metered
  exact memoryOk_noteFirst (by exact memoryOk_of h2 rfl rfl)

theorem leadsOk_take {w : Turn} (h : s.MemoryOk) : LeadsOk (s.take w) :=
  leadsOk_andThen (leadsOk_run h) fun _ hu => leadsOk_next (memoryOk_tick hu)

theorem leadsOk_step (h : s.MemoryOk) : LeadsOk (step s) := by
  unfold step State.turn
  split
  · split
    · exact leadsOk_take h
    · exact leadsOk_take (by exact memoryOk_of h rfl rfl)
  · split
    · exact leadsOk_take h
    · exact leadsOk_next (memoryOk_tick h)

/-- Settles O59: every function of the model that changes the state keeps the form, and with them every instruction, every turn
and what goes with a turn. -/
theorem stepKeepsMemoryOk : Obligations.StepKeepsMemoryOk := fun _ t h ht => leadsOk_step h t ht

end Sys2Proof.Proofs
end

section
/-! The launch path, one event at a time, where its conditions hold: from a queue's TAIL to a nest's completion (R270 to R279,
R299). -/
namespace Sys2Proof.Proofs
open Sys2Proof Sys2Proof.Machine Sys2Proof.Laws

variable {s s0 s1 s2 : State} {n : Nest} {v : Gang} {nest cl c g : Nat}

/-! ### Queues -/

theorem hostWrite_accepted {addr owner : Nat} {w : Word} {early : Bool} {f : State → State} (hi : s.hreg 0x3830 = 0)
    (hw : s.hostWrites = true) (hr : s.ready = true) : s.hostWrite addr owner w early f = f s := by
  unfold State.hostWrite
  rw [if_neg (fun h => h hi), hw, hr, Bool.or_true]
  rfl

theorem doorbell_moves_tail {queue tail : Nat} (ho : s.hreg 0x3830 = 0 ∧ s.hostWrites = true ∧ s.ready = true)
    (hfit : (tail % 2 ^ 32 + 2 ^ 32 - s.queueReg (queue % 2048) 0x18 % 2 ^ 32) % 2 ^ 32 ≤ 2 ^ bits (s.queueReg (queue % 2048) 8) 12 8) :
    exec (.doorbell queue tail) s = .next (s.setQueueReg (queue % 2048) 0x10 (tail % 2 ^ 32)) := by
  obtain ⟨hi, hw, hr⟩ := ho
  rw [exec_doorbell]
  unfold execDoorbell
  dsimp only
  rw [hostWrite_accepted hi hw hr, if_neg (Nat.not_lt.2 hfit)]

/-- Where a work queue's record HEAD lies (R299). -/
def headRecord (s : State) (q : Nat) : Nat :=
  bits (s.queueReg q 0) 55 7 * 128 + 128 * (s.queueReg q 0x18 % 2 ^ 32 % 2 ^ bits (s.queueReg q 8) 12 8)

theorem nestTake_enqueues {queue : Nat} (hr : s.ready = true) (hm : s.memoryStill = false) (he : s.queueEnabled (queue % 2048) = true)
    (hne : s.queueReg (queue % 2048) 0x18 % 2 ^ 32 ≠ s.queueReg (queue % 2048) 0x10 % 2 ^ 32)
    (hh : (s.queueReg (queue % 2048) 0).testBit 63 = false) (hb : inHbm (headRecord s (queue % 2048)) = true)
    (hw : (nestRecord (s.homeRead (headRecord s (queue % 2048)) 128 0 true).2).wellFormed = true) :
    exec (.nestTake queue) s = .next (((s.homeRead (headRecord s (queue % 2048)) 128 0 true).1.setQueueReg (queue % 2048) 0x18
      ((s.queueReg (queue % 2048) 0x18 % 2 ^ 32 + 1) % 2 ^ 32)).enqueueNest (queue % 2048)
        (nestRecord (s.homeRead (headRecord s (queue % 2048)) 128 0 true).2) (s.queueOwner (queue % 2048))) := by
  unfold headRecord at hb hw ⊢
  rw [exec_nestTake]
  unfold execNestTake
  simp only [hr, hm, he, hne, hh, hb, hw, Bool.not_true, Bool.or_self, Bool.false_eq_true, decide_false, if_true, if_false]

/-! ### Admission -/

/-- The machine once the head of a source has left it to be admitted (R270). -/
def admitting (s : State) (src : Nat) : State :=
  { s.dropHead src with launch := { (s.dropHead src).launch with seq := s.launch.seq + 1, feats := s.hreg 0x020 } }

theorem nestOffer_admits {src : Nat} {h : Waiting} (hl : s.launch.nests.length < 4096)
    (hh : s.heads.find? (fun h => s.launch.nests.all (fun n => n.2.owner != h.2.owner || !h.2.rec_.conflicts n.2.rec_)) = some (src, h))
    (hc : ∃ k ∈ List.range 4, h.rec_.gangCores ≤ (s.partition ((s.slotOf h.owner).getD 32) k).length) :
    exec .nestOffer s = .next ((admitting s src).setNest (s.launch.seq + 1)
      { rec_ := h.rec_, owner := h.owner, source := src, since := s.now, feats := s.hreg 0x020 }) := by
  obtain ⟨k, hk, hle⟩ := hc
  have hroom : ¬ (List.range 4).all (fun cl => decide ((s.partition ((s.slotOf h.owner).getD 32) cl).length < h.rec_.gangCores)) = true :=
    fun hall => Nat.not_lt.2 hle (of_decide_eq_true (List.all_eq_true.1 hall k hk))
  rw [exec_nestOffer]
  unfold execNestOffer
  dsimp only
  rw [if_neg (Nat.not_le.2 hl), hh]
  dsimp only
  rw [if_neg hroom]
  rfl

/-! ### Placement -/

theorem gangPlace_places {cs : List Nat}
    (h : s.noteFirst.placementOrder.findSome? (fun e => (s.noteFirst.placeable e.1 e.2).map (fun p => (e, p))) = some ((nest, n), (cl, cs))) :
    exec (.gangPlace cl) s = .next ((s.noteFirst.placeGang nest n cl cs).noteFirst) := by
  rw [exec_gangPlace]
  unfold execGangPlace
  dsimp only
  rw [h]
  dsimp only
  rw [if_pos rfl]

theorem foldl_fixed_of_mem {α β : Type} {f : α → β → α} {a : α} {l : List β} (h : ∀ x ∈ l, f a x = a) : l.foldl f a = a :=
  List.foldlRecOn (motive := (· = a)) l f rfl (fun b hb x hx => by rw [hb]; exact h x hx)

/-- A choice made along a list that passes over everything but one member of it. -/
theorem foldl_chooses_only {α : Type} [DecidableEq α] {f : Option α → α → Option α} {a : α} {l : List α} (ha : a ∈ l)
    (hnone : f none a = some a) (hsome : f (some a) a = some a) (hskip : ∀ x ∈ l, x ≠ a → ∀ b, f b x = b) : l.foldl f none = some a := by
  induction l with
  | nil => cases ha
  | cons x r ih =>
    have hr : ∀ y ∈ r, y ≠ a → ∀ b, f b y = b := fun y hy => hskip y (List.mem_cons_of_mem _ hy)
    rw [List.foldl_cons]
    by_cases hx : x = a
    · rw [hx, hnone]
      refine foldl_fixed_of_mem fun y hy => ?_
      by_cases hya : y = a
      · rw [hya, hsome]
      · exact hr y hy hya _
    · rw [hskip x List.mem_cons_self hx]
      exact ih ((List.mem_cons.1 ha).resolve_left (Ne.symm hx)) hr

theorem clusterReserve_reserves {i since : Nat} (hs0 : s.noteFirst = s0) (hn : s0.nextGangs.head? = some (nest, n))
    (hf : s0.launch.first = some (nest, i, since)) (hp : s0.placeable nest n = none) (hd : since + 16000 ≤ s0.now)
    (hw : s0.windowCluster n.owner n.rec_.window = none)
    (hfit : s0.clusterServes cl = true ∧ n.rec_.gangCores ≤ (s0.partition ((s0.slotOf n.owner).getD 32) cl).length)
    (honly : ∀ k < 4, k ≠ cl → s0.clusterServes k = false) (hcl : cl < 4) (hfree : ∀ k < 4, (s0.cluster k).reservation = none) :
    exec (.clusterReserve cl) s = .next (s0.setCluster cl { s0.cluster cl with reservation := some nest }) := by
  obtain ⟨hserves, hcores⟩ := hfit
  have hall : (List.range 4).all (fun k => (s0.cluster k).reservation != some nest) = true :=
    List.all_eq_true.2 (fun k hk => by rw [hfree k (List.mem_range.1 hk)]; rfl)
  rw [exec_clusterReserve]
  unfold execClusterReserve
  dsimp only
  subst hs0
  simp only [hn, hf, hp, Nat.not_lt.2 hd, hw, ne_eq, not_true_eq_false, decide_false, Option.isSome_none, Bool.or_self, Bool.false_eq_true,
    if_false]
  rw [foldl_chooses_only (a := cl) (List.mem_range.2 hcl) ?_ ?_ ?_, hall, hfree cl hcl]
  · simp
  · simp [hserves, hcores]
  · simp
  · exact fun k hk hne b => by simp [honly k (List.mem_range.1 hk) hne]

/-! ### Folios and pre-emption -/

/-- A cluster's folio taken out of its queue (R29). -/
def withoutFolio (s : State) (c : Nat) (f : Nat × Nat × Nat × Nat) : State :=
  s.setCluster (coreCluster c) { s.cluster (coreCluster c) with folios := (s.cluster (coreCluster c)).folios.erase f }

/-- The machine with a core made ready for a member of a gang and counted among the gang's cores (R29). -/
def memberOn (s : State) (c slot g member : Nat) (v : Gang) (n : Nest) : State :=
  (if (s.core c).gang = some g then s else s.prepareCore c slot g n.owner n.rec_.window member).setGang g
    { v with cores := if v.cores.contains c then v.cores else v.cores ++ [c] }

theorem folioPickup_resumes {f : Nat × Nat × Nat × Nat} {image : Nat} (hf : s.pickFolio c = some f) (hv : s.gang f.2.1 = some v)
    (hn : s.nest v.nest = some n) (hr : (withoutFolio s c f).agentRead (s.gangSlot f.2.1) f.1 64 = (s1, .ok image))
    (hw : s1.agentWrite (s.gangSlot f.2.1) f.1 8 (image % 2 ^ 64 - (image % 2 ^ 64 &&& 2 ^ 56)) = (s2, none)) :
    let joined := memberOn s2 c (s.gangSlot f.2.1) f.2.1 f.2.2.1 v n
    exec (.folioPickup c) s = .next ((joined.setStrand c (((List.range 4).find? (fun x => ((joined.core c).strand x).isNone)).getD 0)
      { folioStrand f.2.1 f.2.2.1 f.2.2.2 n.rec_ image (joined.core c).cycle with
        phys := allotTiles (joined.core c).ctxs n.rec_.accs }).readerHalf c 2) := by
  unfold withoutFolio at hr
  rw [exec_folioPickup]
  unfold execFolioPickup memberOn
  simp only [hf, hv, hn, hr, hw]

/-- A gang halted and its frames sealed (R30, R279). -/
def sealedGang (s : State) (g : Nat) (v : Gang) : State := (s.haltGang g v).setGang g { v with mode := .preempted }

theorem gangPreempt_seals (hv : s.gang g = some v) (hm : v.mode = .preempting) (hs : s.sealable g v = true) :
    exec (.gangPreempt g) s = .next { sealedGang s g v with
      launch := { (sealedGang s g v).launch with preempted := (sealedGang s g v).launch.preempted ++ [g] } } := by
  rw [exec_gangPreempt]
  unfold execGangPreempt sealedGang
  simp only [hv, hm, hs, if_true]

theorem gangPreempt_enters_due {d y : Nat} (hv : s.gang g = some v) (hm : v.mode = .preempting) (hs : s.sealable g v = false)
    (hd : s.dueIn g v = some (d, y)) : exec (.gangPreempt g) s = .next (s.enterDue d y true) := by
  rw [exec_gangPreempt]
  unfold execGangPreempt
  simp only [hv, hm, hs, hd, Bool.false_eq_true, if_false]

theorem gangResume_runs (h : s.launch.preempted.find? (fun g => s.causeEnded g) = some g) :
    exec (.gangResume g) s = .next (s.runGang g) := by
  rw [exec_gangResume]
  unfold execGangResume
  rw [if_pos h]

/-! ### Retirement -/

/-- What a nest reports when it retires (R26). -/
def reportOf (nest : Nat) (n : Nest) : Report :=
  { owner := n.owner, source := n.source, rec_ := n.rec_, status := n.status, gangs := n.ended, seq := nest, tStart := n.tStart,
    energy := n.energy, mhz := if n.mhzCycles = 0 then 0 else n.mhzSum / n.mhzCycles, throttle := n.throttle, feats := n.feats }

/-- The machine with a nest no longer in flight. -/
def withoutNest (s : State) (nest : Nat) : State := { s with launch := { s.launch with nests := Tab.erase s.launch.nests nest } }

theorem nestRetire_completes (hn : s.nest nest = some n) (hm : s.memoryStill = false) (he : n.placed ≤ n.ended)
    (hp : n.stopped = true ∨ n.rec_.total ≤ n.placed)
    (hq : ∀ e ∈ s.reqs, e.2.isStore = true → e.2.slotOwner = (s.slotOf n.owner).getD 32 → (s.gang e.2.gang).isSome = true)
    (hres : ∀ k < 4, ∀ m, (((withoutNest s nest).complete (reportOf nest n)).cluster k).reservation = some m → m ≠ nest) :
    exec (.nestRetire nest) s =
      .next (((withoutNest s nest).complete (reportOf nest n)).noteFirst.endTerminate ((s.slotOf n.owner).getD 32)) := by
  have hstores : s.reqs.any (fun e => e.2.isStore && e.2.slotOwner == (s.slotOf n.owner).getD 32 && (s.gang e.2.gang).isNone) = false := by
    rw [List.any_eq_false]
    intro e hmem hleft
    simp only [Bool.and_eq_true, beq_iff_eq] at hleft
    obtain ⟨⟨hst, how⟩, hnone⟩ := hleft
    have hsome := hq e hmem hst how
    rw [Option.isNone_iff_eq_none.1 hnone] at hsome
    cases hsome
  have hended : (!n.stopped && decide (n.placed < n.rec_.total)) = false := by
    rcases hp with hst | hle
    · rw [hst]; rfl
    · rw [decide_eq_false (Nat.not_lt.2 hle), Bool.and_false]
  unfold withoutNest reportOf at hres ⊢
  rw [exec_nestRetire]
  unfold execNestRetire
  dsimp only
  rw [hn]
  dsimp only
  rw [hm, hstores, hended, decide_eq_false (Nat.not_lt.2 he), if_neg (by decide)]
  rw [foldl_fixed_of_mem (fun k hk => if_neg (fun h => hres k (List.mem_range.1 hk) nest h rfl))]

/-- Settles O47: each event by its lemma above. -/
theorem launchEvents : Obligations.LaunchEvents := by
  unfold Obligations.LaunchEvents
  intro queue tail cl c g nest image src h n cs v f s s1 s2
  exact ⟨doorbell_moves_tail, nestTake_enqueues, nestOffer_admits, gangPlace_places, fun _ _ => clusterReserve_reserves rfl,
    folioPickup_resumes, gangPreempt_seals, fun _ _ => gangPreempt_enters_due, gangResume_runs, nestRetire_completes⟩

end Sys2Proof.Proofs
end

section
/-! Leaving a nest and creating one: EXIT, YIELD and SPAWN as slots of a bundle, and the strand a gang starts with (R20, R25, R28,
R33, R34, R121 to R123). -/
namespace Sys2Proof.Proofs
open Sys2Proof Sys2Proof.Machine Sys2Proof.Laws

/-! ### The least trap of a list of checks -/

/-- What a fold that keeps one of its two arguments at each step ends with is where it began or a member of the list. -/
theorem foldl_eq_or_mem {α : Type} {f : α → α → α} (hf : ∀ a b, f a b = a ∨ f a b = b) (l : List α) (a : α) :
    l.foldl f a = a ∨ l.foldl f a ∈ l := by
  induction l generalizing a with
  | nil => exact .inl rfl
  | cons b r ih =>
    rw [List.foldl_cons]
    rcases ih (f a b) with h | h
    · rw [h]
      exact (hf a b).imp id (fun hb => by rw [hb]; exact List.mem_cons_self)
    · exact .inr (List.mem_cons_of_mem _ h)

/-- The stop chosen is one of the checks. -/
theorem firstStop_mem {l : List (Option Stop)} {e : Stop} (h : firstStop l = some e) : some e ∈ l := by
  unfold firstStop at h
  rw [← h]
  refine (foldl_eq_or_mem (fun a b => ?_) l none).resolve_left (by rw [h]; nofun)
  rcases a with _ | a | ⟨w, x⟩ <;> rcases b with _ | b | ⟨v, y⟩
  case some.trap.some.trap => exact (ite_eq_or_eq _ _ _).symm
  all_goals simp

/-- A trap stays the stop chosen where no later check of the slot traps with one before it (R316). -/
theorem firstStop_trap_cons {t : TrapInfo} {l : List (Option Stop)} (h : ∀ u, some (.trap u) ∈ l → u.before t = false) :
    firstStop (some (.trap t) :: l) = some (.trap t) := by
  induction l with
  | nil => rfl
  | cons b r ih =>
    have hr := ih (fun u hu => h u (List.mem_cons_of_mem _ hu))
    rcases b with _ | u | ⟨w, a⟩
    · exact hr
    · have hu := h u List.mem_cons_self
      unfold firstStop at hr ⊢
      simpa only [List.foldl_cons, hu, Bool.false_eq_true, if_false] using hr
    · exact hr

theorem check_error {b : Bun} {l : List (Option Stop)} {f : Bun → Bun} {e : Stop} (h : firstStop l = some e) : b.check l f = .error e := by
  unfold Bun.check
  rw [h]

theorem stop_of_stopIf {p : Bool} {e x : Stop} (h : some e = stopIf p x) : e = x := by
  unfold stopIf at h
  split at h
  · exact Option.some.inj h
  · cases h

theorem cause_of_stopIf {p : Bool} {t u : TrapInfo} {n : Nat} (h : some (.trap u) = stopIf p (.trap t)) (ht : n < t.cause) : n < u.cause := by
  rwa [Stop.trap.inj (stop_of_stopIf h)]

/-- What a space refuses of an address is a translation trap (R176, R239, R335). -/
theorem spaceStop_cause {b : Bun} {space size : Nat} {ea : Word} {u : TrapInfo} (h : some (.trap u) = b.spaceStop space size ea) :
    3 < u.cause := by
  unfold Bun.spaceStop at h
  dsimp only at h
  split at h
  · exact cause_of_stopIf h (by simp)
  · split at h
    · exact cause_of_stopIf h (by simp)
    · cases h

theorem addrStop_cause {b : Bun} {space size align : Nat} {ea : Word} {u : TrapInfo}
    (h : some (.trap u) = b.addrStop space size align ea) : 3 < u.cause := by
  have hm := firstStop_mem h.symm
  simp only [List.mem_cons, List.not_mem_nil, or_false] at hm
  rcases hm with hrange | halign | hspace
  · exact cause_of_stopIf hrange (by simp)
  · exact cause_of_stopIf halign (by simp)
  · exact spaceStop_cause hspace

/-- The traps of an address operand come after the illegal-operand trap (R315, R316). -/
theorem regAddrStop_cause {b : Bun} {x : BitVec 6} {space size align : Nat} {u : TrapInfo}
    (h : some (.trap u) = b.regAddrStop x space size align) : 3 < u.cause := by
  have hm := firstStop_mem h.symm
  simp only [List.mem_cons, List.not_mem_nil, or_false] at hm
  rcases hm with haddr | hres
  · exact addrStop_cause haddr
  · exact cause_of_stopIf hres (by simp)

theorem not_before_of_cause {t u : TrapInfo} (h : t.cause < u.cause) : u.before t = false := by
  unfold TrapInfo.before
  rw [decide_eq_false (by omega), decide_eq_false (by omega)]
  rfl

/-! ### Checks that pass -/

section
variable {q : Bun}

theorem reports_none (h : ∀ r < 4, q.st.frozenTrap q.cur.core r q.strand = none) : ∀ e ∈ q.reports, e = none := by
  intro e he
  obtain ⟨r, hr, rfl⟩ := List.mem_map.1 he
  exact h r (List.mem_range.1 hr)

theorem checksumStop_none (h : q.strand.checksums = []) (covers : Nat → Bool) : q.checksumStop covers = none := by
  unfold Bun.checksumStop
  rw [h]
  rfl

theorem retireStop_none (h : q.st.unretired q.cur.core q.strand = false) : q.retireStop = none := by
  unfold Bun.retireStop
  rw [h]
  rfl

theorem writerStop_none {scope : Nat} (hu : q.cur.unsent = false)
    (hd : q.st.writerDone q.strand.gang q.strand.member q.strand.slot (q.cur.begun + 1) scope = true) : q.writerStop scope = none := by
  unfold Bun.writerStop Bun.writerWait
  simp [hu, hd, stopIf]

end

/-! ### EXIT, YIELD and SPAWN -/

variable {s s1 : State} {q : Bun} {d a : BitVec 6} {pa record : Nat}

/-- No CHECKSUM trap and no store fault of the strand is due (R166, R321). -/
def NoneDue (q : Bun) : Prop := q.strand.checksums = [] ∧ ∀ r < 4, q.st.frozenTrap q.cur.core r q.strand = none

theorem exit_joins (h : s.AtSlot .exit q) (hc : NoneDue q) : exec .exit s = .next (q.joined .exit (q.addHold .exit)) := by
  rw [exec_exit]
  refine runSlot_joined h (check_ok.2 ⟨firstStop_all_none _ fun e he => ?_, rfl⟩)
  rcases List.mem_cons.1 he with rfl | he
  · exact checksumStop_none hc.1 _
  · exact reports_none hc.2 e he

/-- In its handler YIELD raises the illegal-operand trap: every other trap it could raise has a greater CAUSE (R316, R317). -/
theorem yield_traps_in_handler (h : s.AtSlot (.yield a) q) (hc : NoneDue q) (hh : q.handler = true) :
    exec (.yield a) s = s.trapped { cause := 3 } := by
  rw [exec_yield]
  refine runSlot_trapped h (check_error ?_)
  rw [hh]
  refine firstStop_trap_cons fun u hu => not_before_of_cause (t := { cause := 3 }) ?_
  rcases List.mem_append.1 hu with hfirst | hrest
  · rcases List.mem_cons.1 hfirst with hsum | hrep
    · rw [checksumStop_none hc.1] at hsum; cases hsum
    · cases reports_none hc.2 _ hrep
  · split at hrest
    · simp only [List.mem_cons, List.not_mem_nil, or_false] at hrest
      rcases hrest with hl | hr
      · cases stop_of_stopIf hl
      · cases stop_of_stopIf hr
    · simp only [List.mem_append, List.mem_cons, List.mem_map, List.not_mem_nil, or_false] at hrest
      rcases hrest with ((haddr | hrefused) | ⟨i, -, hdata⟩) | hwriter
      · exact regAddrStop_cause haddr
      · repeat' split at hrefused
        all_goals cases hrefused
        all_goals simp
      · exact cause_of_stopIf hdata.symm (by simp)
      · cases stop_of_stopIf hwriter

theorem yield_joins (h : s.AtSlot (.yield a) q) (hc : NoneDue q) (hu : q.cur.unsent = false)
    (hd : q.st.writerDone q.strand.gang q.strand.member q.strand.slot (q.cur.begun + 1) everyStore = true)
    (hm : q.st.unretired q.cur.core q.strand = false) (hi : q.strand.inflight = []) (hh : q.handler = false)
    (ha : q.regAddrStop a 0 64 64 = none) (hr : ∀ i < 6, q.dataResidue (BitVec.ofNat 6 (1 + i)) = none)
    (ht : q.st.translate q.cur.core q.slotNo (q.val a).toNat .store = (s1, .ok pa))
    (hp : (match q.st.place pa with
      | .local_ _ => true
      | .remote _ _ => true
      | _ => false) = true) :
    exec (.yield a) s = .next (q.joined (.yield a) ((q.withState (fun _ => s1)).addHold
      (.yield (q.val a).toNat pa q.live (q.cur.pc + BitVec.ofNat 64 q.cur.len)))) := by
  rw [exec_yield]
  refine runSlot_joined h (check_ok.2 ⟨firstStop_all_none _ fun e he => ?_, by rw [ht]; rfl⟩)
  rw [hi, retireStop_none hm, hh, ht] at he
  rcases List.mem_append.1 he with hfirst | hrest
  · rcases List.mem_append.1 hfirst with hown | hrep
    · rcases List.mem_cons.1 hown with rfl | hsum
      · rfl
      · rw [List.mem_singleton.1 hsum]; exact checksumStop_none hc.1 _
    · exact reports_none hc.2 e hrep
  · simp only [List.isEmpty_nil, Bool.not_true, Option.isSome_none, Bool.or_self, Bool.false_eq_true, if_false, List.mem_append,
      List.mem_cons, List.mem_map, List.mem_range, List.not_mem_nil, or_false] at hrest
    rcases hrest with ((rfl | rfl) | ⟨i, hlt, rfl⟩) | rfl
    · exact ha
    · revert hp
      cases q.st.place pa <;> simp
    · exact hr i hlt
    · exact writerStop_none hu hd

/-- Settles O14: where no check of the slot stops it, the bundle takes the hold; in the handler the least trap does. -/
theorem exitAndYield : Obligations.ExitAndYield := by
  unfold Obligations.ExitAndYield
  intro a pa s s1 q
  exact ⟨exit_joins, yield_traps_in_handler, yield_joins⟩

theorem spawn_joins (h : s.AtSlot (.spawn d a) q) (ha : q.regAddrStop a 0 128 128 = none)
    (hf : ∀ x < 4, q.st.frozenTrap q.cur.core x q.strand = none) (hu : q.cur.unsent = false)
    (hd : q.st.writerDone q.strand.gang q.strand.member q.strand.slot (q.cur.begun + 1) everyStore = true)
    (hv : q.st.virtRead q.cur.core q.slotNo (q.val a).toNat 128 = (s1, .ok record)) :
    let r := s1.spawnRecord (coreCluster q.cur.core) (q.st.gangOwner q.strand.gang) (nestRecord record)
    exec (.spawn d a) s = .next (q.joined (.spawn d a) ((q.withState (fun _ => r.1)).writeReg d (BitVec.ofNat 64 r.2) 1)) := by
  rw [exec_spawn]
  refine runSlot_joined h (check_ok.2 ⟨firstStop_all_none _ fun e he => ?_, by rw [hv]; rfl⟩)
  rw [writerStop_none hu hd, hv] at he
  rcases List.mem_append.1 he with hfirst | hlast
  · rcases List.mem_append.1 hfirst with haddr | hrep
    · rw [List.mem_singleton.1 haddr]; exact ha
    · exact reports_none hf e hrep
  · exact List.mem_singleton.1 hlast

/-- Settles O15: with the record read, the slot joins the bundle with what handing the record over answers. -/
theorem spawn : Obligations.Spawn := by
  unfold Obligations.Spawn
  intro d a record s s1 q
  exact spawn_joins

/-! ### The strand a gang starts with -/

theorem rising_setReg {t : Strand} (h : Tab.rising t.regs = true) (n : Nat) (v : Word) : Tab.rising (t.setReg n v).regs = true := by
  unfold Strand.setReg
  split
  · exact h
  · exact rising_set h

/-- A strand with registers s1 to sk written (R20). -/
def setFirst (t : Strand) (f : Nat → Word) (k : Nat) : Strand := (List.range k).foldl (fun t l => t.setReg (1 + l) (f l)) t

theorem setFirst_succ (t : Strand) (f : Nat → Word) (k : Nat) : setFirst t f (k + 1) = (setFirst t f k).setReg (1 + k) (f k) := by
  unfold setFirst
  rw [List.range_succ, List.foldl_append]
  rfl

theorem rising_setFirst {t : Strand} (h : Tab.rising t.regs = true) (f : Nat → Word) (k : Nat) : Tab.rising (setFirst t f k).regs = true := by
  induction k with
  | zero => exact h
  | succ k ih => rw [setFirst_succ]; exact rising_setReg ih _ _

theorem reg_setFirst {t : Strand} (h : Tab.rising t.regs = true) (f : Nat → Word) (k n : Nat) :
    (setFirst t f k).reg n = if 1 ≤ n ∧ n ≤ k then f (n - 1) else t.reg n := by
  induction k with
  | zero => rw [if_neg (by omega)]; rfl
  | succ k ih =>
    rw [setFirst_succ, reg_setReg (rising_setFirst h f k), ih]
    by_cases hn : 1 + k = n
    · rw [if_pos ⟨hn, by omega⟩, if_pos (by omega), ← hn, Nat.add_sub_cancel_left]
    · rw [if_neg (fun e => hn e.1)]
      exact if_congr (by omega) rfl rfl

/-- What writing a register leaves, writing the first ones leaves. -/
theorem setFirst_keeps {α : Type} {p : Strand → α} (hp : ∀ t n v, p (Strand.setReg t n v) = p t) (t : Strand) (f : Nat → Word) (k : Nat) :
    p (setFirst t f k) = p t := by
  induction k with
  | zero => rfl
  | succ k ih => rw [setFirst_succ, hp, ih]

section
variable (r : NestRec) (g iter member i cycle : Nat)

/-- The strand a gang starts with before its registers are written (R20, R41). -/
def bareStrand : Strand :=
  { gang := g, member := member, slot := i, role := r.role i, pc := r.entryPc (r.role i), vregs := r.vregs, accs := r.accs,
    phys := (List.range r.accs).map (r.accs * i + ·), readyAt := cycle, lastIssue := cycle }

theorem strand_eq : r.strand g iter member i cycle =
    (((setFirst (bareStrand r g member i cycle) (r.offset iter) 4).setReg 5 (BitVec.ofNat 64 r.arg)).setReg 6
      (BitVec.ofNat 64 member)).setReg 7 (BitVec.ofNat 64 ((r.role i <<< 8) ||| i)) := rfl

/-- What writing registers leaves stands in the strand as it does with none written. -/
theorem strand_keeps {α : Type} {p : Strand → α} (hp : ∀ t n v, p (Strand.setReg t n v) = p t) :
    p (r.strand g iter member i cycle) = p (bareStrand r g member i cycle) := by
  rw [strand_eq, hp, hp, hp, setFirst_keeps hp]

theorem strand_reg (n : Nat) : (r.strand g iter member i cycle).reg n =
    if 7 = n then BitVec.ofNat 64 ((r.role i <<< 8) ||| i) else if 6 = n then BitVec.ofNat 64 member
    else if 5 = n then BitVec.ofNat 64 r.arg else if 1 ≤ n ∧ n ≤ 4 then r.offset iter (n - 1) else 0 := by
  have h0 : Tab.rising (bareStrand r g member i cycle).regs = true := rfl
  have h4 := rising_setFirst h0 (r.offset iter) 4
  have h5 := rising_setReg h4 5 (BitVec.ofNat 64 r.arg)
  rw [strand_eq, reg_setReg (rising_setReg h5 6 _), reg_setReg h5, reg_setReg h4, reg_setFirst h0]
  simp only [ne_eq, OfNat.ofNat_ne_zero, not_false_eq_true, and_true]
  rfl

end

/-- Settles O48: the writes of its registers leave everything else of the strand as it is created. -/
theorem strandsAtLaunch : Obligations.StrandsAtLaunch := by
  unfold Obligations.StrandsAtLaunch
  intro r g iter member i cycle
  have hreg := strand_reg r g iter member i cycle
  refine ⟨strand_keeps r g iter member i cycle setReg_pc, fun l hl => ?_, hreg 5, hreg 6, hreg 7, fun n hn => ?_, fun n => ?_, fun n => ?_,
    strand_keeps r g iter member i cycle setReg_flags, fun n => ?_⟩
  · rw [hreg, if_neg (by omega), if_neg (by omega), if_neg (by omega), if_pos (by omega), Nat.add_sub_cancel_left]
  · rw [hreg, if_neg (by omega), if_neg (by omega), if_neg (by omega), if_neg (by omega)]
  · exact congrArg (Tab.get · 0 n) (strand_keeps r g iter member i cycle setReg_vecs)
  · exact congrArg (Tab.get · {} n) (strand_keeps r g iter member i cycle setReg_tiles)
  · exact congrArg (Tab.get · 0 n) (strand_keeps r g iter member i cycle setReg_lcs)

end Sys2Proof.Proofs
end

section
/-! The updates that every meaning is built from keep the keys of the tables rising: logs and waits, writes at the L2, at HBM4
and of a scratchpad, and control registers. -/
namespace Sys2Proof.Proofs
open Sys2Proof Sys2Proof.Machine Sys2Proof.Laws

/-! ### What the proofs below are put together from -/

theorem rising_host {s : State} (h : s.TablesOk) : Tab.rising s.host = true := h.2.1
theorem rising_islands {s : State} (h : s.TablesOk) : Tab.rising s.islands = true := h.2.2.1
theorem rising_reqs {s : State} (h : s.TablesOk) : Tab.rising s.reqs = true := h.2.2.2.1

/-- The keys of a table rise still when entries of it are dropped and others changed in place. -/
theorem rising_filterMap {α β : Type} {m : Map α} {f : Nat × α → Option (Nat × β)} (hf : ∀ e x, f e = some x → x.1 = e.1)
    (h : Tab.rising m = true) : Tab.rising (m.filterMap f) = true := by
  induction m with
  | nil => rfl
  | cons e r ih =>
    obtain ⟨ha, hr⟩ := rising_cons.1 h
    cases he : f e with
    | none => rw [List.filterMap_cons_none he]; exact ih hr
    | some x =>
      rw [List.filterMap_cons_some he]
      refine rising_cons.2 ⟨fun y hy => ?_, ih hr⟩
      obtain ⟨z, hz, hzy⟩ := List.mem_filterMap.1 hy
      rw [hf e x he, hf z y hzy]
      exact ha z hz

/-- Replacing some entries of a table by others at their keys. -/
theorem key_of_replaced {α : Type} {p : Prop} [Decidable p] {o : Option α} {e x : Nat × α}
    (h : (if p then o.map (fun r => (e.1, r)) else some e) = some x) : x.1 = e.1 := by
  split at h
  · obtain ⟨r, -, rfl⟩ := Option.map_eq_some_iff.1 h
    rfl
  · exact congrArg Prod.fst (Option.some.inj h).symm

theorem tablesRise_of {k l : Core} (h : TablesRise k) (hc : l.ctxs = k.ctxs) (hp : l.share.pats = k.share.pats) : TablesRise l := by
  unfold TablesRise
  rw [hc, hp]
  exact h

theorem tablesRise_ite {p : Prop} [Decidable p] {k l : Core} (hk : TablesRise k) (hl : TablesRise l) : TablesRise (if p then k else l) := by
  split
  · exact hk
  · exact hl

theorem tablesOk_getD {o : Option State} {s : State} (h : s.TablesOk) (ho : ∀ t, o = some t → t.TablesOk) : (o.getD s).TablesOk := by
  cases o with
  | none => exact h
  | some t => exact ho t rfl

theorem tablesOk_ite {c : Prop} [Decidable c] {a b : State} (ha : a.TablesOk) (hb : b.TablesOk) : (if c then a else b).TablesOk := by
  split
  · exact ha
  · exact hb

theorem tablesOk_free {s : State} (h : s.TablesOk) (n : Nat) : State.TablesOk { s with free := n } := h
theorem tablesOk_setHbmSector {s : State} (h : s.TablesOk) (pa key v : Nat) : (s.setHbmSector pa key v).TablesOk := h
theorem tablesOk_putReq {s : State} (h : s.TablesOk) (id : Nat) (r : Request) : State.TablesOk { s with reqs := Tab.put s.reqs id r } :=
  tablesOk_reqs h (rising_put (rising_reqs h))

/-! ### Logs and waits -/

theorem tablesOk_latch {s : State} (h : s.TablesOk) : s.latch.TablesOk := by
  unfold State.latch
  have h1 := tablesOk_foldl (f := fun s (e : Nat × Core) =>
    State.setHreg ((List.range 4).foldl (fun s x => (s.setHreg (0x200000 + 128 * e.1 + 8 * x) (BitVec.ofNat 64 (((e.2.strand x).map (·.pc.toNat)).getD 0 % 2 ^ 48))).setHreg
        (0x200000 + 128 * e.1 + 32 + 8 * x) (BitVec.ofNat 64 (s.snapSt e.2 x))) s) (0x200000 + 128 * e.1 + 64) (BitVec.ofNat 64 e.2.snapMx))
    (fun s e h => tablesOk_setHreg (tablesOk_foldl (fun s x h => tablesOk_setHreg (tablesOk_setHreg h _ _) _ _) _ h) _ _) s.cores h
  refine tablesOk_foldl (fun s g h => ?_) _ (tablesOk_free (tablesOk_foldl (fun s x h => tablesOk_setHreg h _ _) _
    (tablesOk_foldl (fun s x h => tablesOk_setHreg h _ _) _ (tablesOk_foldl (fun s p h => ?_) _ (tablesOk_foldl (fun s c h =>
    tablesOk_foldl (fun s i h => tablesOk_setHreg h _ _) _ h) _ h1)))) _)
  · dsimp only; split <;> exact tablesOk_setHreg h _ _
  · dsimp only; split <;> exact tablesOk_setHreg h _ _

theorem tablesOk_pushLog {s : State} (h : s.TablesOk) (c : Nat) (e : LogEntry) : (s.pushLog c e).TablesOk := by
  exact tablesOk_setCluster h ..

theorem tablesOk_fire {s : State} (h : s.TablesOk) (source : Nat) : (s.fire source).TablesOk := by
  unfold State.fire
  dsimp only
  split
  · exact tablesOk_pushLog (tablesOk_latch (tablesOk_setHreg (tablesOk_setHreg h _ _) _ _)) _ _
  · exact tablesOk_setHreg h _ _

theorem tablesOk_log {s : State} (h : s.TablesOk) (c source cls code owner : Nat) (addr detail : Word) :
    (s.log c source cls code owner addr detail).TablesOk := by
  unfold State.log State.logEntry
  dsimp only
  split
  · exact tablesOk_fire (tablesOk_pushLog h _ _) _
  · exact tablesOk_pushLog h _ _

theorem tablesOk_answer {s : State} (h : s.TablesOk) (w : Waiter) (status gen : Nat) : (s.answer w status gen).TablesOk := by
  unfold State.answer
  split
  · exact h
  · exact tablesOk_of (tablesOk_mapStrand h ..) rfl rfl rfl rfl rfl

theorem tablesOk_testGlobal {s : State} (h : s.TablesOk) (pa n : Nat) : (s.testGlobal pa n).TablesOk := by
  refine tablesOk_foldl (fun s w h => ?_) _ h
  split
  · dsimp only
    split
    · exact tablesOk_answer h ..
    · exact h
  · exact h

theorem tablesOk_testSpad {s : State} (h : s.TablesOk) (c off n : Nat) : (s.testSpad c off n).TablesOk := by
  refine tablesOk_foldl (fun s w h => ?_) _ h
  split
  · split
    · exact tablesOk_answer h ..
    · exact h
  · exact h

theorem tablesOk_answerBarrier {s : State} (h : s.TablesOk) (obj status gen : Nat) : (s.answerBarrier obj status gen).TablesOk := by
  refine tablesOk_foldl (fun s w h => ?_) _ h
  split
  · exact tablesOk_answer h ..
  · exact h

theorem tablesOk_clearTags {s : State} (h : s.TablesOk) (pa n mask key : Nat) : (s.clearTags pa n mask key).TablesOk := by
  refine tablesOk_foldl (fun s o h => ?_) _ h
  split
  · exact tablesOk_answerBarrier (s := { s with barriers := s.barriers.filter (· ≠ o) }) h ..
  · exact h

theorem tablesOk_markDirty {s : State} (h : s.TablesOk) (pa : Nat) : (s.markDirty pa).TablesOk := by
  unfold State.markDirty
  dsimp only
  split <;> exact h

/-! ### Writes at the L2 and at HBM4 -/

theorem tablesOk_evictLine {s : State} (h : s.TablesOk) (l : L2Line) (counted : Bool) : (s.evictLine l counted).TablesOk := by
  unfold State.evictLine
  dsimp only
  refine tablesOk_of (s := if l.dirty = true then _ else _) ?_ rfl rfl rfl rfl rfl
  split
  · refine tablesOk_foldl (fun s i h => ?_) _ (tablesOk_setCluster h _ _)
    split
    · exact h
    · split
      · exact tablesOk_log h ..
      · exact tablesOk_setHbmSector h ..
  · exact h

theorem tablesOk_makeRoom {s t : State} (h : s.TablesOk) {line : Nat} {order : List L2Line} {keep counted : Bool} {short : List L2Line → Bool}
    (ht : s.makeRoom line order keep short counted = some t) : t.TablesOk := by
  induction order generalizing s with
  | nil =>
    unfold State.makeRoom at ht
    dsimp only at ht
    split at ht
    · cases ht; exact h
    · cases ht
  | cons l r ih =>
    unfold State.makeRoom at ht
    dsimp only at ht
    split at ht
    · cases ht; exact h
    · split at ht
      · exact ih h ht
      · refine ih ?_ ht
        split
        · exact tablesOk_setCluster (tablesOk_evictLine h l true) _ _
        · exact tablesOk_evictLine h l true

theorem tablesOk_claimLine {s : State} (h : s.TablesOk) (line key : Nat) : (s.claimLine line key).TablesOk := by
  unfold State.claimLine
  split
  · split
    · exact h
    · exact tablesOk_evictLine h _ false
  · exact h

theorem tablesOk_l2Write {s t : State} (h : s.TablesOk) {line mask data key : Nat} {isFill streaming nocomp : Bool}
    (ht : s.l2Write line mask data key isFill streaming nocomp = some t) : t.TablesOk := by
  have hc := tablesOk_claimLine h line key
  unfold State.l2Write at ht
  obtain ⟨s1, hroom, ht⟩ := of_match_some ht
  have h1 : s1.TablesOk := by
    split at hroom
    · exact Option.some.inj hroom ▸ hc
    · exact tablesOk_makeRoom hc hroom
  obtain ⟨s3, hs3, ht⟩ := of_match_some ht
  have h3 := tablesOk_makeRoom (tablesOk_setCluster h1 _ _) hs3
  exact Option.some.inj ht ▸ tablesOk_of h3 rfl rfl rfl rfl rfl

theorem tablesOk_fillSectors {s t : State} (h : s.TablesOk) {line key sectors : Nat} {streaming nocomp : Bool}
    (ht : s.fillSectors line key sectors streaming nocomp = some t) : t.TablesOk := by
  unfold State.fillSectors at ht
  dsimp only at ht
  have hc := tablesOk_claimLine h line key
  rcases of_ite_some ht with rfl | ht
  · exact hc
  · obtain ⟨t1, h1, rfl⟩ := Option.map_eq_some_iff.1 ht
    exact tablesOk_of (tablesOk_l2Write hc h1) rfl rfl rfl rfl rfl

theorem tablesOk_completeFill {s t : State} (h : s.TablesOk) {f : Fill} (ht : s.completeFill f = some t) : t.TablesOk :=
  tablesOk_fillSectors (tablesOk_setCluster h _ _) ht

theorem tablesOk_settleSet {s : State} (h : s.TablesOk) (line : Nat) : (s.settleSet line).TablesOk := by
  unfold State.settleSet
  extract_lets c mine s0 s1
  have h0 : s0.TablesOk := tablesOk_reqs h (rising_mapVals _ (rising_reqs h))
  refine tablesOk_setCluster (tablesOk_foldl (fun s f h => ?_) _ h0) _ _
  split
  · exact tablesOk_getD h (fun t ht => tablesOk_completeFill h ht)
  · exact h

theorem tablesOk_homeRead {s : State} (h : s.TablesOk) (pa n key : Nat) (full : Bool) : (s.homeRead pa n key full).1.TablesOk := by
  unfold State.homeRead State.touchLine
  dsimp only
  have h2 := tablesOk_settleSet h (pa / 128)
  have h1 : ∀ x, (match s.fillSectors (pa / 128) key x false false with
      | some s1 => s1
      | none => ((s.settleSet (pa / 128)).fillSectors (pa / 128) key x false false).getD (s.settleSet (pa / 128))).TablesOk := by
    intro x
    split
    · next s1 hs => exact tablesOk_fillSectors h hs
    · exact tablesOk_getD h2 (fun t ht => tablesOk_fillSectors h2 ht)
  split
  · exact h1 _
  · exact tablesOk_setCluster (h1 _) ..

theorem tablesOk_homeWrite {s t : State} (h : s.TablesOk) {pa n mask v key : Nat} {nocomp : Bool}
    (ht : s.homeWrite pa n mask v key nocomp = some t) : t.TablesOk := by
  unfold State.homeWrite at ht
  dsimp only at ht
  split at ht
  · cases ht
  · next s1 hs1 =>
    cases ht
    exact tablesOk_markDirty (tablesOk_testGlobal (tablesOk_clearTags (tablesOk_l2Write h hs1) _ _ _ _) _ _) _

theorem tablesOk_writeNow {s : State} (h : s.TablesOk) (pa n mask v key : Nat) (nocomp : Bool) : (s.writeNow pa n mask v key nocomp).TablesOk := by
  unfold State.writeNow
  split
  · next t ht => exact tablesOk_homeWrite h ht
  · have h1 := tablesOk_settleSet h (pa / 128)
    exact tablesOk_getD h1 (fun t ht => tablesOk_homeWrite h1 ht)

theorem tablesOk_engineWrite {s : State} (h : s.TablesOk) (pa n mask v key : Nat) : (s.engineWrite pa n mask v key).TablesOk :=
  tablesOk_writeNow h ..

theorem tablesOk_deviceWrite {s : State} (h : s.TablesOk) (off n v : Nat) : (s.deviceWrite off n v).TablesOk :=
  tablesOk_foldl (fun _ _ h => tablesOk_engineWrite h ..) _ h

theorem tablesOk_flushL2 {s : State} (h : s.TablesOk) : s.flushL2.TablesOk :=
  tablesOk_foldl (fun _ _ h => tablesOk_foldl (fun _ l h => tablesOk_evictLine h l true) _ h) _ h

/-! ### Writes of a scratchpad -/

theorem tablesOk_spadWrite {s : State} (h : s.TablesOk) (c off n mask v : Nat) : (s.spadWrite c off n mask v).TablesOk := by
  have h1 : ((s.renewSpad c off n mask).mapCore c (fun k => { k with spad := writeCells k.spad off n mask v })).TablesOk :=
    tablesOk_mapCore (s := s.renewSpad c off n mask) h c (fun _ hk => ⟨hk.1, hk.2⟩)
  exact tablesOk_testSpad h1 ..

theorem tablesOk_performSpad {s : State} (h : s.TablesOk) (c : Nat) (loads : List SpadLoad) (stores : List (Nat × Nat × Byte)) (id : Nat) :
    (s.performSpad c loads stores id).1.TablesOk := by
  unfold State.performSpad
  extract_lets k results offs spad s1 s2
  have h1 : s1.TablesOk := tablesOk_setCore h c (tablesRise_of (tablesRise_core h c) rfl rfl)
  exact tablesOk_ite h1 (tablesOk_testSpad (by exact h1) ..)

theorem tablesOk_resplit {s : State} (h : s.TablesOk) (c : Nat) (v : Word) : (s.mapCore c (fun k => k.resplit v)).TablesOk :=
  tablesOk_mapCore h c (fun _ hk => ⟨hk.1, hk.2⟩)

theorem tablesOk_barL1 {s : State} (h : s.TablesOk) (c : Nat) : (s.barL1 c).TablesOk :=
  tablesOk_reqs h (rising_mapVals _ (rising_reqs h))

theorem tablesOk_writeControl {s : State} (h : s.TablesOk) (c x cr : Nat) (v : Word) : (s.writeControl c x cr v).TablesOk := by
  unfold State.writeControl
  refine tablesOk_ite (tablesOk_mapStrand h ..) (tablesOk_ite (tablesOk_mapCore h c (fun _ hk => ⟨hk.1, hk.2⟩)) (tablesOk_ite (tablesOk_mapCore h c (fun _ hk => ⟨hk.1, hk.2⟩))
    (tablesOk_ite (by exact tablesOk_barL1 (tablesOk_resplit h c v) c) (tablesOk_ite ?_ (tablesOk_ite ?_ (tablesOk_ite ?_ (tablesOk_ite ?_
      (tablesOk_ite ?_ (tablesOk_ite ?_ h)))))))))
  all_goals (dsimp only; exact tablesOk_mapCore h c (fun _ hk => ⟨hk.1, hk.2⟩))

end Sys2Proof.Proofs
end

section
/-! The operations that requests, bundles and agents share keep the keys of the tables rising: logs, translation, reads and
writes of virtual memory, requests and phase buffers.

Each lemma of these sections says of one function of the model that the state it leaves is in the form where the state it is
given is. Within them `by exact` stands where a proof can be read only once the state it speaks of is known. -/
namespace Sys2Proof.Proofs
open Sys2Proof Sys2Proof.Machine Sys2Proof.Laws

variable {s t : State}

/-! ### What the proofs below are put together from -/

/-- The state of an answer that is a state with something beside it. -/
theorem tablesOk_fst {α : Type} {p : State × α} {a : α} (h : p.1.TablesOk) (he : p = (t, a)) : t.TablesOk := by
  rw [he] at h
  exact h

theorem tablesOk_ite_fst {α : Type} {c : Prop} [Decidable c] {p q : State × α} (hp : p.1.TablesOk) (hq : q.1.TablesOk) :
    (if c then p else q).1.TablesOk := by
  split
  · exact hp
  · exact hq

/-- A fold that carries something beside the state. -/
theorem tablesOk_foldl_fst {α β : Type} {f : State × β → α → State × β} (hf : ∀ p x, p.1.TablesOk → (f p x).1.TablesOk) {l : List α}
    {p : State × β} (h : p.1.TablesOk) : (l.foldl f p).1.TablesOk := by
  induction l generalizing p with
  | nil => exact h
  | cons x r ih => exact ih (hf p x h)

/-- Every core changed at once, what it lists among them kept. -/
theorem tablesOk_mapCores (h : s.TablesOk) {f : Nat × Core → Core} (hf : ∀ e, TablesRise e.2 → TablesRise (f e)) :
    State.TablesOk { s with cores := s.cores.map (fun e => (e.1, f e)) } :=
  ⟨coresOk_mapVals h.1 (fun e he => hf e (h.1.2 e he)), h.2⟩

theorem tablesOk_elim {α : Type} {o : Option α} {f : α → State} (hn : s.TablesOk) (hf : ∀ x, (f x).TablesOk) : (o.elim s f).TablesOk := by
  cases o with
  | none => exact hn
  | some x => exact hf x

/-! ### Logs, the L2 and requests -/

variable {c x slot va pa off n v id : Nat}

theorem tablesOk_logEntry {e : LogEntry} (h : s.TablesOk) : (s.logEntry c e).TablesOk :=
  tablesOk_ite (tablesOk_fire (tablesOk_pushLog h c e) _) (tablesOk_pushLog h c e)

theorem tablesOk_correct {die source sector : Nat} (h : s.TablesOk) : (s.correct die source sector).TablesOk := by
  have h2 : ∀ k v, ((s.setCluster die k).setHreg (0x5800 + 8 * die) v).TablesOk := fun k v => tablesOk_setHreg (tablesOk_setCluster h die k) ..
  exact tablesOk_ite (h2 _ _) (tablesOk_log (h2 _ _) ..)

theorem tablesOk_showLog {e : LogEntry} (h : s.TablesOk) : (s.showLog c e).TablesOk :=
  have h1 := tablesOk_setHreg (tablesOk_setCluster h ..) ..
  tablesOk_ite (tablesOk_setHreg h1 ..) h1

theorem tablesOk_settleLogs (h : s.TablesOk) : s.settleLogs.TablesOk :=
  tablesOk_foldl (fun _ _ h => tablesOk_foldl (fun _ _ h => tablesOk_showLog h) _ h) _ h

theorem tablesOk_touchLine {line : Nat} (h : s.TablesOk) : (s.touchLine line).TablesOk := by
  unfold State.touchLine
  dsimp only
  split <;> exact h

theorem tablesOk_testBarrier {obj gen : Nat} (h : s.TablesOk) : (s.testBarrier obj gen).TablesOk :=
  tablesOk_ite (tablesOk_answerBarrier h ..) (tablesOk_foldl (fun _ _ h => tablesOk_ite (tablesOk_answer h ..) h) _ h)

theorem tablesOk_addReq {r : Request} (h : s.TablesOk) : (s.addReq r).TablesOk := tablesOk_putReq h ..
theorem tablesOk_dropReq (h : s.TablesOk) : (s.dropReq id).TablesOk := tablesOk_reqs h (rising_erase (rising_reqs h))
theorem tablesOk_setGang {v : Gang} (h : s.TablesOk) : (s.setGang n v).TablesOk := h
theorem tablesOk_setNest {v : Nest} (h : s.TablesOk) : (s.setNest n v).TablesOk := h

theorem tablesOk_setSlotReg {q : Nat} (h : s.TablesOk) : (s.setSlotReg q off v).TablesOk := tablesOk_setHreg h ..

theorem tablesOk_retireStore (h : s.TablesOk) : (s.retireStore id).TablesOk := by
  unfold State.retireStore
  split
  · exact h
  · dsimp only
    split
    · exact tablesOk_putReq (tablesOk_dropReq h) ..
    · exact tablesOk_dropReq h

/-! ### Translation -/

theorem tablesOk_tlbInstall {e : TlbEntry} (h : s.TablesOk) : (s.tlbInstall c e).TablesOk := by
  unfold State.tlbInstall
  extract_lets put s1
  have h1 : s1.TablesOk := tablesOk_mapCore h c (fun _ hk => ⟨hk.1, hk.2⟩)
  exact tablesOk_setCluster h1 ..

theorem tablesOk_walkFrom {table : Nat} {levels : List (Nat × Nat × Option Nat)} (h : s.TablesOk) :
    (s.walkFrom slot va table levels).1.TablesOk := by
  induction levels generalizing s table with
  | nil => exact h
  | cons l rest ih =>
    unfold State.walkFrom
    dsimp only
    split
    · exact h
    · have h1 := tablesOk_homeRead h ((table + 8 * bits va (l.1 + l.2.1 - 1) l.1) % 2 ^ 44) 8 (s.slotKey slot) true
      split
      · exact h1
      · split
        · split
          · exact h1
          · split <;> exact h1
        · split
          · exact h1
          · exact ih h1

theorem tablesOk_walk (h : s.TablesOk) : (s.walk slot va).1.TablesOk := tablesOk_walkFrom h

theorem tablesOk_translate {need : Need} (h : s.TablesOk) : (s.translate c slot va need).1.TablesOk := by
  unfold State.translate
  split
  · split <;> exact h
  · split
    · next he => exact tablesOk_fst (tablesOk_walk h) he
    · next he =>
      have h1 := tablesOk_fst (tablesOk_walk h) he
      split
      · exact tablesOk_tlbInstall h1
      · exact h1

/-! ### Other modules -/

theorem tablesOk_freeReply {module owner addr : Nat} (h : s.TablesOk) : (s.freeReply module owner addr).1.TablesOk := by
  unfold State.freeReply
  dsimp only
  split
  · exact h
  · split
    · exact tablesOk_log (by exact h) ..
    · split <;> exact h

theorem tablesOk_askRemote {module owner : Nat} (h : s.TablesOk) : (s.askRemote module off n owner).1.TablesOk := by
  unfold State.askRemote
  split
  next he =>
  have h1 := tablesOk_fst (tablesOk_freeReply (by exact h)) he
  split <;> exact h1

theorem tablesOk_tellRemote {module owner : Nat} (h : s.TablesOk) : (s.tellRemote module off n v owner).1.TablesOk :=
  tablesOk_freeReply (by exact h)

/-! ### Virtual memory of a core -/

theorem tablesOk_sectorRead (h : s.TablesOk) : (s.sectorRead c slot va n).1.TablesOk := by
  unfold State.sectorRead
  split
  · next he => exact tablesOk_fst (tablesOk_translate h) he
  · next he =>
    have h1 := tablesOk_fst (tablesOk_translate h) he
    split
    · split
      · exact h1
      · exact tablesOk_homeRead h1 ..
    · split
      · next he => exact tablesOk_fst (tablesOk_askRemote h1) he
      · next he => exact tablesOk_fst (tablesOk_askRemote h1) he
    all_goals exact h1

theorem tablesOk_sectorWrite (h : s.TablesOk) : (s.sectorWrite c slot va n v).1.TablesOk := by
  unfold State.sectorWrite
  split
  · next he => exact tablesOk_fst (tablesOk_translate h) he
  · next he =>
    have h1 := tablesOk_fst (tablesOk_translate h) he
    split
    · split
      · exact h1
      · exact tablesOk_engineWrite h1 ..
    · exact tablesOk_tellRemote h1
    all_goals exact h1

theorem tablesOk_readRuns {runs : List (Nat × Nat × Nat)} {acc : Nat} (h : s.TablesOk) : (s.readRuns c slot runs acc).1.TablesOk := by
  induction runs generalizing s acc with
  | nil => exact h
  | cons run rest ih =>
    unfold State.readRuns
    split
    · next he => exact tablesOk_fst (tablesOk_sectorRead h) he
    · next he => exact ih (tablesOk_fst (tablesOk_sectorRead h) he)

theorem tablesOk_writeRuns {runs : List (Nat × Nat × Nat)} (h : s.TablesOk) : (s.writeRuns c slot v runs).1.TablesOk := by
  induction runs generalizing s with
  | nil => exact h
  | cons run rest ih =>
    unfold State.writeRuns
    split
    · next he => exact tablesOk_fst (tablesOk_sectorWrite h) he
    · next he => exact ih (tablesOk_fst (tablesOk_sectorWrite h) he)

theorem tablesOk_virtRead (h : s.TablesOk) : (s.virtRead c slot va n).1.TablesOk := tablesOk_readRuns h
theorem tablesOk_virtWrite (h : s.TablesOk) : (s.virtWrite c slot va n v).1.TablesOk := tablesOk_writeRuns h

/-! ### Phase buffers -/

theorem tablesOk_sendRecord {b : BufRec} (h : s.TablesOk) : (s.sendRecord c x b).TablesOk := by
  unfold State.sendRecord
  split
  · exact h
  · exact tablesOk_addReq (tablesOk_setStrand h ..)

theorem tablesOk_sendRecords {recs : List BufRec} (h : s.TablesOk) : (s.sendRecords c x recs).1.TablesOk := by
  induction recs generalizing s with
  | nil => exact h
  | cons b rest ih =>
    unfold State.sendRecords
    split
    · exact h
    · exact ih (tablesOk_sendRecord h)

theorem tablesOk_publish {p : BufRec → Bool} (h : s.TablesOk) : (s.publish c x p).1.TablesOk := by
  unfold State.publish
  split
  · exact h
  · exact tablesOk_sendRecords h

theorem tablesOk_publishOldest (h : s.TablesOk) : (s.publishOldest c x n).1.TablesOk := by
  unfold State.publishOldest
  split
  · exact h
  · exact tablesOk_sendRecords h

theorem tablesOk_writerHalf {scope : Nat} (h : s.TablesOk) : (s.writerHalf c x scope).1.TablesOk := by
  unfold State.writerHalf
  split
  · exact h
  · dsimp only
    split
    · exact tablesOk_publish h
    · exact h

theorem tablesOk_readerHalf {scope : Nat} (h : s.TablesOk) : (s.readerHalf c scope).TablesOk := tablesOk_ite (tablesOk_mapCore h c (fun _ hk => ⟨hk.1, hk.2⟩)) h

end Sys2Proof.Proofs
end

section
/-! What ends a strand or a gang, takes and returns a trap, waits, and issues a bundle keeps the keys of the tables rising. -/
namespace Sys2Proof.Proofs
open Sys2Proof Sys2Proof.Machine Sys2Proof.Laws

variable {s : State} {c x g id : Nat}

/-! ### Strands and gangs that end -/

theorem tablesOk_bereave {p : Nat → Request → Bool} (h : s.TablesOk) : (s.bereave p).TablesOk :=
  tablesOk_reqs h (rising_filterMap (fun _ _ he => key_of_replaced he) (rising_reqs h))

theorem tablesOk_dropLoads {gang member slot : Nat} (h : s.TablesOk) : (s.dropLoads c gang member slot).TablesOk :=
  tablesOk_mapCore (tablesOk_bereave h) c (fun _ hk => ⟨hk.1, hk.2⟩)

theorem tablesOk_releaseShare (h : s.TablesOk) : (s.releaseShare c).TablesOk := by
  unfold State.releaseShare
  extract_lets s1
  have h1 : s1.TablesOk := tablesOk_mapCore (tablesOk_bereave h) c (fun _ hk => ⟨hk.1, hk.2⟩)
  exact h1

theorem tablesOk_withdraw (h : s.TablesOk) : (s.withdraw c x).TablesOk := h

theorem tablesOk_removeStrand (h : s.TablesOk) : (s.removeStrand c x).TablesOk := by
  unfold State.removeStrand
  extract_lets s1 s2
  have h2 : s2.TablesOk := tablesOk_mapCore (tablesOk_withdraw h) c (fun _ hk => ⟨rising_erase hk.1, hk.2⟩)
  exact tablesOk_ite (tablesOk_mapCore (tablesOk_releaseShare h2) c (fun _ hk => ⟨hk.1, hk.2⟩)) h2

theorem tablesOk_strandEnded (h : s.TablesOk) : (s.strandEnded g).TablesOk := by
  unfold State.strandEnded
  split
  · exact h
  · split
    · exact h
    · dsimp only
      split <;> exact h

theorem tablesOk_haltOn (h : s.TablesOk) : (s.haltOn g c).TablesOk := by
  unfold State.haltOn
  extract_lets k stays mine unsent gone reqs kept s1
  have hr : Tab.rising reqs = true := rising_filterMap (fun _ _ he => key_of_replaced he) (rising_filter _ (rising_reqs h))
  have h1 : s1.TablesOk := tablesOk_mapCore (tablesOk_reqs h hr) c (fun _ hk => ⟨hk.1, hk.2⟩)
  exact tablesOk_ite (tablesOk_foldl (fun _ _ h => tablesOk_removeStrand h) _ h1) h

theorem tablesOk_stopGang (h : s.TablesOk) : (s.stopGang g).TablesOk := by
  unfold State.stopGang
  split
  · exact h
  · next v _ =>
    have h1 := tablesOk_foldl (f := fun s c => s.haltOn g c) (fun _ _ h => tablesOk_haltOn h) v.cores h
    dsimp only
    split
    · exact tablesOk_strandEnded (by exact h1)
    · exact h1

theorem tablesOk_settleEnding (h : s.TablesOk) : (s.settleEnding g).TablesOk := tablesOk_ite (tablesOk_stopGang h) h

theorem tablesOk_endGang {status : Nat} (h : s.TablesOk) : (s.endGang g status).TablesOk := by
  unfold State.endGang
  split
  · exact h
  · have h1 := tablesOk_stopGang (g := g) h
    dsimp only
    split <;> exact h1

/-! ### Pattern loads and phase sectors -/

theorem tablesOk_completePatld (h : s.TablesOk) : (s.completePatld c).TablesOk := by
  unfold State.completePatld
  split
  · exact h
  · exact tablesOk_mapCore (tablesOk_free h _) c (fun _ hk => ⟨hk.1, rising_foldl (fun _ _ hm => rising_set hm) _ hk.2⟩)

theorem tablesOk_completePatlds (h : s.TablesOk) : (s.completePatlds c).TablesOk :=
  tablesOk_foldl (fun _ _ h => tablesOk_completePatld h) _ h
theorem tablesOk_settlePatlds (h : s.TablesOk) : (s.settlePatlds c).TablesOk :=
  tablesOk_foldl (fun _ _ h => tablesOk_completePatld h) _ h

theorem tablesOk_landPart {i : Nat} (h : s.TablesOk) : (s.landPart id i).TablesOk := by
  unfold State.landPart
  split
  · exact h
  · split
    · exact h
    · extract_lets set fault
      have hset : ∀ {u f}, State.TablesOk u → (set u f).TablesOk := fun hu => tablesOk_putReq hu ..
      have hfault : ∀ {u e retry}, State.TablesOk u → (fault u e retry).TablesOk := hset
      split
      · next he => exact hfault (tablesOk_fst (tablesOk_translate h) he)
      · next he =>
        have h1 := tablesOk_fst (tablesOk_translate h) he
        split
        · exact tablesOk_ite (hfault h1) (hset (tablesOk_writeNow h1 ..))
        · exact hfault h1
        · exact h1

theorem tablesOk_performSectors {p : Nat → Bool} (h : s.TablesOk) : (s.performSectors c x p).TablesOk := by
  unfold State.performSectors
  split
  · exact h
  · exact tablesOk_foldl (fun _ _ h => tablesOk_ite (tablesOk_foldl (fun _ _ h => tablesOk_ite (tablesOk_landPart h) h) _ h) h) _
      (tablesOk_foldl (fun _ _ h => tablesOk_sendRecord h) _ h)

/-! ### Traps -/

theorem tablesOk_takeTrap {i : TrapInfo} {bundle pc : Word} (h : s.TablesOk) : (s.takeTrap c x i bundle pc).TablesOk := by
  unfold State.takeTrap
  split
  · exact h
  · next t0 _ =>
    extract_lets q owner src t s1 fa mine s3
    have h3 : s3.TablesOk := tablesOk_performSectors (tablesOk_completePatlds (tablesOk_withdraw (tablesOk_setStrand h ..)))
    split
    next s4 failed he =>
    have h4 := tablesOk_fst (tablesOk_virtWrite h3) he
    extract_lets s5 s6 s7
    have h5 : s5.TablesOk := tablesOk_mapCore h4 c (fun _ hk => ⟨hk.1, hk.2⟩)
    have h6 : s6.TablesOk := by
      unfold s6
      split
      · exact tablesOk_log h5 ..
      · exact h5
    have h7 : s7.TablesOk := tablesOk_ite (tablesOk_fire h6 _) h6
    exact tablesOk_ite (tablesOk_endGang (tablesOk_mapStrand (tablesOk_logEntry h7) ..)) (tablesOk_mapStrand h7 ..)

theorem tablesOk_haltStrand (h : s.TablesOk) : (s.haltStrand c x).TablesOk :=
  tablesOk_mapStrand (tablesOk_withdraw (tablesOk_completePatlds h)) ..

theorem tablesOk_readFrame {t : Strand} (h : s.TablesOk) : (s.readFrame c x t).1.TablesOk := by
  unfold State.readFrame
  dsimp only
  split
  · next he => exact tablesOk_fst (tablesOk_virtRead h) he
  · next he => exact tablesOk_fst (tablesOk_virtRead h) he

theorem tablesOk_resolveLoad {w : Nat} {retry : Bool} (h : s.TablesOk) : (s.resolveLoad c w retry).TablesOk := by
  unfold State.resolveLoad
  split
  · exact h
  · split
    · exact h
    · split
      · dsimp only
        split
        · exact tablesOk_addReq (tablesOk_mapCore h c (fun _ hk => ⟨hk.1, hk.2⟩))
        · exact tablesOk_ite (tablesOk_readerHalf (tablesOk_mapCore h c (fun _ hk => ⟨hk.1, hk.2⟩))) (tablesOk_mapCore h c (fun _ hk => ⟨hk.1, hk.2⟩))
      · exact h

theorem tablesOk_resolveStore {q : Nat} {retry : Bool} (h : s.TablesOk) : (s.resolveStore c q retry).TablesOk := by
  unfold State.resolveStore
  split
  · exact h
  · extract_lets s1
    have h1 : s1.TablesOk := tablesOk_mapCore h c (fun _ hk => ⟨hk.1, hk.2⟩)
    split
    · exact h1
    · split
      · exact tablesOk_putReq h1 ..
      · split
        · exact tablesOk_retireStore h1
        · exact tablesOk_ite (tablesOk_retireStore h1) (tablesOk_putReq h1 ..)

theorem tablesOk_returnTrap (h : s.TablesOk) : (s.returnTrap c x).TablesOk := by
  unfold State.returnTrap
  split
  · exact h
  · dsimp only
    split
    · next he => exact tablesOk_takeTrap (tablesOk_setStrand (tablesOk_fst (tablesOk_readFrame h) he) ..)
    · next he =>
      have h1 := tablesOk_fst (tablesOk_readFrame h) he
      split
      · exact tablesOk_takeTrap (tablesOk_setStrand h1 ..)
      · split
        · exact tablesOk_resolveLoad (tablesOk_setStrand h1 ..)
        · exact tablesOk_ite (tablesOk_resolveStore (tablesOk_setStrand h1 ..)) (tablesOk_setStrand h1 ..)

theorem tablesOk_parkTrap {t : Strand} {i : TrapInfo} (h : s.TablesOk) : (s.parkTrap c x t i).TablesOk :=
  tablesOk_takeTrap (tablesOk_setStrand h ..)

theorem tablesOk_addDues {new : List TrapInfo} (h : s.TablesOk) : (s.addDues c x new).TablesOk := tablesOk_mapStrand h ..

theorem tablesOk_enterDue {landed : Bool} (h : s.TablesOk) : (s.enterDue c x landed).TablesOk := by
  unfold State.enterDue
  split
  · exact tablesOk_takeTrap (tablesOk_setStrand h ..)
  · exact h

/-! ### Waits and stalls -/

theorem tablesOk_testWaiter {w : Waiter} (h : s.TablesOk) : (s.testWaiter w).TablesOk := by
  unfold State.testWaiter
  split
  · dsimp only
    split
    · exact tablesOk_answer h ..
    · split
      · exact tablesOk_answer (by exact h) ..
      · split
        · exact tablesOk_answer (by exact h) ..
        · exact h
  · exact tablesOk_testSpad h ..
  · exact tablesOk_testGlobal (tablesOk_touchLine h) ..
  · exact tablesOk_testBarrier (tablesOk_touchLine h)

theorem tablesOk_sendWaiter {w : Waiter} (h : s.TablesOk) : (s.sendWaiter w).TablesOk := by
  unfold State.sendWaiter
  split <;> exact tablesOk_testWaiter (by exact h)

theorem tablesOk_addWaiter {w : Waiter} (h : s.TablesOk) : (s.addWaiter w).TablesOk := by
  unfold State.addWaiter
  split
  · split
    · exact tablesOk_ite (tablesOk_testWaiter h) h
    · exact tablesOk_ite (tablesOk_sendWaiter (by exact h)) h
  · exact tablesOk_ite (tablesOk_sendWaiter (by exact h)) h

theorem tablesOk_probeAway {module off owner : Nat} (h : s.TablesOk) : (s.probeAway c x module off owner).TablesOk := by
  unfold State.probeAway
  split
  next he =>
  exact tablesOk_free (tablesOk_mapStrand (tablesOk_fst (tablesOk_freeReply (by exact h)) he) ..) _

theorem tablesOk_act {a : StallAct} (h : s.TablesOk) : (s.act c x a).TablesOk := by
  unfold State.act
  cases a with
  | nothing => exact h
  | oldest n => exact tablesOk_publishOldest h
  | sectors l => exact tablesOk_publish h
  | vwait i => exact tablesOk_mapStrand h ..
  | publish scope => exact tablesOk_writerHalf h
  | phase scope => exact tablesOk_writerHalf (tablesOk_mapStrand h ..)
  | banks => exact tablesOk_mapStrand h ..
  | wait w => exact tablesOk_addWaiter h
  | probe module off owner => exact tablesOk_probeAway h

theorem tablesOk_stalled {why : Stall} {a : StallAct} (h : s.TablesOk) : (s.stalled c x why a).TablesOk :=
  tablesOk_act (tablesOk_mapStrand h ..)

/-! ### Held bundles and commitment -/

theorem tablesOk_finishYield {pa va : Nat} {live : List Word} {next : Word} (h : s.TablesOk) :
    (s.finishYield c x va pa live next).TablesOk := by
  unfold State.finishYield
  split
  · exact h
  · dsimp only
    split
    · exact h
    · refine tablesOk_removeStrand (tablesOk_setCluster ?_ ..)
      split
      · exact tablesOk_engineWrite (tablesOk_engineWrite h ..) ..
      · exact tablesOk_tellRemote (tablesOk_tellRemote h)
      · exact h

theorem tablesOk_swapVitrine {i : Nat} (h : s.TablesOk) : (s.swapVitrine i).TablesOk := by
  unfold State.swapVitrine
  split
  · exact h
  · split <;> exact h

theorem tablesOk_hibernate (h : s.TablesOk) : (s.hibernate c x).TablesOk := tablesOk_ite (tablesOk_mapStrand h ..) h
theorem tablesOk_release (h : s.TablesOk) : (s.release c x).TablesOk := tablesOk_mapStrand h ..
theorem tablesOk_resetPaths {queues : List Nat} (h : s.TablesOk) : (s.resetPaths c queues).TablesOk := tablesOk_mapCore h c (fun _ hk => ⟨hk.1, hk.2⟩)

theorem tablesOk_finishDrain {t : Strand} {bundle : Word} (h : s.TablesOk) : (s.finishDrain c x t bundle).TablesOk := by
  unfold State.finishDrain
  extract_lets mine lines fs told s1
  have htold : told.TablesOk := tablesOk_mapCores h (fun _ he => he)
  have h1 : s1.TablesOk := tablesOk_release (tablesOk_mapCore htold c (fun _ hk => ⟨hk.1, hk.2⟩))
  split
  · exact tablesOk_mapStrand h1 ..
  · exact h1

theorem tablesOk_continueHold (h : s.TablesOk) : (s.continueHold c x).TablesOk := by
  unfold State.continueHold
  split
  · exact h
  · next t _ =>
    extract_lets held writer
    have hheld : ∀ {queues scope ready f}, (∀ s : State, s.TablesOk → (f s).TablesOk) → (held queues scope ready f).TablesOk := by
      intro queues scope ready f hf
      unfold held
      split
      next he =>
      have h1 := tablesOk_fst (tablesOk_writerHalf h) he
      dsimp only
      split
      · exact tablesOk_ite (tablesOk_setStrand h1 ..) (tablesOk_parkTrap h1)
      · exact tablesOk_ite (hf _ h1) h1
    have hwriter : ∀ {scope ready f}, (∀ s : State, s.TablesOk → (f s).TablesOk) → (writer scope ready f).TablesOk :=
      fun {scope ready f} => @hheld (List.range 4) scope ready f
    clear_value writer held
    split
    · exact h
    · exact hwriter fun _ h => tablesOk_readerHalf (tablesOk_release h)
    · exact hwriter fun _ h => tablesOk_swapVitrine (tablesOk_release h)
    · exact tablesOk_ite h (tablesOk_finishDrain h)
    · exact hwriter fun _ h => tablesOk_strandEnded (tablesOk_removeStrand (tablesOk_dropLoads h))
    · exact hwriter fun _ h => tablesOk_finishYield h
    · exact hwriter fun _ h => h
    · exact hheld fun _ h => tablesOk_release (tablesOk_resetPaths (tablesOk_mapStrand (tablesOk_free h _) ..))
    · exact tablesOk_hibernate (tablesOk_release h)
    · exact tablesOk_returnTrap (tablesOk_release h)

theorem tablesOk_continueHolds (h : s.TablesOk) : (s.continueHolds c).TablesOk := by
  have h1 := tablesOk_foldl (f := fun s (e : Nat × Strand) => s.continueHold c e.1) (fun _ _ h => tablesOk_continueHold h) (s.core c).ctxs h
  exact tablesOk_elim h1 fun _ => tablesOk_settleEnding h1

theorem tablesOk_applyShare {w : ShareWrite} (h : s.TablesOk) : (s.applyShare c x w).TablesOk := by
  unfold State.applyShare
  extract_lets share fresh
  have hshare : ∀ {f : Share → Share}, (∀ g, (f g).pats = g.pats) → (share f).TablesOk := fun hf =>
    tablesOk_mapCore h c (fun k hk => tablesRise_of hk rfl (hf k.share))
  clear_value share
  cases w <;> dsimp only
  case crw => exact tablesOk_writeControl (by exact hshare fun _ => rfl) ..
  all_goals exact hshare fun _ => rfl

theorem tablesOk_popStreams {ws : List Nat} (h : s.TablesOk) : (s.popStreams c ws).TablesOk := tablesOk_mapCore h c (fun _ hk => ⟨hk.1, hk.2⟩)

theorem tablesOk_commit {cur : Cursor} (h : s.TablesOk) : (s.commit cur).TablesOk := by
  unfold State.commit
  extract_lets c x s1 cycle
  have h1 : s1.TablesOk := tablesOk_popStreams (by exact h)
  split
  next s2 loaded he =>
  have h2 := tablesOk_fst (tablesOk_performSpad h1 ..) he
  extract_lets s3 s4 s5 s6
  have h3 : s3.TablesOk := tablesOk_foldl (fun _ _ h => tablesOk_applyShare h) _ h2
  have h5 : s5.TablesOk := tablesOk_mapCore (tablesOk_addDues (tablesOk_mapStrand h3 ..)) c (fun _ hk => ⟨hk.1, hk.2⟩)
  exact tablesOk_enterDue (tablesOk_continueHold (tablesOk_free h5 _))

end Sys2Proof.Proofs
end

section
/-! A slot instruction keeps the keys of the tables rising: what it reads, publishes and buffers while its bundle is examined,
and the effects it joins to the bundle. -/
namespace Sys2Proof.Proofs
open Sys2Proof Sys2Proof.Machine Sys2Proof.Laws

/-- Every next state that an outcome gives has the keys of its tables rising. -/
def LeadsTables (o : Host.Outcome State Fault Refusal) : Prop := ∀ t, o = .next t → t.TablesOk

variable {s t : State} {i : Instr}

theorem leadsTables_next (h : s.TablesOk) : LeadsTables (.next s) := fun _ ht => Host.Outcome.next.inj ht ▸ h
theorem leadsTables_fault {e : Fault} : LeadsTables (.fault e) := fun _ h => nomatch h
theorem leadsTables_refused {e : Refusal} : LeadsTables (.refused e) := fun _ h => nomatch h

/-! ### Effects on the bundle being examined -/

variable {b : Bun}

theorem stTables_withState {f : State → State} (h : (f b.st).TablesOk) : (b.withState f).st.TablesOk := h
theorem stTables_ite {p : Prop} [Decidable p] {b1 b2 : Bun} (h1 : b1.st.TablesOk) (h2 : b2.st.TablesOk) : (if p then b1 else b2).st.TablesOk := by
  split
  · exact h1
  · exact h2

section
variable {d : Dest} {x : BitVec 6} {n n1 : Nat} {p : Option Nat} (h : b.st.TablesOk)
include h

theorem stTables_write {v : BitVec 4096} : (b.write d v n).st.TablesOk := h
theorem stTables_writePredicted {v : Word} : (b.writePredicted x v n p).st.TablesOk := stTables_ite h h
theorem stTables_writeReg {v : Word} : (b.writeReg x v n).st.TablesOk := stTables_ite h h
theorem stTables_writePred {k : BitVec 3} {v : Pred} : (b.writePred k v n).st.TablesOk := stTables_ite h h
theorem stTables_writeVec {v : Vec} : (b.writeVec x v n).st.TablesOk := h
theorem stTables_writeLanes {v : Vec} {lanes : Pred} : (b.writeLanes x v lanes n).st.TablesOk := h
theorem stTables_writeLc {k : BitVec 2} {v : BitVec 32} : (b.writeLc k v p).st.TablesOk := h
theorem stTables_raise {f : BitVec 6} : (b.raise f n).st.TablesOk := stTables_ite h h
theorem stTables_raiseZm {f : BitVec 6} {zm : Bool} : (b.raiseZm f zm n).st.TablesOk := h
theorem stTables_shareWrite {w : ShareWrite} : (b.shareWrite w).st.TablesOk := h
theorem stTables_addDue {e : TrapInfo} : (b.addDue e).st.TablesOk := h
theorem stTables_addHold {e : Hold} : (b.addHold e).st.TablesOk := h
theorem stTables_jump {taken : Bool} {v : Word} : (b.jump taken v).st.TablesOk := stTables_ite h h
theorem stTables_narrow : b.narrow.st.TablesOk := stTables_raise h
theorem stTables_tornTable : (b.tornTable n).st.TablesOk := h
theorem stTables_writeInt {ty : BitVec 4} {v : Int} : (b.writeInt x ty v n).st.TablesOk := stTables_writeReg h
theorem stTables_arith {y z : BitVec 6} {ty : BitVec 4} {sat : BitVec 1} {v : Int} {f : Nat → Nat → Nat} :
    (b.arith x y z ty sat v n f).st.TablesOk := stTables_raise (stTables_writePredicted h)
theorem stTables_writeFloat {r : Nat × Flags} : (b.writeFloat x r n).st.TablesOk := stTables_raise (stTables_writeReg h)
theorem stTables_writePair {v : Triple} : (b.writePair x v n).st.TablesOk := stTables_writeReg (stTables_writeReg h)

theorem stTables_shadowed {f : Nat → Bool} {l : List Split} : (b.shadowed n n1 f l).st.TablesOk := by
  unfold Bun.shadowed
  have h1 : (b.withState (fun s => s.spend b.cur.core n f)).st.TablesOk := h
  exact stTables_ite h1 (stTables_addDue h1)

theorem stTables_writeShadowed {f : Fmt} {r : Nat × Flags} : (b.writeShadowed x f r n).st.TablesOk := stTables_shadowed (stTables_writeFloat h)
theorem stTables_elements {k : BitVec 3} {f : Nat → Nat × Flags} : (b.elements x n k n1 f).st.TablesOk := stTables_raise (stTables_writeLanes h)
theorem stTables_shadowedElements {unit : Nat} {k : BitVec 3} {f : Nat → Nat × Flags × List Split} :
    (b.shadowedElements unit x n k n1 f).st.TablesOk := stTables_ite (stTables_elements h) (stTables_shadowed (stTables_elements h))

section
variable {y z : BitVec 6} {ty : BitVec 4} {k : BitVec 3} {bw : BitVec 1}
theorem stTables_binary {fi : Int → Int → Int} {ff : Fmt → Nat → Nat → Nat × Flags} : (b.binary x y z ty k bw fi ff).st.TablesOk := stTables_elements h
theorem stTables_binaryShadowed {fi : Int → Int → Int} {ff : Fmt → Nat → Nat → Nat × Flags} :
    (b.binaryShadowed x y z ty k bw fi ff).st.TablesOk := stTables_shadowedElements h
theorem stTables_bitwise {f : Nat → Nat → Nat → Nat} : (b.bitwise x y z ty k bw f).st.TablesOk := stTables_elements h
theorem stTables_unary {f : Nat → Nat × Flags} : (b.unary x y ty k n f).st.TablesOk := stTables_elements h
theorem stTables_function : (b.function n x y ty k).st.TablesOk := stTables_shadowedElements h
end

/-! ### Requests and buffered stores of a slot -/

theorem stTables_enter {r : Request} : (b.enter r).st.TablesOk := tablesOk_addReq h
theorem stTables_spadStore {bytes : List (Nat × Byte)} : (b.spadStore bytes).st.TablesOk := h
theorem stTables_spadLoad {old : BitVec 4096} {bytes : List (Nat × Nat)} : (b.spadLoad d n old bytes).st.TablesOk := by
  unfold Bun.spadLoad
  split <;> exact stTables_ite h h

theorem tablesOk_flush {f : BufRec → Bool} {a : StallAct} : (b.flush f a).1.TablesOk := tablesOk_publish h
theorem tablesOk_flushSectors {parts : List Part} : (b.flushSectors parts).1.TablesOk := tablesOk_flush h

theorem stTables_beforeImmediate {parts : List Part} {m : Mods} : (b.beforeImmediate parts m).st.TablesOk :=
  tablesOk_flushSectors (stTables_ite (tablesOk_publish h) h)

theorem stTables_sendLoad {kind : ReqKind} {parts : List Part} {m : Mods} {secOnly : Bool} : (b.sendLoad x kind parts m secOnly n).st.TablesOk :=
  stTables_enter (stTables_ite (stTables_beforeImmediate h) h)

theorem stTables_sendStore {parts : List Part} {m : Mods} {immediate remote flag : Bool} : (b.sendStore parts m immediate remote flag).st.TablesOk := by
  have h1 : (if m.space = 2 then b.narrow else b).st.TablesOk := stTables_ite (stTables_narrow h) h
  exact stTables_enter (stTables_ite (stTables_beforeImmediate h1) (stTables_ite (stTables_beforeImmediate h1) h1))

theorem stTables_sendParts {parts : List Part} {m : Mods} : (b.sendParts parts m).st.TablesOk := by
  unfold Bun.sendParts
  generalize parts.zipIdx = l
  induction l generalizing b with
  | nil => exact h
  | cons e r ih => exact ih (stTables_enter h)
end

theorem tablesOk_bufferParts {c x queue : Nat} {nocomp : Bool} {parts : List Part} (h : s.TablesOk) :
    (s.bufferParts c x queue nocomp parts).1.TablesOk := by
  induction parts generalizing s with
  | nil => exact h
  | cons p rest ih =>
    unfold State.bufferParts
    split
    · exact h
    · dsimp only
      split
      · exact tablesOk_ite_fst (ih (tablesOk_mapStrand (tablesOk_publishOldest h) ..)) (tablesOk_publishOldest h)
      · exact tablesOk_ite_fst (ih (tablesOk_mapStrand h ..)) h

theorem stTables_buffered {parts : List Part} {m : Mods} (h : b.st.TablesOk) : (b.buffered parts m).st.TablesOk := tablesOk_bufferParts h

theorem tablesOk_waiter {va size space queue : Nat} {barrier : Option Nat} {cond texp : Nat} {mask cmp : Word} (h : b.st.TablesOk) :
    (b.waiter va size space queue barrier cond mask cmp texp).1.TablesOk := by
  unfold Bun.waiter
  dsimp only
  split
  · exact h
  · split
    · split <;> exact h
    · split
      · next he => exact tablesOk_fst (tablesOk_translate h) he
      · next he =>
        have h1 := tablesOk_fst (tablesOk_translate h) he
        split
        · split <;> exact h1
        all_goals exact h1

theorem tablesOk_spawnRecord {cluster owner : Nat} {r : NestRec} (h : s.TablesOk) : (s.spawnRecord cluster owner r).1.TablesOk := by
  unfold State.spawnRecord
  split
  · exact h
  · split <;> exact h

theorem rising_pats_ite {p : Prop} [Decidable p] {f g : Share} (hf : Tab.rising f.pats = true) (hg : Tab.rising g.pats = true) :
    Tab.rising (if p then f else g).pats = true := by
  split
  · exact hf
  · exact hg

/-- A gang-share register that becomes zero is no pattern, or one entry fewer of the pattern table. -/
theorem rising_pats_zeroed {g : Share} {n : Nat} (h : Tab.rising g.pats = true) : Tab.rising (g.zeroed n).pats = true :=
  rising_pats_ite h (rising_pats_ite h (rising_pats_ite h (rising_pats_ite h (rising_pats_ite h (rising_pats_ite h
    (rising_pats_ite h (rising_pats_ite h (rising_pats_ite h (rising_pats_ite h (rising_pats_ite h (rising_erase h)))))))))))

theorem rising_pats_foldl_zeroed {l : List Nat} {g : Share} (h : Tab.rising g.pats = true) : Tab.rising (l.foldl Share.zeroed g).pats = true := by
  induction l generalizing g with
  | nil => exact h
  | cons n r ih => exact ih (rising_pats_zeroed h)

theorem stTables_readRegisters {l : List Nat} (h : b.st.TablesOk) : (b.readRegisters l).st.TablesOk := by
  unfold Bun.readRegisters
  split
  · exact h
  · next n rest _ =>
    extract_lets stream b1
    have h1 : b1.st.TablesOk := tablesOk_mapCore h _ fun _ hk => ⟨hk.1, rising_pats_foldl_zeroed hk.2⟩
    obtain ⟨ws, hws⟩ := shareWrites_eq b1 (fun r => .unbind (r - 64)) ((n :: rest).filter stream)
    refine stTables_addDue ?_
    rw [hws]
    exact h1

/-! ### A slot of the bundle -/

theorem leadsTables_runSlot {f : Bun → Except Stop Bun} (h : s.TablesOk)
    (hf : ∀ q b, q.st.TablesOk → f q = .ok b → b.st.TablesOk) : LeadsTables (s.runSlot i f) := by
  intro t ht
  obtain ⟨c, -, rfl | ⟨v, ds, rfl⟩ | ⟨b, hb, rfl⟩⟩ := runSlot_next ht
  · exact h
  · exact h
  · refine hf _ b ?_ hb
    rw [pop_st]
    exact stTables_readRegisters h

/-- A slot that checks its operands and then joins its effect to the bundle. -/
theorem leadsTables_check {l : Bun → List (Option Stop)} {e : Bun → Bun → Bun} (h : s.TablesOk)
    (he : ∀ q, q.st.TablesOk → (e q q).st.TablesOk) : LeadsTables (s.runSlot i (fun b => b.check (l b) (e b))) :=
  leadsTables_runSlot h fun q b hq hb => by
    obtain ⟨-, rfl⟩ := check_ok.1 hb
    exact he q hq

theorem leadsTables_scalar {e : Bun → Bun} (h : s.TablesOk) (he : ∀ q, q.st.TablesOk → (e q).st.TablesOk) : LeadsTables (s.scalar i e) :=
  leadsTables_check h he

end Sys2Proof.Proofs
end

section
/-! Each slot instruction keeps the keys of the tables rising. -/
namespace Sys2Proof.Proofs
open Sys2Proof Sys2Proof.Machine Sys2Proof.Laws

variable {s : State}

/-! ### Scalar and control slots -/

theorem leadsTables_execFcvt {d a : BitVec 6} {sty ty : BitVec 4} {rm : BitVec 2} (h : s.TablesOk) : LeadsTables (execFcvt d a sty ty rm s) :=
  leadsTables_scalar h fun q hq => by
    dsimp only
    split
    · exact stTables_writeShadowed hq
    · exact stTables_writeFloat hq

theorem leadsTables_execDmerge {d a b c : BitVec 6} {greedy : BitVec 1} (h : s.TablesOk) : LeadsTables (execDmerge d a b c greedy s) :=
  leadsTables_scalar h fun _ hq => stTables_shadowed (stTables_raiseZm (stTables_writePair hq))
theorem leadsTables_execDscale {d a b : BitVec 6} {mode : BitVec 1} (h : s.TablesOk) : LeadsTables (execDscale d a b mode s) :=
  leadsTables_scalar h fun _ hq => stTables_shadowed (stTables_raiseZm (stTables_writePair hq))
theorem leadsTables_execCall {r : BitVec 5} {off : BitVec 20} (h : s.TablesOk) : LeadsTables (execCall r off s) :=
  leadsTables_check h fun _ hq => stTables_jump (stTables_writeReg hq)
theorem leadsTables_execLoop {n : BitVec 2} {off : BitVec 20} {c : BitVec 6} {imm : BitVec 1} {cnt : BitVec 9} (h : s.TablesOk) :
    LeadsTables (execLoop n off c imm cnt s) :=
  leadsTables_check h fun _ hq => stTables_ite (stTables_jump (stTables_writeLc hq)) (stTables_writeLc hq)
theorem leadsTables_execEndl {n : BitVec 2} {off : BitVec 20} (h : s.TablesOk) : LeadsTables (execEndl n off s) :=
  leadsTables_check h fun _ hq => stTables_ite (stTables_jump (stTables_writeLc hq)) hq
theorem leadsTables_execYield {a : BitVec 6} (h : s.TablesOk) : LeadsTables (execYield a s) :=
  leadsTables_check h fun _ hq => stTables_addHold (stTables_withState (tablesOk_translate hq))
theorem leadsTables_execSpawn {d a : BitVec 6} (h : s.TablesOk) : LeadsTables (execSpawn d a s) :=
  leadsTables_check h fun _ hq => stTables_writeReg (stTables_withState (tablesOk_spawnRecord (tablesOk_virtRead hq)))
theorem leadsTables_execCrw {a : BitVec 6} {cr : BitVec 14} (h : s.TablesOk) : LeadsTables (execCrw a cr s) :=
  leadsTables_check h fun _ hq => stTables_ite (stTables_write hq) (stTables_shareWrite hq)

/-! ### Memory slots -/

theorem leadsTables_execLd {d : BitVec 6} {a : BitVec 4} {sz : BitVec 2} {off : BitVec 12} (h : s.TablesOk) : LeadsTables (execLd d a sz off s) :=
  leadsTables_check h fun _ hq => stTables_ite (stTables_spadLoad (stTables_narrow hq)) (stTables_sendLoad (stTables_narrow hq))
theorem leadsTables_execSt {d : BitVec 6} {a : BitVec 4} {sz : BitVec 2} {off : BitVec 12} (h : s.TablesOk) : LeadsTables (execSt d a sz off s) :=
  leadsTables_check h fun _ hq => stTables_ite (stTables_spadStore (stTables_narrow hq)) (stTables_enter (stTables_narrow hq))
theorem leadsTables_execVld {d : BitVec 6} {a : BitVec 4} {k : BitVec 3} {off : BitVec 12} {c : BitVec 6} {reg : BitVec 1} {simm : BitVec 9}
    (h : s.TablesOk) : LeadsTables (execVld d a k off c reg simm s) :=
  leadsTables_check h fun _ hq => stTables_ite (stTables_spadLoad (stTables_narrow hq)) (stTables_sendLoad (stTables_narrow hq))
theorem leadsTables_execVst {d : BitVec 6} {a : BitVec 4} {k : BitVec 3} {off : BitVec 12} {c : BitVec 6} {reg : BitVec 1} {simm : BitVec 9}
    (h : s.TablesOk) : LeadsTables (execVst d a k off c reg simm s) :=
  leadsTables_runSlot h fun q b hq hb => by
    have h1 := stTables_narrow hq
    extract_lets m ea stride space v bytes parts live at hb
    obtain ⟨-, rfl⟩ := check_ok.1 hb
    exact stTables_ite (stTables_spadStore h1) (stTables_ite h1 (stTables_enter h1))

/-- LDQ and LDSEC. -/
theorem leadsTables_queuedLoad {i : Instr} {d : BitVec 6} {a : BitVec 4} {off : BitVec 12} {n elemSz : Nat} {secOnly : Bool} (h : s.TablesOk) :
    LeadsTables (s.runSlot i (fun b => b.queuedLoad d a off n elemSz secOnly)) :=
  leadsTables_runSlot h fun q b hq hb => by
    unfold Bun.queuedLoad at hb
    obtain ⟨-, rfl⟩ := check_ok.1 hb
    exact stTables_sendLoad (stTables_ite (stTables_narrow hq) hq)

theorem leadsTables_execStq {d : BitVec 6} {a : BitVec 4} {sz : BitVec 2} {off : BitVec 12} (h : s.TablesOk) : LeadsTables (execStq d a sz off s) :=
  leadsTables_check h fun _ hq => stTables_ite (stTables_sendStore hq) (stTables_buffered hq)
theorem leadsTables_execStf {d : BitVec 6} {a : BitVec 4} {sz : BitVec 2} {off : BitVec 12} (h : s.TablesOk) : LeadsTables (execStf d a sz off s) :=
  leadsTables_check h fun _ hq => stTables_sendStore hq
theorem leadsTables_execGatherq {d : BitVec 6} {a : BitVec 4} {sz : BitVec 2} {off : BitVec 12} {c : BitVec 6} {shift : BitVec 2} {k : BitVec 3}
    (h : s.TablesOk) : LeadsTables (execGatherq d a sz off c shift k s) :=
  leadsTables_check h fun _ hq => stTables_sendLoad hq
theorem leadsTables_execScatterq {d : BitVec 6} {a : BitVec 4} {sz : BitVec 2} {off : BitVec 12} {c : BitVec 6} {shift : BitVec 2} {k : BitVec 3}
    (h : s.TablesOk) : LeadsTables (execScatterq d a sz off c shift k s) :=
  leadsTables_check h fun _ hq => stTables_ite (stTables_sendParts hq) (stTables_buffered (stTables_sendParts hq))
theorem leadsTables_execAmo {d : BitVec 6} {a fn : BitVec 4} {off : BitVec 12} {c : BitVec 6} {ret sgn : BitVec 1} {sz : BitVec 2} {newv : BitVec 6}
    (h : s.TablesOk) : LeadsTables (execAmo d a fn off c ret sgn sz newv s) :=
  leadsTables_check h fun _ hq => stTables_ite (stTables_enter (stTables_beforeImmediate hq)) (stTables_enter (stTables_beforeImmediate hq))
theorem leadsTables_execAmoDraw {a : BitVec 4} {off : BitVec 12} {c : BitVec 6} {tag : BitVec 8} {greedy : BitVec 1} (h : s.TablesOk) :
    LeadsTables (execAmoDraw a off c tag greedy s) :=
  leadsTables_check h fun _ hq => stTables_raiseZm (stTables_enter (stTables_beforeImmediate hq))
theorem leadsTables_execPref {a : BitVec 4} {ext : BitVec 2} {off : BitVec 12} (h : s.TablesOk) : LeadsTables (execPref a ext off s) :=
  leadsTables_check h fun _ hq => stTables_enter hq

/-! ### Ordering, copies, waits, streams and rings -/

theorem leadsTables_execPhase {scope : BitVec 3} (h : s.TablesOk) : LeadsTables (execPhase scope s) :=
  leadsTables_runSlot h fun q b hq hb => by
    split at hb
    · obtain ⟨-, rfl⟩ := check_ok.1 hb
      exact hq
    · obtain ⟨-, rfl⟩ := check_ok.1 hb
      exact stTables_addHold hq

theorem leadsTables_execPublish {a : BitVec 6} (h : s.TablesOk) : LeadsTables (execPublish a s) :=
  leadsTables_check h fun _ hq => stTables_addHold hq

theorem leadsTables_execVwait {d a g : BitVec 6} (h : s.TablesOk) : LeadsTables (execVwait d a g s) :=
  leadsTables_runSlot h fun q b hq hb => by
    dsimp only at hb
    split at hb
    · obtain ⟨-, rfl⟩ := check_ok.1 hb
      exact stTables_writeReg (stTables_writeReg hq)
    · split at hb
      · obtain ⟨-, rfl⟩ := check_ok.1 hb
        exact hq
      · split at hb
        · obtain ⟨-, rfl⟩ := check_ok.1 hb
          exact stTables_writeReg (stTables_writeReg hq)
        · obtain ⟨-, rfl⟩ := check_ok.1 hb
          exact stTables_writeReg (stTables_writeReg (stTables_withState (tablesOk_readerHalf hq)))

theorem leadsTables_execFence {d : BitVec 6} {mask : BitVec 4} {kind : BitVec 1} (h : s.TablesOk) : LeadsTables (execFence d mask kind s) :=
  leadsTables_check h fun _ hq => stTables_ite (stTables_addHold hq) (stTables_withState (tablesOk_resetPaths (stTables_writeReg hq)))

theorem leadsTables_execCopy {a : BitVec 6} {span : BitVec 3} (h : s.TablesOk) : LeadsTables (execCopy a span s) :=
  leadsTables_runSlot h fun q b hq hb => by
    extract_lets n off d t base src dst into touched flush address at hb
    have h1 : flush.1.TablesOk := tablesOk_flush hq
    split at hb
    · obtain ⟨-, rfl⟩ := check_ok.1 hb
      exact stTables_tornTable hq
    · obtain ⟨-, rfl⟩ := check_ok.1 hb
      exact stTables_withState (tablesOk_mapCore (by exact h1) _ (fun _ hk => ⟨hk.1, hk.2⟩))

theorem leadsTables_execBarrive {a x : BitVec 6} {queue op : BitVec 2} (h : s.TablesOk) : LeadsTables (execBarrive a x queue op s) :=
  leadsTables_check h fun _ hq => stTables_enter (stTables_beforeImmediate hq)

theorem leadsTables_execBwait {d a x : BitVec 6} {queue : BitVec 2} {texp : BitVec 5} (h : s.TablesOk) : LeadsTables (execBwait d a x queue texp s) :=
  leadsTables_check h fun _ hq =>
    have h1 := stTables_writeReg (stTables_withState (tablesOk_waiter hq))
    stTables_ite (stTables_withState (tablesOk_readerHalf h1)) h1

theorem leadsTables_execWait {d a x : BitVec 6} {cond : BitVec 3} {texp : BitVec 5} {c : BitVec 6} {space : BitVec 2} {sz : BitVec 1}
    {queue : BitVec 2} {masked : BitVec 1} (h : s.TablesOk) : LeadsTables (execWait d a x cond texp c space sz queue masked s) :=
  leadsTables_check h fun _ hq =>
    have h1 := stTables_writeReg (stTables_withState (tablesOk_waiter hq))
    stTables_ite (stTables_withState (tablesOk_readerHalf h1)) h1

theorem leadsTables_execMwait {d : BitVec 6} {all : BitVec 1} {tag : BitVec 4} (h : s.TablesOk) : LeadsTables (execMwait d all tag s) :=
  leadsTables_check h fun _ hq => stTables_writeReg (stTables_withState (tablesOk_mapStrand hq ..))

theorem leadsTables_execSunbind {d : BitVec 6} (h : s.TablesOk) : LeadsTables (execSunbind d s) :=
  leadsTables_check h fun _ hq => stTables_ite (stTables_shareWrite hq) hq

/-- RINGP and RINGA. -/
theorem leadsTables_ringMove {i : Instr} {ring : BitVec 3} {a : BitVec 6} {reg : BitVec 1} {count : BitVec 7} {push : Bool} (h : s.TablesOk) :
    LeadsTables (s.runSlot i (fun b => b.ringMove ring a reg count push)) :=
  leadsTables_runSlot h fun q b hq hb => by
    obtain ⟨-, rfl⟩ := check_ok.1 hb
    exact stTables_ite hq (stTables_shareWrite hq)

theorem leadsTables_execWalk {a : BitVec 6} (h : s.TablesOk) : LeadsTables (execWalk a s) :=
  leadsTables_runSlot h fun q b hq hb => by
    extract_lets d w queue target hops toRing address torn b1 t stack busy flush after landed at hb
    have h1 : b1.st.TablesOk := stTables_ite hq (stTables_readRegisters hq)
    have hflush : flush.1.TablesOk := tablesOk_flush h1
    clear_value torn
    split at hb
    · obtain ⟨-, rfl⟩ := check_ok.1 hb
      exact stTables_tornTable h1
    · obtain ⟨-, rfl⟩ := check_ok.1 hb
      exact stTables_withState (by exact hflush)

theorem leadsTables_execColl {a x : BitVec 6} (h : s.TablesOk) : LeadsTables (execColl a x s) :=
  leadsTables_runSlot h fun q b hq hb => by
    dsimp only at hb
    split at hb
    · obtain ⟨-, rfl⟩ := check_ok.1 hb
      exact stTables_tornTable hq
    · obtain ⟨-, rfl⟩ := check_ok.1 hb
      exact stTables_addHold hq

theorem leadsTables_execLprobe {d a : BitVec 6} (h : s.TablesOk) : LeadsTables (execLprobe d a s) :=
  leadsTables_check h fun q hq => by
    have h1 := tablesOk_translate (c := q.cur.core) (slot := q.slotNo) (va := (q.val a).toNat) (need := .load) hq
    dsimp only
    split
    · exact stTables_writeReg h1
    · exact stTables_writeReg h1
    all_goals exact h1

/-! ### Matrix and pattern slots -/

theorem leadsTables_execMcall {tag : BitVec 4} {prio : BitVec 3} {n : BitVec 8} (h : s.TablesOk) : LeadsTables (execMcall tag prio n s) :=
  leadsTables_check h fun q hq => stTables_withState (tablesOk_mapCore (by exact hq) _ (fun _ hk => ⟨hk.1, hk.2⟩))

theorem leadsTables_execAccrd {d : BitVec 6} {t : BitVec 3} {x : BitVec 6} {idx : BitVec 1} {pair : BitVec 5} (h : s.TablesOk) :
    LeadsTables (execAccrd d t x idx pair s) :=
  leadsTables_check h fun q hq => by
    split
    · exact stTables_writeVec hq
    · exact stTables_addDue (stTables_writeVec hq)

theorem leadsTables_execAccwr {t : BitVec 3} {a x : BitVec 6} {idx : BitVec 1} {pair : BitVec 5} (h : s.TablesOk) : LeadsTables (execAccwr t a x idx pair s) :=
  leadsTables_check h fun _ hq => stTables_withState (tablesOk_mapStrand hq ..)
theorem leadsTables_execAccz {mask : BitVec 8} (h : s.TablesOk) : LeadsTables (execAccz mask s) :=
  leadsTables_check h fun _ hq => stTables_withState (tablesOk_mapStrand hq ..)

theorem leadsTables_execPatld {first a count : BitVec 6} (h : s.TablesOk) : LeadsTables (execPatld first a count s) :=
  leadsTables_check h fun q hq => by
    extract_lets b1
    have h1 : b1.st.TablesOk := tablesOk_mapCore hq _ (fun _ hk => ⟨hk.1, hk.2⟩)
    split
    · exact stTables_addDue h1
    · exact h1

/-! ### Vector slots -/

theorem leadsTables_execVdraw {d a : BitVec 6} {g k : BitVec 3} {c : BitVec 6} {tag : BitVec 8} {mode all : BitVec 1} (h : s.TablesOk) :
    LeadsTables (execVdraw d a g k c tag mode all s) :=
  leadsTables_scalar h fun _ hq => stTables_ite (stTables_shadowed (stTables_raiseZm (stTables_writePair hq))) (stTables_shadowed (stTables_raiseZm (stTables_writePair hq)))
theorem leadsTables_execXbcast {d a : BitVec 6} {lane : BitVec 1} {j : BitVec 4} {g : BitVec 3} (h : s.TablesOk) : LeadsTables (execXbcast d a lane j g s) :=
  leadsTables_scalar h fun _ hq => stTables_ite (stTables_writeVec hq) (stTables_writeVec hq)
theorem leadsTables_execVquant {d a b : BitVec 6} {ty : BitVec 4} {k : BitVec 3} {bw : BitVec 1} {c : BitVec 6} {rm : BitVec 2} (h : s.TablesOk) :
    LeadsTables (execVquant d a b ty k bw c rm s) :=
  leadsTables_scalar h fun _ hq => stTables_raise (stTables_writeReg (stTables_writeLanes hq))

end Sys2Proof.Proofs
end

section
/-! The path of a request, the units that answer it, copies and walks keep the keys of the tables rising. -/
namespace Sys2Proof.Proofs
open Sys2Proof Sys2Proof.Machine Sys2Proof.Laws

variable {s t : State} {c x off key n v id i sub status data : Nat} {r : Request} {p : Part}

/-! ### Replays of the collective engine, as far as requests touch them -/

theorem tablesOk_setReplay {y : Replay} (h : s.TablesOk) : (s.setReplay y).TablesOk := h
theorem tablesOk_sendAbort {m : AbortMsg} (h : s.TablesOk) : (s.sendAbort m).TablesOk := tablesOk_ite h h
theorem tablesOk_failReplay {y : Replay} {m : AbortMsg} (h : s.TablesOk) : (s.failReplay y m).TablesOk :=
  tablesOk_ite h (tablesOk_sendAbort (tablesOk_setReplay h))

theorem tablesOk_ackCollWrite {graph step : Nat} {op : Option Nat} (h : s.TablesOk) : (s.ackCollWrite id graph step op r).TablesOk := by
  have h1 : (s.dropReq id).TablesOk := tablesOk_dropReq h
  refine tablesOk_ite h ?_
  extract_lets s1
  split
  · split
    · exact tablesOk_failReplay h1
    · exact tablesOk_log h1 ..
  · exact h1

/-! ### A sector performed at its home -/

theorem tablesOk_barrierPerform {op : Nat} (h : s.TablesOk) (ht : s.barrierPerform off key op v = some t) : t.TablesOk := by
  unfold State.barrierPerform at ht
  extract_lets obj w gen expect arrived next word tag write at ht
  have hwrite : ∀ {v : Nat} {u : State}, write v = some u → State.TablesOk u := by
    intro v u hu
    obtain ⟨s1, h1, rfl⟩ := Option.map_eq_some_iff.1 hu
    exact tablesOk_testGlobal (tablesOk_markDirty (tablesOk_l2Write h h1) _) ..
  clear_value write
  split at ht
  · split at ht
    · cases ht
      exact tablesOk_touchLine h
    · split at ht
      all_goals
        obtain ⟨s1, h1, rfl⟩ := Option.map_eq_some_iff.1 ht
        exact tablesOk_testBarrier (hwrite h1)
  · obtain ⟨s1, h1, rfl⟩ := Option.map_eq_some_iff.1 ht
    have h2 := hwrite h1
    exact tablesOk_testBarrier (by exact h2)
  · obtain ⟨s1, h1, rfl⟩ := Option.map_eq_some_iff.1 ht
    have h2 := hwrite h1
    exact tablesOk_testBarrier (by exact h2)

/-- The state of an answer that a home has performed an access. -/
theorem tablesOk_done {d e : Nat} (h : s.TablesOk) (ht : HomeResult.done s d = .done t e) : t.TablesOk := by
  obtain ⟨rfl, -⟩ := HomeResult.done.inj ht
  exact h

/-- What a home answers of a write that it may or may not have made. -/
theorem tablesOk_ofWrite {o : Option State} {old d : Nat} (ho : ∀ u, o = some u → State.TablesOk u)
    (ht : (match o with
      | some s1 => HomeResult.done s1 old
      | none => .wait) = .done t d) : t.TablesOk := by
  cases o with
  | none => cases ht
  | some u => exact tablesOk_done (ho u rfl) ht

theorem tablesOk_atHome {kind : ReqKind} {mask d : Nat} {nocomp : Bool} {core : Option Nat} (h : s.TablesOk)
    (ht : s.atHome kind off key mask data nocomp core = .done t d) : t.TablesOk := by
  unfold State.atHome at ht
  extract_lets bad first old ofWrite at ht
  cases kind with
  | load =>
    dsimp only at ht
    split at ht
    · cases ht
    · exact tablesOk_done (tablesOk_touchLine h) ht
  | pref =>
    exact tablesOk_done (tablesOk_touchLine h) ht
  | store =>
    dsimp only at ht
    split at ht
    · cases ht
    · exact tablesOk_ofWrite (fun _ hu => tablesOk_homeWrite h hu) ht
  | amo fn size sgn y new =>
    dsimp only at ht
    split at ht
    · cases ht
    · exact tablesOk_ofWrite (fun _ hu => tablesOk_homeWrite h hu) ht
  | draw tag greedy k m w i n =>
    dsimp only at ht
    split at ht
    · cases ht
    · exact tablesOk_ofWrite (fun _ hu => tablesOk_homeWrite (tablesOk_free h _) hu) ht
  | barrive op v =>
    dsimp only at ht
    split at ht
    · cases ht
    · exact tablesOk_ofWrite (fun _ hu => tablesOk_barrierPerform h hu) ht
  | copyWrite id =>
    exact tablesOk_done h ht
  | collWrite graph step op =>
    exact tablesOk_done h ht
  | chunk comb phase =>
    dsimp only at ht
    split at ht
    · cases ht
    · exact tablesOk_ofWrite (fun _ hu => tablesOk_homeWrite (tablesOk_free h _) hu) ht

theorem tablesOk_atHomeNow {kind : ReqKind} {mask d : Nat} (h : s.TablesOk)
    (ht : s.atHomeNow kind off key mask data = .done t d) : t.TablesOk := by
  unfold State.atHomeNow at ht
  split at ht
  · exact tablesOk_atHome (tablesOk_settleSet h _) ht
  · exact tablesOk_atHome h ht

/-! ### The parts of a request -/

theorem tablesOk_mergedDone {mates : List (Nat × Request)} (h : s.TablesOk) : (s.mergedDone mates).TablesOk :=
  tablesOk_foldl (fun _ _ h => tablesOk_putReq h ..) _ h
theorem tablesOk_setPart {f : Part → Part} (h : s.TablesOk) : (s.setPart id r i f).TablesOk :=
  tablesOk_ite (tablesOk_dropReq h) (tablesOk_putReq h ..)
theorem tablesOk_faultPart {retry : Bool} (h : s.TablesOk) : (s.faultPart id r i sub retry).TablesOk := tablesOk_setPart h
theorem tablesOk_donePart (h : s.TablesOk) : (s.donePart id r i data).TablesOk := tablesOk_setPart h
theorem tablesOk_sendAs {kind : ReqKind} {ms : List Nat} {path : Nat} (h : s.TablesOk) : (s.sendAs kind id r i p ms off path).TablesOk :=
  tablesOk_putReq h ..
theorem tablesOk_sendRemote {ms : List Nat} {path : Nat} (h : s.TablesOk) : (s.sendRemote id r i p ms off path).TablesOk := tablesOk_sendAs h

theorem tablesOk_reportSplits {free : Nat} {splits : List Split} (h : s.TablesOk) : (s.reportSplits id r free splits).TablesOk := by
  unfold State.reportSplits
  split
  · exact tablesOk_addDues h
  · exact h

theorem tablesOk_sendMerged {m : Nat} (h : s.TablesOk) : (s.sendMerged id r i p m off).TablesOk :=
  tablesOk_ite (tablesOk_sendRemote h) (tablesOk_foldl (fun _ _ h => tablesOk_putReq h ..) _ (tablesOk_reportSplits (tablesOk_sendAs h)))

theorem tablesOk_remoteAnswer (h : s.TablesOk) : (s.remoteAnswer id r i p status data).TablesOk := by
  unfold State.remoteAnswer
  extract_lets m mark s1 s2
  have hmark : ∀ v, (mark s v).TablesOk := fun _ => h
  have h2 : s2.TablesOk := tablesOk_donePart (hmark _)
  split
  · exact tablesOk_ite (tablesOk_ite (tablesOk_reportSplits h2) h2) (tablesOk_setPart (hmark _))
  · exact tablesOk_ite (tablesOk_faultPart (hmark _)) (tablesOk_ite (tablesOk_faultPart h) h)

theorem tablesOk_startFill (h : s.TablesOk) : (s.startFill id r p off key).TablesOk :=
  tablesOk_ite h (tablesOk_setCluster (tablesOk_putReq h ..) ..)
theorem tablesOk_markNocomp {line : Nat} (h : s.TablesOk) : (s.markNocomp line).TablesOk := h
theorem tablesOk_spend {unit : Nat} {f : Nat → Bool} (h : s.TablesOk) : (s.spend c unit f).TablesOk := h

theorem tablesOk_drawShadow {kind : ReqKind} {routers : List Split} {old : Nat} (h : t.TablesOk) :
    (s.drawShadow t id r kind routers p old).TablesOk := by
  unfold State.drawShadow
  split
  · exact tablesOk_reportSplits (tablesOk_spend h)
  · exact h

theorem tablesRise_l1Put {k : Core} {line sector : Nat} (h : TablesRise k) : TablesRise (k.l1Put line sector data) :=
  tablesRise_ite h (tablesRise_of h rfl rfl)

theorem tablesOk_performLocal (h : s.TablesOk) : (s.performLocal id r i p off).TablesOk := by
  unfold State.performLocal
  extract_lets key line sector reads ordinary mates all merged kind routers start
  split
  · exact tablesOk_ite (tablesOk_faultPart h) (tablesOk_donePart (tablesOk_mapCore h _ (fun _ hk => ⟨hk.1, hk.2⟩)))
  · refine tablesOk_ite (tablesOk_faultPart h) (tablesOk_ite h (tablesOk_ite (tablesOk_startFill h) ?_))
    have hstart : start.TablesOk := tablesOk_ite h (tablesOk_free h _)
    split
    · exact tablesOk_faultPart h
    · exact tablesOk_putReq h ..
    · next s0 d hd =>
      have h0 := tablesOk_atHome hstart hd
      extract_lets s1 s2 s3
      have h1 : s1.TablesOk := tablesOk_ite h (tablesOk_mergedDone h0)
      have h2 : s2.TablesOk := tablesOk_ite (tablesOk_markNocomp h1) (tablesOk_drawShadow h1)
      have h3 : s3.TablesOk := tablesOk_ite (tablesOk_mapCore h2 _ (fun _ hk => tablesRise_l1Put hk))
        (tablesOk_ite (tablesOk_mapCore h2 _ (fun _ hk => ⟨hk.1, hk.2⟩)) h2)
      exact tablesOk_donePart h3

theorem tablesOk_performWindow (h : s.TablesOk) : (s.performWindow id r i p).TablesOk := by
  unfold State.performWindow
  dsimp only
  split
  · exact tablesOk_faultPart h
  · exact tablesOk_ite (tablesOk_ite (tablesOk_faultPart h) (tablesOk_donePart (tablesOk_spadWrite h ..)))
      (tablesOk_ite (tablesOk_faultPart h) (tablesOk_donePart h))

theorem tablesOk_performOwn (h : s.TablesOk) : (s.performOwn id r i p).TablesOk :=
  tablesOk_ite (tablesOk_faultPart h) (tablesOk_donePart (tablesOk_spadWrite h ..))

theorem tablesOk_performMulticast {g : Nat} (h : s.TablesOk) : (s.performMulticast id r i p g off).TablesOk := by
  unfold State.performMulticast
  extract_lets src members away key own s1 there s2
  split
  · exact tablesOk_faultPart h
  · have h1 : s1.TablesOk := tablesOk_ite (tablesOk_engineWrite h ..) h
    have h2 : s2.TablesOk := tablesOk_ite h1 (tablesOk_sendRemote h1)
    clear_value own
    split
    · exact tablesOk_faultPart h2
    · exact tablesOk_ite (tablesOk_faultPart h2) (tablesOk_ite (tablesOk_donePart h1) h2)

theorem tablesOk_performGlobal (h : s.TablesOk) : (s.performGlobal id r i p status data).TablesOk := by
  unfold State.performGlobal
  refine tablesOk_ite (tablesOk_remoteAnswer h) ?_
  split
  · split
    · exact tablesOk_sendRemote h
    · exact tablesOk_performLocal h
    · exact tablesOk_faultPart h
    · exact tablesOk_faultPart h
  · split
    · exact h
    · refine tablesOk_ite (tablesOk_faultPart h) ?_
      dsimp only
      split
      · exact tablesOk_faultPart h
      · split
        · exact tablesOk_donePart h
        · exact tablesOk_faultPart h
      · exact tablesOk_performMulticast h
      · exact tablesOk_ite (tablesOk_donePart h) (tablesOk_ite (tablesOk_faultPart h) (tablesOk_sendMerged h))
      · split
        · exact h
        · exact tablesOk_performLocal h

/-! ### The events of a request -/

theorem leadsTables_execHomeRequest {req : Nat} {data : BitVec 256} (h : s.TablesOk) : LeadsTables (execHomeRequest req status data s) := by
  refine leadsTables_next ?_
  split
  · exact h
  · split
    · exact h
    · split
      · exact h
      · exact tablesOk_ite h (tablesOk_ite (tablesOk_faultPart h) (tablesOk_ite (tablesOk_performWindow h)
          (tablesOk_ite (tablesOk_performOwn h) (tablesOk_performGlobal h))))

theorem leadsTables_execSetWaitRetry {req : Nat} (h : s.TablesOk) : LeadsTables (execSetWaitRetry req s) := by
  refine leadsTables_next ?_
  split
  · exact h
  · refine tablesOk_ite h ?_
    split
    · exact h
    · split
      · exact h
      · split
        · exact tablesOk_performLocal h
        · exact h

theorem leadsTables_execBarrierArrival {req : Nat} (h : s.TablesOk) : LeadsTables (execBarrierArrival req s) := by
  refine leadsTables_next ?_
  split
  · exact h
  · split
    · refine tablesOk_ite h ?_
      split
      · exact h
      · refine tablesOk_ite (tablesOk_faultPart h) ?_
        split
        · exact tablesOk_performLocal h
        · exact h
    · exact h

theorem leadsTables_execL2Fill {line : Nat} (h : s.TablesOk) : LeadsTables (execL2Fill line s) := by
  refine leadsTables_next ?_
  split
  · exact h
  · exact tablesOk_getD h fun _ ht => tablesOk_completeFill h ht

theorem leadsTables_execPageWalk {req : Nat} (h : s.TablesOk) : LeadsTables (execPageWalk req s) := by
  refine leadsTables_next ?_
  split
  · exact h
  · split
    · exact h
    · refine tablesOk_ite h ?_
      extract_lets joined failAll
      have hfail : ∀ {u sub}, State.TablesOk u → (failAll u sub).TablesOk := fun {u sub} hu => by
        refine tablesOk_foldl (fun s e h => ?_) _ hu
        split
        · exact tablesOk_faultPart h
        · exact h
      clear_value failAll
      split
      · next he => exact hfail (tablesOk_fst (tablesOk_walk h) he)
      · next he =>
        have h1 := tablesOk_fst (tablesOk_walk h) he
        refine tablesOk_ite (hfail h1) (tablesOk_foldl (fun s e h => ?_) _ h1)
        split
        · exact tablesOk_ite (tablesOk_putReq h ..) (tablesOk_tlbInstall (tablesOk_putReq h ..))
        · exact h

theorem leadsTables_execElementLand {req : Nat} (h : s.TablesOk) : LeadsTables (execElementLand req s) := by
  refine leadsTables_next ?_
  split
  · exact h
  · split
    · exact tablesOk_ite (tablesOk_dropReq h) h
    · refine tablesOk_ite h ?_
      extract_lets fault s1
      have h1 : s1.TablesOk := tablesOk_dropReq h
      refine tablesOk_ite h1 ?_
      split
      · exact h1
      · exact tablesOk_ite (tablesOk_readerHalf (tablesOk_mapCore h1 _ (fun _ hk => ⟨hk.1, hk.2⟩))) (tablesOk_mapCore h1 _ (fun _ hk => ⟨hk.1, hk.2⟩))

/-! ### Copies -/

theorem tablesRise_freeSpan {k : Core} {y : CopyOp} (h : TablesRise k) : TablesRise (k.freeSpan y) := tablesRise_ite (tablesRise_of h rfl rfl) h
theorem tablesRise_endCopy {k : Core} {y : CopyOp} {fault : Option (Nat × Word × Bool)} (h : TablesRise k) : TablesRise (k.endCopy y fault) :=
  tablesRise_of (tablesRise_freeSpan h) rfl rfl
theorem tablesRise_noteCopied {k : Core} {y : CopyOp} {line : Nat} (h : TablesRise k) : TablesRise (k.noteCopied y line) :=
  tablesRise_ite h (tablesRise_of h rfl rfl)

theorem tablesOk_ackCopyWrite {copy : Nat} (h : s.TablesOk) : (s.ackCopyWrite id copy r).TablesOk := by
  refine tablesOk_ite h (tablesOk_mapCore (tablesOk_dropReq h) _ fun k hk => ?_)
  split
  · exact hk
  · split
    · exact tablesRise_of hk rfl rfl
    · exact tablesRise_endCopy hk

theorem leadsTables_execStoreAck {req : Nat} (h : s.TablesOk) : LeadsTables (execStoreAck req s) := by
  refine leadsTables_next ?_
  split
  · exact h
  · split
    · exact tablesOk_ackCopyWrite h
    · exact tablesOk_ackCollWrite h
    · have h1 := tablesOk_retireStore (id := req) h
      exact tablesOk_ite h (tablesOk_ite h1 (tablesOk_ite (tablesOk_mapCore (tablesOk_putReq h ..) _ (fun _ hk => ⟨hk.1, hk.2⟩))
        (tablesOk_ite h (tablesOk_ite (tablesOk_mapCore h1 _ (fun _ hk => ⟨hk.1, hk.2⟩)) h1))))

theorem tablesOk_copyRead {slot space : Nat} {a : Int} (h : s.TablesOk) : (s.copyRead c slot space a n).1.TablesOk := by
  unfold State.copyRead
  refine tablesOk_ite_fst h (tablesOk_ite_fst (tablesOk_virtRead h) ?_)
  dsimp only
  refine tablesOk_ite_fst h ?_
  split
  · exact h
  · split <;> exact h

theorem tablesOk_copyWrite {slot space : Nat} {a : Int} (h : s.TablesOk) : (s.copyWrite c slot space a n v).1.TablesOk := by
  unfold State.copyWrite
  refine tablesOk_ite_fst h (tablesOk_ite_fst (tablesOk_sectorWrite h) ?_)
  dsimp only
  refine tablesOk_ite_fst h ?_
  split
  · exact h
  · exact tablesOk_spadWrite h ..

theorem tablesOk_copyPlace {y : CopyOp} {a : Int} (h : s.TablesOk) : (s.copyPlace c y a).1.TablesOk := by
  unfold State.copyPlace
  refine tablesOk_ite_fst h ?_
  split
  · next he => exact tablesOk_fst (tablesOk_translate h) he
  · next he =>
    have h1 := tablesOk_fst (tablesOk_translate h) he
    split <;> exact h1

theorem tablesOk_keepCopy {y : CopyOp} (h : s.TablesOk) : (s.keepCopy c y).TablesOk := tablesOk_mapCore h c (fun _ hk => ⟨hk.1, hk.2⟩)

theorem tablesOk_copyWords {y : CopyOp} {sector : Nat} (h : s.TablesOk) : (s.copyWords c y sector).1.TablesOk := by
  refine tablesOk_foldl_fst (fun p w hp => ?_) h
  split
  · next he => exact tablesOk_fst (tablesOk_copyRead hp) he
  · next he => exact tablesOk_fst (tablesOk_copyRead hp) he

theorem tablesOk_copySource {y : CopyOp} {runs : List (Nat × Nat × Nat)} {acc : Nat} (h : s.TablesOk) :
    (s.copySource c y runs acc).1.TablesOk := by
  induction runs generalizing s y acc with
  | nil => exact h
  | cons run rest ih =>
    unfold State.copySource
    extract_lets of use keep
    have huse : ∀ {u z d}, State.TablesOk u → (use u z d).1.TablesOk := fun {u z d} hu => by
      unfold use
      split
      · exact hu
      · exact ih hu
    clear_value use
    split
    · exact huse h
    · split
      · next he => exact huse (tablesOk_fst (tablesOk_copyRead h) he)
      · next he => exact huse (tablesOk_copyWords (tablesOk_fst (tablesOk_copyRead h) he))
      · next he =>
        have h1 := tablesOk_fst (tablesOk_copyRead h) he
        split
        · next he => exact tablesOk_fst (tablesOk_copyRead h1) he
        · next he => exact ih (tablesOk_fst (tablesOk_copyRead h1) he)

theorem tablesOk_copySectors {y : CopyOp} {src dst : Int} {l : List (Nat × Nat × Nat)} (h : s.TablesOk) :
    (s.copySectors c y src dst l).1.TablesOk := by
  induction l generalizing s y with
  | nil => exact h
  | cons e rest ih =>
    unfold State.copySectors
    split
    · next he => exact tablesOk_fst (tablesOk_copySource h) he
    · next he =>
      have h1 := tablesOk_fst (tablesOk_copySource h) he
      dsimp only
      refine tablesOk_ite_fst h1 ?_
      split
      · next he =>
        have h2 := tablesOk_fst (tablesOk_copyPlace (tablesOk_free h1 _)) he
        exact tablesOk_putReq h2 ..
      · next he =>
        have h2 := tablesOk_fst (tablesOk_copyPlace (tablesOk_free h1 _)) he
        split
        · next he => exact tablesOk_fst (tablesOk_copyWrite h2) he
        · next he =>
          have h3 := tablesOk_fst (tablesOk_copyWrite h2) he
          exact ih (tablesOk_elim h3 fun _ => tablesOk_mapCore h3 _ fun _ hk => tablesRise_noteCopied hk)

theorem tablesOk_copyRuns {y : CopyOp} {ns : List Nat} (h : s.TablesOk) : (s.copyRuns c y ns).1.TablesOk := by
  induction ns generalizing s y with
  | nil => exact h
  | cons n rest ih =>
    unfold State.copyRuns
    dsimp only
    split
    · next he => exact ih (tablesOk_fst (tablesOk_copySectors h) he)
    · exact tablesOk_copySectors h

theorem leadsTables_execCopyComplete {core span : Nat} (h : s.TablesOk) : LeadsTables (execCopyComplete core span s) := by
  refine leadsTables_next ?_
  split
  · exact h
  · split
    · next he => exact tablesOk_mapCore (tablesOk_fst (tablesOk_copyRuns h) he) _ fun _ hk => tablesRise_endCopy hk
    · next he => exact tablesOk_mapCore (tablesOk_fst (tablesOk_copyRuns h) he) _ fun _ hk => tablesRise_endCopy hk
    · next he =>
      have h1 := tablesOk_fst (tablesOk_copyRuns h) he
      exact tablesOk_ite (tablesOk_keepCopy (tablesOk_mapCore h1 _ fun _ hk => tablesRise_freeSpan hk)) (tablesOk_keepCopy h1)

/-! ### Walks -/

theorem tablesOk_dieTranslate {cl slot va : Nat} (h : s.TablesOk) : (s.dieTranslate cl slot va).1.TablesOk := by
  unfold State.dieTranslate
  split
  · exact tablesOk_ite_fst h h
  · split
    · next he => exact tablesOk_fst (tablesOk_walk h) he
    · next he =>
      have h1 := tablesOk_fst (tablesOk_walk h) he
      exact tablesOk_ite_fst (tablesOk_setCluster h1 ..) h1

theorem tablesOk_pierRead {w : Walk} {va : Nat} (h : s.TablesOk) : (s.pierRead w va n).1.TablesOk := by
  unfold State.pierRead
  dsimp only
  split
  · next he => exact tablesOk_fst (tablesOk_dieTranslate h) he
  · next he =>
    have h1 := tablesOk_fst (tablesOk_dieTranslate h) he
    split
    · exact tablesOk_ite_fst h1 (tablesOk_homeRead h1 ..)
    all_goals exact h1

theorem tablesOk_pierWeights {w : Walk} {lo : Nat} {l : List Nat} (h : s.TablesOk) : (s.pierWeights w lo l).1.TablesOk := by
  induction l generalizing s with
  | nil => exact h
  | cons i rest ih =>
    unfold State.pierWeights
    split
    · next he => exact tablesOk_fst (tablesOk_pierRead h) he
    · next he =>
      have h1 := tablesOk_fst (tablesOk_pierRead h) he
      split
      · next he => exact tablesOk_fst (ih h1) he
      · next he => exact tablesOk_fst (ih h1) he

theorem tablesOk_walkStep {w : Walk} (h : s.TablesOk) : (s.walkStep w).1.TablesOk := by
  unfold State.walkStep
  refine tablesOk_ite_fst h ?_
  dsimp only
  split
  · next he => exact tablesOk_fst (tablesOk_pierRead h) he
  · next he =>
    have h1 := tablesOk_fst (tablesOk_pierRead h) he
    split
    · next he => exact tablesOk_fst (tablesOk_pierRead h1) he
    · next he =>
      have h2 := tablesOk_fst (tablesOk_pierRead h1) he
      split
      · next he => exact tablesOk_fst (tablesOk_pierWeights h2) he
      · next he =>
        have h3 := tablesOk_fst (tablesOk_pierWeights h2) he
        refine tablesOk_ite_fst (tablesOk_free h3 _) ?_
        split
        · next he => exact tablesOk_fst (tablesOk_pierRead (tablesOk_free h3 _)) he
        · next he => exact tablesOk_fst (tablesOk_pierRead (tablesOk_free h3 _)) he

theorem tablesOk_walkFlags {w : Walk} (h : s.TablesOk) : (s.walkFlags w).TablesOk := by
  unfold State.walkFlags
  dsimp only
  split
  · exact tablesOk_mapStrand h ..
  · split
    · exact h
    · split
      · next he => exact tablesOk_fst (tablesOk_virtRead h) he
      · next he => exact tablesOk_virtWrite (tablesOk_fst (tablesOk_virtRead h) he)

theorem tablesOk_walkToStream {w : Walk} {rec_ : Nat} (h : s.TablesOk) : (s.walkToStream w rec_).TablesOk := by
  refine tablesOk_mapCore h _ fun k hk => tablesRise_ite hk ?_
  split
  · exact hk
  · exact tablesRise_of hk rfl rfl

theorem tablesOk_walkToRing {w : Walk} {unit : List Word} (h : s.TablesOk) : (s.walkToRing w unit).TablesOk :=
  tablesOk_ite h (tablesOk_mapCore (tablesOk_spadWrite h ..) _ (fun _ hk => ⟨hk.1, hk.2⟩))

theorem leadsTables_execWalkHop {walk : Nat} (h : s.TablesOk) : LeadsTables (execWalkHop walk s) := by
  refine leadsTables_next ?_
  split
  · exact h
  · refine tablesOk_ite h (tablesOk_ite h ?_)
    split
    next s1 rec_ w1 fault he =>
    have h1 := tablesOk_fst (tablesOk_walkStep h) he
    extract_lets s2 s3 drop
    have h2 : s2.TablesOk := by
      unfold s2
      split
      · exact tablesOk_log h1 ..
      · exact h1
    have h3 : s3.TablesOk := tablesOk_ite (tablesOk_walkFlags h2) h2
    have hdrop : ∀ {u z}, State.TablesOk u → (drop u z).TablesOk := fun hu => tablesOk_ite hu hu
    clear_value drop
    exact tablesOk_ite (hdrop (tablesOk_walkToStream h3)) (tablesOk_ite (hdrop (tablesOk_walkToRing h3))
      (tablesOk_ite (hdrop (tablesOk_walkToRing h3)) (hdrop h3)))

end Sys2Proof.Proofs
end

section
/-! Micro-ops of the matrix engine, and the frames of halted strands, keep the keys of the tables rising. -/
namespace Sys2Proof.Proofs
open Sys2Proof Sys2Proof.Machine Sys2Proof.Laws

variable {s t : State} {c x slot va n v : Nat} {m : Micro} {o : MatrixOp} {k : Core}

/-- A core set to one whose tables are those of a core of a machine in the form. -/
theorem tablesOk_setCore_of {u : State} {d : Nat} (h : s.TablesOk) (hu : u.TablesOk) (hc : k.ctxs = (u.core d).ctxs)
    (hp : k.share.pats = (u.core d).share.pats) : (s.setCore c k).TablesOk :=
  tablesOk_setCore h c (tablesRise_of (tablesRise_core hu d) hc hp)

/-! ### The matrix queue -/

theorem tablesOk_stopOp (h : s.TablesOk) : (s.stopOp c).TablesOk := tablesOk_mapCore h c (fun _ hk => ⟨hk.1, hk.2⟩)

theorem tablesOk_chooseOp (h : s.TablesOk) : (s.chooseOp c).TablesOk := by
  have h1 : (s.stopOp c).TablesOk := tablesOk_stopOp h
  unfold State.chooseOp
  extract_lets s1 k
  split
  · exact h1
  · extract_lets start
    clear_value start
    split
    · exact tablesOk_setCore_of h1 h1 rfl rfl
    · exact tablesOk_ite (tablesOk_setCore_of h1 h1 rfl rfl) h1

theorem leadsTables_execMatrixChoose {core : Nat} (h : s.TablesOk) : LeadsTables (execMatrixChoose core s) :=
  leadsTables_next (tablesOk_ite h (tablesOk_chooseOp h))

theorem leadsTables_micro {f : Micro → State} (h : s.TablesOk) (hf : ∀ m, m.st.TablesOk → (f m).TablesOk) : LeadsTables (s.micro f) := by
  unfold State.micro
  split
  · exact leadsTables_fault
  · split
    · exact leadsTables_fault
    · exact leadsTables_next (hf _ (by exact h))

/-! ### What micro-ops share -/

theorem tablesOk_keep (h : m.st.TablesOk) : m.keep.TablesOk := tablesOk_mapCore h _ (fun _ hk => ⟨hk.1, hk.2⟩)
theorem microTables_withOp (h : m.st.TablesOk) : ({ m with op := o } : Micro).st.TablesOk := h
theorem tablesOk_waits (h : m.st.TablesOk) : m.waits.TablesOk := tablesOk_stopOp h

theorem microTables_setTile {d : Nat} {w : TileReg} (h : m.st.TablesOk) : (m.setTile d w).st.TablesOk := by
  unfold Micro.setTile
  split
  · exact h
  · exact tablesOk_mapStrand h ..
  · exact h

theorem microTables_torn {addr : Nat} (h : m.st.TablesOk) : (m.torn addr).st.TablesOk := by
  unfold Micro.torn
  split
  · exact tablesOk_addDues (tablesOk_free h _)
  · exact h

theorem microTables_renew {d : Nat} (h : m.st.TablesOk) : (m.renew d).st.TablesOk := by
  unfold Micro.renew
  split
  · exact h
  · exact tablesOk_mapStrand h ..
  · exact h

theorem microTables_readTile {d : Nat} (h : m.st.TablesOk) : (m.readTile d).st.TablesOk := by
  unfold Micro.readTile
  split
  · exact h
  · exact microTables_torn (microTables_renew (microTables_setTile h))

theorem microTables_readRing {r : Nat} (h : m.st.TablesOk) : (m.readRing r).st.TablesOk := by
  unfold Micro.readRing
  split
  · exact h
  · extract_lets s1
    have h1 : s1.TablesOk := tablesOk_mapCore h _ (fun _ hk => ⟨hk.1, rising_pats_foldl_zeroed hk.2⟩)
    split
    · exact tablesOk_addDues h1
    · exact h1

theorem tablesRise_popRings {rs : List Nat} (h : TablesRise k) : TablesRise (popRings k o rs).1 := by
  unfold popRings
  induction rs generalizing k o with
  | nil => exact h
  | cons r rest ih => exact ih (tablesRise_of h rfl rfl)

theorem tablesOk_logEmulated {owner : Nat} {fmt : Word} (h : s.TablesOk) : (s.logEmulated c owner fmt).TablesOk := by
  have hmap : ∀ f : Core → Map (Nat × Nat), (s.mapCore c (fun k => { k with emulated := f k })).TablesOk := fun _ =>
    tablesOk_mapCore h _ (fun _ hk => ⟨hk.1, hk.2⟩)
  exact tablesOk_ite h (tablesOk_ite (tablesOk_log (hmap _) ..) (hmap _))

theorem tablesOk_retire (h : m.st.TablesOk) : m.retire.TablesOk := by
  unfold Micro.retire
  extract_lets k p src s1 o word s2 owner s3 s4
  have hp : TablesRise p.1 := tablesRise_popRings (tablesRise_core h m.core)
  have h1 : s1.TablesOk := tablesOk_setCore h _ (tablesRise_of hp rfl rfl)
  have h2 : s2.TablesOk := by
    unfold s2
    split
    · exact tablesOk_mapStrand h1 ..
    · exact h1
  have h3 : s3.TablesOk := tablesOk_logEmulated h2
  exact tablesOk_chooseOp (tablesOk_ite h3 (tablesOk_log h3 ..))

theorem tablesOk_fail {status : Nat} (h : m.st.TablesOk) : (m.fail status).TablesOk := tablesOk_retire (by exact h)
theorem tablesOk_reserved (h : m.st.TablesOk) : m.reserved.TablesOk := tablesOk_fail h

theorem microTables_finishStep {a b : Nat} {ctl : BitVec 4} (h : m.st.TablesOk) : (m.finishStep a b ctl).st.TablesOk :=
  tablesOk_setCore h _ (tablesRise_popRings (tablesRise_core h m.core))

theorem microTables_makeStep {d a b : Nat} (h : m.st.TablesOk) : (m.makeStep d a b).st.TablesOk := by
  unfold Micro.makeStep
  extract_lets k w fa fb g ua ub head ca c1 cb kappa m0 r sums ta tb xa xb meets m1
  have h0 : m0.st.TablesOk := microTables_readTile h
  clear_value m0
  have h1 : m1.st.TablesOk := by
    unfold m1
    split
    · exact microTables_setTile h0
    · exact microTables_torn (microTables_setTile h0)
  exact h1

/-! ### The micro-ops -/

theorem leadsTables_execKend (h : s.TablesOk) : LeadsTables (execKend s) := leadsTables_micro h fun _ hm => tablesOk_retire hm

theorem leadsTables_execKzero {tile : BitVec 3} (h : s.TablesOk) : LeadsTables (execKzero tile s) :=
  leadsTables_micro h fun _ hm => tablesOk_ite (tablesOk_fail hm) (tablesOk_keep (microTables_setTile (microTables_renew hm)))

theorem leadsTables_execKloop {csel : BitVec 6} {imm : BitVec 32} (h : s.TablesOk) : LeadsTables (execKloop csel imm s) :=
  leadsTables_micro h fun _ hm => tablesOk_ite (tablesOk_reserved hm) (tablesOk_ite (tablesOk_fail hm)
    (tablesOk_ite (tablesOk_keep (by exact hm)) (tablesOk_keep (by exact hm))))

theorem leadsTables_execKendl (h : s.TablesOk) : LeadsTables (execKendl s) :=
  leadsTables_micro h fun m hm => by
    split
    · exact tablesOk_fail hm
    · exact tablesOk_keep (by exact hm)
    · exact tablesOk_keep (by exact hm)

theorem leadsTables_execKstep {tile ra rb : BitVec 3} {csel : BitVec 6} {ctl : BitVec 4} {imm : BitVec 32} (h : s.TablesOk) :
    LeadsTables (execKstep tile ra rb csel ctl imm s) :=
  leadsTables_micro h fun m hm => by
    refine tablesOk_ite (tablesOk_reserved hm) (tablesOk_ite (tablesOk_fail hm) ?_)
    have h1 := microTables_readRing (r := m.ringNo rb) (microTables_readRing (r := m.ringNo ra) hm)
    refine tablesOk_ite (tablesOk_fail h1) (tablesOk_ite (tablesOk_keep (microTables_finishStep h1)) (tablesOk_ite (tablesOk_waits h1) ?_))
    extract_lets m1 m2
    have h2 : m1.st.TablesOk := microTables_makeStep h1
    have h3 : m2.st.TablesOk := by
      unfold m2
      split
      · exact microTables_finishStep h2
      · exact h2
    exact tablesOk_chooseOp (tablesOk_keep h3)

theorem leadsTables_execKrows {tile mp : BitVec 3} (h : s.TablesOk) : LeadsTables (execKrows tile mp s) :=
  leadsTables_micro h fun m hm => by
    refine tablesOk_ite (tablesOk_fail hm) (tablesOk_ite (tablesOk_fail hm) (tablesOk_ite (tablesOk_fail hm) ?_))
    have h0 := microTables_readTile (d := m.tileNo tile) hm
    generalize m.readTile (m.tileNo tile) = m0 at h0 ⊢
    extract_lets d old torn rows flags image m1
    clear_value torn
    have h1 : m1.st.TablesOk := by
      unfold m1
      split
      · exact microTables_setTile h0
      · exact microTables_torn (microTables_setTile h0)
    exact tablesOk_keep (by exact h1)

theorem leadsTables_execKsum {tile : BitVec 3} (h : s.TablesOk) : LeadsTables (execKsum tile s) :=
  leadsTables_micro h fun m hm => by
    refine tablesOk_ite (tablesOk_fail hm) (tablesOk_ite (tablesOk_fail hm) ?_)
    have h0 := microTables_readTile (d := m.tileNo tile) hm
    generalize m.readTile (m.tileNo tile) = m0 at h0 ⊢
    exact tablesOk_keep (microTables_withOp h0)

theorem tablesOk_freeze {space a sub : Nat} {p : List Byte} (h : m.st.TablesOk) : (m.freeze space a p sub).TablesOk :=
  tablesOk_ite h (tablesOk_mapCore (tablesOk_addReq h) _ (fun _ hk => ⟨hk.1, hk.2⟩))

theorem tablesOk_writeSpad {l : List (Nat × List Byte)} (h : m.st.TablesOk) : (m.writeSpad l).TablesOk := by
  induction l generalizing m with
  | nil => exact h
  | cons e rest ih => exact tablesOk_ite (tablesOk_freeze h) (ih (tablesOk_spadWrite h ..))

theorem tablesOk_writeView {vit : Vitrine} {l : List (Nat × List Byte)} (h : m.st.TablesOk) : (m.writeView slot vit l).TablesOk := by
  induction l generalizing m with
  | nil => exact h
  | cons e rest ih =>
    unfold Micro.writeView
    refine tablesOk_ite (tablesOk_freeze h) ?_
    split
    · next he => exact ih (tablesOk_fst (tablesOk_virtWrite h) he)
    · next he => exact tablesOk_freeze (tablesOk_fst (tablesOk_virtWrite h) he)

theorem leadsTables_execKepi {tile : BitVec 3} {route : BitVec 2} {mp : BitVec 3} (h : s.TablesOk) : LeadsTables (execKepi tile route mp s) :=
  leadsTables_micro h fun m hm => by
    refine tablesOk_ite (tablesOk_reserved hm) (tablesOk_ite (tablesOk_fail hm) (tablesOk_ite (tablesOk_fail hm)
      (tablesOk_ite (tablesOk_waits hm) ?_)))
    have h0 := microTables_readTile (d := m.tileNo tile) hm
    generalize m.readTile (m.tileNo tile) = m0 at h0 ⊢
    refine tablesOk_ite (tablesOk_keep (tablesOk_writeSpad (by exact h0))) (tablesOk_ite
      (tablesOk_keep (tablesOk_setCore_of (by exact h0) h0 rfl rfl)) ?_)
    extract_lets off writes view
    clear_value view
    split
    · exact tablesOk_keep (tablesOk_freeze (by exact h0))
    · exact tablesOk_keep (tablesOk_writeView (by exact h0))

/-! ### Frames -/

theorem tablesOk_saveFrame {queued : Bool} (h : s.TablesOk) : (s.saveFrame c x queued).TablesOk := by
  unfold State.saveFrame
  split
  · exact h
  · exact tablesOk_mapCore h _ (fun _ hk => ⟨hk.1, hk.2⟩)

theorem tablesOk_sealFrames {queued : Bool} {p : Strand → Bool} (h : s.TablesOk) : (s.sealFrames queued p).TablesOk := by
  unfold State.sealFrames
  extract_lets s1 mine
  have h1 : s1.TablesOk := tablesOk_foldl (fun _ _ h => tablesOk_foldl (fun _ _ h => tablesOk_ite (tablesOk_saveFrame h) h) _ h) _ h
  exact tablesOk_reqs h1 (rising_mapVals _ (rising_reqs h1))

theorem tablesRise_restoreShare (h : TablesRise k) : TablesRise k.restoreShare := by
  unfold Core.restoreShare
  dsimp only
  split
  · exact tablesRise_of h rfl rfl
  · exact ⟨h.1, rising_foldl (fun _ _ hm => rising_set hm) _ rfl⟩

end Sys2Proof.Proofs
end

section
/-! The launch path, the islands and the meters, and the fabric keep the keys of the tables rising. -/
namespace Sys2Proof.Proofs
open Sys2Proof Sys2Proof.Machine Sys2Proof.Laws

variable {s t : State} {c x q slot va off n v j g cl owner addr : Nat}

/-! ### Reads and writes of the agents -/

theorem tablesOk_agentRead (h : s.TablesOk) : (s.agentRead slot va n).1.TablesOk := by
  refine tablesOk_foldl_fst (fun p run hp => ?_) h
  split
  · exact hp
  · split
    · next he => exact tablesOk_fst (tablesOk_walk hp) he
    · next he =>
      have h1 := tablesOk_fst (tablesOk_walk hp) he
      refine tablesOk_ite_fst h1 ?_
      split
      · exact tablesOk_ite_fst h1 (tablesOk_homeRead h1 ..)
      · split
        · next he => exact tablesOk_fst (tablesOk_askRemote h1) he
        · next he => exact tablesOk_fst (tablesOk_askRemote h1) he
      · exact h1
      · exact h1

theorem tablesOk_agentWrite (h : s.TablesOk) : (s.agentWrite slot va n v).1.TablesOk := by
  refine tablesOk_foldl_fst (fun p run hp => ?_) h
  split
  · exact hp
  · dsimp only
    split
    · next he => exact tablesOk_fst (tablesOk_walk hp) he
    · next he =>
      have h1 := tablesOk_fst (tablesOk_walk hp) he
      refine tablesOk_ite_fst h1 ?_
      split
      · exact tablesOk_ite_fst h1 (tablesOk_engineWrite h1 ..)
      · exact tablesOk_tellRemote h1
      · exact h1
      · exact h1

theorem tablesOk_agentRecord (h : s.TablesOk) : (s.agentRecord slot va v).1.TablesOk := by
  unfold State.agentRecord
  split
  · exact tablesOk_freeReply (by exact h)
  · exact tablesOk_agentWrite h

theorem tablesOk_linesSeen {key : Nat} (h : s.TablesOk) : (s.linesSeen off n key).TablesOk :=
  tablesOk_foldl (fun _ _ h => tablesOk_ite (tablesOk_touchLine h) h) _ h
theorem tablesOk_deviceSeen (h : s.TablesOk) : (s.deviceSeen off n).TablesOk := tablesOk_linesSeen h

/-! ### Queues, nests and gangs -/

theorem tablesOk_setQueueReg (h : s.TablesOk) : (s.setQueueReg q off v).TablesOk := tablesOk_setHreg h ..
theorem tablesOk_refuse {w : Word} (h : s.TablesOk) : (s.refuse addr owner w).TablesOk := tablesOk_log h ..
theorem tablesOk_hostWrite {w : Word} {early : Bool} {f : State → State} (h : s.TablesOk) (hf : (f s).TablesOk) :
    (s.hostWrite addr owner w early f).TablesOk := tablesOk_ite h (tablesOk_ite (tablesOk_refuse h) hf)

theorem leadsTables_execDoorbell {queue tail : Nat} (h : s.TablesOk) : LeadsTables (execDoorbell queue tail s) :=
  leadsTables_next (tablesOk_hostWrite h (tablesOk_ite (tablesOk_log h ..) (tablesOk_setQueueReg h)))

theorem tablesOk_nestIrq {source : Nat} {r : NestRec} {feats : Word} (h : s.TablesOk) : (s.nestIrq source r feats).TablesOk := tablesOk_ite h h
theorem tablesOk_ringWrite {log2n image : Nat} (h : s.TablesOk) : (s.ringWrite slot addr log2n image).1.TablesOk :=
  tablesOk_agentRecord (by exact h)

theorem tablesOk_complete {r : Report} (h : s.TablesOk) : (s.complete r).TablesOk := by
  unfold State.complete
  extract_lets sat thr slot words image where_ made s2
  have h1 : made.1.TablesOk := by
    refine tablesOk_ite_fst ?_ h
    split
    · next he => exact tablesOk_fst (tablesOk_ringWrite h) he
    · next he => exact tablesOk_log (tablesOk_fst (tablesOk_ringWrite h) he) ..
  have h2 : s2.TablesOk := tablesOk_nestIrq h1
  exact tablesOk_ite h2 (tablesOk_log h2 ..)

theorem tablesOk_enqueueNest {r : NestRec} (h : s.TablesOk) : (s.enqueueNest n r owner).TablesOk := h
theorem tablesOk_dropHead (h : s.TablesOk) : (s.dropHead n).TablesOk := by
  unfold State.dropHead
  split <;> exact h

theorem leadsTables_execNestTake {queue : Nat} (h : s.TablesOk) : LeadsTables (execNestTake queue s) := by
  refine leadsTables_next (tablesOk_ite h ?_)
  extract_lets w at_
  split
  next s1 raw he =>
  have h1 : s1.TablesOk := tablesOk_fst (tablesOk_ite_fst h (tablesOk_ite_fst (tablesOk_homeRead h ..) h)) he
  exact tablesOk_ite (tablesOk_enqueueNest (tablesOk_setQueueReg h1)) (tablesOk_complete (tablesOk_log (tablesOk_setQueueReg h1) ..))

theorem leadsTables_execNestOffer (h : s.TablesOk) : LeadsTables (execNestOffer s) := by
  refine leadsTables_next (tablesOk_ite h ?_)
  split
  · exact h
  · next src w _ =>
    have h1 := tablesOk_dropHead (n := src) h
    exact tablesOk_ite (tablesOk_complete (by exact h1)) (tablesOk_setNest (by exact h1))

theorem tablesOk_settleReload (h : s.TablesOk) : s.settleReload.TablesOk := tablesOk_ite h (tablesOk_setHreg h ..)

theorem tablesOk_prepareCore {window member : Nat} (h : s.TablesOk) : (s.prepareCore c slot g owner window member).TablesOk := by
  unfold State.prepareCore
  extract_lets k rec0 rec1 k1 s1 s2
  have hk : TablesRise k1 := tablesRise_ite ⟨(tablesRise_core h c).1, rfl⟩ ⟨rfl, rfl⟩
  have h1 : s1.TablesOk := tablesOk_ite h h
  have h2 : s2.TablesOk := tablesOk_setCore h1 _ (tablesRise_of hk rfl rfl)
  exact tablesOk_ite (tablesOk_settleReload h2) h2

theorem tablesOk_noteFirst (h : s.TablesOk) : s.noteFirst.TablesOk := tablesOk_ite h h

/-- The reservations of clusters given back. -/
theorem tablesOk_unreserve {nest : Nat} {l : List Nat} (h : s.TablesOk) :
    (l.foldl (fun (s : State) cl =>
      if (s.cluster cl).reservation = some nest then s.setCluster cl { s.cluster cl with reservation := none } else s) s).TablesOk :=
  tablesOk_foldl (fun _ _ h => tablesOk_ite (tablesOk_setCluster h ..) h) _ h

theorem tablesOk_placeGang {nest : Nat} {w : Nest} {cs : List Nat} (h : s.TablesOk) : (s.placeGang nest w cl cs).TablesOk := by
  unfold State.placeGang
  extract_lets g slot src s1 s2 s3 s4
  have h3 : s3.TablesOk := tablesOk_foldl (fun _ _ h =>
    tablesOk_foldl (fun _ _ h => tablesOk_setStrand h ..) _ (tablesOk_prepareCore h)) _ (tablesOk_setGang (by exact h))
  exact tablesOk_unreserve (tablesOk_setNest h3)

theorem leadsTables_execGangPlace {cluster : Nat} (h : s.TablesOk) : LeadsTables (execGangPlace cluster s) := by
  have h0 := tablesOk_noteFirst h
  refine leadsTables_next ?_
  extract_lets s0
  split
  · exact h0
  · exact tablesOk_ite (tablesOk_noteFirst (tablesOk_placeGang h0)) h0

theorem leadsTables_execClusterReserve {cluster : Nat} (h : s.TablesOk) : LeadsTables (execClusterReserve cluster s) := by
  have h0 := tablesOk_noteFirst h
  refine leadsTables_next ?_
  extract_lets s0
  split
  · exact tablesOk_ite h0 (tablesOk_ite (tablesOk_setCluster h0 ..) h0)
  · exact h0

theorem leadsTables_execFolioPickup {core : Nat} (h : s.TablesOk) : LeadsTables (execFolioPickup core s) := by
  refine leadsTables_next ?_
  split
  · exact h
  · next f _ =>
    extract_lets cl src s0
    have h0 : s0.TablesOk := tablesOk_setCluster h ..
    clear_value s0
    split
    · exact h0
    · split
      · exact h0
      · next g _ n _ =>
        extract_lets failed
        have hfailed : ∀ {u}, State.TablesOk u → (failed u).TablesOk := fun hu => tablesOk_endGang (tablesOk_log hu ..)
        clear_value failed
        split
        · next he => exact hfailed (tablesOk_fst (tablesOk_agentRead h0) he)
        · next he =>
          have h1 := tablesOk_fst (tablesOk_agentRead h0) he
          extract_lets w0
          split
          · next he => exact hfailed (tablesOk_fst (tablesOk_agentWrite h1) he)
          · next he =>
            have h2 := tablesOk_fst (tablesOk_agentWrite h1) he
            exact tablesOk_readerHalf (tablesOk_setStrand (tablesOk_setGang (tablesOk_ite h2 (tablesOk_prepareCore h2))) ..)

theorem tablesOk_haltGang {w : Gang} (h : s.TablesOk) : (s.haltGang g w).TablesOk :=
  tablesOk_foldl (fun _ _ h => tablesOk_ite h (by exact tablesOk_mapCore h _ (fun _ hk => ⟨hk.1, hk.2⟩))) _ (tablesOk_sealFrames
    (tablesOk_foldl (fun _ _ h => tablesOk_ite h (tablesOk_foldl (fun _ _ h => tablesOk_haltStrand h) _ h)) _ h))

theorem tablesOk_requestPreempt {why : Nat} (h : s.TablesOk) : (s.requestPreempt g why).TablesOk := by
  unfold State.requestPreempt
  split
  · exact tablesOk_ite (tablesOk_setGang h) h
  · exact h

theorem leadsTables_execGangPreempt {gang : Nat} (h : s.TablesOk) : LeadsTables (execGangPreempt gang s) := by
  refine leadsTables_next ?_
  split
  · exact h
  · next w _ =>
    split
    · exact tablesOk_ite (tablesOk_requestPreempt h) h
    · refine tablesOk_ite ?_ ?_
      · have h1 := tablesOk_haltGang (g := gang) (w := w) h
        exact tablesOk_of h1 rfl rfl rfl rfl rfl
      · split
        · exact tablesOk_enterDue h
        · exact h
    · exact h

theorem tablesOk_runGang (h : s.TablesOk) : (s.runGang g).TablesOk := by
  unfold State.runGang
  split
  · exact h
  · extract_lets s1 s2
    have h1 : s1.TablesOk := by
      refine tablesOk_foldl (fun u c hu => tablesOk_ite hu (tablesOk_foldl (fun _ _ h => tablesOk_mapStrand h ..) _ ?_)) _ h
      exact tablesOk_mapCore hu _ (fun _ hk => tablesRise_of (tablesRise_restoreShare hk) rfl rfl)
    exact h1

theorem leadsTables_execGangResume {gang : Nat} (h : s.TablesOk) : LeadsTables (execGangResume gang s) :=
  leadsTables_next (tablesOk_ite (tablesOk_runGang h) h)

theorem tablesOk_endTerminate (h : s.TablesOk) : (s.endTerminate slot).TablesOk :=
  tablesOk_ite (tablesOk_setSlotReg (tablesOk_setSlotReg h)) h

theorem leadsTables_execNestRetire {nest : Nat} (h : s.TablesOk) : LeadsTables (execNestRetire nest s) := by
  refine leadsTables_next ?_
  split
  · exact h
  · exact tablesOk_ite h (tablesOk_endTerminate (tablesOk_noteFirst (tablesOk_unreserve (tablesOk_complete (by exact h)))))

/-! ### Islands, meters and sensors -/

theorem tablesOk_logThrottle {point : Nat} (h : s.TablesOk) : (s.logThrottle j point).TablesOk := tablesOk_log h ..

theorem leadsTables_execOperatingPointChange {island : Nat} {demands : List Nat} (h : s.TablesOk) :
    LeadsTables (execOperatingPointChange island demands s) := by
  refine leadsTables_next ?_
  extract_lets j caps point reg old changing s1
  have h1 : s1.TablesOk := tablesOk_islands h (rising_set (rising_islands h))
  exact tablesOk_ite h1 (tablesOk_logThrottle h1)

theorem tablesOk_addEnergy {uj : Nat} (h : s.TablesOk) : (s.addEnergy off uj).TablesOk := tablesOk_setHreg h ..

theorem tablesOk_islandTick {nj : Nat} (h : s.TablesOk) : (s.islandTick j nj).TablesOk := by
  unfold State.islandTick
  extract_lets gs shares idle i s1 s2
  have h1 : s1.TablesOk := tablesOk_islands h (rising_set (rising_islands h))
  refine tablesOk_foldl (fun s e h => ?_) _ (tablesOk_addEnergy (tablesOk_addEnergy h1))
  split
  · exact tablesOk_setNest h
  · exact h

theorem tablesOk_gangCycles {w : Gang} (h : s.TablesOk) : (s.gangCycles g w n).TablesOk := by
  unfold State.gangCycles
  split
  · exact h
  · exact tablesOk_setNest h

theorem tablesOk_meter (h : s.TablesOk) : (s.meter n).TablesOk := tablesOk_foldl (fun _ _ h => tablesOk_gangCycles h) _ h
theorem tablesOk_noteSensor {k raw : Nat} (h : s.TablesOk) : (s.noteSensor k raw).TablesOk := h
theorem tablesOk_setReserve {uj : Nat} (h : s.TablesOk) : (s.setReserve uj).TablesOk := tablesOk_setHreg (by exact h) ..

theorem leadsTables_execEnergyTick {readings sensors : List Nat} {input reserve : Nat} (h : s.TablesOk) :
    LeadsTables (execEnergyTick readings sensors input reserve s) := by
  refine leadsTables_next ?_
  extract_lets s1 raw s3 cool drawn nj sum whole src s4 s5
  have h1 : s1.TablesOk := tablesOk_foldl (fun _ _ h => tablesOk_islandTick h) _ h
  clear_value s1
  have h3 : s3.TablesOk := tablesOk_foldl (fun _ _ h => tablesOk_noteSensor (tablesOk_setHreg h ..)) _ h1
  clear_value s3 whole cool
  have h4 : s4.TablesOk := tablesOk_of h3 rfl rfl rfl rfl rfl
  clear_value s4
  have h5 : s5.TablesOk := tablesOk_addEnergy h4
  exact tablesOk_setReserve (tablesOk_ite (tablesOk_setHreg h5 ..) h5)

theorem leadsTables_execSensorRetired {sensor : Nat} (h : s.TablesOk) : LeadsTables (execSensorRetired sensor s) :=
  leadsTables_next (tablesOk_ite h (tablesOk_log (by exact h) ..))

theorem leadsTables_execTrapEntry {core ctx : Nat} (h : s.TablesOk) : LeadsTables (execTrapEntry core ctx s) := leadsTables_next (tablesOk_enterDue h)

/-! ### Requests of other modules -/

variable {msg : RemoteMsg} {kind : ReqKind} {status data unit old link id sub : Nat}

theorem tablesOk_answerRemote (h : s.TablesOk) : (s.answerRemote msg status data).TablesOk := h

theorem tablesOk_answerDone (h : t.TablesOk) : (s.answerDone t msg kind unit old).TablesOk := by
  unfold State.answerDone
  split
  · exact tablesOk_answerRemote (tablesOk_spend h)
  · exact tablesOk_answerRemote h

theorem tablesOk_dropRemote (h : s.TablesOk) : (s.dropRemote msg).TablesOk := h
theorem tablesOk_holdRemote {w : Waiter} (h : s.TablesOk) : (s.holdRemote w).TablesOk := tablesOk_ite h (tablesOk_testWaiter (by exact h))

theorem tablesOk_performRemote (h : s.TablesOk) : (s.performRemote q msg).TablesOk := by
  -- unfolded as a function: applied, the kernel would evaluate the place of its address
  generalize hf : @State.performRemote = f
  delta State.performRemote at hf
  subst hf
  beta_reduce
  generalize s.place _ = where_
  split
  · extract_lets key sector
    split
    · exact tablesOk_holdRemote h
    · exact tablesOk_holdRemote h
    · exact tablesOk_answerRemote h
    · split
      · exact h
      · extract_lets s1
        have h1 : s1.TablesOk := tablesOk_ite (tablesOk_homeRead h ..) h
        split
        · next hd => exact tablesOk_answerDone (tablesOk_atHomeNow h1 hd)
        · exact tablesOk_answerRemote h1
        · exact h
  · split
    · exact tablesOk_answerRemote h
    · exact tablesOk_answerRemote h
  · exact tablesOk_answerRemote h

theorem leadsTables_execRemoteRequest (h : s.TablesOk) : LeadsTables (execRemoteRequest msg s) := by
  refine leadsTables_next (tablesOk_ite h (tablesOk_ite (tablesOk_dropRemote h) ?_))
  split
  · exact h
  · refine tablesOk_ite (tablesOk_answerRemote h) ?_
    split
    · exact tablesOk_answerRemote h
    · exact tablesOk_performRemote h

/-! ### Links, paths and silent modules -/

theorem tablesOk_notePaths (h : s.TablesOk) : s.notePaths.TablesOk := tablesOk_foldl (fun _ _ h => tablesOk_setHreg h ..) _ h
theorem tablesOk_takeDown (h : s.TablesOk) : (s.takeDown link).TablesOk := tablesOk_log (by exact h) ..

theorem leadsTables_execLinkRetry (h : s.TablesOk) : LeadsTables (execLinkRetry link s) := by
  refine leadsTables_next (tablesOk_ite h ?_)
  extract_lets s0 s1 n
  have h1 : s1.TablesOk := tablesOk_setHreg (tablesOk_free h _) ..
  exact tablesOk_ite (tablesOk_takeDown h1) h1

theorem leadsTables_execLinkDown (h : s.TablesOk) : LeadsTables (execLinkDown link s) :=
  leadsTables_next (tablesOk_ite h (tablesOk_ite h (tablesOk_takeDown h)))

theorem leadsTables_execRouteRemove (h : s.TablesOk) : LeadsTables (execRouteRemove link s) :=
  leadsTables_next (tablesOk_ite h (tablesOk_notePaths (by exact h)))

theorem tablesOk_failAway {gone : Nat → Bool} (h : s.TablesOk) : (s.failAway id sub gone).TablesOk := by
  unfold State.failAway
  split
  · exact h
  · refine tablesOk_foldl (fun s i h => ?_) _ h
    split
    · exact h
    · split
      · exact tablesOk_ite (tablesOk_faultPart h) h
      · exact h

theorem leadsTables_execRemoteNoAnswer {req : Nat} (h : s.TablesOk) : LeadsTables (execRemoteNoAnswer req s) := by
  refine leadsTables_next ?_
  split
  · exact h
  · split
    · exact h
    · extract_lets silent
      clear_value silent
      split
      · exact h
      · exact tablesOk_ite h (tablesOk_log (tablesOk_failAway h) ..)

theorem leadsTables_execMcload {value : BitVec 64} (h : s.TablesOk) : LeadsTables (execMcload value s) := by
  refine leadsTables_next (tablesOk_hostWrite h (tablesOk_ite h ?_))
  extract_lets map s1
  have h1 : s1.TablesOk := tablesOk_deviceSeen h
  exact tablesOk_of h1 rfl rfl rfl rfl rfl

theorem leadsTables_execRoute1ChunkApply {core : Nat} (h : s.TablesOk) : LeadsTables (execRoute1ChunkApply core s) := by
  refine leadsTables_next ?_
  split
  · exact h
  · next k rest _ =>
    refine tablesOk_ite h ?_
    have h1 : (s.mapCore core (fun c => { c with collq := rest })).TablesOk := tablesOk_mapCore h _ (fun _ hk => ⟨hk.1, hk.2⟩)
    exact tablesOk_putReq h1 ..

end Sys2Proof.Proofs
end

section
/-! The collective engine keeps the keys of the tables rising. -/
namespace Sys2Proof.Proofs
open Sys2Proof Sys2Proof.Machine Sys2Proof.Laws

variable {s t : State} {r : Replay} {g : Graph} {o : CollOp} {m : ChunkMsg} {i base off len v graph step n : Nat}

theorem leadsTables_execGload {addr : Nat} (h : s.TablesOk) : LeadsTables (execGload addr s) := by
  refine leadsTables_next ?_
  extract_lets at_ stat
  have hstat : ∀ {u w}, State.TablesOk u → (stat u w).TablesOk := fun hu => tablesOk_setHreg hu ..
  clear_value stat
  refine tablesOk_hostWrite h (tablesOk_ite (hstat h) ?_)
  extract_lets head
  split
  next num g0 nops _ =>
  refine tablesOk_ite (hstat (tablesOk_deviceSeen h)) ?_
  extract_lets s1 images g good used c
  have h1 : s1.TablesOk := tablesOk_deviceSeen h
  clear_value s1 good used
  exact tablesOk_ite (hstat h1) (tablesOk_ite (hstat h1) (tablesOk_ite (hstat h1) (hstat (tablesOk_of h1 rfl rfl rfl rfl rfl))))

/-! ### Reads, writes and faults of a replay -/

theorem tablesOk_failLost (h : s.TablesOk) : (s.failLost graph step).TablesOk := by
  unfold State.failLost
  split
  · exact h
  · refine tablesOk_ite (tablesOk_failReplay h) ?_
    extract_lets unrun
    clear_value unrun
    split
    · exact tablesOk_failReplay h
    · exact h

theorem tablesOk_collRead (h : s.TablesOk) : (s.collRead r base off len).1.TablesOk := tablesOk_ite_fst h (tablesOk_agentRead h)

theorem tablesOk_replayWrite {op : Option Nat} (h : s.TablesOk) : (s.replayWrite r op base n v).1.TablesOk := by
  refine tablesOk_foldl_fst (fun p run hp => ?_) h
  split
  · exact hp
  · extract_lets y
    split
    · exact tablesOk_agentWrite hp
    · exact tablesOk_putReq hp ..

theorem tablesOk_collWrite (h : s.TablesOk) : (s.collWrite r i base off len v).1.TablesOk := tablesOk_ite_fst h (tablesOk_replayWrite h)

/-! ### Chunks -/

theorem tablesOk_addLate (h : s.TablesOk) : (s.addLate m).TablesOk := by
  unfold State.addLate
  extract_lets src hold word discarded
  have hdiscarded : ∀ {u}, State.TablesOk u → (discarded u).TablesOk := fun hu => tablesOk_log hu ..
  have hhold : hold.TablesOk := h
  clear_value discarded hold
  split
  · exact tablesOk_ite (hdiscarded h) hhold
  · extract_lets g
    split
    · exact h
    · refine tablesOk_ite (hdiscarded h) (tablesOk_ite hhold ?_)
      extract_lets noted
      split
      · split
        · next he => exact tablesOk_failReplay (tablesOk_fst (tablesOk_collRead h) he)
        · next he =>
          have h1 := tablesOk_fst (tablesOk_collRead h) he
          extract_lets w
          split
          · next he => exact tablesOk_failReplay (tablesOk_fst (tablesOk_collWrite (tablesOk_free h1 _)) he)
          · next he => exact tablesOk_log (tablesOk_setReplay (tablesOk_fst (tablesOk_collWrite (tablesOk_free h1 _)) he)) ..
      · exact hdiscarded (tablesOk_setReplay h)

theorem tablesOk_forwardLate (h : s.TablesOk) : (s.forwardLate m).TablesOk := tablesOk_ite (tablesOk_addLate h) h

theorem tablesOk_deliver (h : s.TablesOk) : (s.deliver r m).TablesOk := by
  unfold State.deliver
  dsimp only
  split
  · exact h
  · exact tablesOk_ite h (tablesOk_ite (tablesOk_forwardLate h) (tablesOk_setReplay h))

theorem tablesOk_sendChunk {group : Bool} {data flushes : Nat} {missing : BitVec 256} (h : s.TablesOk) :
    (s.sendChunk r o group data flushes missing).TablesOk := by
  refine tablesOk_ite h (tablesOk_ite ?_ h)
  split
  · exact tablesOk_deliver (by exact h)
  · exact h

/-! ### The operations of a replay -/

theorem tablesOk_opDone (h : s.TablesOk) : (s.opDone graph step i).TablesOk := by
  unfold State.opDone
  split
  · exact h
  · next r _ =>
    extract_lets g r1 s1 mine
    refine tablesOk_ite ?_ (tablesOk_setReplay h)
    have h1 : s1.TablesOk := tablesOk_ite (tablesOk_setReplay h) (tablesOk_setReplay h)
    clear_value s1
    exact tablesOk_foldl (fun _ _ h => tablesOk_addLate h) _ (tablesOk_of h1 rfl rfl rfl rfl rfl)

theorem tablesOk_opFault {e : Nat × Nat} {dside : Bool} (h : s.TablesOk) : (s.opFault graph step i e dside).TablesOk := by
  unfold State.opFault
  split
  · exact h
  · exact tablesOk_failReplay h

theorem tablesOk_opSent (h : s.TablesOk) : (s.opSent graph step i).TablesOk :=
  tablesOk_ite (tablesOk_opFault (tablesOk_free h _)) (tablesOk_opDone (tablesOk_free h _))

theorem tablesOk_reduceInput {side : Nat} (h : s.TablesOk) : (s.reduceInput r g i o side).1.TablesOk := by
  unfold State.reduceInput
  dsimp only
  refine tablesOk_ite_fst ?_ ?_
  · split
    · next he => exact tablesOk_fst (tablesOk_collRead h) he
    · next he => exact tablesOk_fst (tablesOk_collRead h) he
  · split <;> exact h

theorem tablesOk_reduced (h : s.TablesOk) : (s.reduced r g i o).1.TablesOk := by
  unfold State.reduced
  split
  · next he => exact tablesOk_fst (tablesOk_reduceInput h) he
  · next he =>
    have h1 := tablesOk_fst (tablesOk_reduceInput h) he
    split
    · next he => exact tablesOk_fst (tablesOk_reduceInput h1) he
    · next he =>
      have h2 := tablesOk_fst (tablesOk_reduceInput h1) he
      split
      exact tablesOk_free h2 _

theorem tablesOk_runReduce (h : s.TablesOk) : (s.runReduce r g i o).TablesOk := by
  unfold State.runReduce
  extract_lets flushes
  clear_value flushes
  split
  · next he => exact tablesOk_opFault (tablesOk_fst (tablesOk_reduced h) he)
  · next s1 v n missing he =>
    have h1 := tablesOk_fst (tablesOk_reduced h) he
    extract_lets r1 s2 src s3
    have h2 : s2.TablesOk := tablesOk_setReplay h1
    have h3 : s3.TablesOk := tablesOk_ite h2 h2
    clear_value s3
    refine tablesOk_ite ?_ (tablesOk_opSent (tablesOk_sendChunk h3))
    split
    · next he => exact tablesOk_opFault (tablesOk_fst (tablesOk_collWrite h3) he)
    · next he => exact tablesOk_opDone (tablesOk_fst (tablesOk_collWrite h3) he)

theorem tablesOk_runOp (h : s.TablesOk) : (s.runOp r g i o).TablesOk := by
  unfold State.runOp
  extract_lets copied
  have hcopied : ∀ {u w}, State.TablesOk u → (copied u w).TablesOk := fun {u w} hu => by
    unfold copied
    split
    · next he => exact tablesOk_opFault (tablesOk_fst (tablesOk_collWrite hu) he)
    · next he => exact tablesOk_opDone (tablesOk_fst (tablesOk_collWrite hu) he)
  clear_value copied
  refine tablesOk_ite (tablesOk_runReduce h) (tablesOk_ite (hcopied h) ?_)
  split
  · next he => exact tablesOk_opFault (tablesOk_fst (tablesOk_collRead h) he)
  · next he =>
    have h1 := tablesOk_fst (tablesOk_collRead h) he
    exact tablesOk_ite (hcopied h1) (tablesOk_opSent (tablesOk_sendChunk h1))

theorem tablesOk_stopUnit (h : s.TablesOk) : (s.stopUnit r).TablesOk := by
  unfold State.stopUnit
  extract_lets g s1
  split
  · exact h
  · extract_lets n write x
    have hwrite : ∀ {x}, State.TablesOk x.1 → (write x).TablesOk := fun {x} hx => by
      unfold write
      split
      · exact tablesOk_collWrite hx
      · exact hx
    clear_value write
    have h1 : s1.TablesOk := tablesOk_free h _
    exact tablesOk_ite (hwrite h1) (tablesOk_ite (hwrite (tablesOk_collRead h1)) (tablesOk_ite (hwrite (tablesOk_reduced h1)) h1))

theorem tablesOk_noteSince (h : s.TablesOk) : (s.noteSince graph step).TablesOk := by
  unfold State.noteSince
  split
  · exact h
  · exact tablesOk_setReplay h

theorem tablesOk_runReplay (h : s.TablesOk) : (s.runReplay graph step).TablesOk := by
  unfold State.runReplay
  refine tablesOk_noteSince (tablesOk_foldl (fun s e h => ?_) _ (tablesOk_failLost h))
  split
  · exact h
  · refine tablesOk_ite h ?_
    split
    · exact h
    · split
      · exact tablesOk_ite (tablesOk_setReplay (tablesOk_free h _)) (tablesOk_runOp (tablesOk_setReplay (tablesOk_free h _)))
      · exact h

theorem tablesOk_runGraph (h : s.TablesOk) : (s.runGraph graph).TablesOk := by
  unfold State.runGraph
  split
  · exact tablesOk_runReplay h
  · exact h

/-! ### The events of the engine -/

theorem tablesOk_sendStarts {key : Word} (h : s.TablesOk) : (s.sendStarts graph step key).TablesOk := h

theorem leadsTables_execCollHandoff {core ctx : Nat} (h : s.TablesOk) : LeadsTables (execCollHandoff core ctx s) := by
  refine leadsTables_next ?_
  split
  · exact h
  · next t _ =>
    split
    · next graph table bundle issued rest _ =>
      split
      next s0 done he =>
      have h0 := tablesOk_fst (tablesOk_writerHalf h) he
      extract_lets torn s1 step g bases dseed root c key r mine src s2 s3 s4 s5 s6
      have htorn : ∀ {u j}, State.TablesOk u → (torn u j).TablesOk := fun hu => tablesOk_mapStrand hu ..
      clear_value torn
      refine tablesOk_ite h0 ?_
      split
      · exact tablesOk_settleEnding (htorn (tablesOk_release h0))
      · have h1 : s1.TablesOk := tablesOk_ite (htorn (tablesOk_mapCore h0 _ (fun _ hk => ⟨hk.1, hk.2⟩))) h0
        clear_value s1
        have h2 : s2.TablesOk := tablesOk_of (tablesOk_release (c := core) (x := ctx) h1) rfl rfl rfl rfl rfl
        clear_value s2
        have h3 : s3.TablesOk := tablesOk_ite (tablesOk_sendStarts h2) h2
        clear_value s3
        have h4 : s4.TablesOk := by
          refine tablesOk_foldl (fun s m h => ?_) _ h3
          split
          · exact tablesOk_deliver h
          · exact h
        clear_value s4
        have h5 : s5.TablesOk := by
          unfold s5
          split
          · exact tablesOk_failReplay h4
          · exact h4
        clear_value s5
        have h6 : s6.TablesOk := by
          refine tablesOk_ite ?_ h5
          split
          · exact tablesOk_failReplay h5
          · exact h5
        exact tablesOk_settleEnding (tablesOk_runGraph h6)
    · exact h

theorem leadsTables_execStartFlit {key : Nat} (h : s.TablesOk) : LeadsTables (execStartFlit graph step key s) := by
  refine leadsTables_next (tablesOk_ite h ?_)
  extract_lets s1
  have h1 : s1.TablesOk := tablesOk_sendStarts h
  clear_value s1
  split
  · exact tablesOk_ite h1 (tablesOk_runGraph (tablesOk_setReplay h1))
  · exact tablesOk_ite h1 h1

theorem tablesOk_takeChunk {take : State → State} (h : s.TablesOk) (ht : (take s).TablesOk) : (s.takeChunk m take).TablesOk :=
  tablesOk_ite h (tablesOk_ite h (tablesOk_ite h ht))

theorem leadsTables_execChunkArrival (h : s.TablesOk) : LeadsTables (execChunkArrival m s) := by
  refine leadsTables_next ?_
  extract_lets late
  have hlate : ∀ {u}, State.TablesOk u → (late u).TablesOk := fun hu => tablesOk_ite (tablesOk_forwardLate hu) (tablesOk_log hu ..)
  clear_value late
  refine tablesOk_takeChunk h (tablesOk_ite h ?_)
  split
  · exact tablesOk_ite (hlate h) (tablesOk_runGraph (tablesOk_deliver h))
  · exact tablesOk_ite (hlate h) (tablesOk_ite h h)

theorem leadsTables_execLooseFlush {op : Nat} (h : s.TablesOk) : LeadsTables (execLooseFlush graph step op s) := by
  refine leadsTables_next ?_
  split
  · exact h
  · extract_lets g
    split
    · exact tablesOk_ite h (tablesOk_runGraph (tablesOk_runReduce h))
    · exact h

theorem leadsTables_execLateAddend (h : s.TablesOk) : LeadsTables (execLateAddend m s) :=
  leadsTables_next (tablesOk_takeChunk h (tablesOk_runGraph (tablesOk_addLate h)))

theorem leadsTables_execRootReleaseTimeout (h : s.TablesOk) : LeadsTables (execRootReleaseTimeout graph step s) := by
  refine leadsTables_next ?_
  split
  · exact h
  · extract_lets g
    split
    · exact h
    · exact tablesOk_ite h (tablesOk_runGraph (tablesOk_setReplay h))

theorem leadsTables_execAbortFlit {msg : AbortMsg} (h : s.TablesOk) : LeadsTables (execAbortFlit msg s) := by
  refine leadsTables_next (tablesOk_ite h ?_)
  split
  · exact tablesOk_sendAbort (tablesOk_failReplay h)
  · have h1 := tablesOk_sendAbort (m := msg) h
    exact tablesOk_ite h1 (tablesOk_of h1 rfl rfl rfl rfl rfl)

/-! ### The end of a replay -/

theorem tablesOk_logLost {a flag : Nat} (h : s.TablesOk) : (s.logLost r a flag).TablesOk := tablesOk_log h ..

theorem tablesOk_closeReplay (h : s.TablesOk) : (s.closeReplay r).TablesOk := by
  unfold State.closeReplay
  extract_lets g status good s1 s2
  have h1 : s1.TablesOk := by
    unfold s1
    split
    · exact tablesOk_ite (tablesOk_swapVitrine h) h
    · exact h
  clear_value s1
  have h2 : s2.TablesOk := by
    refine tablesOk_ite h1 ?_
    split
    · next he => exact tablesOk_fst (tablesOk_replayWrite h1) he
    · next he => exact tablesOk_logLost (tablesOk_fst (tablesOk_replayWrite h1) he)
  exact tablesOk_setReplay h2

theorem tablesOk_recordReplay (h : s.TablesOk) : (s.recordReplay r).TablesOk := by
  unfold State.recordReplay
  extract_lets g status words
  clear_value words
  split
  next s3 made he =>
  have h3 : s3.TablesOk := by
    split at he
    · next hw =>
      obtain ⟨rfl, -⟩ := Prod.mk.inj he
      exact tablesOk_fst (tablesOk_ringWrite h) hw
    · next hw =>
      obtain ⟨rfl, -⟩ := Prod.mk.inj he
      exact tablesOk_logLost (tablesOk_fst (tablesOk_ringWrite h) hw)
  extract_lets s4
  have h4 : s4.TablesOk := tablesOk_ite h3 (tablesOk_log h3 ..)
  clear_value s4
  exact tablesOk_runGraph (tablesOk_of h4 rfl rfl rfl rfl rfl)

theorem tablesOk_endReplay (h : s.TablesOk) : (s.endReplay r).TablesOk := by
  have h1 : (if r.closing then s else s.closeReplay r).TablesOk := tablesOk_ite h (tablesOk_closeReplay h)
  exact tablesOk_ite h1 (tablesOk_recordReplay h1)

theorem leadsTables_execReplayComplete (h : s.TablesOk) : LeadsTables (execReplayComplete graph step s) := by
  refine leadsTables_next ?_
  split
  · exact h
  · next r _ =>
    extract_lets g turn awake own s1
    refine tablesOk_ite h (tablesOk_ite (tablesOk_endReplay h) (tablesOk_ite (tablesOk_runGraph h) (tablesOk_ite (tablesOk_endReplay h) ?_)))
    have h1 : s1.TablesOk := tablesOk_failReplay h
    split
    · exact tablesOk_endReplay h1
    · exact h1

/-! ### Modules that answer no more -/

theorem tablesOk_failPeers {module status : Nat} (h : s.TablesOk) : (s.failPeers module status).TablesOk := by
  refine tablesOk_foldl (fun s r h => ?_) _ h
  extract_lets named
  clear_value named
  split
  · exact tablesOk_failReplay h
  · exact h

theorem leadsTables_execHibernatingAnswer {module : Nat} (h : s.TablesOk) : LeadsTables (execHibernatingAnswer module s) :=
  leadsTables_next (tablesOk_ite h (tablesOk_failPeers (by exact h)))

theorem leadsTables_execModuleLost {module : Nat} (h : s.TablesOk) : LeadsTables (execModuleLost module s) := by
  refine leadsTables_next ?_
  split
  · exact h
  · refine tablesOk_ite h ?_
    exact tablesOk_failPeers (tablesOk_foldl (fun _ _ h => tablesOk_failAway h) _ (tablesOk_log (by exact h) ..))

theorem leadsTables_execPathRestored {module : Nat} {paths : List (List Nat)} (h : s.TablesOk) : LeadsTables (execPathRestored module paths s) :=
  leadsTables_next (tablesOk_ite h (tablesOk_notePaths (by exact h)))

theorem leadsTables_execRouterOff (h : s.TablesOk) : LeadsTables (execRouterOff s) := leadsTables_next (tablesOk_ite h h)

end Sys2Proof.Proofs
end

section
/-! Supply warnings, the drain, the Catalogue and the restore keep the keys of the tables rising. -/
namespace Sys2Proof.Proofs
open Sys2Proof Sys2Proof.Machine Sys2Proof.Laws

variable {s t : State} {c x g key base n reserve owner : Nat} {r : Region}

/-- What TablesOk asks of the state a sealed Catalogue holds. -/
def SavedRise (w : Saved) : Prop := CoresOk w.cores ∧ Tab.rising w.reqs = true

theorem savedRise_of_mem (h : s.TablesOk) {e : Nat × Catalogue} (he : e ∈ s.power.catalogues) {w : Saved} (hw : e.2.save = some w) : SavedRise w :=
  h.2.2.2.2 e he w hw

/-- A Catalogue put into a slot whose state at the seal has the tables in their form. -/
theorem tablesOk_putCatalogue {slot : Nat} {w : Catalogue} (h : s.TablesOk) (hw : ∀ v, w.save = some v → SavedRise v) :
    State.TablesOk { s with power := { s.power with catalogues := Tab.put s.power.catalogues slot w } } := by
  obtain ⟨hcores, hhost, hislands, hreqs, hcat⟩ := h
  refine ⟨hcores, hhost, hislands, hreqs, fun e he v hv => ?_⟩
  rcases mem_put he with rfl | he
  · exact hw v hv
  · exact hcat e he v hv

/-! ### The supply state -/

theorem tablesOk_setSupply (h : s.TablesOk) : (s.setSupply n).TablesOk := tablesOk_setHreg h ..
theorem tablesOk_enterNormal (h : s.TablesOk) : s.enterNormal.TablesOk := tablesOk_setHreg h ..
theorem tablesOk_settleRestore (h : s.TablesOk) : s.settleRestore.TablesOk := tablesOk_ite (tablesOk_enterNormal h) h

theorem tablesOk_stopReplays (h : s.TablesOk) : s.stopReplays.TablesOk := by
  refine tablesOk_foldl (fun s r h => ?_) _ h
  split
  · exact tablesOk_failReplay (tablesOk_ite (tablesOk_stopUnit h) h)
  · exact h

theorem leadsTables_execSupplyWarning {input : Bool} (h : s.TablesOk) : LeadsTables (execSupplyWarning input reserve s) := by
  refine leadsTables_next ?_
  extract_lets st s1 src s2
  have h1 : s1.TablesOk := tablesOk_setSupply (tablesOk_setReserve h)
  clear_value s1
  have h2 : s2.TablesOk := tablesOk_of h1 rfl rfl rfl rfl rfl
  exact tablesOk_ite h (tablesOk_stopReplays (tablesOk_log h2 ..))

theorem tablesOk_noteHalted (h : s.TablesOk) : (s.noteHalted g).TablesOk := tablesOk_ite h h

theorem tablesOk_meetSupply (h : s.TablesOk) : (s.meetSupply c x).TablesOk := by
  unfold State.meetSupply
  split
  · exact h
  · extract_lets q halt
    have hhalt : halt.TablesOk := tablesOk_noteHalted (tablesOk_haltStrand h)
    clear_value halt
    exact tablesOk_ite h (tablesOk_ite (tablesOk_enterDue h) (tablesOk_ite hhalt (tablesOk_ite (tablesOk_log hhalt ..)
      (tablesOk_ite h (tablesOk_ite hhalt (tablesOk_mapStrand (tablesOk_takeTrap h) ..))))))

theorem leadsTables_execSupplyTrap {core ctx : Nat} (h : s.TablesOk) : LeadsTables (execSupplyTrap core ctx s) :=
  leadsTables_next (tablesOk_ite (tablesOk_meetSupply h) h)
theorem leadsTables_execHandlerOverrun {core ctx : Nat} (h : s.TablesOk) : LeadsTables (execHandlerOverrun core ctx s) :=
  leadsTables_next (tablesOk_ite (tablesOk_meetSupply h) h)

/-! ### The drain -/

theorem tablesOk_drainGroup (h : s.TablesOk) : (s.drainGroup key base).1.TablesOk :=
  tablesOk_foldl_fst (fun _ _ h => tablesOk_claimLine h ..) h

theorem drainTables_ite {p : Prop} [Decidable p] {a b : Drain × Region} (ha : a.1.st.TablesOk) (hb : b.1.st.TablesOk) :
    (if p then a else b).1.st.TablesOk := by
  split
  · exact ha
  · exact hb

theorem drainTables_groups {d : Drain} {budget : Nat} {first : Bool} {l : List Nat} (h : d.st.TablesOk) :
    (d.groups budget key first r l).1.st.TablesOk := by
  induction l generalizing d r with
  | nil => exact h
  | cons i rest ih =>
    unfold Drain.groups
    split
    next s1 lines he =>
    have h1 : s1.TablesOk := tablesOk_fst (tablesOk_ite_fst h (tablesOk_drainGroup h)) he
    extract_lets image n cost s2
    have h2 : s2.TablesOk := tablesOk_foldl (fun _ _ h => tablesOk_log h ..) _ h1
    clear_value s2
    exact drainTables_ite h (ih h2)

theorem drainTables_region {d : Drain} {budget : Nat} (h : d.st.TablesOk) : (d.region budget r).st.TablesOk := by
  unfold Drain.region
  extract_lets off index key
  split
  · exact h
  · split
    next d1 r1 he =>
    have h1 : d1.st.TablesOk := by
      have h0 := drainTables_groups (budget := budget) (key := key) (first := index == 0) (r := { r with key := key })
        (l := List.range (r.length / 4096)) h
      rw [he] at h0
      exact h0
    extract_lets digest size r2 s1
    have h2 : s1.TablesOk := tablesOk_ite (tablesOk_log h1 ..) h1
    clear_value s1
    exact tablesOk_free h2 _

theorem tablesOk_drain {groups : Nat} (h : s.TablesOk) : (s.drain groups).TablesOk := by
  have hd : ∀ {l : List Region} {d : Drain} {budget : Nat}, d.st.TablesOk → (l.foldl (fun (d : Drain) r => d.region budget r) d).st.TablesOk := by
    intro l
    induction l with
    | nil => exact fun h => h
    | cons r rest ih => exact fun h => ih (drainTables_region h)
  unfold State.drain
  extract_lets w works d
  have h1 : d.st.TablesOk := hd h
  clear_value d
  exact tablesOk_of h1 rfl rfl rfl rfl rfl

theorem tablesOk_sealHalted (h : s.TablesOk) : s.sealHalted.TablesOk :=
  tablesOk_sealFrames (tablesOk_foldl (fun _ _ h => tablesOk_settleEnding h) _ h)

theorem tablesOk_dismissWaiters (h : s.TablesOk) : s.dismissWaiters.TablesOk := by
  refine tablesOk_foldl (fun s w h => ?_) _ (by exact h)
  split <;> exact h

theorem leadsTables_execSaveComplete {groups : Nat} (h : s.TablesOk) : LeadsTables (execSaveComplete groups s) := by
  have h1 := tablesOk_dismissWaiters (tablesOk_sealHalted h)
  exact leadsTables_next (tablesOk_ite h (tablesOk_ite (tablesOk_drain (tablesOk_setSupply h1)) (tablesOk_ite (tablesOk_of h1 rfl rfl rfl rfl rfl) h)))

/-! ### The Catalogue -/

theorem tablesOk_logStatus {index status : Nat} (h : s.TablesOk) : (s.logStatus r index status).TablesOk := tablesOk_ite h (tablesOk_log h ..)
theorem tablesOk_logUncorr {index : Nat} (h : s.TablesOk) : (s.logUncorr r index).TablesOk := tablesOk_ite h (tablesOk_log h ..)
theorem tablesOk_logRegion {index status : Nat} (h : s.TablesOk) : (s.logRegion r index status).TablesOk :=
  tablesOk_logStatus (tablesOk_log h ..)

/-- A core as region 0 keeps it lists what it listed. -/
theorem tablesRise_saved {k : Core} (h : TablesRise k) : TablesRise k.saved := ⟨h.1, h.2⟩

theorem savedRise_savedState (h : s.TablesOk) : SavedRise s.savedState :=
  ⟨coresOk_mapVals h.1 fun e he => tablesRise_saved (h.1.2 e he), rising_reqs h⟩

theorem leadsTables_execSealed {energy : Nat} (h : s.TablesOk) : LeadsTables (execSealed energy s) := by
  refine leadsTables_next ?_
  extract_lets thermal slot budget c src s1 s2 s3
  have h1 : s1.TablesOk := tablesOk_putCatalogue h fun _ hv => Option.some.inj hv ▸ savedRise_savedState h
  clear_value s1
  have h2 : s2.TablesOk := tablesOk_log (tablesOk_foldl (fun _ _ h => tablesOk_logStatus (tablesOk_logUncorr h)) _ h1) ..
  clear_value s2
  have h3 : s3.TablesOk := tablesOk_flushL2 h2
  clear_value s3
  exact tablesOk_ite h (tablesOk_ite (tablesOk_setHreg (by exact tablesOk_of h3 rfl rfl rfl rfl rfl) ..) (tablesOk_setHreg h2 ..))

/-! ### Sag, shed and the thermal state -/

theorem leadsTables_execEnterSag (h : s.TablesOk) : LeadsTables (execEnterSag s) :=
  leadsTables_next (tablesOk_ite (tablesOk_of (tablesOk_setSupply h) rfl rfl rfl rfl rfl) h)

theorem leadsTables_execEnterShed (h : s.TablesOk) : LeadsTables (execEnterShed reserve s) := by
  have h1 := tablesOk_setSupply (n := 2) (tablesOk_setReserve (uj := reserve) h)
  exact leadsTables_next (tablesOk_ite (tablesOk_of h1 rfl rfl rfl rfl rfl) h)

theorem tablesOk_noteShedOrd (h : s.TablesOk) : s.noteShedOrd.TablesOk := tablesOk_ite h (tablesOk_setHreg h ..)

theorem leadsTables_execShed (h : s.TablesOk) : LeadsTables (execShed reserve s) := by
  refine leadsTables_next ?_
  extract_lets s0 ord
  have h0 : s0.TablesOk := tablesOk_setReserve h
  clear_value s0
  refine tablesOk_ite h0 ?_
  split
  · exact h0
  · extract_lets s1 src s2
    have h1 : s1.TablesOk := tablesOk_foldl (fun _ _ h => tablesOk_ite (tablesOk_requestPreempt h) h) _ h0
    have h2 : s2.TablesOk := tablesOk_setCluster h1 ..
    clear_value s2
    exact tablesOk_log (by exact tablesOk_of h2 rfl rfl rfl rfl rfl) ..

theorem leadsTables_execClusterRestore (h : s.TablesOk) : LeadsTables (execClusterRestore reserve s) := by
  refine leadsTables_next ?_
  extract_lets s1
  have h1 : s1.TablesOk := tablesOk_setReserve h
  clear_value s1
  refine tablesOk_ite h1 ?_
  split
  · exact h1
  · exact tablesOk_of h1 rfl rfl rfl rfl rfl

theorem leadsTables_execReturnNormal (h : s.TablesOk) : LeadsTables (execReturnNormal reserve s) :=
  leadsTables_next (tablesOk_ite (tablesOk_enterNormal (tablesOk_setReserve h)) (tablesOk_setReserve h))

theorem leadsTables_execInputReturn (h : s.TablesOk) : LeadsTables (execInputReturn s) := leadsTables_next (tablesOk_ite (tablesOk_of h rfl rfl rfl rfl rfl) h)

theorem leadsTables_execThermal (h : s.TablesOk) : LeadsTables (execThermal s) := by
  refine leadsTables_next (tablesOk_ite h ?_)
  split
  · exact h
  · extract_lets s1
    have h1 : s1.TablesOk := tablesOk_setSupply h
    exact tablesOk_stopReplays (tablesOk_log (by exact tablesOk_of h1 rfl rfl rfl rfl rfl) ..)

/-! ### The restore -/

theorem tablesRise_restored {k : Core} (h : TablesRise k) :
    TablesRise { k with spad := [], mq := k.mq.map k.restoredOp, ctxs := k.ctxs.map (fun (x : Nat × Strand) => (x.1, x.2.restarted)) } :=
  ⟨rising_mapVals _ h.1, h.2⟩

theorem tablesOk_showFeatures (h : s.TablesOk) : s.showFeatures.TablesOk := tablesOk_setHreg h ..

theorem tablesOk_restoreSaved {w : Saved} (h : s.TablesOk) (hw : SavedRise w) : (s.restoreSaved w).TablesOk := by
  unfold State.restoreSaved
  extract_lets cores host s1 s2 owners
  have hcores : CoresOk cores := coresOk_mapVals hw.1 fun e he => tablesRise_restored (hw.1.2 e he)
  have hhost : Tab.rising host = true := rising_foldl (fun _ _ hm => rising_put hm) _ (rising_host h)
  have h1 : State.TablesOk { s1 with cores := s1.cores.map (fun (e : Nat × Core) => (e.1, { e.2 with routines := s1.islandRoutines e.1 })) } :=
    ⟨coresOk_mapVals hcores fun e he => hcores.2 e he, hhost, h.2.2.1, hw.2, h.2.2.2.2⟩
  have h2 : s2.TablesOk := tablesOk_foldl (fun _ _ h => tablesOk_setCluster h ..) _ (tablesOk_showFeatures h1)
  clear_value s2
  exact tablesOk_of h2 rfl rfl rfl rfl rfl

theorem tablesOk_replayRegion {status : Nat} (h : s.TablesOk) : (s.replayRegion r status).TablesOk :=
  tablesOk_foldl (fun _ _ h => tablesOk_setHbmSector h ..) _ h

theorem tablesOk_markLost {ok : Nat → Bool} (h : s.TablesOk) : (s.markLost ok).TablesOk := tablesOk_of h rfl rfl rfl rfl rfl

theorem tablesOk_emptied (h : s.TablesOk) : s.emptied.TablesOk := by
  unfold State.emptied
  extract_lets s1
  have h1 : s1.TablesOk := ⟨⟨rfl, List.forall_mem_nil _⟩, rising_filter _ (rising_host h), h.2.2.1, rfl, h.2.2.2.2⟩
  exact tablesOk_foldl (fun _ _ h => tablesOk_setCluster h ..) _ (tablesOk_showFeatures h1)

theorem tablesOk_replayCatalogue {w : Catalogue} (h : s.TablesOk) (hw : ∀ v, w.save = some v → SavedRise v) : (s.replayCatalogue w).TablesOk := by
  unfold State.replayCatalogue
  extract_lets whole s0 statuses s1 s2 at_ image s3 ok s4 s5
  have h0 : s0.TablesOk := by
    unfold s0
    split
    next v hv => exact tablesOk_ite (tablesOk_restoreSaved h (hw v hv)) (tablesOk_emptied h)
    · exact tablesOk_emptied h
  clear_value s0
  have h1 : s1.TablesOk := tablesOk_ite h0 (tablesOk_foldl (fun _ _ h => tablesOk_replayRegion h) _ h0)
  clear_value s1
  have h2 : s2.TablesOk := tablesOk_foldl (fun _ _ h => tablesOk_logRegion h) _ h1
  clear_value s2
  have h3 : s3.TablesOk := tablesOk_ite h2 (tablesOk_deviceWrite h2 ..)
  clear_value s3
  have h4 : s4.TablesOk := tablesOk_markLost h3
  clear_value s4
  have h5 : s5.TablesOk := tablesOk_foldl (fun _ _ h => tablesOk_setCluster h ..) _ (tablesOk_flushL2 h4)
  clear_value s5
  exact tablesOk_ite (tablesOk_settleRestore (tablesOk_setSupply h5)) (tablesOk_enterNormal h5)

/-- Off and on again, no core keeps anything and what SCM holds stands (R420, R427). -/
theorem tablesOk_powerCycle {selftest : Word} {logs : Bool} (h : s.TablesOk) : (s.powerCycle selftest logs).TablesOk := by
  unfold State.powerCycle
  extract_lets p s1 s2 s3
  have h1 : s1.TablesOk := ⟨⟨rfl, List.forall_mem_nil _⟩, rfl, rfl, rfl, h.2.2.2.2⟩
  clear_value s1
  have h2 : s2.TablesOk := tablesOk_ite h1 (tablesOk_foldl (fun _ _ h => tablesOk_setCluster h ..) _ h1)
  clear_value s2
  have h3 : s3.TablesOk := tablesOk_ite h2 (tablesOk_foldl (fun _ _ h => tablesOk_setHreg h ..) _ h2)
  exact tablesOk_setHreg (tablesOk_setHreg (tablesOk_setHreg h3 ..) ..) ..

theorem tablesOk_logSelftest (h : s.TablesOk) : s.logSelftest.TablesOk := tablesOk_ite h (tablesOk_log h ..)
theorem tablesOk_enterPhase (h : s.TablesOk) : (s.enterPhase n).TablesOk := tablesOk_of (tablesOk_setHreg h ..) rfl rfl rfl rfl rfl
theorem tablesOk_bringUp (h : s.TablesOk) : s.bringUp.TablesOk := by
  have h1 := tablesOk_enterPhase (n := 1) h
  exact tablesOk_logSelftest (tablesOk_ite (tablesOk_setSupply h1) (tablesOk_enterNormal h1))

theorem tablesOk_bootTick (h : s.TablesOk) : s.bootTick.TablesOk := by
  refine tablesOk_ite (tablesOk_of h rfl rfl rfl rfl rfl) ?_
  split
  · exact tablesOk_setHreg h ..
  · exact tablesOk_setHreg h ..
  · exact tablesOk_of (tablesOk_setHreg h 0x1000 5) rfl rfl rfl rfl rfl
  · exact h

theorem leadsTables_execPowerOn {firmware : Bool} {modnum : Nat} {selftest : BitVec 64} {routes : List Route} (h : s.TablesOk) :
    LeadsTables (execPowerOn firmware modnum selftest routes s) := by
  refine leadsTables_next (tablesOk_ite h ?_)
  extract_lets s1 table s2
  have h1 : s1.TablesOk := tablesOk_setHreg (tablesOk_powerCycle h) ..
  clear_value s1
  exact tablesOk_ite (tablesOk_setHreg h1 ..) (tablesOk_bringUp (tablesOk_notePaths (tablesOk_of h1 rfl rfl rfl rfl rfl)))

theorem tablesOk_logBadSlot (h : s.TablesOk) : s.logBadSlot.TablesOk := by
  unfold State.logBadSlot
  split
  · exact tablesOk_ite h (tablesOk_log (tablesOk_log h ..) ..)
  · exact h

/-- The Catalogues that a restart looks at are those that SCM holds. -/
theorem mem_catalogues_of_slotsBySeq {e : Nat × Catalogue} (he : e ∈ s.slotsBySeq) : e ∈ s.power.catalogues := by
  unfold State.slotsBySeq at he
  split at he
  next a b ha hb =>
    have hpair : e = (0, a) ∨ e = (1, b) := by
      split at he <;> simp only [List.mem_cons, List.not_mem_nil, or_false] at he
      · exact he.symm
      · exact he
    rcases hpair with rfl | rfl
    · exact mem_of_find? ha
    · exact mem_of_find? hb
  next a ha _ => exact List.mem_singleton.1 he ▸ mem_of_find? ha
  next b _ hb => exact List.mem_singleton.1 he ▸ mem_of_find? hb
  next => exact nomatch he

theorem savedRise_newestValid (h : s.TablesOk) {w : Catalogue} (hw : s.newestValid = some w) {v : Saved} (hv : w.save = some v) : SavedRise v := by
  obtain ⟨e, he, rfl⟩ := Option.map_eq_some_iff.1 hw
  exact savedRise_of_mem h (mem_catalogues_of_slotsBySeq (List.mem_of_find?_eq_some he)) hv

theorem leadsTables_execRestoreBegin (h : s.TablesOk) : LeadsTables (execRestoreBegin reserve s) := by
  have h1 := tablesOk_logBadSlot (tablesOk_enterPhase (n := 4) (tablesOk_setReserve (uj := reserve) h))
  refine leadsTables_next (tablesOk_ite h ?_)
  extract_lets s1
  split
  next w hw =>
    refine tablesOk_replayCatalogue h1 fun v hv => savedRise_newestValid h1 (w := w) ?_ hv
    split at hw
    · exact hw
    · exact nomatch hw
  · exact tablesOk_enterNormal (tablesOk_markLost h1)

theorem tablesOk_resumeHalted (h : s.TablesOk) : (s.resumeHalted g).TablesOk :=
  tablesOk_foldl (fun _ _ h => tablesOk_ite h (tablesOk_foldl (fun _ _ h => tablesOk_mapStrand h ..) _
    (tablesOk_mapCore h _ fun _ hk => tablesRise_restoreShare hk))) _ h

theorem tablesOk_resumeOwner (h : s.TablesOk) : (s.resumeOwner owner).TablesOk := by
  unfold State.resumeOwner
  extract_lets mine back s1 active order s3 s2
  have hback : ∀ {u f}, State.TablesOk u → (back u f).TablesOk := fun {u f} hu => by
    unfold back
    split
    · exact tablesOk_ite (tablesOk_virtWrite hu) hu
    · exact hu
  clear_value back
  have h1 : s1.TablesOk := tablesOk_foldl (fun _ _ h => hback h) _ h
  clear_value s1
  have h3 : s3.TablesOk := tablesOk_foldl (fun _ _ h => tablesOk_resumeHalted h) _ h1
  clear_value s3
  exact tablesOk_settleRestore (tablesOk_of h3 rfl rfl rfl rfl rfl)

/-- Owners resumed one after another. -/
theorem tablesOk_resumeOwners {l : List Nat} (h : s.TablesOk) : (l.foldl (fun (s : State) k => s.resumeOwner k) s).TablesOk :=
  tablesOk_foldl (fun _ _ h => tablesOk_resumeOwner h) _ h

theorem leadsTables_execRestoreResume (h : s.TablesOk) : LeadsTables (execRestoreResume owner s) :=
  leadsTables_next (tablesOk_hostWrite h (tablesOk_ite h (tablesOk_resumeOwners h)))

theorem leadsTables_execThermalEnd (h : s.TablesOk) : LeadsTables (execThermalEnd s) := by
  refine leadsTables_next ?_
  split
  · exact h
  · refine tablesOk_ite h ?_
    extract_lets src s1 s2
    have h2 : s2.TablesOk := tablesOk_logBadSlot (tablesOk_log (by exact tablesOk_of h rfl rfl rfl rfl rfl) ..)
    clear_value s2
    split
    next w hw =>
      exact tablesOk_ite (tablesOk_enterNormal (tablesOk_emptied h2))
        (tablesOk_resumeOwners (tablesOk_replayCatalogue h2 fun _ hv => savedRise_newestValid h2 hw hv))
    · exact tablesOk_enterNormal (tablesOk_emptied h2)

end Sys2Proof.Proofs
end

section
/-! The host's commands, time, owners, routines, Vitrines, checkpoints and upsets keep the keys of the tables rising. -/
namespace Sys2Proof.Proofs
open Sys2Proof Sys2Proof.Machine Sys2Proof.Laws

variable {s t : State} {c x q slot off n addr owner : Nat}

theorem tablesOk_power {p : Power} (h : s.TablesOk) (hp : p.catalogues = s.power.catalogues) : State.TablesOk { s with power := p } :=
  tablesOk_of h rfl rfl rfl rfl hp

/-! ### The accession list, time and reset -/

theorem leadsTables_execAcclist (h : s.TablesOk) : LeadsTables (execAcclist addr s) := by
  refine leadsTables_next ?_
  extract_lets at_ stat kept
  have hstat : ∀ {u n k}, State.TablesOk u → (stat u n k).TablesOk := fun hu => tablesOk_setHreg hu ..
  clear_value stat
  refine tablesOk_hostWrite h (tablesOk_ite (hstat h) ?_)
  extract_lets es s1 list ends mapped save meets
  have h1 : s1.TablesOk := tablesOk_deviceSeen h
  clear_value s1 list mapped save es
  exact tablesOk_ite (hstat h1) (tablesOk_ite (hstat h1) (tablesOk_ite (hstat h1)
    (hstat (tablesOk_setHreg (tablesOk_power h1 rfl) ..))))

theorem tablesOk_timeSet (h : s.TablesOk) : s.timeSet.TablesOk := tablesOk_ite (tablesOk_setHreg h ..) h

theorem leadsTables_execTimeExchange {master : Nat} {error : BitVec 32} (h : s.TablesOk) : LeadsTables (execTimeExchange master error s) := by
  refine leadsTables_next ?_
  extract_lets own current e locked word src power s1
  have h1 : s1.TablesOk := tablesOk_power (tablesOk_setHreg h ..) rfl
  clear_value s1
  exact tablesOk_ite h (tablesOk_ite (tablesOk_timeSet h1) h1)

theorem leadsTables_execMasterLost {master : Nat} (h : s.TablesOk) : LeadsTables (execMasterLost master s) := by
  refine leadsTables_next ?_
  split
  · exact h
  · exact tablesOk_ite h (tablesOk_power (tablesOk_setHreg h ..) rfl)

theorem leadsTables_execTimePhaseTimeout (h : s.TablesOk) : LeadsTables (execTimePhaseTimeout s) := leadsTables_next (tablesOk_ite (tablesOk_timeSet h) h)

theorem leadsTables_execWarmReset {key selftest : BitVec 64} (h : s.TablesOk) : LeadsTables (execWarmReset key selftest s) := by
  refine leadsTables_next (tablesOk_ite h (tablesOk_hostWrite h ?_))
  extract_lets s0 s1 s2
  have h1 : s1.TablesOk := tablesOk_powerCycle (tablesOk_flushL2 h)
  clear_value s0 s1
  have h2 : s2.TablesOk := tablesOk_of h1 rfl rfl rfl rfl rfl
  exact tablesOk_bringUp (tablesOk_notePaths h2)

theorem leadsTables_execAttestationRequest (h : s.TablesOk) : LeadsTables (execAttestationRequest addr s) := by
  refine leadsTables_next (tablesOk_hostWrite h (tablesOk_ite (tablesOk_setHreg h ..) (tablesOk_ite ?_ ?_)))
  · exact tablesOk_setHreg (tablesOk_deviceSeen h) ..
  · exact tablesOk_setHreg (tablesOk_deviceWrite (tablesOk_deviceSeen h) ..) ..

/-! ### Owners -/

theorem tablesOk_ownerCommand {cmd : Nat} {f : State → State} (h : s.TablesOk) (hf : (f s).TablesOk) : (s.ownerCommand slot cmd f).TablesOk :=
  tablesOk_hostWrite h (tablesOk_ite h hf)

theorem leadsTables_execSuspend (h : s.TablesOk) : LeadsTables (execSuspend slot s) :=
  leadsTables_next (tablesOk_ownerCommand h (tablesOk_foldl (fun _ _ h => tablesOk_requestPreempt h) _ (tablesOk_setSlotReg h)))

theorem leadsTables_execOwnerSuspended (h : s.TablesOk) : LeadsTables (execOwnerSuspended slot s) :=
  leadsTables_next (tablesOk_ite (tablesOk_setSlotReg h) h)

theorem leadsTables_execResume (h : s.TablesOk) : LeadsTables (execResume slot s) :=
  leadsTables_next (tablesOk_ownerCommand h (tablesOk_ite (tablesOk_setSlotReg h) h))

theorem tablesOk_removeVitrine (h : s.TablesOk) : (s.removeVitrine n).TablesOk := by
  unfold State.removeVitrine
  split
  · exact h
  · extract_lets s1 s2
    have h1 : s1.TablesOk := tablesOk_of h rfl rfl rfl rfl rfl
    have h2 : s2.TablesOk := tablesOk_mapCores h1 fun _ he => ⟨rising_mapVals _ he.1, he.2⟩
    exact tablesOk_setHreg h2 ..

theorem tablesOk_abortWaiting (h : s.TablesOk) : (s.abortWaiting owner).TablesOk := by
  refine tablesOk_foldl (fun s e h => ?_) _ h
  extract_lets rest kept src s1
  have h1 : s1.TablesOk := tablesOk_of h rfl rfl rfl rfl rfl
  clear_value s1
  exact tablesOk_foldl (fun _ _ h => tablesOk_complete h) _ h1

theorem tablesOk_abortReplays (h : s.TablesOk) : (s.abortReplays owner).TablesOk := by
  refine tablesOk_foldl (fun s r h => ?_) _ h
  split
  · exact h
  · extract_lets s1
    have h1 : s1.TablesOk := tablesOk_ite (tablesOk_setReplay h) (tablesOk_failReplay h)
    clear_value s1
    split
    · exact tablesOk_recordReplay (tablesOk_ite h1 (tablesOk_closeReplay h1))
    · exact h1

theorem tablesOk_abortNests (h : s.TablesOk) : (s.abortNests owner).TablesOk := by
  unfold State.abortNests
  extract_lets mine src s1
  have h1 : s1.TablesOk := tablesOk_of h rfl rfl rfl rfl rfl
  clear_value s1 mine
  exact tablesOk_noteFirst (tablesOk_foldl (fun _ _ h => tablesOk_ite (tablesOk_setCluster h ..) h) _ h1)

theorem tablesOk_unresumed {l : List Nat} (h : s.TablesOk) : State.TablesOk { s with power := { s.power with unresumed := l } } := tablesOk_power h rfl

theorem leadsTables_execTerminate (h : s.TablesOk) : LeadsTables (execTerminate slot s) := by
  refine leadsTables_next (tablesOk_ownerCommand h ?_)
  extract_lets owner s1 s4 s5 s6
  have h1 : s1.TablesOk := tablesOk_foldl (fun _ _ h => tablesOk_endGang h) _ (tablesOk_setSlotReg h)
  clear_value s1
  have h4 : s4.TablesOk := tablesOk_abortReplays (tablesOk_abortWaiting (tablesOk_abortNests h1))
  clear_value s4
  have h5 : s5.TablesOk := tablesOk_foldl (fun _ _ h => tablesOk_ite (tablesOk_setQueueReg h) h) _ h4
  clear_value s5
  have h6 : s6.TablesOk := tablesOk_foldl (fun _ _ h => tablesOk_removeVitrine h) _ h5
  clear_value s6
  exact tablesOk_endTerminate (tablesOk_settleRestore (tablesOk_unresumed h6))

theorem leadsTables_execIslandsWrite {value : BitVec 64} (h : s.TablesOk) : LeadsTables (execIslandsWrite slot value s) :=
  leadsTables_next (tablesOk_hostWrite h (tablesOk_ite h (tablesOk_ite (tablesOk_refuse h) (tablesOk_setSlotReg h))))

theorem leadsTables_execRegselWrite {value : BitVec 64} (h : s.TablesOk) : LeadsTables (execRegselWrite value s) :=
  leadsTables_next (tablesOk_hostWrite h (tablesOk_setHreg h ..))

/-! ### Invalidations, keys and routines -/

theorem tablesOk_dropEntries (h : s.TablesOk) : (s.dropEntries q).TablesOk := by
  unfold State.dropEntries
  split
  extract_lets drop
  have h1 := tablesOk_mapCores (f := fun e => { e.2 with utlb := drop e.2.utlb }) h fun _ he => he
  exact tablesOk_of h1 rfl rfl rfl rfl rfl

theorem leadsTables_execInvcmd {value : BitVec 64} (h : s.TablesOk) : LeadsTables (execInvcmd value s) :=
  leadsTables_next (tablesOk_hostWrite h (tablesOk_setHreg (tablesOk_setHreg (tablesOk_dropEntries h) ..) ..))

theorem leadsTables_execInvalidationComplete (h : s.TablesOk) : LeadsTables (execInvalidationComplete s) :=
  leadsTables_next (tablesOk_ite h (tablesOk_setHreg (tablesOk_dropEntries h) ..))

theorem leadsTables_execKeyload (h : s.TablesOk) : LeadsTables (execKeyload addr s) := by
  refine leadsTables_next (tablesOk_hostWrite h (tablesOk_ite (tablesOk_setHreg h ..) ?_))
  extract_lets w s1 q
  have h1 : s1.TablesOk := tablesOk_deviceSeen h
  clear_value s1 w
  refine tablesOk_ite (tablesOk_setHreg (tablesOk_refuse h1) ..) ?_
  split
  · exact tablesOk_setHreg h1 ..
  · exact tablesOk_setHreg (by exact tablesOk_of h1 rfl rfl rfl rfl rfl) ..

theorem leadsTables_execRtload {value : BitVec 64} (h : s.TablesOk) : LeadsTables (execRtload value s) := by
  refine leadsTables_next (tablesOk_hostWrite h ?_)
  extract_lets q at_ s1 cores
  have h1 : s1.TablesOk := tablesOk_deviceSeen h
  split
  · exact tablesOk_setHreg (tablesOk_ite h1 h) ..
  · extract_lets s2 s3
    have h2 : s2.TablesOk := tablesOk_of h1 rfl rfl rfl rfl rfl
    have hmap : ∀ {u : State} {k}, u.TablesOk → (u.mapCore k (fun y => { y with reload := true })).TablesOk := fun hu =>
      tablesOk_mapCore hu _ fun _ hk => ⟨hk.1, hk.2⟩
    have h3 : s3.TablesOk := tablesOk_foldl (fun _ _ h => hmap h) _ h2
    exact tablesOk_setHreg h3 ..

theorem leadsTables_execCoreRoutineLoad {core : Nat} (h : s.TablesOk) : LeadsTables (execCoreRoutineLoad core s) :=
  leadsTables_next (tablesOk_ite h (tablesOk_settleReload (tablesOk_setCore_of (d := core) h h rfl rfl)))

/-! ### Vitrines -/

theorem leadsTables_execVitload {value : BitVec 64} (h : s.TablesOk) : LeadsTables (execVitload value s) := by
  refine leadsTables_next (tablesOk_hostWrite h ?_)
  extract_lets stat q at_ w s1 word
  have hstat : ∀ {u n}, State.TablesOk u → (stat u n).TablesOk := fun hu => tablesOk_setHreg hu ..
  have h1 : s1.TablesOk := tablesOk_deviceSeen h
  clear_value stat s1 word
  exact tablesOk_ite (hstat h1) (tablesOk_ite (hstat h1) (tablesOk_ite (hstat h1) (tablesOk_ite (hstat h1) (hstat (tablesOk_of h1 rfl rfl rfl rfl rfl)))))

theorem leadsTables_execVitclr {index : Nat} (h : s.TablesOk) : LeadsTables (execVitclr index s) :=
  leadsTables_next (tablesOk_hostWrite h (tablesOk_removeVitrine h))

theorem leadsTables_execVitrineRemoved {index : Nat} (h : s.TablesOk) : LeadsTables (execVitrineRemoved index s) := by
  refine leadsTables_next ?_
  split
  · exact h
  · have h1 : State.TablesOk { s with vitrines := Tab.erase s.vitrines index } := tablesOk_of h rfl rfl rfl rfl rfl
    exact tablesOk_ite h (tablesOk_ite h1 (tablesOk_setHreg h1 ..))

/-! ### Registers of the host -/

theorem leadsTables_execFeatDrvWrite {word : Nat} {value : BitVec 64} (h : s.TablesOk) : LeadsTables (execFeatDrvWrite word value s) := by
  refine leadsTables_next (tablesOk_hostWrite h ?_)
  extract_lets s1
  have h1 : s1.TablesOk := tablesOk_ite (tablesOk_setHreg h ..) h
  exact tablesOk_ite (tablesOk_setHreg h1 ..) h1

theorem leadsTables_execTrigctlArm {value : BitVec 64} (h : s.TablesOk) : LeadsTables (execTrigctlArm value s) :=
  leadsTables_next (tablesOk_hostWrite h (tablesOk_setHreg (tablesOk_ite
    (by exact ⟨h.1, rising_filter _ (rising_host h), h.2.2⟩) h) ..))

theorem leadsTables_execTrigfire (h : s.TablesOk) : LeadsTables (execTrigfire s) := leadsTables_next (tablesOk_hostWrite h (tablesOk_fire h _))

theorem tablesOk_hostRead (h : s.TablesOk) : (s.hostRead off).TablesOk := tablesOk_of h rfl rfl rfl rfl rfl

theorem leadsTables_execEnergyLowRead (h : s.TablesOk) : LeadsTables (execEnergyLowRead off s) := leadsTables_next (tablesOk_of h rfl rfl rfl rfl rfl)

theorem leadsTables_execEnergyHighRead (h : s.TablesOk) : LeadsTables (execEnergyHighRead off s) := by
  refine leadsTables_next ?_
  extract_lets a
  split
  · exact tablesOk_of h rfl rfl rfl rfl rfl
  · exact tablesOk_of h rfl rfl rfl rfl rfl

theorem leadsTables_execPatrolScrub {finding : Nat} (h : s.TablesOk) : LeadsTables (execPatrolScrub addr finding s) :=
  leadsTables_next (tablesOk_ite h (tablesOk_ite (tablesOk_correct h) (tablesOk_ite
    (tablesOk_log (by exact tablesOk_ite (tablesOk_of h rfl rfl rfl rfl rfl) (tablesOk_of h rfl rfl rfl rfl rfl)) ..) h)))

/-! ### Loads and stores of the host -/

theorem leadsTables_execHostLoad {size : Nat} (h : s.TablesOk) : LeadsTables (execHostLoad addr size s) := by
  refine leadsTables_next ?_
  extract_lets n ans refused
  have hans : ∀ {u v}, State.TablesOk u → (ans u v).TablesOk := fun hu => tablesOk_of hu rfl rfl rfl rfl rfl
  have hrefused : (refused s).TablesOk := hans (tablesOk_refuse h)
  clear_value ans refused
  split
  · exact hrefused
  · refine tablesOk_ite (tablesOk_ite (hans (tablesOk_linesSeen (tablesOk_free h _))) (hans (tablesOk_linesSeen h))) ?_
    split
    · exact tablesOk_ite (hans h) hrefused
    · exact hrefused

theorem leadsTables_execHostStore {mask : BitVec 32} {data : BitVec 256} (h : s.TablesOk) : LeadsTables (execHostStore addr mask data s) := by
  refine leadsTables_next (tablesOk_hostWrite h ?_)
  split
  · exact tablesOk_refuse h
  · refine tablesOk_ite h ?_
    extract_lets s1 s3
    have h1 : s1.TablesOk := tablesOk_claimLine h ..
    clear_value s1
    have h3 : s3.TablesOk := tablesOk_ite h1 (tablesOk_setHbmSector h1 ..)
    exact tablesOk_ite (tablesOk_engineWrite h1 ..) (tablesOk_markDirty (tablesOk_testGlobal (tablesOk_clearTags h3 ..) ..) _)

theorem tablesOk_writeSlot {value : Word} (h : s.TablesOk) : (s.writeSlot q value).TablesOk := by
  unfold State.writeSlot
  extract_lets old v owner valid refused s1
  have h1 : s1.TablesOk := tablesOk_setSlotReg h
  clear_value s1 refused valid
  refine tablesOk_ite (tablesOk_refuse h) (tablesOk_ite (tablesOk_ite h1 ?_) (tablesOk_ite (tablesOk_setSlotReg h1) h1))
  have h2 : (s1.setSlotReg q 0x38 1).TablesOk := tablesOk_setSlotReg h1
  exact tablesOk_of h2 rfl rfl rfl rfl rfl

theorem tablesOk_writeQueue {value : Word} (h : s.TablesOk) : (s.writeQueue q off value).TablesOk :=
  tablesOk_ite (tablesOk_setQueueReg h) (tablesOk_ite (tablesOk_setQueueReg h) h)

theorem leadsTables_execRegisterWrite {value : BitVec 64} (h : s.TablesOk) : LeadsTables (execRegisterWrite off value s) := by
  refine leadsTables_next (tablesOk_hostWrite h ?_)
  extract_lets put m
  have hput : ∀ {k}, (put s k).TablesOk := tablesOk_setSlotReg h
  clear_value put
  refine tablesOk_ite ?_ (tablesOk_ite (tablesOk_writeQueue h) (tablesOk_setHreg h ..))
  split
  · exact tablesOk_writeSlot h
  · exact tablesOk_ite (tablesOk_refuse h) hput
  · exact hput
  · exact hput
  · exact hput
  · exact h

/-! ### Checkpoints -/

theorem tablesOk_setCkstat {seq code : Nat} (h : s.TablesOk) : (s.setCkstat seq code).TablesOk := tablesOk_setHreg h ..

theorem tablesOk_captureGranule {key region : Nat} (h : s.TablesOk) : (s.captureGranule key region off).1.TablesOk := by
  unfold State.captureGranule
  extract_lets s0
  have h0 : s0.TablesOk := tablesOk_of h rfl rfl rfl rfl rfl
  clear_value s0
  refine tablesOk_foldl_fst (fun p i hp => ?_) h0
  split
  next he => exact tablesOk_fst (tablesOk_drainGroup hp) he

theorem tablesOk_captureRegions {diff : Bool} (h : s.TablesOk) : (s.captureRegions diff).1.TablesOk := by
  refine tablesOk_foldl_fst (fun p e hp => ?_) h
  extract_lets r key gs lines
  clear_value key gs lines
  split
  next s1 image bad he =>
  have h1 : s1.TablesOk := by
    refine tablesOk_fst ?_ he
    refine tablesOk_foldl_fst (fun b o hb => ?_) hp
    dsimp only
    exact tablesOk_captureGranule hb
  exact h1

theorem leadsTables_execCkreq (h : s.TablesOk) : LeadsTables (execCkreq addr s) := by
  refine leadsTables_next (tablesOk_hostWrite h ?_)
  extract_lets at_ v s1 w g own members good diff
  have h1 : s1.TablesOk := tablesOk_deviceSeen h
  clear_value s1 good members
  refine tablesOk_ite h1 (tablesOk_ite (tablesOk_setCkstat h1) ?_)
  split
  next s2 stream regions he =>
  have h2 := tablesOk_fst (tablesOk_captureRegions h1) he
  exact tablesOk_setCkstat (by exact tablesOk_of h2 rfl rfl rfl rfl rfl)

theorem tablesOk_appendArea {data : List Byte} (h : s.TablesOk) : (s.appendArea data).1.TablesOk := by
  unfold State.appendArea
  extract_lets base at_ s1
  have h1 : s1.TablesOk := tablesOk_deviceWrite h ..
  clear_value s1
  exact tablesOk_ite_fst h (tablesOk_of h1 rfl rfl rfl rfl rfl)

theorem leadsTables_execShardReceive {source : Nat} {data : List Byte} (h : s.TablesOk) : LeadsTables (execShardReceive source data s) := by
  refine leadsTables_next ?_
  extract_lets module owner answer
  have hanswer : ∀ {u st v}, State.TablesOk u → (answer u st v).TablesOk := fun hu => hu
  clear_value answer
  refine tablesOk_ite h (tablesOk_ite (hanswer h) (tablesOk_ite (hanswer h) ?_))
  split
  · next he => exact hanswer (tablesOk_fst (tablesOk_appendArea h) he)
  · next he => exact hanswer (tablesOk_fst (tablesOk_appendArea h) he)

theorem tablesOk_placeEntries {members : List Nat} {own : Nat} {answers : List Nat} {l : List (Nat × Bool × Nat × List Byte)} (h : s.TablesOk) :
    (s.placeEntries members own answers l).1.TablesOk := by
  induction l generalizing s answers with
  | nil => exact h
  | cons e rest ih =>
    unfold State.placeEntries
    split
    next s1 off he =>
    have h1 : s1.TablesOk := tablesOk_fst (tablesOk_ite_fst (tablesOk_appendArea h) h) he
    split
    · exact h1
    · split
      · next he => exact tablesOk_fst (ih h1) he
      · next he => exact tablesOk_fst (ih h1) he

theorem leadsTables_execCheckpointSeal {answers : List Nat} (h : s.TablesOk) : LeadsTables (execCheckpointSeal answers s) := by
  refine leadsTables_next ?_
  extract_lets ended
  have hended : ∀ {u code}, State.TablesOk u → (ended u code).TablesOk := fun hu => tablesOk_setCkstat (by exact tablesOk_of hu rfl rfl rfl rfl rfl)
  clear_value ended
  split
  · exact h
  · extract_lets sent
    refine tablesOk_ite h (tablesOk_ite (hended h) (tablesOk_ite (hended h) ?_))
    split
    · next he => exact hended (tablesOk_fst (tablesOk_placeEntries h) he)
    · next he =>
      have h1 := tablesOk_fst (tablesOk_placeEntries h) he
      extract_lets prev c0 c
      clear_value c
      split
      · next he => exact hended (tablesOk_fst (tablesOk_appendArea h1) he)
      · next he => exact hended (tablesOk_of (tablesOk_fst (tablesOk_appendArea h1) he) rfl rfl rfl rfl rfl)

theorem tablesOk_applyCheckpoint {w : Catalogue} {got : List (List Byte)} (h : s.TablesOk) : (s.applyCheckpoint w got).1.TablesOk := by
  unfold State.applyCheckpoint
  extract_lets g data total stream lost hurt key s1
  clear_value stream hurt key
  exact tablesOk_foldl (fun _ _ h => tablesOk_ite h (tablesOk_foldl (fun _ _ h =>
    tablesOk_foldl (fun _ _ h => tablesOk_engineWrite h ..) _ h) _ h)) _ h

theorem tablesOk_catalogueSeen (h : s.TablesOk) : (s.catalogueSeen off).TablesOk := tablesOk_ite (tablesOk_deviceSeen h) h

theorem leadsTables_execCkrestore {shards : List (List Byte)} (h : s.TablesOk) : LeadsTables (execCkrestore addr shards s) := by
  refine leadsTables_next (tablesOk_hostWrite h ?_)
  extract_lets at_ away s1
  split
  next image got _ =>
  have h1 : s1.TablesOk := tablesOk_ite h (tablesOk_catalogueSeen h)
  clear_value s1
  split
  · exact tablesOk_setCkstat h1
  · next chain _ =>
    extract_lets s2 regions
    have h2 : s2.TablesOk := tablesOk_foldl (fun _ _ h => tablesOk_ite h (tablesOk_elim h fun _ => tablesOk_catalogueSeen h)) _ h1
    clear_value s2
    refine tablesOk_ite (tablesOk_setCkstat h2) ?_
    split
    next s3 rest hurt he =>
    have h3 : s3.TablesOk := tablesOk_fst (tablesOk_foldl_fst (by exact fun _ _ h => tablesOk_applyCheckpoint h) (by exact h2)) he
    refine tablesOk_setCkstat (tablesOk_foldl (fun _ _ h => tablesOk_logRegion (tablesOk_ite h ?_)) _ h3)
    exact tablesOk_foldl (fun _ _ h => tablesOk_engineWrite h ..) _ h

/-! ### Upsets -/

theorem tablesOk_upset {u : Upset} (h : s.TablesOk) : (s.upset u).TablesOk := by
  unfold State.upset
  cases u <;> dsimp only
  case register => exact tablesOk_mapStrand h ..
  case result => exact h
  case spad => exact h
  case l1Data => exact tablesOk_mapCore h _ (fun _ hk => ⟨hk.1, hk.2⟩)
  case corrected => exact tablesOk_correct h
  case accumulator => exact tablesOk_mapStrand h ..
  case l2Data => exact tablesOk_ite h h
  case l2Tag => exact h
  case hbm => exact h
  case l1Line => exact tablesOk_mapCore h _ (fun _ hk => ⟨hk.1, hk.2⟩)
  case microTlb => exact tablesOk_mapCore h _ (fun _ hk => ⟨hk.1, hk.2⟩)
  case dieTlb => exact tablesOk_setCluster h ..
  case microprogram => exact tablesOk_mapCore h _ (fun _ hk => ⟨hk.1, hk.2⟩)
  case gangShare => exact tablesOk_mapCore h _ (fun _ hk => ⟨hk.1, hk.2⟩)
  case phaseRecord => exact tablesOk_mapStrand h ..
  case queueRecord =>
    split
    · exact tablesOk_putReq h ..
    · exact h
  case element =>
    refine tablesOk_mapCore h _ fun k hk => ?_
    split
    · exact ⟨hk.1, hk.2⟩
    · exact hk
  case collective => exact tablesOk_of h rfl rfl rfl rfl rfl
  case vitrine =>
    split
    · exact tablesOk_of h rfl rfl rfl rfl rfl
    · exact h
  case scm =>
    split
    next w hw => exact tablesOk_putCatalogue h fun _ hv => savedRise_of_mem h (mem_of_find? hw) hv
    · exact h

theorem tablesOk_reloadWords {routine : Nat} (h : s.TablesOk) : (s.reloadWords c routine).TablesOk := by
  have hmap : ∀ f : Core → List Nat, (s.mapCore c (fun k => { k with tornWords := f k })).TablesOk := fun _ =>
    tablesOk_mapCore h _ fun _ hk => ⟨hk.1, hk.2⟩
  exact tablesOk_log (hmap _) ..

end Sys2Proof.Proofs
end

section
/-! Every instruction keeps the keys of the tables rising. -/
namespace Sys2Proof.Proofs
open Sys2Proof Sys2Proof.Machine Sys2Proof.Laws

variable {s : State}

theorem leadsTables_execPatldComplete {core : Nat} (h : s.TablesOk) : LeadsTables (execPatldComplete core s) := leadsTables_next (tablesOk_completePatld h)

theorem leadsTables_execWaitTimeout {core ctx : Nat} (h : s.TablesOk) : LeadsTables (execWaitTimeout core ctx s) := by
  refine leadsTables_next ?_
  split
  · exact h
  · split
    · exact h
    · exact tablesOk_ite h (tablesOk_answer (by exact tablesOk_ite (tablesOk_of h rfl rfl rfl rfl rfl) h) ..)

theorem leadsTables_exec {i : Instr} (h : s.TablesOk) : LeadsTables (exec i s) := by
  cases i
  case add | sub | mul =>
    dsimp only [exec]
    exact leadsTables_scalar h fun _ hq => stTables_arith hq
  case mulh | divs | divn | rem | and | or | xor | not | shl | shr | sar | rot | min | max | popc | clz | ctz =>
    dsimp only [exec]
    exact leadsTables_scalar h fun _ hq => stTables_writeInt hq
  case cmp | sel | pack | movi | movh | bfx | bfi | crr | span | tsread =>
    dsimp only [exec]
    exact leadsTables_scalar h fun _ hq => stTables_writeReg hq
  case addi =>
    dsimp only [exec]
    exact leadsTables_scalar h fun _ hq => stTables_writePredicted hq
  case fadd | fsub | fmul | ffma =>
    dsimp only [exec]
    exact leadsTables_scalar h fun _ hq => stTables_writeShadowed hq
  case fmin | fmax | fcmp =>
    dsimp only [exec]
    exact leadsTables_scalar h fun _ hq => stTables_writeFloat hq
  case nop =>
    dsimp only [exec]
    exact leadsTables_scalar h fun _ hq => hq
  case br | brk | ret =>
    dsimp only [exec]
    exact leadsTables_check h fun _ hq => stTables_jump hq
  case exit | tret | hiber | drain =>
    dsimp only [exec]
    exact leadsTables_check h fun _ hq => stTables_addHold hq
  case trap =>
    dsimp only [exec]
    exact leadsTables_check h fun _ hq => stTables_addDue hq
  case mpset | sbind | patsw =>
    dsimp only [exec]
    exact leadsTables_check h fun _ hq => stTables_shareWrite hq
  case ldq | ldsec =>
    dsimp only [exec]
    exact leadsTables_queuedLoad h
  case ringp | ringa =>
    dsimp only [exec]
    exact leadsTables_ringMove h
  case vadd | vsub | vmul =>
    dsimp only [exec]
    exact leadsTables_scalar h fun _ hq => stTables_binaryShadowed hq
  case vmin | vmax =>
    dsimp only [exec]
    exact leadsTables_scalar h fun _ hq => stTables_binary hq
  case vand | vor | vxor | vshl | vshr =>
    dsimp only [exec]
    exact leadsTables_scalar h fun _ hq => stTables_bitwise hq
  case vabs | vneg | vnot =>
    dsimp only [exec]
    exact leadsTables_scalar h fun _ hq => stTables_unary hq
  case vfma | vcvt | vdeq =>
    dsimp only [exec]
    exact leadsTables_scalar h fun _ hq => stTables_shadowedElements hq
  case vcmp =>
    dsimp only [exec]
    exact leadsTables_scalar h fun _ hq => stTables_raise (stTables_writePred hq)
  case vsel | shuf =>
    dsimp only [exec]
    exact leadsTables_scalar h fun _ hq => stTables_writeVec hq
  case vred | vscan =>
    dsimp only [exec]
    exact leadsTables_scalar h fun _ hq => stTables_raise (stTables_writeVec hq)
  case vexp2 | vlog2 | vrcp | vrsq | vsqrt | vtanh | vsig | vsin | vcos =>
    dsimp only [exec]
    exact leadsTables_scalar h fun _ hq => stTables_function hq
  case xcopy =>
    dsimp only [exec]
    exact leadsTables_scalar h fun _ hq => stTables_writeLanes hq
  case fcvt => exact leadsTables_execFcvt h
  case dmerge => exact leadsTables_execDmerge h
  case dscale => exact leadsTables_execDscale h
  case call => exact leadsTables_execCall h
  case loop => exact leadsTables_execLoop h
  case endl => exact leadsTables_execEndl h
  case yield => exact leadsTables_execYield h
  case spawn => exact leadsTables_execSpawn h
  case crw => exact leadsTables_execCrw h
  case ld => exact leadsTables_execLd h
  case st => exact leadsTables_execSt h
  case vld => exact leadsTables_execVld h
  case vst => exact leadsTables_execVst h
  case stq => exact leadsTables_execStq h
  case gatherq => exact leadsTables_execGatherq h
  case scatterq => exact leadsTables_execScatterq h
  case stf => exact leadsTables_execStf h
  case amo => exact leadsTables_execAmo h
  case amoDraw => exact leadsTables_execAmoDraw h
  case pref => exact leadsTables_execPref h
  case vquant => exact leadsTables_execVquant h
  case vdraw => exact leadsTables_execVdraw h
  case patld => exact leadsTables_execPatld h
  case xbcast => exact leadsTables_execXbcast h
  case mcall => exact leadsTables_execMcall h
  case accrd => exact leadsTables_execAccrd h
  case accwr => exact leadsTables_execAccwr h
  case accz => exact leadsTables_execAccz h
  case phase => exact leadsTables_execPhase h
  case publish => exact leadsTables_execPublish h
  case vwait => exact leadsTables_execVwait h
  case fence => exact leadsTables_execFence h
  case copy => exact leadsTables_execCopy h
  case barrive => exact leadsTables_execBarrive h
  case bwait => exact leadsTables_execBwait h
  case wait => exact leadsTables_execWait h
  case mwait => exact leadsTables_execMwait h
  case sunbind => exact leadsTables_execSunbind h
  case walk => exact leadsTables_execWalk h
  case coll => exact leadsTables_execColl h
  case lprobe => exact leadsTables_execLprobe h
  case kzero => exact leadsTables_execKzero h
  case kstep => exact leadsTables_execKstep h
  case kloop => exact leadsTables_execKloop h
  case kendl => exact leadsTables_execKendl h
  case kepi => exact leadsTables_execKepi h
  case krows => exact leadsTables_execKrows h
  case ksum => exact leadsTables_execKsum h
  case kend => exact leadsTables_execKend h
  case matrixChoose => exact leadsTables_execMatrixChoose h
  case trapEntry => exact leadsTables_execTrapEntry h
  case elementLand => exact leadsTables_execElementLand h
  case storeAck => exact leadsTables_execStoreAck h
  case homeRequest => exact leadsTables_execHomeRequest h
  case l2Fill => exact leadsTables_execL2Fill h
  case setWaitRetry => exact leadsTables_execSetWaitRetry h
  case waitTimeout => exact leadsTables_execWaitTimeout h
  case barrierArrival => exact leadsTables_execBarrierArrival h
  case pageWalk => exact leadsTables_execPageWalk h
  case copyComplete => exact leadsTables_execCopyComplete h
  case patldComplete => exact leadsTables_execPatldComplete h
  case walkHop => exact leadsTables_execWalkHop h
  case remoteRequest => exact leadsTables_execRemoteRequest h
  case hibernatingAnswer => exact leadsTables_execHibernatingAnswer h
  case remoteNoAnswer => exact leadsTables_execRemoteNoAnswer h
  case linkRetry => exact leadsTables_execLinkRetry h
  case linkDown => exact leadsTables_execLinkDown h
  case routeRemove => exact leadsTables_execRouteRemove h
  case moduleLost => exact leadsTables_execModuleLost h
  case collHandoff => exact leadsTables_execCollHandoff h
  case startFlit => exact leadsTables_execStartFlit h
  case chunkArrival => exact leadsTables_execChunkArrival h
  case looseFlush => exact leadsTables_execLooseFlush h
  case lateAddend => exact leadsTables_execLateAddend h
  case rootReleaseTimeout => exact leadsTables_execRootReleaseTimeout h
  case abortFlit => exact leadsTables_execAbortFlit h
  case replayComplete => exact leadsTables_execReplayComplete h
  case route1ChunkApply => exact leadsTables_execRoute1ChunkApply h
  case doorbell => exact leadsTables_execDoorbell h
  case nestTake => exact leadsTables_execNestTake h
  case nestOffer => exact leadsTables_execNestOffer h
  case gangPlace => exact leadsTables_execGangPlace h
  case clusterReserve => exact leadsTables_execClusterReserve h
  case folioPickup => exact leadsTables_execFolioPickup h
  case gangPreempt => exact leadsTables_execGangPreempt h
  case gangResume => exact leadsTables_execGangResume h
  case nestRetire => exact leadsTables_execNestRetire h
  case operatingPointChange => exact leadsTables_execOperatingPointChange h
  case energyTick => exact leadsTables_execEnergyTick h
  case sensorRetired => exact leadsTables_execSensorRetired h
  case patrolScrub => exact leadsTables_execPatrolScrub h
  case supplyWarning => exact leadsTables_execSupplyWarning h
  case supplyTrap => exact leadsTables_execSupplyTrap h
  case handlerOverrun => exact leadsTables_execHandlerOverrun h
  case saveComplete => exact leadsTables_execSaveComplete h
  case sealed => exact leadsTables_execSealed h
  case enterSag => exact leadsTables_execEnterSag h
  case enterShed => exact leadsTables_execEnterShed h
  case shed => exact leadsTables_execShed h
  case clusterRestore => exact leadsTables_execClusterRestore h
  case returnNormal => exact leadsTables_execReturnNormal h
  case inputReturn => exact leadsTables_execInputReturn h
  case thermal => exact leadsTables_execThermal h
  case thermalEnd => exact leadsTables_execThermalEnd h
  case powerOn => exact leadsTables_execPowerOn h
  case restoreBegin => exact leadsTables_execRestoreBegin h
  case timeExchange => exact leadsTables_execTimeExchange h
  case masterLost => exact leadsTables_execMasterLost h
  case warmReset => exact leadsTables_execWarmReset h
  case attestationRequest => exact leadsTables_execAttestationRequest h
  case suspend => exact leadsTables_execSuspend h
  case ownerSuspended => exact leadsTables_execOwnerSuspended h
  case resume => exact leadsTables_execResume h
  case terminate => exact leadsTables_execTerminate h
  case islandsWrite => exact leadsTables_execIslandsWrite h
  case regselWrite => exact leadsTables_execRegselWrite h
  case invcmd => exact leadsTables_execInvcmd h
  case invalidationComplete => exact leadsTables_execInvalidationComplete h
  case keyload => exact leadsTables_execKeyload h
  case rtload => exact leadsTables_execRtload h
  case coreRoutineLoad => exact leadsTables_execCoreRoutineLoad h
  case mcload => exact leadsTables_execMcload h
  case vitload => exact leadsTables_execVitload h
  case vitclr => exact leadsTables_execVitclr h
  case vitrineRemoved => exact leadsTables_execVitrineRemoved h
  case gload => exact leadsTables_execGload h
  case featDrvWrite => exact leadsTables_execFeatDrvWrite h
  case acclist => exact leadsTables_execAcclist h
  case restoreResume => exact leadsTables_execRestoreResume h
  case ckreq => exact leadsTables_execCkreq h
  case shardReceive => exact leadsTables_execShardReceive h
  case checkpointSeal => exact leadsTables_execCheckpointSeal h
  case ckrestore => exact leadsTables_execCkrestore h
  case trigctlArm => exact leadsTables_execTrigctlArm h
  case trigfire => exact leadsTables_execTrigfire h
  case energyLowRead => exact leadsTables_execEnergyLowRead h
  case energyHighRead => exact leadsTables_execEnergyHighRead h
  case hostLoad => exact leadsTables_execHostLoad h
  case hostStore => exact leadsTables_execHostStore h
  case registerWrite => exact leadsTables_execRegisterWrite h
  case pathRestored => exact leadsTables_execPathRestored h
  case routerOff => exact leadsTables_execRouterOff h
  case timePhaseTimeout => exact leadsTables_execTimePhaseTimeout h

end Sys2Proof.Proofs
end

section
/-! Every step keeps the keys of the tables rising: the examination and the issue of bundles, micro-ops, events, and what goes
with each turn. -/
namespace Sys2Proof.Proofs
open Sys2Proof Sys2Proof.Machine Sys2Proof.Laws

variable {s t : State} {c x n : Nat}

/-! ### Examining a bundle -/

theorem leadsTables_andThen {o : Host.Outcome State Fault Refusal} {f : State → Host.Outcome State Fault Refusal} (ho : LeadsTables o)
    (hf : ∀ u, u.TablesOk → LeadsTables (f u)) : LeadsTables (andThen o f) := by
  cases o with
  | next u => exact hf u (ho u rfl)
  | fault e => exact leadsTables_fault
  | refused e => exact leadsTables_refused

theorem leadsTables_runStaged {p : Staged} (h : s.TablesOk) : LeadsTables (s.runStaged p) := by
  unfold State.runStaged
  split
  · exact leadsTables_fault
  · split
    · exact leadsTables_exec (by exact tablesOk_of h rfl rfl rfl rfl rfl)
    · refine leadsTables_next ?_
      split
      · exact h
      · exact tablesOk_of h rfl rfl rfl rfl rfl
      · exact h

theorem leadsTables_runSlots {l : List Staged} (h : s.TablesOk) : LeadsTables (s.runSlots l) := by
  induction l generalizing s with
  | nil => exact leadsTables_next h
  | cons p rest ih => exact leadsTables_andThen (leadsTables_runStaged h) fun _ hu => ih hu

theorem tablesOk_fetch {k : Strand} (h : s.TablesOk) : (s.fetch c k).1.TablesOk := by
  unfold State.fetch
  extract_lets pc q
  split
  · next he => exact tablesOk_fst (tablesOk_translate h) he
  · next he =>
    have h1 := tablesOk_fst (tablesOk_translate h) he
    split
    · exact tablesOk_touchLine h1
    · exact h1

/-- The bundle of an exam that came out ready was examined without leaving the form. -/
theorem tablesOk_of_examine {k : Cursor} (h : s.TablesOk) (he : s.examine c x = .ready t k) : t.TablesOk := by
  unfold State.examine at he
  split at he
  · cases he
  · split at he
    · cases he
    · cases he
    · next hf =>
      have h1 := tablesOk_fst (tablesOk_fetch h) hf
      split at he
      · cases he
      · cases he
      · next hr =>
        have h2 := leadsTables_runSlots (by exact tablesOk_of h1 rfl rfl rfl rfl rfl) _ hr
        split at he
        · cases he
        · split at he
          · cases he
            exact h2
          · cases he
          · cases he

theorem tablesOk_skipPadding (h : s.TablesOk) : (s.skipPadding c x n).TablesOk := by
  induction n generalizing s with
  | zero => exact h
  | succ n ih =>
    unfold State.skipPadding
    split
    · exact h
    · split
      · next he => exact ih (tablesOk_setStrand (tablesOk_fst (tablesOk_fetch h) he) ..)
      · exact h

/-! ### The turn of a core -/

theorem tablesOk_beginCycle (h : s.TablesOk) : (s.beginCycle c).TablesOk := by
  unfold State.beginCycle
  extract_lets xs s1 s2 s3 s4
  have h1 : s1.TablesOk := tablesOk_continueHolds h
  have h2 : s2.TablesOk := tablesOk_foldl (fun _ _ h => tablesOk_enterDue h) _ h1
  clear_value s2
  have h3 : s3.TablesOk := tablesOk_ite (tablesOk_foldl (fun _ _ h => tablesOk_meetSupply h) _ h2) h2
  clear_value s3
  have h4 : s4.TablesOk := tablesOk_mapCore (tablesOk_settlePatlds h3) _ fun _ hk => ⟨rising_mapVals _ hk.1, hk.2⟩
  exact tablesOk_foldl (fun _ _ h => tablesOk_skipPadding h) _ h4

theorem tablesOk_passOver {e : Nat × Exam} (h : s.TablesOk) : (s.passOver c e).TablesOk := by
  unfold State.passOver
  split
  · exact tablesOk_mapStrand h ..
  · exact tablesOk_mapStrand h ..
  · exact tablesOk_stalled h
  · exact h

theorem tablesOk_passOvers {l : List (Nat × Exam)} (h : s.TablesOk) : (l.foldl (fun (s : State) e => s.passOver c e) s).TablesOk :=
  tablesOk_foldl (fun _ _ h => tablesOk_passOver h) _ h

theorem tablesOk_idleCycle (h : s.TablesOk) : (s.idleCycle c).TablesOk := tablesOk_mapCore h c (fun _ hk => ⟨hk.1, hk.2⟩)

theorem tablesOk_trapBundle {i : TrapInfo} (h : s.TablesOk) : (s.trapBundle c x i).TablesOk := by
  unfold State.trapBundle
  split
  · exact h
  · extract_lets s1
    have h1 : s1.TablesOk := tablesOk_mapStrand h ..
    clear_value s1
    exact tablesOk_idleCycle (tablesOk_ite (tablesOk_mapStrand h1 ..) (tablesOk_ite (tablesOk_enterDue h1) (tablesOk_takeTrap h1)))

theorem tablesOk_issueOne {e : Exam} (h : s.TablesOk) (he : ∀ u k, e = .ready u k → u.TablesOk) : (s.issueOne c x e).TablesOk := by
  cases e with
  | ready u k => exact tablesOk_commit (he u k rfl)
  | trapped i => exact tablesOk_trapBundle h
  | idle => exact h
  | stalled why a => exact h
  | stopped f => exact h
  | refused r => exact h

/-- What fails while bundles are examined is no next state. -/
theorem leadsTables_of_firstFailure {l : List (Nat × Exam)} {o : Host.Outcome State Fault Refusal} (h : firstFailure l = some o) :
    LeadsTables o := by
  obtain ⟨e, -, he⟩ := List.exists_of_findSome?_eq_some h
  split at he
  · cases he
    exact leadsTables_fault
  · cases he
    exact leadsTables_refused
  · cases he

theorem leadsTables_issueTurn (h : s.TablesOk) : LeadsTables (s.issueTurn c) := by
  unfold State.issueTurn
  extract_lets s0 exams ready
  have h0 : s0.TablesOk := tablesOk_beginCycle h
  split
  · next hf => exact leadsTables_of_firstFailure hf
  · split
    · exact leadsTables_next (tablesOk_idleCycle (tablesOk_passOvers h0))
    · refine leadsTables_next (tablesOk_passOvers (tablesOk_issueOne h0 fun u k he => ?_))
      obtain ⟨y, hy⟩ := examOf_map_eq_ready he
      exact tablesOk_of_examine h0 hy

/-! ### Turns -/

theorem leadsTables_microTurn (h : s.TablesOk) : LeadsTables (s.microTurn c) := by
  unfold State.microTurn
  split
  · exact leadsTables_next h
  · split
    · exact leadsTables_next (tablesOk_chooseOp h)
    · split
      · exact leadsTables_next (tablesOk_reloadWords h)
      · extract_lets s1
        have h1 : s1.TablesOk := tablesOk_of h rfl rfl rfl rfl rfl
        split
        · exact leadsTables_micro h1 fun _ hm => tablesOk_reserved hm
        · split
          · exact leadsTables_exec h1
          · exact leadsTables_micro h1 fun _ hm => tablesOk_reserved hm

theorem leadsTables_run {w : Turn} (h : s.TablesOk) : LeadsTables (w.run s) := by
  unfold Turn.run
  cases w <;> dsimp only
  case issue => exact leadsTables_issueTurn h
  case micro => exact leadsTables_microTurn h
  case event => exact leadsTables_exec h
  case upset => exact leadsTables_next (tablesOk_upset h)
  case read => exact leadsTables_next (tablesOk_hostRead h)

theorem tablesOk_moveFlits (h : s.TablesOk) : (s.moveFlits n).TablesOk := tablesOk_of h rfl rfl rfl rfl rfl

/-- The time that a turn takes leaves the Catalogues. -/
theorem slewed_catalogues {p q : Power} {d e : Nat} (h : p.slewed e = (q, d)) : q.catalogues = p.catalogues := by
  unfold Power.slewed at h
  dsimp only at h
  split at h
  · cases h; rfl
  · split at h <;> cases h <;> rfl

theorem tablesOk_tick (h : s.TablesOk) : (s.tick n).TablesOk := by
  unfold State.tick
  extract_lets s1
  have h1 : s1.TablesOk := tablesOk_moveFlits (tablesOk_bootTick (tablesOk_noteShedOrd (tablesOk_settleLogs h)))
  clear_value s1
  split
  next p d hp =>
  extract_lets now metered
  have h2 : metered.TablesOk := tablesOk_meter (tablesOk_power h1 (slewed_catalogues hp))
  clear_value metered
  exact tablesOk_noteFirst (by exact tablesOk_of h2 rfl rfl rfl rfl rfl)

theorem leadsTables_take {w : Turn} (h : s.TablesOk) : LeadsTables (s.take w) :=
  leadsTables_andThen (leadsTables_run h) fun _ hu => leadsTables_next (tablesOk_tick hu)

theorem leadsTables_step (h : s.TablesOk) : LeadsTables (step s) := by
  unfold step State.turn
  split
  · split
    · exact leadsTables_take h
    · exact leadsTables_take (by exact tablesOk_of h rfl rfl rfl rfl rfl)
  · split
    · exact leadsTables_take h
    · exact leadsTables_next (tablesOk_tick h)

/-- Settles O60: every function of the model that changes the state keeps the keys of its tables rising, and with them every
instruction, every turn and what goes with a turn. -/
theorem stepKeepsTablesOk : Obligations.StepKeepsTablesOk := fun _ t h ht => leadsTables_step h t ht

end Sys2Proof.Proofs
end

section
/-! What reset leaves, and the control registers: CRR and CRW as slots of a bundle (R40, R47, R48, R128). -/
namespace Sys2Proof.Proofs
open Sys2Proof Sys2Proof.Machine Sys2Proof.Laws

/-! ### Reset -/

/-- A core that nothing lists is as a core is at reset. -/
theorem core_reset (c : Nat) : State.reset.core c = {} := rfl

/-- Settles O57: reset lists no core, so that each reads as a core does at reset, and lists REGSEL alone of the host's registers. -/
theorem resetState : Obligations.ResetState := by
  refine ⟨rfl, rfl, rfl, rfl, rfl, rfl, by decide, by decide, by decide, fun _ _ => rfl, fun c => ?_⟩
  rw [core_reset]
  exact ⟨rfl, rfl, rfl, rfl, rfl, by decide, rfl⟩

/-! ### Control registers -/

/-- A slot that checks nothing of its own joins its bundle. -/
theorem scalar_joined {s : State} {i : Instr} {q : Bun} {f : Bun → Bun} (h : s.AtSlot i q) : s.scalar i f = .next (q.joined i (f q)) :=
  runSlot_joined h (check_ok.2 ⟨rfl, rfl⟩)

theorem stopIf_false {p : Bool} {e : Stop} (h : p = false) : stopIf p e = none := by rw [h]; rfl

theorem control_ssr (q : Bun) :
    q.control 1 = BitVec.ofNat 64 ((q.strand.slot % 4) <<< 10 ||| (q.strand.role % 4) <<< 8 ||| q.strand.readFlags.toNat) := rfl
theorem control_dseed (q : Bun) : q.control 7 = q.share.dseed := rfl
theorem control_format (q : Bun) {n : Nat} (h : n < 16) : q.control (16 + n) = Tab.get q.share.fmts 0 n := by
  unfold Bun.control
  simp (disch := omega) only [if_neg, if_pos, Nat.add_sub_cancel_left]

/-- What a CRW waits for is no trap. -/
theorem crwStall_not_trap {q : Bun} {n : Nat} {u : TrapInfo} : q.crwStall n ≠ some (.trap u) := by
  unfold Bun.crwStall stopIf
  split
  · split <;> nofun
  · split
    · split <;> nofun
    · nofun

theorem crr_reads (d : BitVec 6) (cr : BitVec 14) {s : State} {q : Bun} (h : s.AtSlot (.crr d cr) q) :
    exec (.crr d cr) s = .next (q.joined (.crr d cr) (q.writeReg d (q.control cr.toNat) 2)) :=
  (exec_crr d cr s).trans (scalar_joined h)

theorem crw_joined {a : BitVec 6} {cr : BitVec 14} {s : State} {q : Bun} (h : s.AtSlot (.crw a cr) q)
    (hv : q.crwRefused cr.toNat (q.val a) = false) (ha : q.badReg a = false) (hw : q.crwStall cr.toNat = none) :
    exec (.crw a cr) s = .next (q.joined (.crw a cr)
      (if 10 ≤ cr.toNat ∧ cr.toNat < 14 then q.writeMarked (.lc (cr.toNat - 10)) ((q.val a).setWidth 4096) 1 none
       else q.shareWrite (.crw cr.toNat (q.val a)))) := by
  rw [exec_crw]
  refine (runSlot_joined h (check_ok.2 ⟨firstStop_all_none _ ?_, rfl⟩)).trans ?_
  · simp only [List.mem_cons, List.not_mem_nil, or_false, forall_eq_or_imp, forall_eq]
    exact ⟨stopIf_false hv, stopIf_false ha, hw⟩
  · simp only [Bool.and_eq_true, decide_eq_true_eq, Bun.write]

theorem crw_refused {a : BitVec 6} {cr : BitVec 14} {s : State} {q : Bun} (h : s.AtSlot (.crw a cr) q)
    (hv : q.crwRefused cr.toNat (q.val a) = true) : exec (.crw a cr) s = s.trapped { cause := 3 } := by
  rw [exec_crw]
  refine runSlot_trapped h (check_error ?_)
  rw [hv]
  refine firstStop_trap_cons fun u hu => ?_
  rcases List.mem_cons.1 hu with hu | hu
  · have hc : 3 < u.cause := cause_of_stopIf hu (by simp)
    exact not_before_of_cause hc
  · exact absurd (List.mem_singleton.1 hu).symm crwStall_not_trap

/-- Settles O16: CRR checks nothing of its own, and CRW what its register refuses, before its residue, and what it waits for. -/
theorem controlRegisters : Obligations.ControlRegisters := fun d _ cr _ q =>
  ⟨crr_reads d cr, ⟨control_ssr q, control_dseed q, fun _ hn => control_format q hn⟩, crw_joined, crw_refused⟩

end Sys2Proof.Proofs
end

section
/-! SHUF, XCOPY and XBCAST: the elements of a packed image, and the lanes that each gives (R56, R146, R149, R150). -/
namespace Sys2Proof.Proofs
open Sys2Proof Sys2Proof.Machine Sys2Proof.Laws

/-! ### Elements of a packed image -/

theorem elem_lt (v : Vec) (w e : Nat) : elem v w e < 2 ^ w := BitVec.isLt _
theorem elem_mod (v : Vec) (w e : Nat) : elem v w e % 2 ^ w = elem v w e := Nat.mod_eq_of_lt (elem_lt v w e)

/-- The field of width `w` at place `e` of values packed from the lowest. -/
theorem packed_field (w : Nat) (l : List Nat) {e x : Nat} (h : l[e]? = some x) :
    l.foldr (fun x a => a <<< w ||| x % 2 ^ w) 0 / 2 ^ (w * e) % 2 ^ w = x % 2 ^ w := by
  induction l generalizing e with
  | nil => exact nomatch h
  | cons y r ih =>
    have hy : y % 2 ^ w < 2 ^ w := Nat.mod_lt _ (Nat.two_pow_pos w)
    rw [List.foldr_cons, ← Nat.shiftLeft_add_eq_or_of_lt hy, Nat.shiftLeft_eq]
    cases e with
    | zero =>
      obtain rfl : y = x := by simpa using h
      simp
    | succ e =>
      rw [Nat.mul_succ, Nat.add_comm _ (y % 2 ^ w), Nat.pow_add, Nat.mul_comm (2 ^ (w * e)), ← Nat.div_div_eq_div_mul,
        Nat.add_mul_div_right _ _ (Nat.two_pow_pos w), Nat.div_eq_of_lt hy, Nat.zero_add]
      exact ih (by simpa using h)

theorem elem_packElems {w : Nat} {l : List Nat} {e x : Nat} (h : l[e]? = some x) (he : w * (e + 1) ≤ 4096) :
    elem (packElems w l) w e = x % 2 ^ w := by
  unfold elem packElems
  rw [BitVec.extractLsb'_toNat, BitVec.toNat_ofNat, Nat.shiftRight_eq_div_pow, ← packed_field w l h]
  rw [Nat.mul_succ] at he
  obtain ⟨m, hm⟩ := Nat.le.dest ((Nat.le_add_right ..).trans he)
  rw [← hm, Nat.pow_add, Nat.mod_mul_right_div_self]
  exact Nat.mod_mod_of_dvd _ (Nat.pow_dvd_pow 2 (by omega))

/-- The elements of an image packed from a function of their places. -/
theorem elem_packElems_range {w n e : Nat} {f : Nat → Nat} (hn : w * n ≤ 4096) (he : e < n) :
    elem (packElems w ((List.range n).map f)) w e = f e % 2 ^ w :=
  elem_packElems (by simp [he]) ((Nat.mul_le_mul_left w he).trans hn)

/-- The elements of an image packed from one value throughout. -/
theorem elem_packElems_replicate {w n e x : Nat} (hn : w * n ≤ 4096) (he : e < n) : elem (packElems w (List.replicate n x)) w e = x % 2 ^ w :=
  elem_packElems (by simp [he]) ((Nat.mul_le_mul_left w he).trans hn)

/-! ### The lanes -/

/-- A lane of SHUF is its pattern's choice of a lane of its own group, or 0 where the pattern clears it. -/
theorem shuffleLane_eq (p : BitVec 128) (a b : Vec) (l : Nat) :
    shuffleLane p a b l = if p.toNat.testBit (80 + l % 16) then 0
      else elem (if bits p.toNat (5 * (l % 16) + 4) (5 * (l % 16)) < 16 then a else b) 32 (l / 16 * 16 + bits p.toNat (5 * (l % 16) + 4) (5 * (l % 16)) % 16) := by
  have hsel : bits p.toNat (5 * (l % 16) + 4) (5 * (l % 16)) < 32 := by
    unfold bits
    rw [show 5 * (l % 16) + 4 + 1 - 5 * (l % 16) = 5 by omega]
    exact Nat.mod_lt _ (by decide)
  unfold shuffleLane
  extract_lets g i sel
  change sel < 32 at hsel
  change (if p.toNat.testBit (80 + l % 16) then 0 else _) = _
  congr 1
  change _ = elem (if sel < 16 then a else b) 32 (g * 16 + sel % 16)
  split
  · rw [Nat.mod_eq_of_lt ‹_›, Nat.mul_comm]
  · rw [show sel % 16 = sel - 16 by omega, Nat.mul_comm]

theorem shuffleLane_mod (p : BitVec 128) (a b : Vec) (l : Nat) : shuffleLane p a b l % 2 ^ 32 = shuffleLane p a b l := by
  rw [shuffleLane_eq]
  split
  · rfl
  · exact elem_mod ..

variable {d a b c : BitVec 6} {mode : BitVec 2} {dst n g : BitVec 3} {lane : BitVec 1} {j : BitVec 4} {s : State} {q : Bun}

theorem shuf_lanes :
    let p := (Tab.get q.share.pats 0 (64 * (q.share.patsel.toNat % 2) + c.toNat)).toNat
    let sel := fun (l : Nat) => bits p (5 * (l % 16) + 4) (5 * (l % 16))
    WritesElements s q (.shuf d a b c) d 32 3 (fun l => if p.testBit (80 + l % 16) then 0
      else elem (if sel l < 16 then q.vec a else q.vec b) 32 (l / 16 * 16 + sel l % 16)) := fun h =>
  ⟨_, (exec_shuf ..).trans (scalar_joined h), fun e he =>
    (elem_packElems_range (by decide) he).trans ((shuffleLane_mod ..).trans (shuffleLane_eq ..))⟩

theorem xcopy_groups (h : s.AtSlot (.xcopy d a mode dst n) q) :
    ∃ r : Vec, exec (.xcopy d a mode dst n) s = .next (q.joined (.xcopy d a mode dst n)
        (q.writeLanes d r (groupLanes (fun i => decide (mode.toNat < 2) || i == dst.toNat)) 6)) ∧
      ∀ i < 8, elem r 512 i = if mode = 0#2 then elem (q.vec a) 512 ((i + n.toNat) % 8)
        else if mode = 1#2 then elem (q.vec a) 512 (i ^^^ n.toNat)
        else if i = dst.toNat then elem (q.vec a) 512 n.toNat else elem (q.vec d) 512 i := by
  refine ⟨_, (exec_xcopy ..).trans (scalar_joined h), fun i hi => ?_⟩
  rw [elem_packElems_range (by decide) hi]
  by_cases h0 : mode = 0#2
  · rw [if_pos h0, h0]
    exact elem_mod ..
  · by_cases h1 : mode = 1#2
    · rw [if_neg h0, if_pos h1, h1]
      exact elem_mod ..
    · rw [if_neg h0, if_neg h1]
      split
      next hm => exact absurd (BitVec.eq_of_toNat_eq hm) h0
      next hm => exact absurd (BitVec.eq_of_toNat_eq hm) h1
      · split <;> exact elem_mod ..

/-- Every lane is one lane of the source, or every group one group. -/
theorem xbcast_lane : WritesElements s q (.xbcast d a 1#1 j g) d 32 6 (fun _ => elem (q.vec a) 32 (16 * g.toNat + j.toNat)) := fun h =>
  ⟨_, (exec_xbcast ..).trans (scalar_joined h), fun _ he => (elem_packElems_replicate (by decide) he).trans (elem_mod ..)⟩

theorem xbcast_group : WritesElements s q (.xbcast d a 0#1 j g) d 512 6 (fun _ => elem (q.vec a) 512 g.toNat) := fun h =>
  ⟨_, (exec_xbcast ..).trans (scalar_joined h), fun _ he => (elem_packElems_replicate (by decide) he).trans (elem_mod ..)⟩

/-- Settles O31: each of the three packs an image from its lanes or groups. -/
theorem shufflesAndCopies : Obligations.ShufflesAndCopies := fun _ _ _ _ _ _ _ _ _ _ _ _ =>
  ⟨shuf_lanes, xcopy_groups, fun hl => hl ▸ xbcast_lane, fun hl => hl ▸ xbcast_group⟩

end Sys2Proof.Proofs
end

section
/-! Streams, rings, WALK, COLL, LPROBE and TSREAD as slots of a bundle (R53, R54, R191, R196, R263 to R268). -/
namespace Sys2Proof.Proofs
open Sys2Proof Sys2Proof.Machine Sys2Proof.Laws

/-! ### Checks of a slot -/

/-- A slot whose own checks stall makes the stall the bundle's verdict, its destinations noted (R62, R63). -/
theorem runSlot_stalled {s : State} {i : Instr} {q : Bun} {f : Bun → Except Stop Bun} {w : Stall} {a : StallAct}
    (h : s.AtSlot i q) (hf : f q = .error (.stall w a)) :
    ∃ k l, s.cursor = some k ∧ s.runSlot i f = .next { s with cursor := some ({ k with dests := k.dests ++ l, verdict := .stall w a } : Cursor) } := by
  obtain ⟨c, hc, hv, hd, hi, hx, ho, rfl⟩ := h
  have hu := landed_of ho
  have hst : firstStop (([c.defect.map Stop.trap, i.defect.map (fun d => Stop.trap (defectTrap d)),
      (conflict c.dests (slotDests i (((⟨s, c⟩ : Bun).readShare i).space == 2))).map Stop.trap] ++
        ((⟨s, c⟩ : Bun).readShare i).operandStops i) ++ [some (.stall w a)]) = some (.stall w a) := by
    rw [hd, hi, hx]
    exact firstStop_append_one _ ho
  refine ⟨c, (slotDests i (((⟨s, c⟩ : Bun).readShare i).space == 2)).map (fun d => (d.1, c.slot, d.2)), hc, ?_⟩
  unfold State.runSlot
  simp only [hc, hv, hu, hf, hst, Bool.false_eq_true, if_false]

theorem check_one {q : Bun} {x : Option Stop} {f : Bun → Bun} (h : x = none) : q.check [x] f = .ok (f q) :=
  check_ok.2 ⟨firstStop_all_none _ fun _ hy => (List.mem_singleton.1 hy).trans h, rfl⟩

variable {d a b : BitVec 6} {s s1 : State} {q : Bun}

/-! ### Streams -/

theorem sbind_joined {elemsz queue : BitVec 2} (h : s.AtSlot (.sbind d elemsz queue) q) (hb : Tab.find? q.share.streams (d.toNat % 8) = none) :
    exec (.sbind d elemsz queue) s = .next (q.joined (.sbind d elemsz queue) (q.shareWrite (.bind (d.toNat % 8) queue.toNat elemsz.toNat))) :=
  (exec_sbind ..).trans (runSlot_joined h (check_one (stopIf_false (by rw [hb]; rfl))))

theorem sunbind_joined (h : s.AtSlot (.sunbind d) q) (hf : q.st.inFlight q.cur.core (d.toNat % 8) = 0) :
    exec (.sunbind d) s = .next (q.joined (.sunbind d)
      (if (Tab.find? q.share.streams (d.toNat % 8)).isSome then q.shareWrite (.unbind (d.toNat % 8)) else q)) :=
  (exec_sunbind ..).trans (runSlot_joined h (check_one (stopIf_false (by rw [hf]; rfl))))

/-! ### Rings -/

theorem mod_of_lt_double {x m : Nat} (h : x < 2 * m) : x % m = if x < m then x else x - m := by
  split
  · exact Nat.mod_eq_of_lt ‹_›
  · rw [Nat.mod_eq_sub_mod (by omega), Nat.mod_eq_of_lt (by omega)]

section
variable {r : Ring} {k : Nat} (hz : r.size ≠ 0) (hh : r.head < 2 * r.size) (ht : r.tail < 2 * r.size)
include hz hh ht

theorem occupancy_eq : r.occupancy = if r.head ≤ r.tail then r.tail - r.head else r.tail + 2 * r.size - r.head := by
  unfold Ring.occupancy
  rw [if_neg hz, mod_of_lt_double (by omega)]
  split <;> split <;> omega

/-- A count no greater than its ring moves TAIL by that much, modulo twice the size (R264). -/
theorem pushed_occupancy (hk : r.occupancy + k ≤ r.size) : (r.pushed k).occupancy = r.occupancy + k := by
  have htail : (r.pushed k).tail = if r.tail + k < 2 * r.size then r.tail + k else r.tail + k - 2 * r.size :=
    (if_neg hz).trans (mod_of_lt_double (by omega))
  have hlt : (r.pushed k).tail < 2 * r.size := by rw [htail]; split <;> omega
  have hocc := occupancy_eq hz hh ht
  rw [occupancy_eq (r := r.pushed k) hz hh hlt, htail, hocc]
  rw [hocc] at hk
  change (if r.head ≤ _ then _ - r.head else _ + 2 * r.size - r.head) = _
  grind

/-- A count no greater than what the ring holds moves HEAD by that much, modulo twice the size (R264). -/
theorem popped_occupancy (hs : r.occupancy ≤ r.size) (hk : k ≤ r.occupancy) : (r.popped k).occupancy = r.occupancy - k := by
  have hhead : (r.popped k).head = if r.head + k < 2 * r.size then r.head + k else r.head + k - 2 * r.size :=
    (if_neg hz).trans (mod_of_lt_double (by omega))
  have hlt : (r.popped k).head < 2 * r.size := by rw [hhead]; split <;> omega
  have hocc := occupancy_eq hz hh ht
  rw [occupancy_eq (r := r.popped k) hz hlt ht, hhead, hocc]
  rw [hocc] at hk hs
  change (if _ ≤ r.tail then r.tail - _ else r.tail + 2 * r.size - _) = _
  grind

end

section
variable {ring : BitVec 3} {reg : BitVec 1} {count : BitVec 7} {push : Bool} {k : Nat} {r : Ring}
  (hk : (if reg = 1#1 then (q.val a).toNat else count.toNat) = k) (hr : Tab.get q.share.rings {} ring.toNat = r)
include hk hr

/-- RINGP and RINGA with a legal count, where the ring has room for it or holds it, change their ring when their bundle issues (R264). -/
theorem ringMove_joins (hl : r.size ≠ 0 ∧ k < 65536 ∧ k ≤ r.size) (hw : if push then r.occupancy + k ≤ r.size else k ≤ r.occupancy) :
    q.ringMove ring a reg count push = .ok (if k = 0 then q else q.shareWrite (if push then .push ring.toNat k else .pop ring.toNat k)) := by
  unfold Bun.ringMove
  rw [hk, hr]
  refine check_ok.2 ⟨firstStop_all_none _ ?_, rfl⟩
  obtain ⟨hz, hn, hs⟩ := hl
  simp only [List.mem_cons, List.not_mem_nil, or_false, forall_eq_or_imp, forall_eq]
  refine ⟨stopIf_false ?_, stopIf_false ?_⟩
  · simp; omega
  · cases push <;> simp at hw ⊢ <;> omega

/-- A count that no ring of this size takes is an illegal operand, whether the ring is full or empty (R264, R316). -/
theorem ringMove_refused (hl : ¬ (r.size ≠ 0 ∧ k < 65536 ∧ k ≤ r.size)) : q.ringMove ring a reg count push = .error (.trap { cause := 3 }) := by
  unfold Bun.ringMove
  rw [hk, hr]
  have hbad : (decide (r.size = 0) || decide (65536 ≤ k) || decide (r.size < k)) = true := by simp; omega
  refine check_error ?_
  rw [hbad]
  refine firstStop_trap_cons fun u hu => ?_
  cases stop_of_stopIf (List.mem_singleton.1 hu)

end

theorem applyShare_push_rings {c x ring k : Nat} (h : Tab.rising s.cores = true) :
    ((s.applyShare c x (.push ring k)).core c).share.rings = Tab.set (s.core c).share.rings {} ring ((Tab.get (s.core c).share.rings {} ring).pushed k) := by
  unfold State.applyShare
  dsimp only
  rw [core_mapCore_self h]

theorem applyShare_pop_rings {c x ring k : Nat} (h : Tab.rising s.cores = true) :
    ((s.applyShare c x (.pop ring k)).core c).share.rings = Tab.set (s.core c).share.rings {} ring ((Tab.get (s.core c).share.rings {} ring).popped k) := by
  unfold State.applyShare
  dsimp only
  rw [core_mapCore_self h]

/-! ### WALK -/

theorem flush_done {p : BufRec → Bool} {act : StallAct} (h : q.st.publish q.cur.core q.cur.ctx p = (s1, true)) : q.flush p act = (s1, none) := by
  unfold Bun.flush
  rw [h]
  rfl

/-- The walk that a descriptor describes, with its place on a stack (R265). -/
def describedWalk (q : Bun) (at_ stack : Nat) (w : Nat → Nat) : Walk :=
  { core := q.cur.core, ctx := q.cur.ctx, gang := q.strand.gang, member := q.strand.member, slot := q.strand.slot,
    key := q.share.dseed, start := bits (w 0) 63 32, hops := bits (w 0) 31 24, logit := (w 0).testBit 17, toRing := (w 0).testBit 16,
    tag := w 0 % 65536, rowptr := w 1 % 2 ^ 56, colidx := w 2 % 2 ^ 56, weight := w 3 % 2 ^ 56,
    temp := BitVec.ofNat 32 (bits (w 4) 63 32), walkid := w 4 % 2 ^ 32, queue := bits (w 5) 4 3, target := w 5 % 8, stack := stack,
    vertex := bits (w 0) 63 32, desc := at_ }

/-- With its descriptor sound and accepted, its stack and its queue free and its stores sent, WALK enters the walk described (R265). -/
theorem walk_enters (h : s.AtSlot (.walk a) q) (ha : q.regAddrStop a 1 64 64 = none) (ht : q.badWord (q.val a).toNat 64 = none) :
    let desc := q.spadBytes (q.val a).toNat 64
    let w := descWord desc
    let stack := q.st.walkStack q.cur.core q.slotNo (w 1 % 2 ^ 56 + 8 * bits (w 0) 63 32)
    q.walkRefused desc = false →
    q.share.bad.contains (if (w 0).testBit 16 then 32 + 2 * (w 5 % 8) else 64 + w 5 % 8) = false →
    (q.st.walks.filter (fun e => e.2.stack == stack && !e.2.finished)).length < 512 →
    q.st.publish q.cur.core q.cur.ctx (fun _ => true) = (s1, true) →
    ((w 0).testBit 16 = false → (⟨s1, q.cur⟩ : Bun).creditStop (bits (w 5) 4 3) (bits (w 0) 31 24 + 1) = none ∧
      ((Tab.find? q.share.streams (w 5 % 8)).map (·.elems.length)).getD 0 + q.st.inFlight q.cur.core (w 5 % 8) + bits (w 0) 31 24 + 1 ≤ 65535) →
    exec (.walk a) s = .next (q.joined (.walk a) (q.withState (fun _ =>
      { s1 with nextReq := s1.nextReq + 1, walks := Tab.put s1.walks (s1.nextReq + 1) (describedWalk q (q.val a).toNat stack w) }))) := by
  intro desc w stack hr hg hs hp hc
  rw [exec_walk]
  refine runSlot_joined h ?_
  extract_lets queue target hops toRing address torn b t stack1 busy flush after landed
  have hb : b = q := by
    have hread : q.readRegisters [if toRing then 32 + 2 * target else 64 + target] = q :=
      readRegisters_good _ _ (List.filter_eq_nil_iff.2 fun x hx => by rw [List.mem_singleton.1 hx, hg]; exact Bool.false_ne_true)
    unfold b
    rw [hread, ite_self]
  clear_value b
  subst hb
  have hf : flush = (s1, none) := flush_done hp
  clear_value flush
  subst hf
  rw [show torn = none from ht]
  refine check_ok.2 ⟨firstStop_all_none _ ?_, rfl⟩
  simp only [List.mem_cons, List.not_mem_nil, or_false, forall_eq_or_imp, forall_eq]
  refine ⟨ha, stopIf_false ?_, stopIf_false (decide_eq_false (Nat.not_le.2 hs)), trivial, ?_, stopIf_false ?_⟩
  · rw [hr, Bool.and_false]
  · rw [show address = none from ha]
    cases hring : toRing with
    | true => rfl
    | false => exact (hc hring).1
  · have hlanded : landed = ((Tab.find? b.share.streams target).map (·.elems.length)).getD 0 := by
      unfold landed
      cases Tab.find? b.share.streams target <;> rfl
    cases hring : toRing with
    | true => rfl
    | false =>
      rw [hlanded]
      exact decide_eq_false (Nat.not_lt.2 (hc hring).2)

/-! ### COLL -/

/-- A graph that is loaded and whose number is one of 16 bits is no illegal operand (R266). -/
theorem collGraph_good {g : Nat} (hg : g < 65536) (hl : (Tab.find? s.coll.graphs g).isSome = true) :
    (decide (65536 ≤ g) || (Tab.find? s.coll.graphs g).isNone) = false := by
  rw [decide_eq_false (by omega), Option.isNone_eq_false_iff.2 hl]
  rfl

theorem coll_holds (h : s.AtSlot (.coll a b) q) (ha : q.regAddrStop b 1 64 64 = none) (hb : q.badWord (q.val b).toNat 64 = none)
    (hg : (q.val a).toNat < 65536) (hl : (Tab.find? q.st.coll.graphs (q.val a).toNat).isSome = true)
    (hf : ∀ r < 4, q.st.frozenTrap q.cur.core r q.strand = none) (hu : q.cur.unsent = false)
    (hw : q.st.writerDone q.strand.gang q.strand.member q.strand.slot (q.cur.begun + 1) 3 = true) :
    exec (.coll a b) s = .next (q.joined (.coll a b) (q.addHold (.coll (q.val a).toNat (q.val b).toNat q.cur.pc q.st.now))) := by
  rw [exec_coll]
  refine runSlot_joined h ?_
  dsimp only
  rw [hb]
  refine check_ok.2 ⟨firstStop_all_none _ fun e he => ?_, rfl⟩
  simp only [List.mem_append, List.mem_cons, List.not_mem_nil, or_false] at he
  rcases he with ((rfl | rfl) | he) | rfl
  · exact ha
  · exact stopIf_false (collGraph_good hg hl)
  · exact reports_none hf e he
  · exact writerStop_none hu hw

/-- The parameters' uncorrectable word is a trap after the bundle (R359). -/
theorem coll_torn {e : Nat} (h : s.AtSlot (.coll a b) q) (ha : q.regAddrStop b 1 64 64 = none) (hg : (q.val a).toNat < 65536)
    (hl : (Tab.find? q.st.coll.graphs (q.val a).toNat).isSome = true) (hb : q.badWord (q.val b).toNat 64 = some e) :
    exec (.coll a b) s = .next (q.joined (.coll a b) (q.addDue { cause := 0x0D, addr := BitVec.ofNat 64 e })) := by
  rw [exec_coll]
  refine runSlot_joined h ?_
  dsimp only
  rw [hb]
  refine check_ok.2 ⟨firstStop_all_none _ ?_, rfl⟩
  simp only [List.mem_cons, List.not_mem_nil, or_false, forall_eq_or_imp, forall_eq]
  exact ⟨ha, stopIf_false (collGraph_good hg hl)⟩

/-! ### LPROBE -/

section
variable {pa off : Nat} (h : s.AtSlot (.lprobe d a) q) (ha : q.regAddrStop a 0 1 1 = none) (hf : q.core.isFrozen 0 = false)
  (hc : q.creditStop 0 1 = none) (ht : q.st.translate q.cur.core q.slotNo (q.val a).toNat .load = (s1, .ok pa)) (hw : q.probeWaits pa = false)
include h ha hf hc ht hw

/-- LPROBE of a line of this module gives its state word (R191, R267). -/
theorem lprobe_local (hp : s1.place pa = .local_ off) : exec (.lprobe d a) s = .next (q.joined (.lprobe d a)
    ((q.withState (fun _ => s1)).writeReg d (BitVec.ofNat 64 (((s1.cluster (homeCluster off)).find (off / 128)).elim 0 L2Line.stateWord)) 1)) := by
  rw [exec_lprobe]
  refine runSlot_joined h ?_
  dsimp only
  rw [ha, ht, hf, hc]
  dsimp only
  rw [hw, hp]
  rfl

variable {m : Nat} (hp : s1.place pa = .remote m off)
include hp

/-- Until another module has answered, LPROBE of a line of it stalls its bundle, and the probe is sent (R73). -/
theorem lprobe_unanswered (hn : q.strand.answer = none) : ∃ k l, s.cursor = some k ∧ exec (.lprobe d a) s = .next { s with cursor := some ({ k with
    dests := k.dests ++ l, verdict := .stall .engine (.probe m off (s1.slotOwner q.slotNo)) } : Cursor) } := by
  rw [exec_lprobe]
  refine runSlot_stalled h ?_
  dsimp only
  rw [ha, ht, hf, hc]
  dsimp only
  rw [hw, hp, hn]
  rfl

variable {st v : Nat} (hn : q.strand.answer = some (st, v))
include hn

theorem lprobe_answered (hs : st < 16) : exec (.lprobe d a) s = .next (q.joined (.lprobe d a)
    ((q.withState (fun _ => s1)).writeReg d (BitVec.ofNat 64 v) 1)) := by
  rw [exec_lprobe]
  refine runSlot_joined h ?_
  dsimp only
  rw [ha, ht, hf, hc]
  dsimp only
  rw [hw, hp, hn]
  dsimp only
  rw [if_neg (show ¬ 16 ≤ st by omega)]
  refine check_ok.2 ⟨rfl, ?_⟩
  rw [hn]
  rfl

/-- An answer of 16 and a sub-cause is a translation trap (R335). -/
theorem lprobe_faulted (hs : 16 ≤ st) : exec (.lprobe d a) s = s.trapped { cause := 7, sub := st - 16, addr := q.val a } := by
  rw [exec_lprobe]
  refine runSlot_trapped h ?_
  dsimp only
  rw [ha, ht, hf, hc]
  dsimp only
  rw [hw, hp, hn]
  dsimp only
  rw [if_pos hs]
  exact check_error rfl

end

/-! ### TSREAD -/

theorem tsread_joined (h : s.AtSlot (.tsread d) q) : exec (.tsread d) s = .next (q.joined (.tsread d) (q.writeReg d (BitVec.ofNat 64 q.st.now) 8)) :=
  (exec_tsread d s).trans (scalar_joined h)

/-- Settles O41: each instruction joins its bundle where its checks pass, and LPROBE of another module's line stalls until that
module has answered. -/
theorem streamsRingsWalks : Obligations.StreamsRingsWalks := by
  intro d a b elemsz queue ring reg count pa off m st v s s1 q n bound k r legal t c desc w hops toRing wq stack landed walk unfrozen word
  refine ⟨sbind_joined, sunbind_joined, fun h hl hw => ?_, fun h hl hw => ?_, fun hz hh ht hs => ⟨fun hk => ?_, fun hk => ?_, fun hcores => ?_⟩,
    fun h hl => ?_, fun h ha hb hr hg hs hp hc => walk_enters h ha hb hr hg hs hp hc,
    fun h ha hb hg hl hf hu hw => coll_holds h ha hb hg hl hf hu hw, fun e h ha hg hl hb => coll_torn h ha hg hl hb,
    fun h ha hf hc ht hw => ⟨fun hp => lprobe_local h ha hf hc ht hw hp, fun hp => ⟨fun hn => lprobe_unanswered h ha hf hc ht hw hp hn,
      fun hn hs => lprobe_answered h ha hf hc ht hw hp hn hs, fun hn hs => lprobe_faulted h ha hf hc ht hw hp hn hs⟩⟩, tsread_joined⟩
  · exact (exec_ringp ..).trans (runSlot_joined h (ringMove_joins rfl rfl hl hw))
  · exact (exec_ringa ..).trans (runSlot_joined h (ringMove_joins rfl rfl hl hw))
  · have hocc := pushed_occupancy hz hh ht hk
    exact ⟨hocc, hocc ▸ hk⟩
  · have hocc := popped_occupancy hz hh ht hs hk
    exact ⟨hocc, hocc ▸ (Nat.sub_le ..).trans hs⟩
  · exact ⟨applyShare_push_rings hcores, applyShare_pop_rings hcores⟩
  · exact (exec_ringp ..).trans (runSlot_trapped h (ringMove_refused rfl rfl hl))

end Sys2Proof.Proofs
end

section
/-! PHASE, PUBLISH, VWAIT, FENCE, DRAIN and COPY as slots of a bundle (R55, R204, R205, R215, R216, R219, R250 to R256). -/
namespace Sys2Proof.Proofs
open Sys2Proof Sys2Proof.Machine Sys2Proof.Laws

theorem check_nil {q : Bun} {f : Bun → Bun} : q.check [] f = .ok (f q) := rfl

variable {a d g : BitVec 6} {mask : BitVec 4} {kind : BitVec 1} {n : BitVec 3} {scope : BitVec 3} {v : Vitrine} {s s1 : State} {q : Bun}

/-! ### PHASE and PUBLISH -/

theorem phase_nothing (h : s.AtSlot (.phase 0#3) q) : exec (.phase 0#3) s = .next (q.joined (.phase 0#3) q) :=
  (exec_phase ..).trans (runSlot_joined h check_nil)

/-- PHASE holds its bundle once no store fault of the strand is due and its earlier accesses are done (R205, R250). -/
theorem phase_holds (h : s.AtSlot (.phase scope) q) (hs : scope ≠ 0#3) (hf : ∀ r < 4, q.st.frozenTrap q.cur.core r q.strand = none)
    (hu : q.cur.unsent = false) (hw : q.st.writerDone q.strand.gang q.strand.member q.strand.slot (q.cur.begun + 1) scope.toNat = true) :
    exec (.phase scope) s = .next (q.joined (.phase scope) (q.addHold (.phase scope.toNat))) := by
  rw [exec_phase]
  refine runSlot_joined h ((if_neg hs).trans ?_)
  refine check_ok.2 ⟨firstStop_all_none _ fun e he => ?_, rfl⟩
  rcases List.mem_append.1 he with he | he
  · exact reports_none hf e he
  · obtain rfl := List.mem_singleton.1 he
    unfold Bun.writerWait
    simp [hu, hw, stopIf]

section
variable {i : Nat} (hi : (q.val a).toNat = i) (hn : i < 8192) (hv : Tab.find? q.st.vitrines i = some v)
  (ho : v.owner = q.st.gangOwner q.strand.gang)
include hi hn hv ho

/-- An index names its vitrine for the owner of that entry (R251, R439). -/
theorem vitrine_of : q.vitrine (q.val a) = some v := by
  unfold Bun.vitrine
  rw [hi, if_neg (by omega), hv]
  exact if_pos ho

theorem publish_holds (h : s.AtSlot (.publish a) q) (hf : ∀ r < 4, q.st.frozenTrap q.cur.core r q.strand = none) (hu : q.cur.unsent = false)
    (hw : q.st.writerDone q.strand.gang q.strand.member q.strand.slot (q.cur.begun + 1) 3 = true)
    (hc : q.st.copying q.strand (fun k => k.into.contains i) = false) (hr : ∀ o ∈ q.core.mq, o.id ≤ q.cur.begun → o.routesTo i = false) :
    exec (.publish a) s = .next (q.joined (.publish a) (q.addHold (.publish i))) := by
  have hrouted : (q.core.mq.any (fun o => o.id ≤ q.cur.begun && o.routesTo i)) = false :=
    List.any_eq_false.2 fun o ho => by
      simpa using hr o ho
  rw [exec_publish]
  refine runSlot_joined h ?_
  dsimp only
  rw [vitrine_of hi hn hv ho, hi]
  refine check_ok.2 ⟨firstStop_all_none _ fun e he => ?_, rfl⟩
  simp only [List.mem_append, List.mem_cons, List.not_mem_nil, or_false] at he
  rcases he with (rfl | he) | rfl | rfl
  · rfl
  · exact reports_none hf e he
  · exact writerStop_none hu hw
  · exact stopIf_false (by rw [hc, hrouted]; rfl)

/-! ### VWAIT -/

/-- VWAIT of an entry whose generation has reached the one waited for (R216, R252). -/
theorem vwait_reached (h : s.AtSlot (.vwait d a g) q) (ha : q.strand.answer = none) (hr : v.removing = false)
    (hg : (v.gen - (q.val g).setWidth 32).toNat < 2 ^ 31) : exec (.vwait d a g) s = .next (q.joined (.vwait d a g)
      (((q.withState (fun s => s.readerHalf q.cur.core 3)).writeReg d (BitVec.ofNat 64 v.front) 1).writeReg (d + 1) (v.gen.setWidth 64) 1)) := by
  rw [exec_vwait]
  refine runSlot_joined h ?_
  dsimp only
  rw [ha, vitrine_of hi hn hv ho]
  dsimp only
  rw [if_neg (by rw [hr]; exact Bool.false_ne_true)]
  exact check_one (stopIf_false (by rw [decide_eq_true hg]; rfl))

end

/-- A VWAIT held while its entry was removed (R439). -/
theorem vwait_removed (h : s.AtSlot (.vwait d a g) q) (ha : q.strand.answer.isSome = true) :
    exec (.vwait d a g) s = .next (q.joined (.vwait d a g) ((q.writeReg d 0 1).writeReg (d + 1) 0 1)) := by
  obtain ⟨w, hw⟩ := Option.isSome_iff_exists.1 ha
  rw [exec_vwait]
  refine runSlot_joined h ?_
  dsimp only
  rw [hw]
  rfl

/-! ### FENCE and DRAIN -/

section
variable (h : s.AtSlot (.fence d mask kind) q) (hf : ∀ x ∈ fenceQueues mask, q.st.frozenTrap q.cur.core x q.strand = none)
  (hw : q.st.fenceWaits q.cur.core q.strand (fenceQueues mask) (kind == 1#1) q.cur.begun = false)
include h hf hw

/-- FENCE once no queue that it names is frozen and the earlier accesses that it waits for are done (R253). -/
theorem fence_joined : exec (.fence d mask kind) s = .next (q.joined (.fence d mask kind)
    (if q.st.fenceWaits q.cur.core q.strand (fenceQueues mask) (kind == 1#1) q.st.nextReq
      then q.addHold (.fence d.toNat (fenceQueues mask) (kind == 1#1) q.st.nextReq)
      else (q.writeReg d (BitVec.ofNat 64 (q.core.pathWord ((fenceQueues mask).headD 0))) 1).withState (fun s => s.resetPaths q.cur.core (fenceQueues mask)))) := by
  rw [exec_fence]
  refine runSlot_joined h (check_ok.2 ⟨firstStop_all_none _ fun e he => ?_, rfl⟩)
  rcases List.mem_append.1 he with he | he
  · obtain ⟨x, hx, rfl⟩ := List.mem_map.1 he
    exact hf x hx
  · exact (List.mem_singleton.1 he).trans (stopIf_false hw)

/-- For accesses of its own bundle FENCE waits after issue (R249). -/
theorem fence_holds (hl : q.st.fenceWaits q.cur.core q.strand (fenceQueues mask) (kind == 1#1) q.st.nextReq = true) :
    exec (.fence d mask kind) s = .next (q.joined (.fence d mask kind) (q.addHold (.fence d.toNat (fenceQueues mask) (kind == 1#1) q.st.nextReq))) := by
  rw [fence_joined h hf hw, if_pos hl]

/-- With none FENCE gives the path counters of its first queue, and clears those of all (R253). -/
theorem fence_counts (hl : q.st.fenceWaits q.cur.core q.strand (fenceQueues mask) (kind == 1#1) q.st.nextReq = false) :
    exec (.fence d mask kind) s = .next (q.joined (.fence d mask kind)
      ((q.writeReg d (BitVec.ofNat 64 (q.core.pathWord ((fenceQueues mask).headD 0))) 1).withState (fun s => s.resetPaths q.cur.core (fenceQueues mask)))) := by
  rw [fence_joined h hf hw, hl, if_neg Bool.false_ne_true]

end

theorem drain_holds (h : s.AtSlot .drain q) : exec .drain s = .next (q.joined .drain (q.addHold (.drain q.cur.pc))) :=
  (exec_drain s).trans (runSlot_joined h check_nil)

/-! ### COPY -/

/-- COPY of a sound descriptor that is not refused, whose span is free, with room for it and the records in its ranges sent (R55, R204,
R254, R255). -/
theorem copy_enters (h : s.AtSlot (.copy a n) q) (ha : q.regAddrStop a 1 64 64 = none) (ht : q.badWord (q.val a).toNat 64 = none) :
    let desc := q.spadBytes (q.val a).toNat 64
    let copy := copyOf desc (s1.nextReq + 1) q.strand.gang q.strand.member q.strand.slot n.toNat
    let range := copy.sourceRange
    let other := copy.destRange
    let inside := fun (r : BufRec) => inRange copy.sspace range r.sector || inRange copy.dspace other r.sector
    let into := q.st.vitrines.filter (fun v => copy.dspace == 0 && v.2.owner == q.st.gangOwner q.strand.gang &&
      decide (other.1 < v.2.shadow + v.2.length) && decide ((v.2.shadow : Int) < other.2))
    let live : Span := { start := BitVec.ofInt 64 range.1 &&& 0xFFFFFFFFFFFFFF#64, live := true, len := (range.2 - range.1).toNat }
    let entered := { s1 with nextReq := s1.nextReq + 1 }.mapCore q.cur.core (fun k =>
      { k with copies := k.copies ++ [{ copy with into := Tab.keys into, limit := vitrinesEnd into, slotOwner := q.slotNo }],
               share := { k.share with spans := Tab.set k.share.spans {} n.toNat live } })
    copyRefused desc = false → (Tab.get q.share.spans {} n.toNat).live = false → q.core.copies.length < 16 →
    q.st.publish q.cur.core q.cur.ctx inside = (s1, true) → exec (.copy a n) s = .next (q.joined (.copy a n) (q.withState (fun _ => entered))) := by
  intro desc copy range other inside into live entered hr hl hs hp
  rw [exec_copy]
  refine runSlot_joined h ?_
  extract_lets span off desc1 t copy1 src dst into1 touched flush address live1
  have hf : flush = (s1, none) := flush_done hp
  clear_value flush
  subst hf
  rw [show q.badWord off 64 = none from ht]
  refine check_ok.2 ⟨firstStop_all_none _ ?_, rfl⟩
  simp only [List.mem_cons, List.not_mem_nil, or_false, forall_eq_or_imp, forall_eq]
  refine ⟨ha, stopIf_false ?_, stopIf_false ?_, trivial⟩
  · rw [hr, Bool.and_false]
  · rw [hl, decide_eq_false (by omega)]
    rfl

/-- A COPY whose descriptor has an uncorrectable word (R359). -/
theorem copy_torn {e : Nat} (h : s.AtSlot (.copy a n) q) (ha : q.regAddrStop a 1 64 64 = none) (ht : q.badWord (q.val a).toNat 64 = some e) :
    exec (.copy a n) s = .next (q.joined (.copy a n) (q.addDue { cause := 0x0D, addr := BitVec.ofNat 64 e })) := by
  rw [exec_copy]
  refine runSlot_joined h ?_
  dsimp only
  rw [ht]
  exact check_one ha

/-- Settles O39: each instruction joins its bundle, or holds it, where its checks pass. -/
theorem phasesAndCopies : Obligations.PhasesAndCopies := by
  intro scope a d g mask kind n v s s1 q t c unfrozen done i queues waits desc copy range other inside into live entered
  refine ⟨fun h => ⟨fun hs => ?_, fun hs hf hd => phase_holds h hs hf hd.1 hd.2⟩,
    fun h hn hv ho hf hd hc hr => publish_holds rfl hn hv ho h hf hd.1 hd.2 hc hr,
    fun h ha hn hv ho hr hg => vwait_reached rfl hn hv ho h ha hr hg, vwait_removed, fun h hf hw hl => ?_, fun h hf hw hl => ?_, drain_holds,
    fun h ha ht hr hl hs hp => copy_enters h ha ht hr hl hs hp, fun e h ha ht => copy_torn h ha ht⟩
  · subst hs
    exact phase_nothing h
  · exact fence_holds h hf hw hl
  · exact fence_counts h hf hw hl

end Sys2Proof.Proofs
end

section
/-! Rounding to nearest and the scalar floating-point instructions (R84, R90, R91, R114 to R116, R351, R352). -/
namespace Sys2Proof.Proofs
open Sys2Proof Sys2Proof.Machine Sys2Proof.Laws

/-! ### Rounding to nearest -/

/-- A magnitude rounded to nearest in units of 2^0 is itself. -/
theorem roundUnits_whole (neg : Bool) (m : Nat) (q : Int) : roundUnits neg m q false q 0 = (m, false) := by
  simp [roundUnits]

/-- Rounded to nearest in units of 2^(k+1), a magnitude goes up where its rest exceeds half a unit, and at a tie where the count
below it is odd (R90). -/
theorem roundUnits_nearest (neg : Bool) (m k : Nat) (q : Int) :
    roundUnits neg m (q - (k + 1 : Nat)) false q 0 =
      (if 2 ^ k < m % 2 ^ (k + 1) ∨ m % 2 ^ (k + 1) = 2 ^ k ∧ m / 2 ^ (k + 1) % 2 = 1 then m / 2 ^ (k + 1) + 1 else m / 2 ^ (k + 1),
        decide (m % 2 ^ (k + 1) ≠ 0)) := by
  have hle : ¬ q ≤ q - (k + 1 : Nat) := by omega
  have hs : (q - (q - (k + 1 : Nat))).toNat = k + 1 := by omega
  have hhalf : 2 ^ (k + 1) / 2 = 2 ^ k := by omega
  unfold roundUnits
  simp only [if_neg hle, hs, hhalf, Nat.shiftRight_eq_div_pow]
  simp

/-- Settles O8: by whole units there is nothing to round; by units of 2^(k+1) the rest is compared with 2^k, half of one. -/
theorem roundNearestEven : Obligations.RoundNearestEven := by
  intro neg m k q
  cases k with
  | zero =>
    rw [show q - ((0 : Nat) : Int) = q by omega, roundUnits_whole]
    refine ⟨by omega, by omega, fun h => ?_, by simp⟩
    omega
  | succ k =>
    rw [roundUnits_nearest]
    have hm := Nat.div_add_mod m (2 ^ (k + 1))
    have hr := Nat.mod_lt m (Nat.two_pow_pos (k + 1))
    rw [Nat.mul_comm] at hm
    have hk : 2 ^ (k + 1) = 2 * 2 ^ k := by rw [Nat.pow_succ, Nat.mul_comm]
    generalize m / 2 ^ (k + 1) = n at hm ⊢
    generalize m % 2 ^ (k + 1) = r at hm hr ⊢
    generalize 2 ^ (k + 1) = u at hm hr hk ⊢
    generalize 2 ^ k = v at *
    dsimp only
    rw [decide_eq_false_iff_not, not_not]
    split
    next h =>
      rw [Nat.add_mul, Nat.one_mul]
      generalize n * u = p at *
      refine ⟨by omega, by omega, by omega, by omega⟩
    next h =>
      generalize n * u = p at *
      refine ⟨by omega, by omega, by omega, by omega⟩

/-! ### NaN operands -/

theorem isNan_iff {v : FVal} : v.isNan = true ↔ ∃ t, v = .nan t := by
  cases v <;> simp [FVal.isNan]

theorem add_nan_left (t : Bool) (v : FVal) : ((FVal.nan t).add v).1 = .nan false := by cases v <;> rfl
theorem add_nan_right (t : Bool) (v : FVal) : (v.add (.nan t)).1 = .nan false := by cases v <;> rfl
theorem mul_nan_left (t : Bool) (v : FVal) : ((FVal.nan t).mul v).1 = .nan false := by cases v <;> rfl
theorem mul_nan_right (t : Bool) (v : FVal) : (v.mul (.nan t)).1 = .nan false := by cases v <;> rfl
theorem compare_nan_left (t : Bool) (v : FVal) : (FVal.nan t).compare v = none := by cases v <;> rfl
theorem compare_nan_right (t : Bool) (v : FVal) : v.compare (.nan t) = none := by cases v <;> rfl

section
variable {u v : FVal}

theorem add_isNan (h : u.isNan ∨ v.isNan) : (u.add v).1 = .nan false := by
  rcases h with h | h <;> obtain ⟨t, rfl⟩ := isNan_iff.1 h
  · exact add_nan_left ..
  · exact add_nan_right ..

theorem mul_isNan (h : u.isNan ∨ v.isNan) : (u.mul v).1 = .nan false := by
  rcases h with h | h <;> obtain ⟨t, rfl⟩ := isNan_iff.1 h
  · exact mul_nan_left ..
  · exact mul_nan_right ..

theorem fma_isNan (w : FVal) (h : u.isNan ∨ v.isNan) : (u.fma v w).1 = .nan false :=
  add_isNan (.inl (by rw [mul_isNan h]; rfl))

theorem compare_isNan (h : u.isNan ∨ v.isNan) : u.compare v = none := by
  rcases h with h | h <;> obtain ⟨t, rfl⟩ := isNan_iff.1 h
  · exact compare_nan_left ..
  · exact compare_nan_right ..

theorem neg_isNan : v.neg.isNan = v.isNan := by cases v <;> rfl

end

/-- A NaN is encoded as the default NaN of a format, whose code stands as 0 where the format has none (R84). -/
theorem encode_nan {f : Fmt} (hf : f.hasNan = false → f.nanCode = 0) {v : FVal} {t : Bool} (hv : v = .nan t) (rm : Nat) (sat : Bool) :
    (f.encode v rm sat).1 = f.nanCode := by
  cases h : f.hasNan <;> simp [Fmt.encode, hv, h, hf]

/-- The scalar formats that have no NaN code give 0 for one. -/
theorem scalarFmt_nanCode (ty : BitVec 4) : (scalarFmt ty).hasNan = false → (scalarFmt ty).nanCode = 0 := by
  revert ty; decide

section
variable {f : Fmt} (hf : f.hasNan = false → f.nanCode = 0) {x y : Nat}
include hf

theorem fmtFma_nan_third (x y : Nat) {z : Nat} (h : (f.decode z).isNan = true) : (f.fma x y z).1 = f.nanCode :=
  encode_nan hf (add_isNan (.inr h)) ..

variable (h : (f.decode x).isNan ∨ (f.decode y).isNan)
include h

theorem fmtAdd_nan : (f.add x y).1 = f.nanCode := encode_nan hf (add_isNan h) ..
theorem fmtSub_nan : (f.sub x y).1 = f.nanCode := encode_nan hf (add_isNan (by rwa [neg_isNan])) ..
theorem fmtMul_nan : (f.mul x y).1 = f.nanCode := encode_nan hf (mul_isNan h) ..
theorem fmtFma_nan (z : Nat) : (f.fma x y z).1 = f.nanCode := encode_nan hf (fma_isNan _ h) ..

omit hf

theorem least_nan (g : Bool) : (f.least g x y).1 = f.nanCode := by
  have hn : ((f.decode x).isNan || (f.decode y).isNan) = true := Bool.or_eq_true_iff.2 h
  simp only [Fmt.least, hn, if_true]

/-- A comparison with a NaN holds for no condition that compares (R115). -/
theorem test_nan {cond : Nat} (ht : (f.test cond x y).1 = true) : cond ≠ 0 ∧ cond ≠ 2 ∧ cond ≠ 3 := by
  unfold Fmt.test at ht
  simp only [compare_isNan h] at ht
  refine ⟨?_, ?_, ?_⟩ <;> rintro rfl <;> simp at ht

end

/-! ### Integers as bit vectors -/

theorem wrap_eq_ofInt (w : Nat) (v : Int) : wrap w v = (BitVec.ofInt w v).toNat := (BitVec.toNat_ofInt v).symm

theorem sint_eq_toInt (w v : Nat) : sint w v = (BitVec.ofNat w v).toInt := by
  unfold sint
  rw [BitVec.toInt_eq_toNat_cond, BitVec.toNat_ofNat]
  cases w with
  | zero => simp [Nat.mod_one]
  | succ w =>
    have hw : 2 ^ (w + 1) = 2 * 2 ^ w := by rw [Nat.pow_succ, Nat.mul_comm]
    simp only [Nat.succ_ne_zero, if_false, Nat.add_sub_cancel]
    split <;> split <;> omega

/-- The number that a code stands for under an integer type has the code's low bits (R105). -/
theorem ofInt_typeInt (ty v : Nat) : BitVec.ofInt (typeWidth ty) (typeInt ty v) = BitVec.ofNat (typeWidth ty) v := by
  unfold typeInt
  split
  · rw [sint_eq_toInt, BitVec.ofInt_toInt]
  · rw [BitVec.ofInt_natCast]
    exact BitVec.eq_of_toNat_eq (by simp)

theorem wrap_typeInt (ty v : Nat) : wrap (typeWidth ty) (typeInt ty v) = v % 2 ^ typeWidth ty := by
  rw [wrap_eq_ofInt, ofInt_typeInt, BitVec.toNat_ofNat]

theorem typeWidth_le (ty : Nat) : typeWidth ty ≤ 64 := by
  unfold typeWidth; split <;> decide

/-- A code extended to 64 bits by its type, as a number and as a word (R105). -/
theorem ofNat_typeExtend (ty : BitVec 4) (v : Nat) :
    BitVec.ofNat 64 (typeExtend ty.toNat v) = extended ty (BitVec.ofNat 64 v) := by
  have hv : (BitVec.ofNat 64 v).setWidth (typeWidth ty.toNat) = BitVec.ofNat _ v :=
    BitVec.setWidth_ofNat_of_le (typeWidth_le _) _
  have hw : wrap (typeWidth ty.toNat) v = v % 2 ^ typeWidth ty.toNat := by
    rw [wrap_eq_ofInt, BitVec.ofInt_natCast, BitVec.toNat_ofNat]
  unfold typeExtend extended
  rw [hv, hw]
  dsimp only
  split
  · rw [sext64, sint_eq_toInt, wrap_eq_ofInt, BitVec.ofNat_toNat, BitVec.setWidth_eq, BitVec.signExtend]
    congr 2
    exact BitVec.eq_of_toNat_eq (by simp)
  · exact BitVec.eq_of_toNat_eq (by simp)

/-! ### Shadow units -/

/-- Where nothing strikes, a unit and its shadow agree (log 48). -/
theorem mainResult_unstruck {s : State} (h : s.strikes = []) (c unit : Nat) (f : Fmt) (place lane bit code : Nat) :
    s.mainResult c unit f place lane bit code = (code, []) := by
  unfold State.mainResult
  rw [h]
  rfl

theorem diverges_iff (u v : Int) : diverges (some u) (some v) = true ↔ u + 2 < v ∨ v + 2 < u := by
  simp only [diverges, decide_eq_true_eq]
  omega

/-! ### FCVT -/

theorem floatOf_int {ty : Nat} (h : ty < 8) : floatOf ty = none := by
  interval_cases ty <;> rfl

/-- Between equal integer types the low bits pass through (R91). -/
theorem convert_same_int {ty : Nat} (h : ty < 8) (rm x : Nat) : convert ty ty rm x = (x % 2 ^ typeWidth ty, 0) := by
  have hne : ty ≠ 14 := by omega
  simp [convert, convertCode, floatOf_int h, hne, wrap_typeInt]

section
variable {d a : BitVec 6} {sty ty : BitVec 4} {rm : BitVec 2} {s : State} {q : Bun} (h : s.AtSlot (.fcvt d a sty ty rm) q)
include h

theorem fcvt_float {g : Fmt} (hg : floatOf ty.toNat = some g) : exec (.fcvt d a sty ty rm) s = .next (q.joined (.fcvt d a sty ty rm)
    (q.writeShadowed d g (convert sty.toNat ty.toNat rm.toNat (q.val a).toNat) 4)) := by
  rw [exec_fcvt, execFcvt, scalar_joined h, hg]

theorem fcvt_other (hg : floatOf ty.toNat = none) :
    let r := convert sty.toNat ty.toNat rm.toNat (q.val a).toNat
    exec (.fcvt d a sty ty rm) s = .next (q.joined (.fcvt d a sty ty rm)
      (q.writeFloat d (if ty.toNat < 8 then typeExtend ty.toNat r.1 else r.1, r.2) 4)) := by
  rw [exec_fcvt, execFcvt, scalar_joined h, hg]

end

/-- Settles O7: each instruction is its unit's result joined to the bundle, and the NaN rules are those of the exact values. -/
theorem scalarFloat : Obligations.ScalarFloat := by
  intro d a b c ty sty cond rm s q f x y z writes main shadowed nan r
  have hf : f.hasNan = false → f.nanCode = 0 := scalarFmt_nanCode ty
  refine ⟨⟨fun h => (exec_fadd ..).trans (scalar_joined h), fun h => (exec_fsub ..).trans (scalar_joined h),
      fun h => (exec_fmul ..).trans (scalar_joined h), fun h => (exec_ffma ..).trans (scalar_joined h),
      fun h => (exec_fmin ..).trans (scalar_joined h), fun h => (exec_fmax ..).trans (scalar_joined h),
      fun h => (exec_fcmp ..).trans (scalar_joined h)⟩,
    fun h => ⟨fmtAdd_nan hf h, fmtSub_nan hf h, fmtMul_nan hf h, fmtFma_nan hf h z, least_nan h false, least_nan h true, fun ht => ?_⟩,
    fmtFma_nan_third hf x y, fun g hg h => fcvt_float h hg, fun hg h => ?_, fun h g r => mainResult_unstruck h .., diverges_iff,
    fun u => ⟨rfl, rfl⟩, fun hi ht => ?_⟩
  · obtain ⟨h0, h2, h3⟩ := test_nan h ht
    exact ⟨fun e => h0 (by rw [e]; rfl), fun e => h2 (by rw [e]; rfl), fun e => h3 (by rw [e]; rfl)⟩
  · refine (fcvt_other h hg).trans ?_
    unfold Bun.writeFloat
    dsimp only
    rw [← ofNat_typeExtend, apply_ite (BitVec.ofNat 64)]
  · subst ht
    exact convert_same_int hi ..

end Sys2Proof.Proofs
end

section
/-! The elements that the vector slots write, each by a unit with a shadow, and VCVT, VDEQ and VQUANT (R94, R131, R139 to R141, R351). -/
namespace Sys2Proof.Proofs
open Sys2Proof Sys2Proof.Machine Sys2Proof.Laws

/-! ### Elements by shadowed units -/

/-- A chosen element's flags joined, or none. -/
theorem or_ite_flags {c : Prop} [Decidable c] (f x : Flags) : f ||| (if c then x else 0) = if c then f ||| x else f := by
  split
  · rfl
  · exact BitVec.or_zero

theorem elements_eq (q : Bun) (d : BitVec 6) (w : Nat) (k : BitVec 3) (bound : Nat) (f : Nat → Nat × Flags) :
    q.elements d w k bound f =
      (q.writeLanes d (packElems w ((List.range (4096 / w)).map fun e => if activeElem (q.pred k) w e then (f e).1 else elem (q.vec d) w e))
        (activeLanes (q.pred k) w) bound).raise
        ((List.range (4096 / w)).foldl (fun x e => if activeElem (q.pred k) w e then x ||| (f e).2 else x) 0) bound := by
  unfold Bun.elements allFlags
  simp only [List.map_map, List.foldl_map, Function.comp_def, apply_ite Prod.fst, apply_ite Prod.snd, or_ite_flags]

theorem spend_unstruck {s : State} (h : s.strikes = []) (c unit : Nat) (p : Nat → Bool) : s.spend c unit p = s := by
  have hf : s.strikes.filter (fun e => !(e.1 == c && e.2.1 == unit && p e.2.2.1)) = s.strikes := by rw [h]; rfl
  unfold State.spend
  rw [hf]

theorem shadowed_unstruck {b : Bun} (h : b.st.strikes = []) (unit field : Nat) (p : Nat → Bool) : b.shadowed unit field p [] = b := by
  have hw : b.withState (fun s => s.spend b.cur.core unit p) = b := by
    unfold Bun.withState
    dsimp only
    rw [spend_unstruck h]
  exact hw

theorem mainElem_unstruck {q : Bun} (h : q.st.strikes = []) (unit : Nat) (f : Option Fmt) (pos : Nat) (r : Nat × Flags) :
    (q.mainElem unit f pos r).2.2 = [] := by
  cases f with
  | none => rfl
  | some f => exact congrArg Prod.snd (mainResult_unstruck h ..)

/-- Where nothing strikes, there is nothing to report and no strike to spend, so shadowed elements are reported in every case. -/
theorem shadowedElements_eq {q : Bun} {unit : Nat} {d : BitVec 6} {w : Nat} {k : BitVec 3} {bound : Nat} {f : Nat → Nat × Flags × List Split}
    (hf : q.st.strikes = [] → ∀ e, (f e).2.2 = []) :
    q.shadowedElements unit d w k bound f =
      (q.elements d w k bound (fun e => ((f e).1, (f e).2.1))).shadowed unit d.toNat (fun lane => activeElem (q.pred k) w (lane * 32 / w))
        ((List.range (4096 / w)).flatMap (fun e => if activeElem (q.pred k) w e then (f e).2.2 else [])) := by
  unfold Bun.shadowedElements
  dsimp only
  split
  next h =>
    have hs : q.st.strikes = [] := List.isEmpty_iff.1 h
    have hl : (List.range (4096 / w)).flatMap (fun e => if activeElem (q.pred k) w e then (f e).2.2 else []) = [] :=
      List.flatMap_eq_nil_iff.2 fun e _ => by rw [hf hs, ite_self]
    rw [hl, shadowed_unstruck]
    rw [elements_eq, raise_st]
    exact hs
  next => rfl

/-- An instruction that gives its active elements by shadowed units writes them so. -/
theorem elementwiseShadowed_of {s : State} {q : Bun} {i : Instr} {d : BitVec 6} {k : BitVec 3} {w bound unit : Nat}
    {op : Nat → Nat × Flags × List Split} (hop : q.st.strikes = [] → ∀ e, (op e).2.2 = [])
    (hx : s.AtSlot i q → exec i s = .next (q.joined i (q.shadowedElements unit d w k bound op))) :
    ElementwiseShadowed s q i d k w bound unit op := by
  intro h
  rw [hx h, shadowedElements_eq hop, elements_eq]
  refine ⟨_, rfl, fun e he => ?_⟩
  rw [elem_packElems_range (Nat.mul_div_le 4096 w) he]
  split
  · rfl
  · exact elem_mod ..

/-! ### VCVT and VDEQ -/

theorem convertUnit_unsplit {main : Nat → Nat × Flags → Nat × Flags × List Split} (h : ∀ pos r, (main pos r).2.2 = []) (sty ty rm unit n x : Nat) :
    (convertUnit sty ty rm unit n x main).2.2 = [] := by
  refine List.flatMap_eq_nil_iff.2 fun r hr => ?_
  obtain ⟨e, -, rfl⟩ := List.mem_map.1 hr
  exact h ..

/-! ### VQUANT -/

theorem testBit_setBits (v lo n x i : Nat) :
    (setBits v lo n x).testBit i = if lo ≤ i ∧ i < lo + n then x.testBit (i - lo) else v.testBit i := by
  simp only [setBits, Nat.testBit_or, Nat.testBit_shiftLeft, Nat.testBit_shiftRight, Nat.testBit_mod_two_pow]
  by_cases h1 : lo ≤ i
  · by_cases h2 : i < lo + n
    · have h3 : i - lo < n := by omega
      have h4 : ¬ lo + n ≤ i := by omega
      have h5 : ¬ i < lo := by omega
      simp [h1, h2, h3, h4, h5]
    · have h3 : ¬ i - lo < n := by omega
      have h4 : lo + n ≤ i := by omega
      have h5 : ¬ i < lo := by omega
      simp [h1, h2, h3, h4, h5]
  · have h4 : ¬ lo + n ≤ i := by omega
    have h5 : i < lo := by omega
    simp [h1, h4, h5]

theorem byte_eq (v g : Nat) : bits v (8 * g + 7) (8 * g) = (v >>> (8 * g)) % 2 ^ 8 := by
  rw [bits, show 8 * g + 7 + 1 - 8 * g = 8 by omega]

/-- Byte `g` of a number once byte `n` of it is replaced. -/
theorem byte_setBits (v n x g : Nat) :
    bits (setBits v (8 * n) 8 x) (8 * g + 7) (8 * g) = if g = n then x % 2 ^ 8 else bits v (8 * g + 7) (8 * g) := by
  rw [byte_eq, byte_eq, ← apply_ite (· % 2 ^ 8)]
  refine Nat.eq_of_testBit_eq fun i => ?_
  simp only [Nat.testBit_mod_two_pow, Nat.testBit_shiftRight, testBit_setBits]
  by_cases hi : i < 8
  · by_cases hg : g = n
    · simp [hi, hg]
    · have hn : ¬ (8 * n ≤ 8 * g + i ∧ 8 * g + i < 8 * n + 8) := by omega
      simp [hi, hg, hn]
  · simp [hi]

/-- Byte `g` of a number once the bytes that `p` picks among the first `n` are replaced. -/
theorem byte_foldl_setBits (p : Nat → Bool) (x : Nat → Nat) (v n g : Nat) :
    bits ((List.range n).foldl (fun v g => if p g then setBits v (8 * g) 8 (x g) else v) v) (8 * g + 7) (8 * g) =
      if g < n ∧ p g = true then x g % 256 else bits v (8 * g + 7) (8 * g) := by
  induction n with
  | zero => simp
  | succ n ih =>
    rw [List.range_succ, List.foldl_append, List.foldl_cons, List.foldl_nil]
    by_cases hp : p n = true
    · rw [if_pos hp, byte_setBits, ih]
      by_cases hg : g = n
      · subst hg; simp [hp]
      · have : g < n + 1 ↔ g < n := by omega
        simp [hg, this]
    · rw [if_neg hp, ih]
      by_cases hg : g = n
      · subst hg; simp [hp]
      · have : g < n + 1 ↔ g < n := by omega
        simp [this]

/-- Settles O27: VCVT and VDEQ give their elements by shadowed units; VQUANT packs its groups' codes and sets their bytes of the scales. -/
theorem vectorConvert : Obligations.VectorConvert := by
  intro d a b c rm sty ty k bw half s q w wide unit f code scale group active
  refine ⟨elementwiseShadowed_of (fun hs _ => convertUnit_unsplit (fun _ _ => mainElem_unstruck hs ..) ..)
      fun h => (exec_vcvt ..).trans (scalar_joined h),
    elementwiseShadowed_of (fun hs _ => mainElem_unstruck hs ..) fun h => (exec_vdeq ..).trans (scalar_joined h),
    fun _ => rfl, fun h => ⟨_, _, (exec_vquant ..).trans (scalar_joined h), fun g hg => ⟨fun ha => ⟨?_, ?_⟩, fun ha => ⟨?_, ?_⟩⟩⟩⟩
  · rw [elem_packElems_range (by decide) hg, if_pos ha]
  · rw [byte_foldl_setBits, if_pos ⟨hg, ha⟩]
  · rw [elem_packElems_range (by decide) hg, if_neg (Bool.not_eq_true _ ▸ ha), elem_mod]
  · rw [byte_foldl_setBits, if_neg (fun hp => Bool.false_ne_true (ha.symm.trans hp.2))]

end Sys2Proof.Proofs
end

section
/-! VRED's trees and VSCAN's running combinations (R98, R99, R142, R143). -/
namespace Sys2Proof.Proofs
open Sys2Proof Sys2Proof.Machine Sys2Proof.Laws

/-! ### The tree of R98 for a sum -/

section
variable {op : Nat → Nat → Nat × Flags} {m : Nat} (hop : ∀ x y, (op x y).1 = (x + y) % m)

theorem pairLevel_length (op : Nat → Nat → Nat × Flags) (l : List Nat) : (pairLevel op l).1.length = (l.length + 1) / 2 := by
  fun_induction pairLevel op l with
  | case1 x y rest r t ih =>
    rw [List.length_cons, ih, List.length_cons, List.length_cons]
    omega
  | case2 l hl =>
    match l, hl with
    | [], _ => rfl
    | [x], _ => simp
    | x :: y :: rest, hl => exact absurd rfl (hl x y rest)

include hop

/-- One level of the tree keeps the sum, up to the modulus. -/
theorem pairLevel_sum (l : List Nat) : (pairLevel op l).1.sum ≡ l.sum [MOD m] := by
  fun_induction pairLevel op l with
  | case1 x y rest r t ih =>
    rw [List.sum_cons, List.sum_cons, List.sum_cons, ← Nat.add_assoc]
    refine Nat.ModEq.add ?_ ih
    rw [hop]
    exact Nat.mod_modEq ..
  | case2 l => exact Nat.ModEq.rfl

theorem pairLevel_lt {l : List Nat} (hl : ∀ x ∈ l, x < m) : ∀ x ∈ (pairLevel op l).1, x < m := by
  fun_induction pairLevel op l with
  | case1 x y rest r t ih =>
    rw [List.forall_mem_cons, List.forall_mem_cons] at hl
    obtain ⟨hx, hy, hr⟩ := hl
    refine List.forall_mem_cons.2 ⟨?_, ih hr⟩
    rw [hop]
    exact Nat.mod_lt _ (Nat.zero_lt_of_lt hx)
  | case2 l => exact hl

/-- The tree of a sum modulo m is the sum of the values modulo m (R98). -/
theorem pairTree_sum {n : Nat} {l : List Nat} (hn : l.length = 2 ^ n) (hl : ∀ x ∈ l, x < m) : (pairTree op n l).1 = l.sum % m := by
  induction n generalizing l with
  | zero =>
    obtain ⟨x, rfl⟩ := List.length_eq_one_iff.1 hn
    exact (Nat.mod_eq_of_lt (hl x (List.mem_singleton.2 rfl))).symm
  | succ n ih =>
    have hlen : (pairLevel op l).1.length = 2 ^ n := by rw [pairLevel_length, hn, Nat.pow_succ]; omega
    calc (pairTree op (n + 1) l).1 = (pairTree op n (pairLevel op l).1).1 := rfl
      _ = (pairLevel op l).1.sum % m := ih hlen (pairLevel_lt hop hl)
      _ = l.sum % m := pairLevel_sum hop l

end

/-- An integer sum of two elements is their sum modulo 2^w (R142). -/
theorem reduceOp_sum {ty : BitVec 4} (h : ty.toNat < 8) (x y : Nat) : (reduceOp 0#2 ty x y).1 = (x + y) % 2 ^ typeWidth ty.toNat := by
  have hr : reduceOp 0#2 ty x y = elemOp ty (· + ·) Fmt.add x y := rfl
  rw [hr, elemOp, floatOf_int h]
  dsimp only
  rw [wrap_eq_ofInt, BitVec.ofInt_add, ofInt_typeInt, ofInt_typeInt, ← BitVec.ofNat_add, BitVec.toNat_ofNat]

theorem reduceId_sum {ty : BitVec 4} (h : ty.toNat < 8) : reduceId 0#2 ty = 0 := by
  rw [reduceId, floatOf_int h]
  rfl

section
variable {q : Bun} {v : Vec} {fn : BitVec 2} {ty : BitVec 4} {k : BitVec 3} {g : Nat}

theorem entering_length : (q.entering v fn ty k g).length = 512 / typeWidth ty.toNat := by
  simp [Bun.entering]

theorem entering_sum_lt (h : ty.toNat < 8) : ∀ x ∈ q.entering v 0#2 ty k g, x < 2 ^ typeWidth ty.toNat := by
  intro x hx
  obtain ⟨e, -, rfl⟩ := List.mem_map.1 hx
  split
  · exact elem_lt ..
  · rw [reduceId_sum h]
    exact Nat.two_pow_pos _

end

theorem group_levels : ∀ ty < 8, 512 / typeWidth ty = 2 ^ Nat.log2 (512 / typeWidth ty) := by decide

/-! ### Scans -/

theorem typeWidth_dvd (ty : Nat) : typeWidth ty ∣ 512 := by
  unfold typeWidth; split <;> decide

theorem scanFrom_length (op : Nat → Nat → Nat × Flags) (acc : Nat) (l : List Nat) : (scanFrom op acc l).length = l.length := by
  induction l generalizing acc with
  | nil => rfl
  | cons x r ih => exact congrArg (· + 1) (ih _)

theorem scanGroup_length (fn : BitVec 2) (ty : BitVec 4) (l : List Nat) : (scanGroup fn ty l).length = l.length := by
  cases l with
  | nil => rfl
  | cons x r => exact congrArg (· + 1) (scanFrom_length ..)

/-- The scans of the eight groups give every element of the register. -/
theorem scans_length (q : Bun) (v : Vec) (fn : BitVec 2) (ty : BitVec 4) (k : BitVec 3) :
    ((List.range 8).flatMap fun g => scanGroup fn ty (q.entering v fn ty k g)).length = 4096 / typeWidth ty.toNat := by
  simp only [List.length_flatMap, scanGroup_length, entering_length, List.map_const', List.sum_replicate, List.length_range]
  exact (Nat.mul_div_assoc 8 (typeWidth_dvd _)).symm

/-! ### The instructions -/

section
variable {d a : BitVec 6} {all : BitVec 1} {fn : BitVec 2} {ty : BitVec 4} {k : BitVec 3} {s : State} {q : Bun}

theorem vred_groups (h : s.AtSlot (.vred d a all fn ty k) q) :
    let group := fun (g : Nat) => pairTree (reduceOp fn ty) (Nat.log2 (512 / typeWidth ty.toNat)) (q.entering (q.vec a) fn ty k g)
    let top := pairTree (reduceOp fn ty) 3 ((List.range 8).map (fun g => (group g).1))
    ∃ r : Vec, exec (.vred d a all fn ty k) s = .next (q.joined (.vred d a all fn ty k) ((q.writeVec d r 10).raise
        ((List.range 8).foldl (fun x g => x ||| (group g).2) 0 ||| if all = 1#1 then top.2 else 0) 10)) ∧
      ∀ g < 8, elem r 512 g = (if all = 1#1 then top.1 else (group g).1) % 2 ^ 512 := by
  rw [exec_vred, execVred, scalar_joined h]
  simp only [allFlags, List.foldl_map, List.map_map, Function.comp_def]
  refine ⟨_, rfl, fun g hg => ?_⟩
  split
  · exact elem_packElems_replicate (by decide) hg
  · exact elem_packElems_range (by decide) hg

theorem vscan_elements (h : s.AtSlot (.vscan d a fn ty k) q) :
    let w := typeWidth ty.toNat
    let scan := (List.range 8).flatMap (fun g => scanGroup fn ty (q.entering (q.vec a) fn ty k g))
    ∃ r : Vec, exec (.vscan d a fn ty k) s =
        .next (q.joined (.vscan d a fn ty k) ((q.writeVec d r 10).raise (scan.foldl (fun x e => x ||| e.2) 0) 10)) ∧
      ∀ e < 4096 / w, elem r w e = ((scan[e]?).map (·.1 % 2 ^ w)).getD 0 := by
  intro w scan
  refine ⟨_, (exec_vscan ..).trans (scalar_joined h), fun e he => ?_⟩
  have hs : e < scan.length := he.trans_eq (scans_length ..).symm
  rw [elem_packElems (x := scan[e].1) (by rw [List.getElem?_map, List.getElem?_eq_getElem hs]; rfl)
      ((Nat.mul_le_mul_left w he).trans (Nat.mul_div_le ..)), List.getElem?_eq_getElem hs]
  rfl

end

/-- Settles O28: the tree of a sum is the sum, and the scans of the groups lie one after another in the register. -/
theorem reductionsAndScans : Obligations.ReductionsAndScans := by
  intro d a all fn ty k s q w entering group top scan
  refine ⟨vred_groups, fun ht hf g _ => ?_, vscan_elements⟩
  subst hf
  exact pairTree_sum (reduceOp_sum ht) (entering_length.trans (group_levels _ ht)) (entering_sum_lt ht)

end Sys2Proof.Proofs
end

section
/-! The elements of a tile after a k-step (R96, R97, R101). -/
namespace Sys2Proof.Proofs
open Sys2Proof Sys2Proof.Machine Sys2Proof.Laws

/-! ### Codes of FP32 -/

section
variable {f : Fmt}

theorem signed_lt {code : Nat} (h : code < 2 ^ f.signBit) (neg : Bool) : f.signed neg code < 2 ^ f.width := by
  have hw : 2 ^ f.width = 2 * 2 ^ f.signBit := by
    rw [Fmt.width, Nat.add_assoc, Nat.add_comm 1, Nat.pow_succ, Nat.mul_comm]
    rfl
  unfold Fmt.signed
  split <;> omega

variable (hm : f.maxCode < 2 ^ f.signBit) (hi : f.infCode < 2 ^ f.signBit)
include hm hi

theorem overflow_lt (neg : Bool) (rm : Nat) (sat : Bool) : f.overflow neg rm sat < 2 ^ f.width := by
  unfold Fmt.overflow
  extract_lets toInf
  refine signed_lt ?_ neg
  split
  · exact hi
  · exact hm

/-- A rounded magnitude is a code of its format (R88 to R91). -/
theorem round_lt (neg : Bool) (m : Nat) (e : Int) (rest : Bool) (rm : Nat) (sat : Bool) : (f.round neg m e rest rm sat).1 < 2 ^ f.width := by
  have hz : f.signed neg 0 < 2 ^ f.width := signed_lt (Nat.two_pow_pos _) neg
  unfold Fmt.round
  split
  · exact hz
  · extract_lets ex free exFree tiny q r code
    split
    · exact hz
    · split
      · exact overflow_lt hm hi ..
      · next h => exact signed_lt (Nat.lt_of_le_of_lt (Nat.le_of_not_lt h) hm) neg

theorem encode_lt (hn : f.nanCode < 2 ^ f.width) (v : FVal) (rm : Nat) (sat : Bool) : (f.encode v rm sat).1 < 2 ^ f.width := by
  cases v with
  | nan t =>
    unfold Fmt.encode
    dsimp only
    split
    · exact hn
    · exact Nat.two_pow_pos _
  | inf n =>
    unfold Fmt.encode
    dsimp only
    split
    · exact signed_lt hi n
    · exact signed_lt hm n
  | fin n m e => exact round_lt hm hi ..

end

/-- A floating element of a tile is a code of FP32 (R96). -/
theorem stepFloat_lt (c : Nat) (a b : List FVal) : (stepFloat c a b).1 < 2 ^ 32 :=
  encode_lt (f := fmt32) (by decide) (by decide) (by decide) ..

theorem stepSum_lt (c : Nat) (a b : List (Int × Flags)) : (stepSum c a b).1 < 2 ^ 32 := by
  unfold stepSum
  dsimp only
  rw [wrap_eq_ofInt]
  exact BitVec.isLt _

/-- An integer element of a tile is the old one plus the products, clamped to 32 bits (R97). -/
theorem stepSum_eq (c : Nat) (a b : List (Int × Flags)) :
    (stepSum c a b).1 = (max (-2 ^ 31) (min (sint 32 c + (List.zipWith (fun (x y : Int × Flags) => x.1 * y.1) a b).sum) (2 ^ 31 - 1)) % 2 ^ 32).toNat := by
  unfold stepSum
  rw [← List.sum_eq_foldl]
  generalize sint 32 c + _ = v
  have hs : (saturate 2 v).1 = max (-2 ^ 31) (min v (2 ^ 31 - 1)) := by
    have hlo : typeMin 2 = -2 ^ 31 := rfl
    have hhi : typeMax 2 = 2 ^ 31 - 1 := rfl
    unfold saturate
    rw [hlo, hhi]
    split
    · omega
    · split <;> omega
  dsimp only
  rw [hs]
  rfl

/-! ### The image of a tile -/

/-- The field of width `w` at place `e` of an image of `n` bits packed from values. -/
theorem extract_packed {w n : Nat} {l : List Nat} {e x : Nat} (h : l[e]? = some x) (he : w * (e + 1) ≤ n) :
    ((BitVec.ofNat n (l.foldr (fun x a => a <<< w ||| x % 2 ^ w) 0)).extractLsb' (w * e) w).toNat = x % 2 ^ w := by
  rw [BitVec.extractLsb'_toNat, BitVec.toNat_ofNat, Nat.shiftRight_eq_div_pow, ← packed_field w l h]
  rw [Nat.mul_succ] at he
  obtain ⟨m, hm⟩ := Nat.le.dest ((Nat.le_add_right ..).trans he)
  rw [← hm, Nat.pow_add, Nat.mod_mul_right_div_self]
  exact Nat.mod_mod_of_dvd _ (Nat.pow_dvd_pow 2 (by omega))

/-- Column `j` of row `i` of rows of `c` columns, one row after another. -/
theorem getElem?_rows {α : Type} (f : Nat → Nat → α) (c : Nat) {n i j : Nat} (hi : i < n) (hj : j < c) :
    ((List.range n).map fun i => (List.range c).map (f i)).flatten[c * i + j]? = some (f i j) := by
  induction n with
  | zero => exact absurd hi (Nat.not_lt_zero i)
  | succ n ih =>
    have hlen : ((List.range n).map fun i => (List.range c).map (f i)).flatten.length = c * n := by
      simp [List.length_flatten, Function.comp_def, Nat.mul_comm]
    rw [List.range_succ, List.map_append, List.flatten_append]
    rcases Nat.lt_succ_iff_lt_or_eq.1 hi with h | rfl
    · have hlt : c * i + j < c * n := by
        calc c * i + j < c * (i + 1) := by rw [Nat.mul_succ]; omega
          _ ≤ c * n := Nat.mul_le_mul_left c h
      rw [List.getElem?_append_left (by rw [hlen]; exact hlt)]
      exact ih h
    · rw [List.getElem?_append_right (by omega), hlen, Nat.add_sub_cancel_left]
      simp [hj]

/-- An element of a tile image packed from rows of codes of 32 bits. -/
theorem tile_element {f : Nat → Nat → Nat × Flags} (hf : ∀ i j, (f i j).1 < 2 ^ 32) {i j : Nat} (hi : i < 64) (hj : j < 64) :
    ((BitVec.ofNat 131072 (((List.range 64).map fun i => (List.range 64).map (f i)).flatten.foldr (fun e a => a <<< 32 ||| e.1) 0)).extractLsb'
      (32 * (64 * i + j)) 32).toNat = (f i j).1 := by
  have hrows := getElem?_rows f 64 hi hj
  have hlt : ∀ e ∈ ((List.range 64).map fun i => (List.range 64).map (f i)).flatten, e.1 < 2 ^ 32 := by
    intro e he
    obtain ⟨r, hr, he⟩ := List.mem_flatten.1 he
    obtain ⟨i, -, rfl⟩ := List.mem_map.1 hr
    obtain ⟨j, -, rfl⟩ := List.mem_map.1 he
    exact hf i j
  generalize ((List.range 64).map fun i => (List.range 64).map (f i)).flatten = l at hrows hlt ⊢
  have hfold : l.foldr (fun e a => a <<< 32 ||| e.1) 0 = (l.map (·.1)).foldr (fun x a => a <<< 32 ||| x % 2 ^ 32) 0 := by
    rw [List.foldr_map]
    exact List.foldr_ext _ _ _ fun e he a => by rw [Nat.mod_eq_of_lt (hlt e he)]
  rw [hfold, extract_packed (x := (f i j).1) (by rw [List.getElem?_map, hrows]; rfl) (by omega), Nat.mod_eq_of_lt (hf i j)]

/-- What a table over the 64 rows or columns of a tile holds for one of them. -/
theorem getD_rows {α : Type} (f : Nat → α) (x : α) {i : Nat} (hi : i < 64) : ((List.range 64).map f).getD i x = f i := by
  simp [hi]

/-- Settles O37: each element of the image is one row's and one column's, and its code fits its 32 bits. -/
theorem matrixElements : Obligations.MatrixElements := by
  intro fmt k kappa ba bb i j tile sums hi hj fa fb g old new a b sa sb x y
  have hnew : new = if bits fmt.toNat 51 48 == 1 then (stepSum old a b).1 else (stepFloat old x y).1 := by
    change (BitVec.extractLsb' _ _ (stepTile ..).1.image).toNat = _
    unfold stepTile
    dsimp only
    rw [tile_element (fun i j => by split; exacts [stepSum_lt .., stepFloat_lt ..]) hi hj]
    simp only [getD_rows _ _ hi, getD_rows _ _ hj, List.map_map]
    cases bits fmt.toNat 51 48 == 1 <;> rfl
  refine ⟨fun h => ?_, fun h => ?_⟩
  · rw [hnew, if_pos (beq_iff_eq.2 h)]
    exact stepSum_eq old a b
  · rw [hnew, if_neg (mt beq_iff_eq.1 h)]
    exact (Nat.mod_eq_of_lt (stepFloat_lt old x y)).symm

end Sys2Proof.Proofs
end

section
/-! The integer and bit instructions of the S slot (R105 to R113, R348). -/
namespace Sys2Proof.Proofs
open Sys2Proof Sys2Proof.Machine Sys2Proof.Laws

/-- The field values of an instruction in its slot are those its entry allows (R330). -/
theorem others_of_atSlot {s : State} {i : Instr} {q : Bun} (h : s.AtSlot i q) : (instrChecks i).others = true := by
  obtain ⟨_, _, _, _, hd, _⟩ := h
  unfold Instr.defect Checks.defect at hd
  split at hd
  · cases hd
  · exact by_contra fun ho => by rw [if_neg ho] at hd; cases hd

/-! ### Results of R105 -/

section
variable (ty : BitVec 4) (v : Int)

/-- A value lies in the range of an integer type (R105). -/
def InType (ty : Nat) (v : Int) : Prop := typeMin ty ≤ v ∧ v ≤ typeMax ty

/-- A value clamped to the range of an integer type (R86). -/
def clamped (ty : Nat) (v : Int) : Int := max (typeMin ty) (min v (typeMax ty))

theorem setWidth_ofInt {w : Nat} (h : w ≤ 64) : (BitVec.ofInt 64 v).setWidth w = BitVec.ofInt w v := by
  apply BitVec.eq_of_toNat_eq
  zify
  rw [BitVec.toNat_setWidth, BitVec.toNat_ofInt, BitVec.toNat_ofInt]
  have h64 := Int.emod_nonneg v (b := ((2 ^ 64 : Nat) : Int)) (by decide)
  have hw := Int.emod_nonneg v (b := ((2 ^ w : Nat) : Int)) (by positivity)
  rw [Int.natCast_mod, Int.toNat_of_nonneg h64, Int.toNat_of_nonneg hw]
  exact Int.emod_emod_of_dvd v (Int.natCast_dvd_natCast.2 (Nat.pow_dvd_pow 2 h))

/-- An exact value written by a type without `.sat` (R105). -/
theorem ofNat_typeExtend_int : BitVec.ofNat 64 (typeExtend ty.toNat v) = extended ty (BitVec.ofInt 64 v) := by
  have hw : wrap (typeWidth ty.toNat) v = wrap (typeWidth ty.toNat) ((BitVec.ofInt 64 v).toNat : Int) := by
    rw [wrap_eq_ofInt, wrap_eq_ofInt, BitVec.ofInt_natCast, BitVec.ofNat_toNat, setWidth_ofInt v (typeWidth_le _)]
  have he : typeExtend ty.toNat v = typeExtend ty.toNat ((BitVec.ofInt 64 v).toNat : Int) := by
    unfold typeExtend
    rw [hw]
  rw [he, ofNat_typeExtend, BitVec.ofNat_toNat, BitVec.setWidth_eq]

/-- The low bits alone decide what is written (R105). -/
theorem extended_ofInt {ty : BitVec 4} {v : Int} {x : Word} (h : BitVec.ofInt (typeWidth ty.toNat) v = x.setWidth _) :
    extended ty (BitVec.ofInt 64 v) = extended ty x := by
  unfold extended
  rw [setWidth_ofInt v (typeWidth_le _), h]

theorem typeWidth_pos (ty : Nat) : 0 < typeWidth ty := by
  unfold typeWidth
  split <;> decide

/-- A value in the range of its type is written as it is. -/
theorem extended_inType {ty : BitVec 4} {v : Int} (h : InType ty.toNat v) : extended ty (BitVec.ofInt 64 v) = BitVec.ofInt 64 v := by
  obtain ⟨hmin, hmax⟩ := h
  unfold extended
  rw [setWidth_ofInt v (typeWidth_le _)]
  unfold typeMin at hmin
  unfold typeMax at hmax
  push_cast at hmin hmax
  split
  next hs =>
    rw [if_pos hs] at hmin hmax
    rw [BitVec.signExtend, BitVec.toInt_ofInt_eq_self (typeWidth_pos _) hmin (by omega)]
  next hs =>
    rw [if_neg hs] at hmin hmax
    obtain ⟨n, rfl⟩ := Int.eq_ofNat_of_zero_le hmin
    have hn : n < 2 ^ typeWidth ty.toNat := by zify; omega
    exact BitVec.eq_of_toNat_eq (by simp [Nat.mod_eq_of_lt hn])

theorem typeMin_le_zero (ty : Nat) : typeMin ty ≤ 0 := by
  unfold typeMin
  split <;> simp

theorem zero_le_typeMax (ty : Nat) : 0 ≤ typeMax ty := by
  have h1 := Nat.two_pow_pos (typeWidth ty - 1)
  have h2 := Nat.two_pow_pos (typeWidth ty)
  unfold typeMax
  split <;> omega

/-- A code stands for a value in its type's range. -/
theorem inType_typeInt (ty x : Nat) : InType ty (typeInt ty x) := by
  unfold InType typeMin typeMax typeInt
  split
  · have hle := BitVec.le_toInt (BitVec.ofNat (typeWidth ty) x)
    have hlt := BitVec.toInt_lt (x := BitVec.ofNat (typeWidth ty) x)
    rw [sint_eq_toInt]
    push_cast
    omega
  · have := Nat.mod_lt x (Nat.two_pow_pos (typeWidth ty))
    omega

theorem inType_min {ty : Nat} {u v : Int} (hu : InType ty u) (hv : InType ty v) : InType ty (min u v) :=
  ⟨le_min hu.1 hv.1, (min_le_left ..).trans hu.2⟩

theorem inType_max {ty : Nat} {u v : Int} (hu : InType ty u) (hv : InType ty v) : InType ty (max u v) :=
  ⟨hu.1.trans (le_max_left ..), max_le hu.2 hv.2⟩

theorem inType_clamped (ty : Nat) : InType ty (clamped ty v) := by
  have := typeMin_le_zero ty
  have := zero_le_typeMax ty
  unfold InType clamped
  omega

/-- A saturated value is the clamped one, with OF where they differ (R86). -/
theorem saturate_eq (ty : Nat) : saturate ty v = (clamped ty v, flagIf (clamped ty v ≠ v) flagOF) := by
  have := typeMin_le_zero ty
  have := zero_le_typeMax ty
  unfold saturate clamped flagIf
  split
  next hlo => rw [max_eq_left (by omega), if_pos (by simp; omega)]
  next hlo =>
    split
    next hhi => rw [min_eq_right (by omega), max_eq_right (by omega), if_pos (by simp; omega)]
    next hhi => rw [min_eq_left (by omega), max_eq_right (by omega), if_neg (by simp)]

end

/-! ### What an instruction writes -/

section
variable (q : Bun) (d a b : BitVec 6) (ty : BitVec 4) (v : Int) (bound : Nat) (p : Nat → Nat → Nat)

/-- The low bits of a source, as a bit vector. -/
theorem low_eq : q.low a ty = ((q.val a).setWidth (typeWidth ty.toNat)).toNat := (BitVec.toNat_setWidth ..).symm

theorem ofInt_int : BitVec.ofInt (typeWidth ty.toNat) (q.int a ty) = (q.val a).setWidth _ := by
  rw [Bun.int, ofInt_typeInt, BitVec.ofNat_toNat]

theorem inType_int : InType ty.toNat (q.int a ty) := inType_typeInt ..

theorem writeInt_extended : q.writeInt d ty v bound = q.writeReg d (extended ty (BitVec.ofInt 64 v)) bound :=
  congrArg (q.writeReg d · bound) (ofNat_typeExtend_int ty v)

variable {v ty}

theorem writeInt_congr {x : Word} (h : BitVec.ofInt (typeWidth ty.toNat) v = x.setWidth _) :
    q.writeInt d ty v bound = q.writeReg d (extended ty x) bound := by
  rw [writeInt_extended, extended_ofInt h]

theorem writeInt_inType (h : InType ty.toNat v) : q.writeInt d ty v bound = q.writeReg d (BitVec.ofInt 64 v) bound := by
  rw [writeInt_extended, extended_inType h]

/-- A result given by its low bits. -/
theorem writeInt_code {y : BitVec (typeWidth ty.toNat)} (h : BitVec.ofInt _ v = y) :
    q.writeInt d ty v bound = q.writeReg d (extended ty (y.setWidth 64)) bound :=
  writeInt_congr q d bound (by rw [h, BitVec.setWidth_setWidth_of_le _ (typeWidth_le _), BitVec.setWidth_eq])

variable (v ty)

/-- Without `.sat` the low bits are written, with the predicted residue at 64 bits (R105, R348). -/
theorem arith_wrapped {x : Word} (h : BitVec.ofInt (typeWidth ty.toNat) v = x.setWidth _) :
    q.arith d a b ty 0#1 v bound p = q.writePredicted d (extended ty x) bound
      (if typeWidth ty.toNat = 64 then some (p (q.residueOf a) (q.residueOf b)) else none) := by
  rw [← extended_ofInt h, ← ofNat_typeExtend_int]
  simp [Bun.arith, intResult, Bun.raise]

/-- With `.sat` the clamped value is written, and OF raised where it differs (R86, R105). -/
theorem arith_saturated : q.arith d a b ty 1#1 v bound p =
    (q.writeReg d (BitVec.ofInt 64 (clamped ty.toNat v)) bound).raise (flagIf (clamped ty.toNat v ≠ v) flagOF) bound := by
  rw [← extended_inType (inType_clamped v _), ← ofNat_typeExtend_int]
  simp [Bun.arith, intResult, saturate_eq, Bun.writeReg]

end

/-! ### Residues (R348) -/

section
variable (u v : Word)

theorem res_ne_invalid (n : Nat) : res n ≠ invalidRes := by unfold res invalidRes; omega

theorem predictAdd_res : predictAdd (res u.toNat) (res v.toNat) u.toNat v.toNat = res (u + v).toNat := by
  unfold predictAdd
  rw [if_neg (by simp [res_ne_invalid]), BitVec.toNat_add]
  unfold res
  omega

theorem predictSub_res : predictSub (res u.toNat) (res v.toNat) u.toNat v.toNat = res (u - v).toNat := by
  unfold predictSub
  rw [if_neg (by simp [res_ne_invalid]), BitVec.toNat_sub]
  unfold res b2n
  by_cases h : u.toNat < v.toNat <;> simp only [h, decide_true, decide_false, if_true, Bool.false_eq_true, if_false] <;> omega

theorem predictMul_res : predictMul (res u.toNat) (res v.toNat) (u.toNat * v.toNat / 2 ^ 64) = res (u * v).toNat := by
  have hm := Nat.mul_mod u.toNat v.toNat 15
  unfold predictMul
  rw [if_neg (by simp [res_ne_invalid]), BitVec.toNat_mul]
  unfold res
  generalize u.toNat % 15 * (v.toNat % 15) = r at *
  generalize u.toNat * v.toNat = p at *
  omega

end

/-! ### Addition, subtraction, multiplication and logic (R105, R106, R111) -/

section
variable (q : Bun) (a b : BitVec 6) (ty : BitVec 4)

theorem ofInt_toNat {w : Nat} (y : BitVec w) : BitVec.ofInt w (y.toNat : Int) = y := by
  rw [BitVec.ofInt_natCast, BitVec.ofNat_toNat, BitVec.setWidth_eq]

theorem ofInt_int_add : BitVec.ofInt (typeWidth ty.toNat) (q.int a ty + q.int b ty) = (q.val a + q.val b).setWidth _ := by
  rw [BitVec.ofInt_add, ofInt_int, ofInt_int, BitVec.setWidth_add _ _ (typeWidth_le _)]

theorem ofInt_int_mul : BitVec.ofInt (typeWidth ty.toNat) (q.int a ty * q.int b ty) = (q.val a * q.val b).setWidth _ := by
  rw [BitVec.ofInt_mul, ofInt_int, ofInt_int, BitVec.setWidth_mul _ _ (typeWidth_le _)]

theorem ofInt_int_sub : BitVec.ofInt (typeWidth ty.toNat) (q.int a ty - q.int b ty) = (q.val a - q.val b).setWidth _ := by
  rw [Int.sub_eq_add_neg, BitVec.ofInt_add, BitVec.ofInt_neg, ofInt_int, ofInt_int, BitVec.sub_eq_add_neg, BitVec.neg_eq_not_add,
    BitVec.neg_eq_not_add, BitVec.setWidth_add _ _ (typeWidth_le _), BitVec.setWidth_add _ _ (typeWidth_le _),
    BitVec.setWidth_not (typeWidth_le _), BitVec.setWidth_ofNat_of_le (typeWidth_le _)]

theorem ofInt_low_and : BitVec.ofInt (typeWidth ty.toNat) ((q.low a ty &&& q.low b ty : Nat) : Int) = (q.val a &&& q.val b).setWidth _ := by
  rw [low_eq, low_eq, ← BitVec.toNat_and, ofInt_toNat, BitVec.setWidth_and]

theorem ofInt_low_or : BitVec.ofInt (typeWidth ty.toNat) ((q.low a ty ||| q.low b ty : Nat) : Int) = (q.val a ||| q.val b).setWidth _ := by
  rw [low_eq, low_eq, ← BitVec.toNat_or, ofInt_toNat, BitVec.setWidth_or]

theorem ofInt_low_xor : BitVec.ofInt (typeWidth ty.toNat) ((q.low a ty ^^^ q.low b ty : Nat) : Int) = (q.val a ^^^ q.val b).setWidth _ := by
  rw [low_eq, low_eq, ← BitVec.toNat_xor, ofInt_toNat, BitVec.setWidth_xor]

theorem ofInt_low_not : BitVec.ofInt (typeWidth ty.toNat) ((2 ^ typeWidth ty.toNat - 1 - q.low a ty : Nat) : Int) = (~~~q.val a).setWidth _ := by
  rw [low_eq, ← BitVec.toNat_not, ofInt_toNat, BitVec.setWidth_not (typeWidth_le _)]

end

/-- Settles O1: a ring operation on the values is the one on their low bits, and logic acts on the low bits alone. -/
theorem integerArithmetic : Obligations.IntegerArithmetic := by
  intro d a b ty imm s q x y ra rb predicted clamp result
  refine ⟨fun h => ?add, fun h => ?sub, fun h => ?mul, fun h => (exec_addi ..).trans (scalar_joined h),
    fun u v => ⟨predictAdd_res u v, predictSub_res u v, predictMul_res u v, if_pos rfl, if_pos (by simp), if_pos rfl⟩,
    fun h => ?addSat, fun h => ?subSat, fun h => ?mulSat, fun h => ?and, fun h => ?or, fun h => ?xor, fun h => ?not⟩
  case add => rw [exec_add, execAdd, scalar_joined h, arith_wrapped _ _ _ _ _ _ _ _ (ofInt_int_add ..)]
  case sub => rw [exec_sub, execSub, scalar_joined h, arith_wrapped _ _ _ _ _ _ _ _ (ofInt_int_sub ..)]
  case mul => rw [exec_mul, execMul, scalar_joined h, arith_wrapped _ _ _ _ _ _ _ _ (ofInt_int_mul ..)]
  case addSat => rw [exec_add, execAdd, scalar_joined h, arith_saturated]; rfl
  case subSat => rw [exec_sub, execSub, scalar_joined h, arith_saturated]; rfl
  case mulSat => rw [exec_mul, execMul, scalar_joined h, arith_saturated]; rfl
  case and => rw [exec_and, execAnd, scalar_joined h, writeInt_congr _ _ _ (ofInt_low_and ..)]
  case or => rw [exec_or, execOr, scalar_joined h, writeInt_congr _ _ _ (ofInt_low_or ..)]
  case xor => rw [exec_xor, execXor, scalar_joined h, writeInt_congr _ _ _ (ofInt_low_xor ..)]
  case not => rw [exec_not, execNot, scalar_joined h, writeInt_congr _ _ _ (ofInt_low_not ..)]

/-! ### The high product and division (R106, R107) -/

section
variable (ty : BitVec 4) (x y : Int)

/-- The negated least value of a signed type has the least value's low bits, so the quotient at that corner needs no case (R107). -/
theorem ofInt_neg_typeMin (ty : Nat) : BitVec.ofInt (typeWidth ty) (-typeMin ty) = BitVec.ofInt (typeWidth ty) (typeMin ty) := by
  have hmin : BitVec.ofNat (typeWidth ty) (2 ^ (typeWidth ty - 1)) = BitVec.intMin _ :=
    BitVec.eq_of_toNat_eq (by rw [BitVec.toNat_ofNat, BitVec.toNat_intMin])
  unfold typeMin
  split
  · rw [neg_neg, BitVec.ofInt_neg, BitVec.ofInt_natCast, hmin, BitVec.neg_intMin]
  · rfl

/-- Division writes the quotient truncated towards zero, or all ones for a divisor of 0 (R107). -/
theorem extended_divide : extended ty (BitVec.ofInt 64 (divide107 ty.toNat x y)) =
    if y = 0 then extended ty (BitVec.allOnes 64) else extended ty (BitVec.ofInt 64 (x.tdiv y)) := by
  unfold divide107
  split
  · rfl
  · split
    next hc =>
      obtain ⟨rfl, rfl⟩ : x = typeMin ty.toNat ∧ y = -1 := by simpa using hc
      refine extended_ofInt ?_
      rw [setWidth_ofInt _ (typeWidth_le _), Int.tdiv_neg, Int.tdiv_one, ofInt_neg_typeMin]
    · rfl

/-- A remainder lies between 0 and its dividend (R107). -/
theorem tmod_between : 0 ≤ x ∧ 0 ≤ x.tmod y ∧ x.tmod y ≤ x ∨ x ≤ 0 ∧ x ≤ x.tmod y ∧ x.tmod y ≤ 0 := by
  have habs : (x.tmod y).natAbs ≤ x.natAbs := by rw [Int.natAbs_tmod]; exact Nat.mod_le ..
  rcases Int.le_total 0 x with hx | hx
  · have := Int.tmod_nonneg y hx
    omega
  · have := Int.tmod_nonneg y (Int.neg_nonneg_of_nonpos hx)
    rw [Int.neg_tmod] at this
    omega

theorem inType_remainder {ty : Nat} {x : Int} (h : InType ty x) : InType ty (remainder107 x y) := by
  have := typeMin_le_zero ty
  have := zero_le_typeMax ty
  have := tmod_between x y
  obtain ⟨hlo, hhi⟩ := h
  unfold remainder107 InType
  split <;> omega

end

/-- Settles O2: a quotient is written by its low bits, and a remainder lies in its type's range. -/
theorem multiplyHighAndDivide : Obligations.MultiplyHighAndDivide := by
  intro d a b ty s q x y quotient remainder
  refine ⟨fun h => ?mulh, fun h => ?divs, fun h => ?divn, fun h => ?rem⟩
  case mulh => rw [exec_mulh, execMulh, scalar_joined h, writeInt_extended]; push_cast; rfl
  case divs => rw [exec_divs, execDivs, scalar_joined h, writeInt_extended, extended_divide]
  case divn => rw [exec_divn, execDivn, scalar_joined h, writeInt_extended, extended_divide]
  case rem =>
    rw [exec_rem, execRem, scalar_joined h, writeInt_inType _ _ _ (inType_remainder _ (inType_int ..)), remainder107, apply_ite (BitVec.ofInt 64)]

/-! ### Shifts (R108) -/

section
variable {w : Nat} (x : BitVec w) (n : Nat)

theorem ofInt_shift108_left : BitVec.ofInt w (shift108 0 w x.toNat n) = x <<< n := by
  simp only [shift108]
  split
  next h => rw [BitVec.shiftLeft_eq_zero h]; rfl
  · rw [← BitVec.toNat_shiftLeft, ofInt_toNat]

theorem ofInt_shift108_right : BitVec.ofInt w (shift108 1 w x.toNat n) = x >>> n := by
  simp only [shift108]
  split
  next h => rw [BitVec.ushiftRight_eq_zero h]; rfl
  · rw [← BitVec.toNat_ushiftRight, ofInt_toNat]

theorem sint_toNat : sint w x.toNat = x.toInt := by rw [sint_eq_toInt, BitVec.ofNat_toNat, BitVec.setWidth_eq]

theorem testBit_sign : x.toNat.testBit (w - 1) = decide (x.toInt < 0) := by
  rw [← BitVec.msb_eq_toInt, BitVec.msb_eq_getLsbD_last]
  rfl

/-- A floor division by 2^n with w ≤ n leaves 0 or -1 by the sign, which R108 gives as a case of its own. -/
theorem ofInt_shift108_arithmetic : BitVec.ofInt w (shift108 2 w x.toNat n) = x.sshiftRight n := by
  have hn : shift108 2 w x.toNat n = (x.sshiftRight n).toInt := by
    rw [BitVec.toInt_sshiftRight, Int.shiftRight_eq_div_pow]
    simp only [shift108, testBit_sign, sint_toNat, decide_eq_true_eq]
    split
    next h =>
      have hpow : (2 : Int) ^ (w - 1) ≤ ((2 ^ n : Nat) : Int) := by
        push_cast
        exact pow_le_pow_right₀ (by decide) (by omega)
      have hlo := BitVec.le_toInt x
      have hhi := x.toInt_lt
      split
      next hx => rw [Int.ediv_eq_neg_one_of_neg_of_le hx (by omega)]
      next hx => rw [Int.ediv_eq_zero_of_lt (by omega) (by omega)]
    · rfl
  rw [hn, BitVec.ofInt_toInt]

theorem ofInt_shift108_rotate : BitVec.ofInt w (shift108 3 w x.toNat n) = x.rotateRight n := by
  simp only [shift108]
  rw [← BitVec.toNat_rotateRight, ofInt_toNat]

end

/-- Settles O3: each shift of the low bits, by the whole amount, is the bit vector's. -/
theorem shifts : Obligations.Shifts := by
  intro d a b ty s q w n x
  refine ⟨fun h => ?shl, fun h => ?shr, fun h => ?sar, fun h => ?rot⟩
  case shl => rw [exec_shl, execShl, scalar_joined h, low_eq, writeInt_code _ _ _ (ofInt_shift108_left ..)]
  case shr => rw [exec_shr, execShr, scalar_joined h, low_eq, writeInt_code _ _ _ (ofInt_shift108_right ..)]
  case sar => rw [exec_sar, execSar, scalar_joined h, low_eq, writeInt_code _ _ _ (ofInt_shift108_arithmetic ..)]
  case rot => rw [exec_rot, execRot, scalar_joined h, low_eq, writeInt_code _ _ _ (ofInt_shift108_rotate ..)]

/-! ### Comparison and selection (R106, R109, R110) -/

section
variable {w : Nat} (x y : BitVec w)

/-- A condition of CMP as the comparison of two bit vectors (R109). -/
def condition (cond : Nat) : Bool :=
  match cond with
  | 0 => x == y
  | 1 => x != y
  | 2 => x.slt y
  | 3 => x.sle y
  | 4 => x.ult y
  | _ => x.ule y

theorem compare_eq_condition : ∀ cond, compare109 cond w x.toNat y.toNat = condition x y cond
  | 0 => (Bool.eq_iff_iff.2 (by simp [BitVec.toNat_inj]) : (x.toNat == y.toNat) = (x == y))
  | 1 => congrArg not (Bool.eq_iff_iff.2 (by simp [BitVec.toNat_inj]) : (x.toNat == y.toNat) = (x == y))
  | 2 => by simp only [compare109, sint_toNat]; rfl
  | 3 => by simp only [compare109, sint_toNat]; rfl
  | 4 => rfl
  | _ + 5 => rfl

end

theorem ofNat_b2n (p : Bool) : BitVec.ofNat 64 (b2n p) = if p then 1 else 0 := by cases p <;> rfl

/-- Settles O4: the lesser and the greater of two values of a type are values of it. -/
theorem compareAndSelect : Obligations.CompareAndSelect := by
  intro d a b c ty cond s q x y holds
  refine ⟨fun h => ?min, fun h => ?max, fun h => ?cmp, fun h => ?sel⟩
  case min => rw [exec_min, execMin, scalar_joined h, writeInt_inType _ _ _ (inType_min (inType_int ..) (inType_int ..))]
  case max => rw [exec_max, execMax, scalar_joined h, writeInt_inType _ _ _ (inType_max (inType_int ..) (inType_int ..))]
  case cmp => rw [exec_cmp, execCmp, scalar_joined h, low_eq, low_eq, compare_eq_condition, ofNat_b2n]; rfl
  case sel => rw [exec_sel, execSel, scalar_joined h, ite_not]

/-! ### Counting bits (R106) -/

section
variable {w x : Nat}

theorem popCount_eq_countP : popCount w x = (List.range w).countP x.testBit := by
  unfold popCount
  induction w with
  | zero => rfl
  | succ w ih =>
    rw [List.range_succ, List.foldl_append, ih, List.countP_append, List.countP_singleton]
    rfl

theorem leadingZeros_le : leadingZeros w x ≤ w := by
  unfold leadingZeros
  split <;> omega

theorem testBit_leadingZeros {i : Nat} (h : w - leadingZeros w x ≤ i) (hi : i < w) : x.testBit i = false := by
  unfold leadingZeros at h
  split at h
  next hx => rw [hx, Nat.zero_testBit]
  next hx => exact Nat.testBit_lt_two_pow ((Nat.log2_lt hx).1 (by omega))

theorem testBit_below_leadingZeros (hx : x < 2 ^ w) (h : leadingZeros w x < w) : x.testBit (w - 1 - leadingZeros w x) = true := by
  unfold leadingZeros at h ⊢
  split at h
  · omega
  next h0 =>
    have hlog := (Nat.log2_lt h0).2 hx
    rw [if_neg h0, show w - 1 - (w - 1 - x.log2) = x.log2 by omega]
    exact Nat.testBit_log2 h0

theorem lowest_some {p : Nat → Bool} {i : Nat} (h : lowest w p = some i) : p i = true ∧ i < w ∧ ∀ j < i, p j = false := by
  obtain ⟨hp, hi, hj⟩ := List.find?_range_eq_some.1 h
  exact ⟨hp, List.mem_range.1 hi, fun j h => by simpa using hj j h⟩

theorem trailingZeros_spec : trailingZeros w x ≤ w ∧ (∀ i < trailingZeros w x, x.testBit i = false) ∧
    (trailingZeros w x < w → x.testBit (trailingZeros w x) = true) := by
  unfold trailingZeros
  cases h : lowest w x.testBit with
  | none => exact ⟨Nat.le_refl _, fun i hi => by simpa using List.find?_range_eq_none.1 h i hi, fun hw => absurd hw (Nat.lt_irrefl _)⟩
  | some n =>
    obtain ⟨hp, hn, hlow⟩ := lowest_some h
    exact ⟨hn.le, hlow, fun _ => hp⟩

end

section
variable {q : Bun} {a d : BitVec 6} {ty : BitVec 4}

theorem testBit_low {i : Nat} (hi : i < typeWidth ty.toNat) : (q.low a ty).testBit i = (q.val a).toNat.testBit i := by
  simp [Bun.low, Nat.testBit_mod_two_pow, hi]

/-- A count of bits is in the range of every integer type. -/
theorem inType_count {n : Nat} (ht : tyInt ty = true) (hn : n ≤ typeWidth ty.toNat) : InType ty.toNat n := by
  have hmax : ∀ t < 8, (typeWidth t : Int) ≤ typeMax t := by decide
  have := hmax ty.toNat (of_decide_eq_true ht)
  exact ⟨by have := typeMin_le_zero ty.toNat; omega, by omega⟩

theorem writeInt_count {n bound : Nat} (ht : tyInt ty = true) (hn : n ≤ typeWidth ty.toNat) :
    q.writeInt d ty n bound = q.writeReg d (BitVec.ofNat 64 n) bound := writeInt_inType _ _ _ (inType_count ht hn)

end

/-- Settles O5: each count is of the low bits, and as a number no greater than the width it is written as it is. -/
theorem bitCounts : Obligations.BitCounts := by
  intro d a ty s q w x
  have hlow : q.low a ty < 2 ^ w := Nat.mod_lt _ (Nat.two_pow_pos _)
  refine ⟨fun h => ?popc, fun h => ?clz, fun h => ?ctz⟩
  case popc =>
    have hc : (List.range w).countP (q.low a ty).testBit = (List.range w).countP x.testBit :=
      List.countP_congr fun i hi => by rw [testBit_low (List.mem_range.1 hi)]
    have hn : (List.range w).countP x.testBit ≤ w := List.countP_le_length.trans_eq List.length_range
    rw [exec_popc, execPopc, scalar_joined h, popCount_eq_countP, hc, writeInt_count (others_of_atSlot h) hn]
  case clz =>
    refine ⟨leadingZeros w (q.low a ty), leadingZeros_le, ?_, fun i hn hi => ?_, fun hn => ?_⟩
    · rw [exec_clz, execClz, scalar_joined h, writeInt_count (others_of_atSlot h) leadingZeros_le]
    · rw [← testBit_low hi, testBit_leadingZeros hn hi]
    · have hi : w - 1 - leadingZeros w (q.low a ty) < w := by omega
      rw [← testBit_low hi, testBit_below_leadingZeros hlow hn]
  case ctz =>
    obtain ⟨hle, hzero, hone⟩ := trailingZeros_spec (w := w) (x := q.low a ty)
    refine ⟨trailingZeros w (q.low a ty), hle, ?_, fun i hi => ?_, fun hn => ?_⟩
    · rw [exec_ctz, execCtz, scalar_joined h, writeInt_count (others_of_atSlot h) hle]
    · rw [← testBit_low (hi.trans_le hle), hzero i hi]
    · rw [← testBit_low hn, hone hn]

/-! ### Immediates, fields and PACK (R111 to R113) -/

/-- Shifted up by 30 bits, a word shares no bit with an immediate of 30 (R111). -/
theorem movh_eq (x : Word) {c : Word} (hc : c = BitVec.twoPow 64 30) (imm : BitVec 30) :
    x * c + imm.setWidth 64 = (x <<< 30) ||| imm.setWidth 64 := by
  have hand : (x <<< 30) &&& imm.setWidth 64 = 0#64 := BitVec.eq_of_getLsbD_eq fun i hi => by
    by_cases h : i < 30
    · simp [h]
    · simp [BitVec.getLsbD_of_ge imm i (Nat.not_lt.1 h)]
  rw [hc, ← BitVec.shiftLeft_eq_mul_twoPow, BitVec.add_eq_or_of_and_eq_zero _ _ hand]

theorem field_eq (x : Word) (pos len : BitVec 6) :
    bits x.toNat (pos.toNat + len.toNat) pos.toNat = (x.extractLsb' pos.toNat (len.toNat + 1)).toNat := by
  rw [bits, BitVec.extractLsb'_toNat, show pos.toNat + len.toNat + 1 - pos.toNat = len.toNat + 1 by omega]

theorem ofNat_sext64 {w : Nat} (x : BitVec w) : BitVec.ofNat 64 (sext64 w x.toNat) = x.signExtend 64 := by
  rw [sext64, sint_toNat, wrap_eq_ofInt, BitVec.ofNat_toNat, BitVec.setWidth_eq]
  rfl

/-- The two low halves joined are at most 64 bits (R113). -/
theorem pack_eq {w : Nat} (x y : BitVec w) : BitVec.ofNat 64 (x.toNat + y.toNat * 2 ^ w) = (y ++ x).setWidth 64 := by
  apply BitVec.eq_of_toNat_eq
  rw [BitVec.toNat_setWidth, BitVec.toNat_append, ← Nat.shiftLeft_add_eq_or_of_lt x.isLt, Nat.shiftLeft_eq, Nat.add_comm, BitVec.toNat_ofNat]

/-- Settles O6: a field read is an extracted part of the word, and a field written is read back bit by bit. -/
theorem immediatesAndFields : Obligations.ImmediatesAndFields := by
  intro d a b pos len ty sx imm s q field w
  refine ⟨fun h => (exec_movi ..).trans (scalar_joined h), fun h => ?movh, fun h => ?bfx, fun h => ?bfi, fun h => ?pack⟩
  case movh => rw [exec_movh, execMovh, scalar_joined h, movh_eq _ (by rfl)]
  case bfx =>
    rw [exec_bfx, execBfx, scalar_joined h]
    dsimp only
    rw [field_eq, apply_ite (BitVec.ofNat 64), ofNat_sext64, BitVec.ofNat_toNat]
  case bfi =>
    refine ⟨_, (exec_bfi ..).trans (scalar_joined h), fun i hi => ?_⟩
    rw [BitVec.getLsbD_ofNat, testBit_setBits]
    simp only [hi, decide_true, Bool.true_and, ← Nat.add_assoc, Nat.lt_succ_iff]
    rfl
  case pack => rw [exec_pack, execPack, scalar_joined h, low_eq, low_eq, pack_eq]

end Sys2Proof.Proofs
end

section
/-! NOP, TRAP, TRET and HIBER (R124 to R127, R398). -/
namespace Sys2Proof.Proofs
open Sys2Proof Sys2Proof.Machine Sys2Proof.Laws

/-- A slot whose one check traps makes that trap the bundle's verdict. -/
theorem runSlot_stopIf {s : State} {i : Instr} {q : Bun} {p : Bun → Bool} {t : TrapInfo} {f : Bun → Bun} (h : s.AtSlot i q)
    (hp : p q = true) : s.runSlot i (fun b => b.check [stopIf (p b) (.trap t)] f) = s.trapped t :=
  runSlot_trapped h (check_error (by rw [hp]; rfl))

/-- Settles O13: NOP and TRAP check nothing; HIBER and TRET check that the strand is in its handler. -/
theorem nopTrapHiberTret : Obligations.NopTrapHiberTret := fun _ _ _ =>
  ⟨fun h => (exec_nop ..).trans (scalar_joined h), fun h => (exec_trap ..).trans (runSlot_joined h check_nil),
    fun h hs => (exec_hiber ..).trans (runSlot_joined h (check_one (stopIf_false (by simp [hs])))),
    fun h hs => (exec_hiber ..).trans (runSlot_stopIf h (by rw [hs]; rfl)),
    fun h hs => (exec_tret ..).trans (runSlot_joined h (check_one (stopIf_false (by rw [hs]; rfl)))),
    fun h hs => (exec_tret ..).trans (runSlot_stopIf (p := fun b => !b.handler) h (by simp [hs]))⟩

end Sys2Proof.Proofs
end

section
/-! Element-wise results of the vector slots by type, and VADD, VSUB, VMUL, VFMA, VMIN and VMAX (R131, R133, R136, R351). -/
namespace Sys2Proof.Proofs
open Sys2Proof Sys2Proof.Machine Sys2Proof.Laws

/-! ### Results that an element of width w does not tell apart -/

/-- Two results with the same low `w` bits and the same flags and reports. -/
def SameIn {β : Type} (w : Nat) (r t : Nat × β) : Prop := r.1 % 2 ^ w = t.1 % 2 ^ w ∧ r.2 = t.2

theorem SameIn.rfl {β : Type} {w : Nat} {r : Nat × β} : SameIn w r r := ⟨Eq.refl _, Eq.refl _⟩

section
variable {s : State} {q : Bun} {i : Instr} {d : BitVec 6} {k : BitVec 3} {w bound unit : Nat}

/-- An instruction that gives its active elements as results with the low bits and flags of `op` writes them so. -/
theorem elementwise_of {f op : Nat → Nat × Flags} (hs : ∀ e, SameIn w (f e) (op e))
    (hx : s.AtSlot i q → exec i s = .next (q.joined i (q.elements d w k bound f))) : Elementwise s q i d k w bound op := by
  intro h
  rw [hx h, elements_eq]
  simp only [fun e => (hs e).2]
  refine ⟨_, rfl, fun e he => ?_⟩
  rw [elem_packElems_range (Nat.mul_div_le 4096 w) he]
  split
  · exact (hs e).1
  · exact elem_mod ..

theorem elementwiseShadowed_same {f op : Nat → Nat × Flags × List Split} (hs : ∀ e, SameIn w (f e) (op e))
    (h : ElementwiseShadowed s q i d k w bound unit f) : ElementwiseShadowed s q i d k w bound unit op := by
  intro hi
  obtain ⟨r, hx, hr⟩ := h hi
  refine ⟨r, ?_, fun e he => ?_⟩
  · simpa only [fun e => (hs e).2] using hx
  · rw [hr e he, (hs e).1]

end

/-! ### Results by type -/

/-- A result of a floating type by its format, or a number with no flags. -/
def byType (ty : Nat) (r : Fmt → Nat × Flags) (n : Nat) : Nat × Flags :=
  match floatOf ty with
  | some f => r f
  | none => (n, 0)

section
variable {w n m : Nat} (h : n % 2 ^ w = m % 2 ^ w) (ty : Nat) (r : Fmt → Nat × Flags)
include h

theorem byType_same : SameIn w (byType ty r n) (byType ty r m) := by
  unfold byType
  split
  · exact .rfl
  · exact ⟨h, rfl⟩

/-- The unit of a floating type takes the same result, and an integer's result is no unit's with a shadow (R351). -/
theorem mainElem_byType_same (q : Bun) (unit pos : Nat) :
    SameIn w (q.mainElem unit (floatOf ty) pos (byType ty r n)) (q.mainElem unit (floatOf ty) pos (byType ty r m)) := by
  unfold byType
  cases floatOf ty with
  | some f => exact .rfl
  | none => exact ⟨h, rfl⟩

end

theorem elemOp_eq (ty : BitVec 4) (fi : Int → Int → Int) (ff : Fmt → Nat → Nat → Nat × Flags) (x y : Nat) :
    elemOp ty fi ff x y =
      byType ty.toNat (fun f => ff f x y) (wrap (typeWidth ty.toNat) (fi (typeInt ty.toNat x) (typeInt ty.toNat y))) := rfl

theorem signElem_eq (ty : BitVec 4) (invert : Bool) (x : Nat) :
    signElem ty invert x = byType ty.toNat (fun f => signFlip f invert x)
      (wrap (typeWidth ty.toNat) (if invert then -typeInt ty.toNat x else (typeInt ty.toNat x).natAbs)) := rfl

/-! ### Integer results modulo 2^w (R105, R133) -/

theorem wrap_mod (w : Nat) (v : Int) : wrap w v % 2 ^ w = wrap w v := by
  rw [wrap_eq_ofInt, ← BitVec.toNat_ofNat, BitVec.ofNat_toNat, BitVec.setWidth_eq]

theorem wrap_of_ofInt {w n : Nat} {v : Int} (h : BitVec.ofInt w v = BitVec.ofNat w n) : wrap w v % 2 ^ w = n % 2 ^ w := by
  rw [wrap_mod, wrap_eq_ofInt, h, BitVec.toNat_ofNat]

section
variable (ty x y : Nat)

theorem wrap_add : wrap (typeWidth ty) (typeInt ty x + typeInt ty y) % 2 ^ typeWidth ty = (x + y) % 2 ^ typeWidth ty :=
  wrap_of_ofInt (by rw [BitVec.ofInt_add, ofInt_typeInt, ofInt_typeInt, BitVec.ofNat_add])

theorem wrap_sub (hy : y < 2 ^ typeWidth ty) :
    wrap (typeWidth ty) (typeInt ty x - typeInt ty y) % 2 ^ typeWidth ty = (x + 2 ^ typeWidth ty - y) % 2 ^ typeWidth ty := by
  refine wrap_of_ofInt ?_
  rw [Int.sub_eq_add_neg, BitVec.ofInt_add, BitVec.ofInt_neg, ofInt_typeInt, ofInt_typeInt, ← BitVec.sub_eq_add_neg, BitVec.ofNat_sub_ofNat,
    Nat.mod_eq_of_lt hy, Nat.add_comm, Nat.add_sub_assoc hy.le]

theorem wrap_mul : wrap (typeWidth ty) (typeInt ty x * typeInt ty y) % 2 ^ typeWidth ty = (x * y) % 2 ^ typeWidth ty :=
  wrap_of_ofInt (by rw [BitVec.ofInt_mul, ofInt_typeInt, ofInt_typeInt, BitVec.ofNat_mul])

theorem wrap_mul_add (z : Nat) : wrap (typeWidth ty) (typeInt ty x * typeInt ty y + typeInt ty z) % 2 ^ typeWidth ty =
    (x * y + z) % 2 ^ typeWidth ty :=
  wrap_of_ofInt (by rw [BitVec.ofInt_add, BitVec.ofInt_mul, ofInt_typeInt, ofInt_typeInt, ofInt_typeInt, BitVec.ofNat_add, BitVec.ofNat_mul])

theorem wrap_min : wrap (typeWidth ty) (min (typeInt ty x) (typeInt ty y)) % 2 ^ typeWidth ty =
    (if typeInt ty x ≤ typeInt ty y then x else y) % 2 ^ typeWidth ty := by
  rw [wrap_mod, min_def]
  split <;> exact wrap_typeInt ..

theorem wrap_max : wrap (typeWidth ty) (max (typeInt ty x) (typeInt ty y)) % 2 ^ typeWidth ty =
    (if typeInt ty x ≤ typeInt ty y then y else x) % 2 ^ typeWidth ty := by
  rw [wrap_mod, max_def]
  split <;> exact wrap_typeInt ..

end

/-! ### VADD to VMAX -/

section
variable {s : State} {q : Bun} {i : Instr} {d : BitVec 6} {ty : BitVec 4} {k : BitVec 3} {bound : Nat} {r : Nat → Fmt → Nat × Flags}
  {n m : Nat → Nat} (hn : ∀ e, n e % 2 ^ typeWidth ty.toNat = m e % 2 ^ typeWidth ty.toNat)
include hn

theorem typed_elementwise (hx : s.AtSlot i q →
      exec i s = .next (q.joined i (q.elements d (typeWidth ty.toNat) k bound (fun e => byType ty.toNat (r e) (n e))))) :
    Elementwise s q i d k (typeWidth ty.toNat) bound (fun e => byType ty.toNat (r e) (m e)) :=
  elementwise_of (fun e => byType_same (hn e) ..) hx

theorem typed_shadowed (hx : s.AtSlot i q → exec i s = .next (q.joined i (q.shadowedElements 1 d (typeWidth ty.toNat) k bound
      (fun e => q.mainElem 1 (floatOf ty.toNat) (typeWidth ty.toNat * e) (byType ty.toNat (r e) (n e)))))) :
    ElementwiseShadowed s q i d k (typeWidth ty.toNat) bound 1
      (fun e => q.mainElem 1 (floatOf ty.toNat) (typeWidth ty.toNat * e) (byType ty.toNat (r e) (m e))) :=
  elementwiseShadowed_same (fun e => mainElem_byType_same (hn e) ..) (elementwiseShadowed_of (fun hs _ => mainElem_unstruck hs ..) hx)

end

/-- Settles O24: each instruction gives its elements by type, an integer's modulo 2^w as the statement writes it. -/
theorem vectorArithmetic : Obligations.VectorArithmetic := by
  intro d a b c ty k bw s q w bound x y z op main least
  refine ⟨typed_shadowed (fun e => wrap_add ..) fun h => (exec_vadd ..).trans (scalar_joined h),
    typed_shadowed (fun e => wrap_sub _ _ _ (elem_lt ..)) fun h => (exec_vsub ..).trans (scalar_joined h),
    typed_shadowed (fun e => wrap_mul ..) fun h => (exec_vmul ..).trans (scalar_joined h),
    typed_shadowed (fun e => wrap_mul_add ..) fun h => (exec_vfma ..).trans (scalar_joined h),
    typed_elementwise (fun e => wrap_min ..) fun h => (exec_vmin ..).trans (scalar_joined h),
    typed_elementwise (fun e => wrap_max ..) fun h => (exec_vmax ..).trans (scalar_joined h)⟩

end Sys2Proof.Proofs
end

section
/-! VABS to VSHR, VCMP and VSEL, and the special functions (R131, R134, R135, R137, R138, R144, R145, R351). -/
namespace Sys2Proof.Proofs
open Sys2Proof Sys2Proof.Machine Sys2Proof.Laws

/-! ### Signs and shifts modulo 2^w (R134, R135) -/

theorem wrap_eq_emod (w : Nat) (v : Int) : wrap w v = (v % 2 ^ w).toNat := by rw [wrap, Nat.cast_pow]; rfl

theorem wrap_natAbs (w : Nat) (v : Int) : wrap w v.natAbs = (|v| % 2 ^ w).toNat := by rw [Int.natCast_natAbs, wrap_eq_emod]

section
variable {w : Nat} (x : BitVec w) (n : Nat)

theorem wrap_shl : wrap w (shift108 0 w x.toNat n) % 2 ^ w = (if w ≤ n then 0 else x.toNat * 2 ^ n) % 2 ^ w := by
  rw [wrap_mod, wrap_eq_ofInt, ofInt_shift108_left]
  split
  next h => rw [BitVec.shiftLeft_eq_zero h, BitVec.toNat_zero, Nat.zero_mod]
  next => rw [BitVec.toNat_shiftLeft, Nat.shiftLeft_eq]

theorem wrap_shr (signed : Bool) : wrap w (shift108 (if signed then 2 else 1) w x.toNat n) % 2 ^ w =
    (if signed then ((BitVec.ofNat w x.toNat).sshiftRight n).toNat else x.toNat >>> n) % 2 ^ w := by
  rw [wrap_mod, wrap_eq_ofInt, BitVec.ofNat_toNat, BitVec.setWidth_eq]
  cases signed with
  | true => exact (congrArg _ (ofInt_shift108_arithmetic x n)).trans (Nat.mod_eq_of_lt (BitVec.isLt _)).symm
  | false => exact (congrArg _ (ofInt_shift108_right x n)).trans (Nat.mod_eq_of_lt (BitVec.isLt (x >>> n))).symm

end

/-- An instruction that gives its active elements as bits, and raises no flag. -/
theorem bits_elementwise {s : State} {q : Bun} {i : Instr} {d : BitVec 6} {k : BitVec 3} {w bound : Nat} {n m : Nat → Nat}
    (hn : ∀ e, n e % 2 ^ w = m e % 2 ^ w) (hx : s.AtSlot i q → exec i s = .next (q.joined i (q.elements d w k bound (fun e => (n e, 0))))) :
    Elementwise s q i d k w bound (fun e => (m e, 0)) :=
  elementwise_of (f := fun e => (n e, 0)) (fun e => ⟨hn e, rfl⟩) hx

/-- Settles O25: the sign instructions give their elements by type, the others by the element's bits, shifts as R108 gives them. -/
theorem vectorBits : Obligations.VectorBits := by
  intro d a b ty k bw s q w bound x y sign
  refine ⟨typed_elementwise (fun e => congrArg (· % 2 ^ w) (wrap_natAbs ..)) fun h => (exec_vabs ..).trans (scalar_joined h),
    typed_elementwise (fun e => congrArg (· % 2 ^ w) (wrap_eq_emod ..)) fun h => (exec_vneg ..).trans (scalar_joined h),
    elementwise_of (fun _ => .rfl) fun h => (exec_vand ..).trans (scalar_joined h),
    elementwise_of (fun _ => .rfl) fun h => (exec_vor ..).trans (scalar_joined h),
    elementwise_of (fun _ => .rfl) fun h => (exec_vxor ..).trans (scalar_joined h),
    elementwise_of (fun _ => .rfl) fun h => (exec_vnot ..).trans (scalar_joined h),
    bits_elementwise (fun e => wrap_shl ..) fun h => (exec_vshl ..).trans (scalar_joined h),
    bits_elementwise (fun e => wrap_shr ..) fun h => (exec_vshr ..).trans (scalar_joined h)⟩

/-! ### VCMP and VSEL -/

/-- The bits of conditions packed from the lowest. -/
theorem testBit_packedConditions (l : List (Bool × Flags)) (i : Nat) :
    (l.foldr (fun r a => 2 * a + b2n r.1) 0).testBit i = ((l[i]?).map (·.1)).getD false := by
  induction l generalizing i with
  | nil => simp
  | cons x r ih =>
    have hb : b2n x.1 < 2 := by cases x.1 <;> decide
    cases i with
    | zero => cases h : x.1 <;> simp [h, b2n, Nat.testBit_zero]
    | succ i =>
      rw [List.foldr_cons, Nat.testBit_succ, Nat.mul_add_div (by decide), Nat.div_eq_of_lt hb, Nat.add_zero, ih]
      rfl

/-- The lanes of a predicate packed from the condition of each. -/
theorem getLsbD_packedConditions (r : Nat → Bool × Flags) {l : Nat} (hl : l < 128) :
    (BitVec.ofNat 128 (((List.range 128).map r).foldr (fun r a => 2 * a + b2n r.1) 0)).getLsbD l = (r l).1 := by
  rw [BitVec.getLsbD_ofNat, testBit_packedConditions]
  simp [hl]

/-- A condition counts where its lane is active alone. -/
theorem ite_inactive_fst (p : Bool) (r : Bool × Flags) : (if p then r else (false, 0)).1 = (p && r.1) := by cases p <;> rfl

/-- Settles O26: VCMP packs its conditions, and of an inactive lane none holds or raises a flag; VSEL packs its choices. -/
theorem vectorCompareSelect : Obligations.VectorCompareSelect := by
  intro d a b cond p k ty bw s q w bound lane active
  refine ⟨fun h => ?_, fun h => ⟨_, (exec_vsel ..).trans (scalar_joined h), fun e he => ?_⟩⟩
  · rw [exec_vcmp, execVcmp, scalar_joined h]
    simp only [List.foldl_map, apply_ite Prod.snd, or_ite_flags]
    refine ⟨_, rfl, fun l hl => ?_⟩
    exact (getLsbD_packedConditions _ hl).trans (ite_inactive_fst ..)
  · refine (elem_packElems_range (Nat.mul_div_le 4096 w) he).trans ?_
    dsimp only
    split <;> exact elem_mod ..

/-! ### The special functions -/

section
variable {f : Fmt} {x : Nat} {t : Bool} (h : f.decode x = .nan t)
include h

theorem exp2_nan : f.exp2 x = (f.nanCode, flagIf t flagNV) := by rw [Fmt.exp2, h]
theorem log2_nan : f.log2 x = (f.nanCode, flagIf t flagNV) := by rw [Fmt.log2, h]
theorem tanh_nan : f.tanh x = (f.nanCode, flagIf t flagNV) := by rw [Fmt.tanh, h]
theorem sigmoid_nan : f.sigmoid x = (f.nanCode, flagIf t flagNV) := by rw [Fmt.sigmoid, h]
theorem turns_nan (isCos : Bool) : f.turns isCos x = (f.nanCode, flagIf t flagNV) := by rw [Fmt.turns, h]

/-- Every special function of a NaN is the default NaN, with NV where it signals (R84, R144). -/
theorem special_nan (fn : Nat) : f.special fn x = (f.nanCode, flagIf t flagNV) := by
  unfold Fmt.special
  rw [h]
  split
  · exact exp2_nan h
  · exact log2_nan h
  · rfl
  · rfl
  · rfl
  · exact tanh_nan h
  · exact sigmoid_nan h
  · exact turns_nan h _
  · exact turns_nan h _

end

/-- An instruction of the special-function units gives its active elements by shadowed units (R144, R351). -/
theorem function_shadowed {s : State} {q : Bun} {i : Instr} {fn : Nat} {d a : BitVec 6} {ty : BitVec 4} {k : BitVec 3}
    (hx : s.AtSlot i q → exec i s = .next (q.joined i (q.function fn d a ty k))) :
    ElementwiseShadowed s q i d k (typeWidth ty.toNat) 8 2 (fun e => q.mainElem 2 (some ((floatOf ty.toNat).getD fmt32))
      (typeWidth ty.toNat * e) (((floatOf ty.toNat).getD fmt32).special fn (elem (q.vec a) (typeWidth ty.toNat) e))) :=
  elementwiseShadowed_of (fun hs _ => mainElem_unstruck hs ..) hx

/-- Settles O29: each instruction is its function, by shadowed units, and each function gives the default NaN for a NaN. -/
theorem specialFunctions : Obligations.SpecialFunctions := by
  intro d a ty k s q w f of
  refine ⟨function_shadowed fun h => (exec_vexp2 ..).trans (scalar_joined h), function_shadowed fun h => (exec_vlog2 ..).trans (scalar_joined h),
    function_shadowed fun h => (exec_vrcp ..).trans (scalar_joined h), function_shadowed fun h => (exec_vrsq ..).trans (scalar_joined h),
    function_shadowed fun h => (exec_vsqrt ..).trans (scalar_joined h), function_shadowed fun h => (exec_vtanh ..).trans (scalar_joined h),
    function_shadowed fun h => (exec_vsig ..).trans (scalar_joined h), function_shadowed fun h => (exec_vsin ..).trans (scalar_joined h),
    function_shadowed fun h => (exec_vcos ..).trans (scalar_joined h), fun fn _ x hx => ?_⟩
  obtain ⟨t, ht⟩ := isNan_iff.1 hx
  rw [special_nan ht]

end Sys2Proof.Proofs
end

section
/-! PATLD, its completion and PATSW (R147, R148, R359). -/
namespace Sys2Proof.Proofs
open Sys2Proof Sys2Proof.Machine Sys2Proof.Laws

/-! ### Bits of the bytes of a memory -/

theorem testBit_ofBytes (l : List Byte) (i : Nat) : (ofBytes l).testBit i = ((l[i / 8]?).getD 0#8).getLsbD (i % 8) := by
  induction l generalizing i with
  | nil => simp [ofBytes]
  | cons x r ih =>
    have hb : ofBytes (x :: r) = 2 ^ 8 * ofBytes r + x.toNat := congrArg (· + x.toNat) (Nat.mul_comm ..)
    rw [hb, Nat.testBit_two_pow_mul_add _ x.isLt]
    split
    next h => rw [Nat.div_eq_of_lt h, Nat.mod_eq_of_lt h]; rfl
    next h =>
      obtain ⟨j, rfl⟩ := Nat.exists_eq_add_of_le' (Nat.not_lt.1 h)
      rw [Nat.add_sub_cancel, ih, Nat.add_div_right _ (by decide), Nat.add_mod_right]
      rfl

theorem testBit_readCells (m : List Host.Cell) (a : Nat) {n i : Nat} (h : i < 8 * n) :
    (readCells m a n).testBit i = (Tab.get m 0#8 (a + i / 8)).getLsbD (i % 8) := by
  have hi : i / 8 < n := Nat.div_lt_of_lt_mul h
  rw [readCells, testBit_ofBytes, List.getElem?_map, List.getElem?_range hi]
  rfl

/-! ### A run of a table's keys written -/

theorem get_foldl_set {α : Type} [DecidableEq α] {m : Map α} (h : Tab.rising m = true) (d : α) (base n k : Nat) (v : Nat → α) :
    Tab.get ((List.range n).foldl (fun m i => Tab.set m d (base + i) (v i)) m) d k =
      if base ≤ k ∧ k < base + n then v (k - base) else Tab.get m d k := by
  induction n with
  | zero => rw [List.range_zero, List.foldl_nil, if_neg (by omega)]
  | succ n ih =>
    rw [List.range_succ, List.foldl_append, List.foldl_cons, List.foldl_nil, get_set (rising_foldl (fun _ _ => rising_set) _ h), ih]
    by_cases hk : base + n = k
    · subst hk; simp
    · rw [if_neg hk]
      congr 1
      exact propext (by omega)

/-! ### PATLD's address -/

/-- An aligned address whose register is sound, with all its bytes in the scratchpad, stops nothing (R176, R335, R349). -/
theorem regAddrStop_spad {q : Bun} {a : BitVec 6} {size align : Nat} (ha : q.badReg a = false) (hz : 0 < size) (hal : (q.val a).toNat % align = 0)
    (hs : (q.val a).toNat + size ≤ q.core.spadSize) : q.regAddrStop a 1 size align = none := by
  have hlt : (q.val a).toNat < 2 ^ 21 := by
    have hc : q.core.spadSize ≤ 1572864 := Nat.sub_le ..
    omega
  have hmod : (q.val a).toNat % 2 ^ 56 = (q.val a).toNat := Nat.mod_eq_of_lt (by omega)
  have hspace : q.spaceStop 1 size (q.val a) = none := by
    unfold Bun.spaceStop
    dsimp only
    rw [hmod]
    exact stopIf_false (by simp; omega)
  have haddr : q.addrStop 1 size align (q.val a) = none := by
    unfold Bun.addrStop
    rw [hspace, stopIf_false (decide_eq_false (by omega)), stopIf_false (by simp [hal])]
    rfl
  unfold Bun.regAddrStop Bun.addrResidue
  rw [haddr, stopIf_false ha]
  rfl

/-! ### PATLD_COMPLETE -/

/-- Pattern `i` of a load: 96 bits of its 16 bytes of the scratchpad, undefined where a word of them is uncorrectable (R56, R359). -/
def loadedPattern (s : State) (c : Nat) (p : PatLoad) (i : Nat) : BitVec 128 :=
  let off := p.offset + 16 * i
  BitVec.ofNat 128 ((if s.badSpad.contains (c, off / 8) || s.badSpad.contains (c, off / 8 + 1) then
    (Config.freeBits s.free (128 + i)).toNat else readCells (s.core c).spad off 16) % 2 ^ 96)

section
variable {s : State} {c : Nat} {p : PatLoad} {rest : List PatLoad}

theorem badSpad_contains_false {n : Nat} (h : ∀ w ∈ s.badSpad, w.1 = c → n ≠ w.2) : s.badSpad.contains (c, n) = false := by
  rw [List.contains_eq_mem, decide_eq_false_iff_not]
  exact fun hm => h _ hm rfl rfl

theorem loadedPattern_bit {i b : Nat} (hb : b < 96)
    (hw : ∀ w ∈ s.badSpad, w.1 = c → (p.offset + 16 * i) / 8 ≠ w.2 ∧ (p.offset + 16 * i) / 8 + 1 ≠ w.2) :
    (loadedPattern s c p i).getLsbD b = (s.spadByte c (p.offset + 16 * i + b / 8)).getLsbD (b % 8) := by
  unfold loadedPattern
  dsimp only
  rw [badSpad_contains_false fun w hm hc => (hw w hm hc).1, badSpad_contains_false fun w hm hc => (hw w hm hc).2, BitVec.getLsbD_ofNat,
    Nat.testBit_mod_two_pow, decide_eq_true (show b < 128 by omega), decide_eq_true hb]
  exact testBit_readCells _ _ (by omega)

variable (hp : (s.core c).patlds = p :: rest) (hc : Tab.rising s.cores = true)
include hp hc

theorem completePatld_patlds : ((s.completePatld c).core c).patlds = rest := by
  unfold State.completePatld
  rw [hp]
  exact congrArg Core.patlds (core_mapCore_self (s := { s with free := s.free + 1 }) hc c _)

theorem completePatld_pats : ((s.completePatld c).core c).share.pats =
    (List.range p.count).foldl (fun m i => Tab.set m 0 (64 * p.bank + p.first + i) (loadedPattern s c p i)) (s.core c).share.pats := by
  unfold State.completePatld
  rw [hp]
  exact congrArg (fun k => k.share.pats) (core_mapCore_self (s := { s with free := s.free + 1 }) hc c _)

theorem completePatld_pat (hr : Tab.rising (s.core c).share.pats = true) (k : Nat) :
    Tab.get ((s.completePatld c).core c).share.pats 0 k =
      if 64 * p.bank + p.first ≤ k ∧ k < 64 * p.bank + p.first + p.count then loadedPattern s c p (k - (64 * p.bank + p.first))
      else Tab.get (s.core c).share.pats 0 k := by
  rw [completePatld_pats hp hc, get_foldl_set hr]

end

/-- Settles O32: PATLD and PATSW pass their one check, and the first load's completion writes its patterns and nothing beside them. -/
theorem patterns : Obligations.Patterns := by
  intro first a count s q c p rest n off loading
  refine ⟨fun h ha hal hs => (exec_patld ..).trans (runSlot_joined h (check_one (regAddrStop_spad ha (by omega) hal hs))),
    fun h hp => (exec_patsw ..).trans (runSlot_joined h (check_one (stopIf_false (by rw [hp]; rfl)))),
    fun hp hc hr => ⟨_, exec_patldComplete c s, completePatld_patlds hp hc, fun i hi hw b hb => ?_, fun m hm => ?_⟩⟩
  · rw [completePatld_pat hp hc hr, if_pos (by omega), Nat.add_sub_cancel_left]
    exact loadedPattern_bit hb hw
  · rw [completePatld_pat hp hc hr, if_neg (by omega)]

end Sys2Proof.Proofs
end

section
/-! What the parts of a micro-op leave of its operation and of its core (R153, R157, R359). -/
namespace Sys2Proof.Proofs
open Sys2Proof Sys2Proof.Machine Sys2Proof.Laws

/-! ### A core that is not as at reset -/

section
variable {s : State} {c x : Nat}

theorem core_ne_reset {k : Core} (h : k.mq ≠ []) : k ≠ {} := fun he => h (he ▸ rfl)

/-- A core that is not as at reset reads back what was set, whatever the table lists. -/
theorem core_setCore_listed {k : Core} (h : k ≠ {}) : (s.setCore c k).core c = k := by
  unfold State.core State.setCore Tab.set Tab.get
  rw [if_neg h, find?_put, if_pos rfl]
  rfl

theorem core_mapStrand_ctxs (f : Strand → Strand) (h : (s.core c).mq ≠ []) :
    (s.mapStrand c x f).core c = { s.core c with ctxs := ((s.mapStrand c x f).core c).ctxs } := by
  unfold State.mapStrand
  split
  next t _ =>
    have hne : (s.core c).setStrand x (f t) ≠ {} := core_ne_reset h
    have hc : (s.setStrand c x (f t)).core c = (s.core c).setStrand x (f t) := core_setCore_listed hne
    rw [hc]
    rfl
  · rfl

end

/-! ### A micro-op at its turn -/

section
variable {s : State} {m : Micro}

theorem micro_runs (h : s.AtMicro m) (f : Micro → State) : s.micro f = .next (f m) := by
  obtain ⟨cur, o, hcur, ho, rfl⟩ := h
  unfold State.micro
  rw [hcur]
  dsimp only
  rw [ho]

theorem mq_of_atMicro (h : s.AtMicro m) : (m.st.core m.core).mq ≠ [] := by
  obtain ⟨cur, o, -, ho, rfl⟩ := h
  intro he
  have hnil : (s.core cur.core).mq = [] := he
  rw [hnil] at ho
  cases ho

end

/-! ### Reading and writing a tile -/

/-- A micro-op's tiles and the traps due of its strand may differ, and nothing else of its operation and of its core. -/
structure TilesOnly (m n : Micro) : Prop where
  core_eq : n.core = m.core
  op_eq : n.op = { m.op with orphan := n.op.orphan, orphanBad := n.op.orphanBad }
  ctxs_only : (m.st.core m.core).mq ≠ [] → n.st.core m.core = { m.st.core m.core with ctxs := (n.st.core m.core).ctxs }

section
variable {m n l : Micro}

theorem TilesOnly.at_eq (h : TilesOnly m n) : n.op.at_ = m.op.at_ := by rw [h.op_eq]
theorem TilesOnly.stepDone_eq (h : TilesOnly m n) : n.op.stepDone = m.op.stepDone := by rw [h.op_eq]
theorem TilesOnly.fmt_eq (h : TilesOnly m n) : n.op.fmt = m.op.fmt := by rw [h.op_eq]
theorem TilesOnly.reserved_eq (h : TilesOnly m n) : n.op.reserved = m.op.reserved := by rw [h.op_eq]

theorem TilesOnly.refl (m : Micro) : TilesOnly m m := ⟨rfl, rfl, fun _ => rfl⟩

theorem TilesOnly.trans (h : TilesOnly m n) (k : TilesOnly n l) : TilesOnly m l := by
  refine ⟨k.core_eq.trans h.core_eq, ?_, fun hm => ?_⟩
  · rw [k.op_eq, h.op_eq]
  · have hn := h.ctxs_only hm
    have hk := k.ctxs_only (by rw [h.core_eq, hn]; exact hm)
    rw [h.core_eq] at hk
    rw [hk, hn]

theorem tilesOnly_setTile (m : Micro) (t : Nat) (v : TileReg) : TilesOnly m (m.setTile t v) := by
  unfold Micro.setTile
  split
  · exact ⟨rfl, rfl, fun _ => rfl⟩
  · exact ⟨rfl, rfl, core_mapStrand_ctxs _⟩
  · exact .refl m

theorem tilesOnly_renew (m : Micro) (t : Nat) : TilesOnly m (m.renew t) := by
  unfold Micro.renew
  split
  · exact ⟨rfl, rfl, fun _ => rfl⟩
  · exact ⟨rfl, rfl, core_mapStrand_ctxs _⟩
  · exact .refl m

theorem tilesOnly_torn (m : Micro) (a : Nat) : TilesOnly m (m.torn a) := by
  unfold Micro.torn
  split
  · exact ⟨rfl, rfl, core_mapStrand_ctxs (s := { m.st with free := m.st.free + 1 }) _⟩
  · exact ⟨rfl, rfl, fun _ => rfl⟩

theorem tilesOnly_readTile (m : Micro) (t : Nat) : TilesOnly m (m.readTile t) := by
  unfold Micro.readTile
  split
  · exact .refl m
  · exact ((tilesOnly_setTile ..).trans (tilesOnly_renew ..)).trans (tilesOnly_torn ..)

end

/-! ### Reading a ring -/

theorem readRing_op (m : Micro) (r : Nat) : (m.readRing r).op = m.op := by
  unfold Micro.readRing
  split
  · rfl
  · dsimp only
    split <;> rfl

theorem readRing_core (m : Micro) (r : Nat) : (m.readRing r).core = m.core := by
  unfold Micro.readRing
  split
  · rfl
  · dsimp only
    split <;> rfl

/-! ### The checks of a micro-op -/

theorem offMask_eq {m : Micro} {t : Nat} {v : Bool} (h : m.op.tiles.testBit t = v) : m.offMask t = !v := by rw [Micro.offMask, h]

end Sys2Proof.Proofs
end

section
/-! The micro-ops that control an operation: KZERO, KLOOP, KENDL and KEND (R153, R154, R169). -/
namespace Sys2Proof.Proofs
open Sys2Proof Sys2Proof.Machine Sys2Proof.Laws

variable {s : State} {m : Micro} {tile : BitVec 3} {csel : BitVec 6} {imm : BitVec 32}

theorem kzero_off (h : s.AtMicro m) (ht : m.op.tiles.testBit (m.tileNo tile) = false) : exec (.kzero tile) s = .next (m.fail 0x12) := by
  rw [exec_kzero, execKzero, micro_runs h]
  dsimp only
  rw [offMask_eq ht]
  rfl

theorem kzero_clears {t : Nat} {zeroed : Micro} (h : s.AtMicro m) (hn : m.tileNo tile = t) (ht : m.op.tiles.testBit t = true)
    (hz : (m.renew t).setTile t { isInt := bits m.op.fmt.toNat 51 48 == 1, image := 0 } = zeroed) :
    exec (.kzero tile) s = .next ({ zeroed with op := { zeroed.op with
      kpos := Tab.set m.op.kpos 0 t 0, zeroed := t :: m.op.zeroed.filter (· ≠ t), sums := (List.range 64).foldl (fun l r => Tab.erase l (64 * t + r)) m.op.sums,
      at_ := m.op.at_ + 1, stepDone := 0 } } : Micro).keep := by
  have hat : zeroed.op.at_ = m.op.at_ := (hz ▸ (tilesOnly_renew m t).trans (tilesOnly_setTile ..)).at_eq
  rw [exec_kzero, execKzero, micro_runs h, ← hat]
  dsimp only [Micro.advance]
  rw [hn, offMask_eq ht, Bool.not_true, if_neg Bool.false_ne_true, hz]

section
variable (h : s.AtMicro m) (hd : (Instr.kloop csel imm).defect = none) (hl : m.op.loops.length < 2)
include h hd hl

theorem kloop_opens (hn : 0 < m.count csel imm) : exec (.kloop csel imm) s = .next ({ m with op := { m.op with
    loops := (m.op.at_ + 1, m.count csel imm - 1) :: m.op.loops, at_ := m.op.at_ + 1, stepDone := 0 } } : Micro).keep := by
  rw [exec_kloop, execKloop, micro_runs h]
  dsimp only
  rw [hd, if_neg (by simp), if_neg (by omega), if_neg (by omega)]
  rfl

theorem kloop_passes (hn : m.count csel imm = 0) : exec (.kloop csel imm) s = .next ({ m with op := { m.op with
    at_ := skipLoop (m.op.words.drop (m.op.at_ + 1)) (m.op.at_ + 1) 0 } } : Micro).keep := by
  rw [exec_kloop, execKloop, micro_runs h]
  dsimp only
  rw [hd, if_neg (by simp), if_neg (by omega), if_pos hn]

end

section
variable {w r : Nat} {rest : List (Nat × Nat)} (h : s.AtMicro m) (hl : m.op.loops = (w, r) :: rest)
include h hl

theorem kendl_goesBack (hr : 0 < r) :
    exec .kendl s = .next ({ m with op := { m.op with at_ := w, loops := (w, r - 1) :: rest } } : Micro).keep := by
  obtain ⟨n, rfl⟩ := Nat.exists_eq_add_of_le' hr
  rw [exec_kendl, execKendl, micro_runs h, hl]
  rfl

theorem kendl_closes (hr : r = 0) :
    exec .kendl s = .next ({ m with op := { m.op with loops := rest, at_ := m.op.at_ + 1, stepDone := 0 } } : Micro).keep := by
  subst hr
  rw [exec_kendl, execKendl, micro_runs h, hl]
  rfl

end

theorem kend_retires (h : s.AtMicro m) : exec .kend s = .next m.retire := by rw [exec_kend, execKend, micro_runs h]

/-- Settles O34: each of the four is one branch of its micro-op, and reading or writing a tile leaves the place in the routine. -/
theorem microControl : Obligations.MicroControl := fun _ _ _ _ _ h =>
  ⟨fun ht => kzero_clears h rfl ht rfl, kzero_off h, fun hd hl => ⟨kloop_opens h hd hl, kloop_passes h hd hl⟩,
    fun _ _ _ hl => ⟨kendl_goesBack h hl, kendl_closes h hl⟩, kend_retires h⟩

end Sys2Proof.Proofs
end

section
/-! What retiring a matrix operation leaves of its queue and of its strand (R158, R161, R169). -/
namespace Sys2Proof.Proofs
open Sys2Proof Sys2Proof.Machine Sys2Proof.Laws

variable {s t u : State} {m : Micro} {c x : Nat}

/-! ### What the log and the choice of the engine leave of a core -/

theorem cores_foldl {α : Type} {f : State → α → State} (hf : ∀ s x, (f s x).cores = s.cores) (l : List α) (s : State) :
    (l.foldl f s).cores = s.cores := by
  induction l generalizing s with
  | nil => rfl
  | cons x r ih => exact (ih _).trans (hf s x)

theorem latch_cores (s : State) : s.latch.cores = s.cores := by
  unfold State.latch
  extract_lets s1 s2 s3 s4 s5
  have h1 : s1.cores = s.cores := cores_foldl (fun s e => (setHreg_cores ..).trans
    (cores_foldl (fun _ _ => (setHreg_cores ..).trans (setHreg_cores ..)) (List.range 4) s)) _ s
  have h2 : s2.cores = s1.cores := cores_foldl (fun s _ => cores_foldl (fun _ _ => setHreg_cores ..) (List.range 15) s) _ s1
  have h3 : s3.cores = s2.cores := cores_foldl (fun s p => by dsimp only; split <;> rw [setHreg_cores]) _ s2
  have h4 : s4.cores = s3.cores := cores_foldl (fun _ _ => setHreg_cores ..) _ s3
  have h5 : s5.cores = s4.cores := cores_foldl (fun _ _ => setHreg_cores ..) _ s4
  clear_value s1 s2 s3 s4 s5
  refine (cores_foldl (fun s g => ?_) _ _).trans (h5.trans (h4.trans (h3.trans (h2.trans h1))))
  dsimp only
  split <;> rw [setHreg_cores]

theorem pushLog_cores (s : State) (c : Nat) (e : LogEntry) : (s.pushLog c e).cores = s.cores := setCluster_cores ..

theorem fire_cores (s : State) (source : Nat) : (s.fire source).cores = s.cores := by
  unfold State.fire
  dsimp only
  split
  · rw [pushLog_cores, latch_cores, setHreg_cores, setHreg_cores]
  · rw [setHreg_cores]

theorem log_cores (s : State) (c source cls code owner : Nat) (addr detail : Word) : (s.log c source cls code owner addr detail).cores = s.cores := by
  unfold State.log State.logEntry
  dsimp only
  split
  · rw [fire_cores, pushLog_cores]
  · rw [pushLog_cores]

/-- The strands of a core stand as they were, and its queue holds no operation that was not there. -/
structure QueueKept (c : Nat) (s t : State) : Prop where
  rising : Tab.rising t.cores = true
  ctxs : (t.core c).ctxs = (s.core c).ctxs
  ids : ∀ o ∈ (t.core c).mq, ∃ e ∈ (s.core c).mq, e.id = o.id

theorem QueueKept.trans (h : QueueKept c s t) (k : QueueKept c t u) : QueueKept c s u :=
  ⟨k.rising, k.ctxs.trans h.ctxs, fun o ho =>
    let ⟨e, he, hi⟩ := k.ids o ho
    let ⟨e', he', hi'⟩ := h.ids e he
    ⟨e', he', hi'.trans hi⟩⟩

theorem queueKept_of_cores (hr : Tab.rising s.cores = true) (h : t.cores = s.cores) : QueueKept c s t := by
  have hc : t.core c = s.core c := by unfold State.core; rw [h]
  exact ⟨h ▸ hr, by rw [hc], fun o ho => ⟨o, hc ▸ ho, rfl⟩⟩

theorem queueKept_setCore (hr : Tab.rising s.cores = true) {k : Core} (hx : k.ctxs = (s.core c).ctxs)
    (hi : ∀ o ∈ k.mq, ∃ e ∈ (s.core c).mq, e.id = o.id) : QueueKept c s (s.setCore c k) := by
  have hc : (s.setCore c k).core c = k := by rw [core_setCore hr, if_pos rfl]
  exact ⟨rising_setCore hr c k, by rw [hc, hx], by rw [hc]; exact hi⟩

theorem mem_putOp {k : Core} {o e : MatrixOp} (h : e ∈ (k.putOp o).mq) : ∃ d ∈ k.mq, d.id = e.id := by
  obtain ⟨d, hd, rfl⟩ := List.mem_map.1 h
  refine ⟨d, hd, ?_⟩
  split
  · assumption
  · rfl

theorem queueKept_stopOp (hr : Tab.rising s.cores = true) : QueueKept c s (s.stopOp c) := by
  refine queueKept_setCore hr rfl fun o ho => ?_
  obtain ⟨e, he, rfl⟩ := List.mem_map.1 ho
  refine ⟨e, he, ?_⟩
  split <;> rfl

theorem queueKept_putOp (hr : Tab.rising s.cores = true) (o : MatrixOp) : QueueKept c s (s.setCore c ((s.core c).putOp o)) :=
  queueKept_setCore hr rfl fun _ => mem_putOp

theorem queueKept_chooseOp (hr : Tab.rising s.cores = true) : QueueKept c s (s.chooseOp c) := by
  have h1 : QueueKept c s (s.stopOp c) := queueKept_stopOp hr
  unfold State.chooseOp
  extract_lets s1 k
  split
  · exact h1
  · extract_lets start
    split
    · exact h1.trans (queueKept_putOp h1.rising _)
    · split
      · refine h1.trans (queueKept_setCore h1.rising rfl fun o ho => ?_)
        obtain ⟨d, hd, hdo⟩ := mem_putOp ho
        obtain ⟨e, he, hed⟩ := mem_putOp hd
        exact ⟨e, he, hed.trans hdo⟩
      · exact h1

theorem queueKept_logEmulated (hr : Tab.rising s.cores = true) (owner : Nat) (fmt : Word) : QueueKept c s (s.logEmulated c owner fmt) := by
  have hset : ∀ v, QueueKept c s (s.mapCore c (fun k => { k with emulated := Tab.set k.emulated (0, 0) (bits fmt.toNat 63 56) v })) :=
    fun v => queueKept_setCore hr rfl fun o ho => ⟨o, ho, rfl⟩
  unfold State.logEmulated
  extract_lets pair e
  split
  · exact queueKept_of_cores hr rfl
  · split
    · exact (hset _).trans (queueKept_of_cores (hset _).rising (log_cores ..))
    · exact hset _

/-! ### Retiring -/

theorem popRings_ctxs {k : Core} {o : MatrixOp} {rs : List Nat} : (popRings k o rs).1.ctxs = k.ctxs := by
  unfold popRings
  induction rs generalizing k o with
  | nil => rfl
  | cons r rest ih => exact ih

theorem mq_mapStrand (hr : Tab.rising s.cores = true) (f : Strand → Strand) : ((s.mapStrand c x f).core c).mq = (s.core c).mq := by
  unfold State.mapStrand
  split
  next t _ => exact (congrArg Core.mq (core_mapCore_self hr c (·.setStrand x (f t))) :)
  · rfl

/-- The record of a retired operation and its flags, taken by its strand (R158, R169). -/
def retiredBy (o : MatrixOp) (t : Strand) : Strand :=
  { t with flags := t.flags ||| (o.flags &&& 0x1E#6),
           retire := t.retire ++ [(o.tag, BitVec.ofNat 64 ((min o.excl (2 ^ 32 - 1)) <<< 32 ||| o.routine <<< 8 ||| o.status))],
           checksums := if o.status = 0x15 then t.checksums ++ [o.tag] else t.checksums }

theorem retire_leaves {t : Strand} (hr : Tab.rising m.st.cores = true) (hx : m.ctx = some x) (ht : m.st.strand m.core x = some t) :
    (∀ o ∈ (m.retire.core m.core).mq, o.id ≠ m.op.id) ∧ m.retire.strand m.core x = some (retiredBy m.op t) := by
  unfold Micro.retire
  extract_lets k p popped s1 o word s2 owner s3 s4
  have hs1 : s1.core m.core = { p.1 with mq := p.1.mq.filter (fun e => e.id != m.op.id) } := by rw [core_setCore hr, if_pos rfl]
  have hr1 : Tab.rising s1.cores = true := rising_setCore hr ..
  have hs2 : s2 = s1.mapStrand m.core x (retiredBy m.op) := by
    unfold s2
    rw [hx]
    rfl
  have hr2 : Tab.rising s2.cores = true := by
    rw [hs2]
    unfold State.mapStrand
    split
    · exact rising_mapCore hr1 ..
    · exact hr1
  have hk3 : QueueKept m.core s2 s3 := queueKept_logEmulated hr2 ..
  have hk4 : QueueKept m.core s3 s4 := by
    unfold s4
    split
    · exact queueKept_of_cores hk3.rising rfl
    · exact queueKept_of_cores hk3.rising (log_cores ..)
  have hk := (hk3.trans hk4).trans (queueKept_chooseOp hk4.rising)
  constructor
  · intro e he
    obtain ⟨d, hd, hde⟩ := hk.ids e he
    rw [hs2, mq_mapStrand hr1, hs1] at hd
    rw [← hde]
    exact ne_of_beq_false (by simpa using (List.mem_filter.1 hd).2)
  · have ht1 : s1.strand m.core x = some t := by
      unfold State.strand Core.strand
      rw [hs1]
      dsimp only
      rw [popRings_ctxs]
      exact ht
    unfold State.strand Core.strand
    rw [hk.ctxs, hs2]
    exact strand_mapStrand_self hr1 _ ht1

/-- Settles O35: after the operation has left the queue the log and the engine's next choice keep its strand and put nothing in its queue. -/
theorem matrixRetires : Obligations.MatrixRetires := by
  intro s m x t h hr hx ht record sums
  have hcores : m.st.cores = s.cores := by obtain ⟨cur, o, -, -, rfl⟩ := h; rfl
  exact ⟨_, kend_retires h, retire_leaves (hcores ▸ hr) hx ht⟩

end Sys2Proof.Proofs
end

section
/-! A KSTEP whose checks pass (R154, R157 to R159, R161). -/
namespace Sys2Proof.Proofs
open Sys2Proof Sys2Proof.Machine Sys2Proof.Laws

variable {s : State} {m : Micro} {tile ra rb : BitVec 3} {csel : BitVec 6} {ctl : BitVec 4} {imm : BitVec 32}

theorem makeStep_stepDone (m : Micro) (t a b : Nat) : (m.makeStep t a b).op.stepDone = m.op.stepDone + 1 := by
  rw [← (tilesOnly_readTile m t).stepDone_eq]
  rfl

section
variable {t a b n : Nat} {m1 : Micro} (h : s.AtMicro m) (hd : (Instr.kstep tile ra rb csel ctl imm).defect = none)
  (htile : m.tileNo tile = t) (hra : m.ringNo ra = a) (hrb : m.ringNo rb = b) (hn : m.count csel imm = n) (hm1 : (m.readRing a).readRing b = m1)
  (ht : m.op.tiles.testBit t = true) (ha : m.op.rings.testBit a = true) (hb : m.op.rings.testBit b = true)
  (hs : m1.scaleRange (Tab.get m.op.kpos 0 t) (n - m.op.stepDone) = false)
include h hd htile hra hrb hn hm1 ht ha hb hs

/-- With its operands inside the call's masks a KSTEP comes to its pops, its wait or its k-step, its rings read. -/
theorem kstep_runs : exec (.kstep tile ra rb csel ctl imm) s = .next (if n = 0 then (m1.finishStep a b ctl).keep
    else if !m1.present a b then m1.waits
    else ((if m.op.stepDone + 1 = n then (m1.makeStep t a b).finishStep a b ctl else m1.makeStep t a b).keep.chooseOp m.core)) := by
  have hop : m1.op = m.op := by rw [← hm1, readRing_op, readRing_op]
  have hcore : m1.core = m.core := by rw [← hm1, readRing_core, readRing_core]
  have hcount : m1.count csel imm = n := by rw [← hn, Micro.count, Micro.count, hop]
  rw [exec_kstep, execKstep, micro_runs h]
  dsimp only
  rw [hd, htile, hra, hrb, hm1, hcount, hop, hs, offMask_eq ht, ha, hb, makeStep_stepDone, hop, hcore]
  rfl

end

/-- Settles O36: the checks passed, the count and the presence of the blocks tell which of the three a KSTEP makes. -/
theorem microStep : Obligations.MicroStep := by
  intro tile ra rb csel ctl imm s m h i t a b n m1 made after hd ht ha hb hs
  have hruns := kstep_runs h hd rfl rfl rfl rfl rfl ht ha hb hs
  refine ⟨fun hn hp => hruns.trans ?_, fun hn => hruns.trans (congrArg _ (if_pos hn))⟩
  have hwait : ¬ (!m1.present a b) = true := by rw [hp]; exact Bool.false_ne_true
  exact congrArg _ ((if_neg (Nat.ne_of_gt hn)).trans (if_neg hwait))

end Sys2Proof.Proofs
end

section
/-! The micro-ops that read a whole tile: KROWS, KSUM and KEPI (R154, R162 to R166, R359, R370). -/
namespace Sys2Proof.Proofs
open Sys2Proof Sys2Proof.Machine Sys2Proof.Laws

variable {s : State} {m0 m : Micro} {tile mp : BitVec 3} {t w : Nat}

/-- The operation moved past its current micro-word with flags raised. -/
def pastWord (m : Micro) (flags : Flags) : Micro :=
  { m with op := { m.op with flags := m.op.flags ||| flags, at_ := m.op.at_ + 1, stepDone := 0 } }

/-! ### KROWS and KSUM -/

/-- The rows of a tile, each element times the factor of its row, as codes with flags (R154). -/
def scaledRows (k : Core) (d : Nat) (image : Tile) : List (List (Nat × Flags)) :=
  (tileRows image).mapIdx (fun i r => r.map (fun c => fmt32.mul c (readCells k.spad (d + 4 * i) 4)))

/-- The image of a tile with these elements (R44). -/
def rowsImage (rows : List (List (Nat × Flags))) : Tile := BitVec.ofNat 131072 (rows.flatten.foldr (fun e v => v <<< 32 ||| e.1) 0)
/-- The flags that its elements raise. -/
def rowsFlags (rows : List (List (Nat × Flags))) : Flags := rows.foldl (fun f r => r.foldl (fun f e => f ||| e.2) f) 0

section
variable (h : s.AtMicro m0) (htile : m0.tileNo tile = t) (hm : m0.readTile t = m) (ht : m0.op.tiles.testBit t = true)

include h hm in
/-- Reading its tile leaves the core of a micro-op all but its strands. -/
theorem read_core : m.st.core m.core = { m0.st.core m0.core with ctxs := (m.st.core m.core).ctxs } := by
  obtain ⟨hc, -, hx⟩ := hm ▸ tilesOnly_readTile m0 t
  rw [hc]
  exact hx (mq_of_atMicro h)

include h hm in
theorem read_spad_collFree : (m0.st.core m0.core).spadSize = (m.st.core m.core).spadSize ∧ (m0.st.core m0.core).spad = (m.st.core m.core).spad ∧
    (m0.st.core m0.core).collFree = (m.st.core m.core).collFree := by
  rw [read_core h hm]
  exact ⟨rfl, rfl, rfl⟩

include h hm ht in
/-- The four checks of a KEPI whose word is well formed and whose chunk has a place pass (R162 to R164). -/
theorem kepi_passes {route : BitVec 2} (hd : (Instr.kepi tile route mp).defect = none) (hb : badDest route.toNat (bits m.op.fmt.toNat 47 44) w = false)
    (hc : route = 1#2 → m.op.reserved ≠ 0 ∨ (m.st.core m.core).collFree ≠ 0) (u v x y z : State) :
    (if (Instr.kepi tile route mp).defect.isSome then u else if m0.offMask t then v
      else if badDest route.toNat (bits m0.op.fmt.toNat 47 44) w then x
      else if route = 1#2 && m0.op.reserved = 0 && (m0.st.core m0.core).collFree = 0 then y else z) = z := by
  have hread := hm ▸ tilesOnly_readTile m0 t
  obtain ⟨-, -, hfree⟩ := read_spad_collFree h hm
  rw [hd, offMask_eq ht, ← hread.fmt_eq, hb, ← hread.reserved_eq, hfree]
  refine (if_neg (by simp)).trans ((if_neg (by simp)).trans ((if_neg (by simp)).trans (if_neg ?_)))
  simpa [or_iff_not_imp_left] using hc

include h htile hm ht

theorem ksum_tests {tests : List (Bool × Bool)} (hz : t ∈ m0.op.zeroed) (hr : (tileRows (m.tile t).image).mapIdx
      (fun i r => rowFails (m.tile t).isInt (Tab.get m.op.kpos 0 t) (Tab.get m.op.sums {} (64 * t + i)) r) = tests) :
    exec (.ksum tile) s = .next ({ m with op := { m.op with
      excl := m.op.excl + (tests.filter (·.1)).length,
      status := if m.op.status = 0 && tests.any (·.2) then 0x15 else m.op.status, at_ := m.op.at_ + 1, stepDone := 0 } } : Micro).keep := by
  have hz' : m0.op.zeroed.contains t = true := List.contains_iff_mem.2 hz
  rw [exec_ksum, execKsum, micro_runs h]
  dsimp only [Micro.advance]
  rw [htile, offMask_eq ht, hz', hm, hr]
  rfl

variable (hw : (Tab.get m0.op.mp 0 mp.toNat).toNat = w)
include hw

theorem krows_scales {rows : List (List (Nat × Flags))} {n : Micro} (hf : (m0.tile t).isInt = false)
    (hs : w % 2 ^ 24 + 256 ≤ (m.st.core m.core).spadSize) (hb : ∀ i < 64, (m.core, (w % 2 ^ 24 + 4 * i) / 8) ∉ m.st.badSpad)
    (hr : scaledRows (m.st.core m.core) (w % 2 ^ 24) (m.tile t).image = rows)
    (hn : m.setTile t { m.tile t with image := rowsImage rows } = n) :
    exec (.krows tile mp) s = .next ({ n with op := { n.op with flags := m.op.flags ||| rowsFlags rows, at_ := m.op.at_ + 1, stepDone := 0 } } : Micro).keep := by
  obtain ⟨hsize, hspad, -⟩ := read_spad_collFree h hm
  have hat : n.op.at_ = m.op.at_ := (hn ▸ tilesOnly_setTile m t _).at_eq
  have hgood : (List.range 64).filter (fun i => m.st.badSpad.contains (m.core, (w % 2 ^ 24 + 4 * i) / 8)) = [] :=
    List.filter_eq_nil_iff.2 fun i hi hc => hb i (List.mem_range.1 hi) (List.contains_iff_mem.1 hc)
  unfold scaledRows at hr
  unfold rowsImage at hn
  rw [exec_krows, execKrows, micro_runs h, ← hat]
  dsimp only [Micro.advance]
  rw [htile, hw, offMask_eq ht, hf, hsize, hspad, hm, hgood, hr, if_neg (by simp), if_neg (by simp), if_neg (by omega)]
  dsimp only
  rw [hn]
  rfl

/-! ### KEPI -/

theorem kepi_scratchpad {r : List Byte × List Byte × Flags} (hd : (Instr.kepi tile 0#2 mp).defect = none)
    (hb : badDest 0 (bits m.op.fmt.toNat 47 44) w = false) (hr : epilogue m.op.fmt (m.tile t) = r) :
    exec (.kepi tile 0#2 mp) s = .next ({ pastWord m r.2.2 with
      st := (pastWord m r.2.2).writeSpad (epilogueWrites (w % 2 ^ 24) r.1 ++ epilogueWrites (bits w 55 32) r.2.1) } : Micro).keep := by
  have hpass := kepi_passes h hm ht hd hb nofun
  rw [exec_kepi, execKepi, micro_runs h]
  subst htile hw
  refine congrArg _ ((hpass ..).trans ?_)
  rw [hm, ← hr]
  rfl

/-- The chunk that route 1 queues for the collective engine (R164). -/
def epilogueChunk (m : Micro) (w : Nat) (data : List Byte) : CollChunk :=
  { id := m.st.nextReq + 1, gang := m.op.gang, member := m.op.member, slot := m.op.slot, slotOwner := m.slotOwner, ctx := (m.ctx).getD m.op.ctx,
    comb := bits w 63 60, addr := w % 2 ^ 56, data := data, reservedBy := m.op.id }

theorem kepi_queues {r : List Byte × List Byte × Flags} (hd : (Instr.kepi tile 1#2 mp).defect = none)
    (hb : badDest 1 (bits m.op.fmt.toNat 47 44) w = false) (hc : m.op.reserved ≠ 0 ∨ (m.st.core m.core).collFree ≠ 0)
    (hr : epilogue m.op.fmt (m.tile t) = r) :
    exec (.kepi tile 1#2 mp) s = .next ({ pastWord m r.2.2 with
      st := { m.st with nextReq := m.st.nextReq + 1 }.setCore m.core
        { m.st.core m.core with collq := (m.st.core m.core).collq ++ [epilogueChunk m w (r.1 ++ r.2.1)] },
      op := { (pastWord m r.2.2).op with reserved := m.op.reserved - 1 } } : Micro).keep := by
  have hpass := kepi_passes h hm ht hd hb fun _ => hc
  rw [exec_kepi, execKepi, micro_runs h]
  subst htile hw
  refine congrArg _ ((hpass ..).trans ?_)
  rw [hm, ← hr]
  rfl

section
variable {r : List Byte × List Byte × Flags} (hd : (Instr.kepi tile 2#2 mp).defect = none)
  (hb : badDest 2 (bits m.op.fmt.toNat 47 44) w = false) (hr : epilogue m.op.fmt (m.tile t) = r)
include hd hb hr

theorem kepi_views {v : Vitrine} (hv : Tab.find? m.st.vitrines (routeIndex (BitVec.ofNat 64 w)) = some v) (ho : v.owner = m.owner) :
    exec (.kepi tile 2#2 mp) s = .next ({ pastWord m r.2.2 with st := (pastWord m r.2.2).writeView m.slotOwner v (epilogueWrites (w % 2 ^ 40) r.1 ++
      epilogueWrites (w % 2 ^ 40 + r.1.length) r.2.1) } : Micro).keep := by
  have hpass := kepi_passes h hm ht hd hb nofun
  rw [exec_kepi, execKepi, micro_runs h]
  subst htile hw
  refine congrArg _ ((hpass ..).trans ?_)
  rw [hm]
  dsimp only
  rw [if_neg (by decide), if_neg (by decide), hv]
  dsimp only
  rw [if_pos ho, ← hr]
  rfl

theorem kepi_freezes (hv : ∀ v, Tab.find? m.st.vitrines (routeIndex (BitVec.ofNat 64 w)) = some v → v.owner ≠ m.owner) :
    exec (.kepi tile 2#2 mp) s = .next ({ pastWord m r.2.2 with st := (pastWord m r.2.2).freeze 0 (w % 2 ^ 40) (r.1.take 32) 0 } : Micro).keep := by
  have hpass := kepi_passes h hm ht hd hb nofun
  rw [exec_kepi, execKepi, micro_runs h]
  subst htile hw
  refine congrArg _ ((hpass ..).trans ?_)
  rw [hm]
  dsimp only
  rw [if_neg (by decide), if_neg (by decide), ← hr]
  cases hf : Tab.find? m.st.vitrines (routeIndex (BitVec.ofNat 64 (Tab.get m0.op.mp 0 mp.toNat).toNat)) with
  | none => rfl
  | some v =>
    dsimp only
    rw [if_neg (hv v hf)]
    rfl

end

end

/-- Settles O38: with its checks passed each of the three is one branch of its micro-op, on the tile as it reads it. -/
theorem microTiles : Obligations.MicroTiles := by
  intro tile mp s m0 h t m old w k rows image flags tests status r done chunk ht
  have hn : m.setTile t { m.tile t with image := rowsImage rows } = m.setTile t { old with image := image } := rfl
  exact ⟨fun hf hs hb => krows_scales (m := m) (w := w) (rows := rows) h rfl rfl ht rfl hf hs hb rfl hn, fun hz => ksum_tests h rfl rfl ht hz rfl,
    fun hd hb => kepi_scratchpad h rfl rfl ht rfl hd hb rfl, fun hd hb hc => kepi_queues h rfl rfl ht rfl hd hb hc rfl,
    fun hd hb => ⟨fun v hv ho => kepi_views h rfl rfl ht rfl hd hb rfl hv ho, fun hv => kepi_freezes h rfl rfl ht rfl hd hb rfl hv⟩⟩

end Sys2Proof.Proofs
end

section
/-! The instructions of the X slot that drive the matrix engine: MCALL, MPSET, ACCRD, ACCWR and ACCZ (R160, R167, R170 to R173). -/
namespace Sys2Proof.Proofs
open Sys2Proof Sys2Proof.Machine Sys2Proof.Laws

variable {s : State} {q : Bun} {d a b : BitVec 6} {t n : BitVec 3} {idx : BitVec 1} {pair : BitVec 5}

/-! ### MCALL and MPSET -/

/-- The operation that an MCALL queues (R160, R170). -/
def calledOp (q : Bun) (tag : BitVec 4) (prio : BitVec 3) (routine : BitVec 8) (reserved : Nat) (words : List (BitVec 64)) : MatrixOp :=
  let call := (Tab.get q.share.mp 0 0).toNat
  { id := q.st.nextReq + 1, routine := routine.toNat, tag := tag.toNat, prio := prio.toNat, mp := q.share.mp, fmt := q.fmtSampled, ctx := q.cur.ctx,
    gang := q.strand.gang, member := q.strand.member, slot := q.strand.slot, tiles := call % 256, rings := bits call 15 8, words := words,
    reserved := reserved, since := q.core.cycle }

theorem testBit_low_byte (n : Nat) {i : Nat} (hi : i < 8) : (n % 256).testBit i = n.testBit i := by
  rw [show 256 = 2 ^ 8 from rfl, Nat.testBit_mod_two_pow, decide_eq_true hi, Bool.true_and]

theorem testBit_second_byte (n : Nat) {i : Nat} (hi : i < 8) : (bits n 15 8).testBit i = n.testBit (8 + i) := by
  rw [bits, Nat.testBit_mod_two_pow, Nat.testBit_shiftRight, decide_eq_true hi, Bool.true_and]

theorem mcall_queues {tag : BitVec 4} {prio : BitVec 3} {routine : BitVec 8} {reserved : Nat} {words : List (BitVec 64)} {call : Nat}
    (hcall : (Tab.get q.share.mp 0 0).toNat = call) (h : s.AtSlot (.mcall tag prio routine) q)
    (hr : Tab.find? q.core.routines routine.toNat = some (reserved, words)) (hw : callReserved call = false)
    (ht : ∀ i < 8, call.testBit i = true → i < q.strand.accs)
    (hz : ∀ i < 8, call.testBit (8 + i) = true → (Tab.get q.share.rings {} i).size ≠ 0)
    (hl : q.core.mq.length < 16) (hf : reserved ≤ q.core.collFree) :
    exec (.mcall tag prio routine) s = .next (q.joined (.mcall tag prio routine) (q.withState (fun s =>
      { s with nextReq := q.st.nextReq + 1 }.mapCore q.cur.core (fun k => { k with mq := k.mq ++ [calledOp q tag prio routine reserved words] })))) := by
  have htile : (List.range 8).find? (fun i => (call % 256).testBit i && q.strand.accs ≤ i) = none := by
    refine List.find?_eq_none.2 fun i hi hb => ?_
    have hi8 : i < 8 := List.mem_range.1 hi
    rw [testBit_low_byte _ hi8, Bool.and_eq_true, decide_eq_true_eq] at hb
    exact Nat.not_le.2 (ht i hi8 hb.1) hb.2
  have hring : (List.range 8).any (fun i => (bits call 15 8).testBit i && (Tab.get q.share.rings {} i).size == 0) = false := by
    refine List.any_eq_false.2 fun i hi hb => ?_
    have hi8 : i < 8 := List.mem_range.1 hi
    rw [testBit_second_byte _ hi8, Bool.and_eq_true, beq_iff_eq] at hb
    exact hz i hi8 hb.1 hb.2
  rw [exec_mcall]
  refine runSlot_joined h ?_
  dsimp only
  rw [hr, hcall, htile, hring, hw]
  subst hcall
  refine check_ok.2 ⟨firstStop_all_none _ ?_, rfl⟩
  simp only [List.mem_cons, List.not_mem_nil, or_false, forall_eq_or_imp, forall_eq]
  refine ⟨stopIf_false rfl, rfl, stopIf_false ?_⟩
  simp
  omega

theorem mpset_sets (h : s.AtSlot (.mpset n a) q) (ha : q.badReg a = false) :
    exec (.mpset n a) s = .next (q.joined (.mpset n a) (q.shareWrite (.mp n.toNat (q.val a)))) :=
  (exec_mpset ..).trans (runSlot_joined h (check_one (stopIf_false ha)))

/-! ### What an ACCRD shows -/

/-- Element `e` of a row pair. -/
def lane (v : Vec) (e : Nat) : BitVec 32 := v.extractLsb' (32 * e) 32

/-- All bits of the elements below `n` that `p` picks. -/
def laneMask (n : Nat) (p : Nat → Bool) : Vec :=
  (List.range n).foldl (fun m e => if p e then m ||| (0xFFFFFFFF#4096 <<< (32 * e)) else m) 0

theorem laneMask_succ (n : Nat) (p : Nat → Bool) :
    laneMask (n + 1) p = if p n then laneMask n p ||| (0xFFFFFFFF#4096 <<< (32 * n)) else laneMask n p := by
  unfold laneMask
  rw [List.range_succ, List.foldl_append]
  rfl

theorem getLsbD_laneMask (n : Nat) (p : Nat → Bool) {i : Nat} (hi : i < 4096) : (laneMask n p).getLsbD i = (decide (i / 32 < n) && p (i / 32)) := by
  have hfield : ∀ k, (0xFFFFFFFF#4096 <<< (32 * k)).getLsbD i = decide (i / 32 = k) := by
    intro k
    have hones : (0xFFFFFFFF#4096).getLsbD (i - 32 * k) = decide (i - 32 * k < 32) := by
      rw [BitVec.getLsbD_ofNat, show (0xFFFFFFFF : Nat) = 2 ^ 32 - 1 from rfl, Nat.testBit_two_pow_sub_one]
      simp
      omega
    rw [BitVec.getLsbD_shiftLeft, hones]
    grind
  induction n with
  | zero => simp [laneMask]
  | succ k ih =>
    rw [laneMask_succ]
    have hbit : (if p k then laneMask k p ||| (0xFFFFFFFF#4096 <<< (32 * k)) else laneMask k p).getLsbD i =
        (decide (i / 32 < k) && p (i / 32) || decide (i / 32 = k) && p k) := by
      split
      next hp => rw [BitVec.getLsbD_or, ih, hfield, hp, Bool.and_true]
      next hp => rw [ih, Bool.eq_false_of_not_eq_true hp, Bool.and_false, Bool.or_false]
    rw [hbit]
    clear hfield ih hbit hi
    grind

/-- Of two row pairs, each element from the one that a mask of whole elements picks. -/
theorem lane_masked (v old : Vec) (p : Nat → Bool) {e : Nat} (he : e < 128) :
    lane ((v &&& ~~~laneMask 128 p) ||| (old &&& laneMask 128 p)) e = if p e then lane old e else lane v e := by
  refine BitVec.eq_of_getLsbD_eq fun j hj => ?_
  have hm := getLsbD_laneMask 128 p (i := 32 * e + j) (by omega)
  rw [show (32 * e + j) / 32 = e by omega, decide_eq_true he, Bool.true_and] at hm
  unfold lane
  split
  next hp => simp [hj, hm, hp]
  next hp => simp [hj, hm, hp]; omega

/-- Each element that an ACCRD reads is the tile's, or what an unretired operation found there (R167). -/
theorem shownPair_lane (q : Bun) (t p : Nat) {e : Nat} (he : e < 128) :
    lane (q.shownPair t p) e = lane ((q.strand.tile t).image.extractLsb' (4096 * p) 4096) e ∨
      ∃ o ∈ q.core.mq, ∃ old, Tab.find? o.before t = some old ∧ lane (q.shownPair t p) e = lane (old.extractLsb' (4096 * p) 4096) e := by
  unfold Bun.shownPair
  extract_lets u ops
  refine List.foldlRecOn ops _ (motive := fun v => lane v e = lane ((u.tile t).image.extractLsb' (4096 * p) 4096) e ∨
    ∃ o ∈ q.core.mq, ∃ old, Tab.find? o.before t = some old ∧ lane v e = lane (old.extractLsb' (4096 * p) 4096) e) (.inl rfl) fun v hv o ho => ?_
  dsimp only
  split
  · exact hv
  next old hold =>
    have hmix := lane_masked v (old.extractLsb' (4096 * p) 4096) (fun e => Config.freeChoice (64 * q.st.free + q.cur.slot) (128 * o.id + e)) he
    split at hmix
    · exact .inr ⟨o, (List.mem_filter.1 ho).1, old, hold, hmix⟩
    · exact hv.imp hmix.trans fun ⟨o, ho, old, hold, hl⟩ => ⟨o, ho, old, hold, hmix.trans hl⟩

/-- A tile that no unretired operation names is read as it stands (R167). -/
theorem shownPair_idle {t : Nat} (p : Nat) (h : q.tileBusy (2 ^ t) = false) : q.shownPair t p = (q.strand.tile t).image.extractLsb' (4096 * p) 4096 := by
  unfold Bun.tileBusy at h
  unfold Bun.shownPair
  extract_lets u ops
  have hops : ops = [] := List.filter_eq_nil_iff.2 fun o ho => by
    rw [Nat.one_shiftLeft]
    exact List.any_eq_false.1 h o ho
  rw [hops]
  rfl

section
variable {p : Nat} (h : s.AtSlot (.accrd d t b idx pair) q) (hp : q.rowPair b idx pair = p) (hlt : p < 32)
include h hp hlt

theorem accrd_reads (hb : q.strand.badPair t.toNat p = []) :
    exec (.accrd d t b idx pair) s = .next (q.joined (.accrd d t b idx pair) (q.writeVec d (q.shownPair t.toNat p) 10)) := by
  rw [exec_accrd]
  refine runSlot_joined h ((check_one (stopIf_false ?_)).trans ?_)
  · rw [hp]
    exact decide_eq_false (Nat.not_le.2 hlt)
  · rw [hp, hb]

theorem accrd_torn {w : Nat} {rest : List Nat} (hb : q.strand.badPair t.toNat p = w :: rest) :
    ∃ r : Vec, exec (.accrd d t b idx pair) s = .next (q.joined (.accrd d t b idx pair) ((q.writeVec d r 10).addDue
      { cause := 0x0D, sub := 1, addr := BitVec.ofNat 64 (8 * (w % 2048)), info := BitVec.ofNat 64 (2 ^ 63 + d.toNat * 2 ^ 32) })) := by
  refine ⟨Config.freeBits (64 * q.st.free + q.cur.slot) 4, ?_⟩
  rw [exec_accrd]
  refine runSlot_joined h ((check_one (stopIf_false ?_)).trans ?_)
  · rw [hp]
    exact decide_eq_false (Nat.not_le.2 hlt)
  · rw [hp, hb]

end

/-! ### ACCWR and ACCZ -/

theorem accwr_replaces {p : Nat} (h : s.AtSlot (.accwr t a b idx pair) q) (hp : q.rowPair b idx pair = p) (hlt : p < 32)
    (hb : q.tileBusy (2 ^ t.toNat) = false) :
    exec (.accwr t a b idx pair) s = .next (q.joined (.accwr t a b idx pair) (q.withState (fun s => s.mapStrand q.cur.core q.cur.ctx (fun u =>
      { u.setTile t.toNat { u.tile t.toNat with image := tilePut (u.tile t.toNat).image p (q.vec a) } with
        badAcc := u.badAcc.filter (fun w => !(u.badPair t.toNat p).contains w) })))) := by
  subst hp
  rw [exec_accwr]
  refine runSlot_joined h (check_ok.2 ⟨firstStop_all_none _ ?_, rfl⟩)
  simp only [List.mem_cons, List.not_mem_nil, or_false, forall_eq_or_imp, forall_eq]
  exact ⟨stopIf_false (decide_eq_false (Nat.not_le.2 hlt)), stopIf_false (by rw [Nat.one_shiftLeft]; exact hb)⟩

theorem accz_clears {mask : BitVec 8} (h : s.AtSlot (.accz mask) q) (hb : q.tileBusy mask.toNat = false) :
    exec (.accz mask) s = .next (q.joined (.accz mask) (q.withState (fun s => s.mapStrand q.cur.core q.cur.ctx (fun u =>
      (List.range 8).foldl (fun u i => if mask.getLsbD i then
        { u.setTile i { u.tile i with image := 0 } with badAcc := u.badAcc.filter (fun w => w / 2048 ≠ i) } else u) u)))) :=
  (exec_accz ..).trans (runSlot_joined h (check_one (stopIf_false hb)))

/-- Settles O33: each instruction joins its bundle where its checks pass, and what ACCRD shows of a busy tile is read element by element. -/
theorem matrixInstructions : Obligations.MatrixInstructions := by
  intro d a b tag prio n t routine mask idx pair reserved words s q call u p row lane op strand
  refine ⟨mcall_queues rfl, mpset_sets, fun h hp => ⟨fun hb hi => ?_, fun hb => ⟨_, accrd_reads h rfl hp hb, fun e he => shownPair_lane q _ _ he⟩,
    fun w rest hb => accrd_torn h rfl hp hb⟩, fun h hp hb => accwr_replaces h rfl hp hb, accz_clears⟩
  rw [accrd_reads h rfl hp hb, shownPair_idle _ hi]
  rfl

end Sys2Proof.Proofs
end

section
/-! SPAN, BARRIVE, BWAIT, WAIT and MWAIT as slots of a bundle (R169, R174, R211, R257, R259 to R261). -/
namespace Sys2Proof.Proofs
open Sys2Proof Sys2Proof.Machine Sys2Proof.Laws

variable {s s1 : State} {q : Bun} {d a b c : BitVec 6} {queue fn space : BitVec 2} {texp : BitVec 5} {cond : BitVec 3} {sz masked all : BitVec 1}
  {tag : BitVec 4} {st gen : Nat} {w : Waiter}

/-! ### SPAN -/

/-- The number whose bit `n`, below `k`, is the condition of `n`. -/
theorem testBit_foldl_bits (k : Nat) (p : Nat → Bool) (i : Nat) :
    ((List.range k).foldl (fun m n => if p n then m ||| (1 <<< n) else m) 0).testBit i = (decide (i < k) && p i) := by
  induction k with
  | zero => simp
  | succ k ih =>
    rw [List.range_succ, List.foldl_append, List.foldl_cons, List.foldl_nil]
    split
    next hp =>
      rw [Nat.testBit_or, ih, Nat.one_shiftLeft, Nat.testBit_two_pow]
      grind
    next hp =>
      rw [ih]
      grind

theorem span_meets (h : s.AtSlot (.span d a b) q) :
    let va := (q.val a).toNat
    let hi := min (va + (q.val b).toNat) (2 ^ 56)
    ∃ r : Word, exec (.span d a b) s = .next (q.joined (.span d a b) (q.writeReg d r 1)) ∧
      ∀ x < 64, (r.getLsbD x = true ↔ x < 8 ∧ (Tab.get q.share.spans {} x).live = true ∧ va < hi ∧
        va < (Tab.get q.share.spans {} x).start.toNat + (Tab.get q.share.spans {} x).len ∧ (Tab.get q.share.spans {} x).start.toNat < hi) := by
  intro va hi
  refine ⟨_, (exec_span ..).trans (scalar_joined h), fun x hx => ?_⟩
  rw [BitVec.getLsbD_ofNat, decide_eq_true hx, Bool.true_and, testBit_foldl_bits]
  simp only [Bool.and_eq_true, decide_eq_true_eq, and_assoc]
  exact Iff.rfl

/-! ### BARRIVE -/

theorem barrive_enters (h : s.AtSlot (.barrive a b queue fn) q) :
    let va := (q.val a).toNat
    let v := (q.val b).toNat
    let m := barriveMods queue
    let parts := loadParts (loadRun va 0 16)
    let sent := q.beforeImmediate parts m
    q.regAddrStop a 0 16 16 = none → (fn ≠ 2#2 → v < 65536) → (fn = 1#2 → v ≠ 0) → q.copyStop 0 va 16 = none →
    (∀ x ∈ q.immediateStops parts m, x = none) → sent.creditStop m.queue 1 = none →
    exec (.barrive a b queue fn) s = .next (q.joined (.barrive a b queue fn)
      (sent.enter (sent.request m.queue (.barrive fn.toNat (if fn = 2#2 then 0 else v)) parts m))) := by
  intro va v m parts sent ha hv hz hc hi hq
  rw [exec_barrive]
  refine runSlot_joined h (check_ok.2 ⟨firstStop_all_none _ fun e he => ?_, rfl⟩)
  simp only [List.mem_append, List.mem_cons, List.not_mem_nil, or_false] at he
  rcases he with ((rfl | rfl | rfl | rfl) | he) | rfl
  · exact ha
  · refine stopIf_false ?_
    by_cases hf : fn = 2#2
    · simp [hf]
    · simpa [hf] using hv hf
  · exact stopIf_false (by simpa using hz)
  · exact hc
  · exact hi e he
  · exact hq

/-! ### BWAIT and WAIT -/

/-- Once its strand holds an answer that is no fault, a wait that is held somewhere stops no more (R260, R261). -/
theorem waitStops_answered {va : Word} {space queue : Nat} (ha : q.strand.answer = some (st, gen)) (hs : st < 16) :
    q.waitStops va space queue (s1, .ok w) = [] := by
  unfold Bun.waitStops
  dsimp only
  rw [ha]
  exact if_neg (Nat.not_le.2 hs)

section
variable (hn : q.strand.answer = some (st, gen)) (hs : st < 16)
include hn hs

theorem bwait_answered (h : s.AtSlot (.bwait d a b queue texp) q) (ha : q.regAddrStop a 0 16 16 = none)
    (hw : q.waiter (q.val a).toNat 16 0 queue.toNat (some ((q.val b).toNat % 65536)) 0 0 0 texp.toNat = (s1, .ok w)) :
    let b1 := (q.withState (fun _ => s1)).writeReg d (BitVec.ofNat 64 (gen <<< 16 ||| st)) 1
    exec (.bwait d a b queue texp) s = .next (q.joined (.bwait d a b queue texp) (if st = 0 then b1.withState (fun s => s.readerHalf q.cur.core 3) else b1)) := by
  rw [exec_bwait]
  refine runSlot_joined h ?_
  dsimp only
  rw [ha, hw, waitStops_answered hn hs]
  refine check_ok.2 ⟨rfl, ?_⟩
  rw [hn]
  rfl

theorem wait_answered (h : s.AtSlot (.wait d a b cond texp c space sz queue masked) q) :
    let n := if sz = 1#1 then 8 else 4
    let mask := if masked = 1#1 then q.val c else BitVec.allOnes 64
    let b1 := (q.withState (fun _ => s1)).writeReg d (BitVec.ofNat 64 st) 1
    q.regAddrStop a space.toNat n n = none →
    q.waiter (q.val a).toNat n space.toNat queue.toNat none cond.toNat mask (q.val b) texp.toNat = (s1, .ok w) →
    exec (.wait d a b cond texp c space sz queue masked) s = .next (q.joined (.wait d a b cond texp c space sz queue masked)
      (if st = 0 then b1.withState (fun s => s.readerHalf q.cur.core 3) else b1)) := by
  intro n mask b1 ha hw
  rw [exec_wait]
  refine runSlot_joined h ?_
  dsimp only
  rw [ha, hw, waitStops_answered hn hs]
  refine check_ok.2 ⟨rfl, ?_⟩
  rw [hn]
  rfl

end

/-! ### MWAIT -/

theorem mwait_takes (h : s.AtSlot (.mwait d all tag) q) :
    let t := q.strand
    let covers := fun (x : Nat) => all = 1#1 || x == tag.toNat
    let taken := mergeRetire ((t.retire.filter (fun e => covers e.1)).map (·.2))
    (∀ x ∈ t.checksums, covers x = false) →
    (∀ o ∈ q.core.mq, o.gang = t.gang → o.member = t.member → o.slot = t.slot → covers o.tag = true → q.cur.begun < o.id) →
    exec (.mwait d all tag) s = .next (q.joined (.mwait d all tag) ((q.withState (fun s => s.mapStrand q.cur.core q.cur.ctx
      (fun t => { t with retire := t.retire.filter (fun e => !covers e.1) }))).writeReg d taken 1)) := by
  intro t covers taken hc ho
  have hsum : t.checksums.find? covers = none := List.find?_eq_none.2 fun x hx => by rw [hc x hx]; exact Bool.false_ne_true
  have hwait : q.core.mq.any (fun o => o.gang == t.gang && o.member == t.member && o.slot == t.slot && covers o.tag && o.id ≤ q.cur.begun) = false := by
    refine List.any_eq_false.2 fun o hm hb => ?_
    simp only [Bool.and_eq_true, beq_iff_eq, decide_eq_true_eq] at hb
    obtain ⟨⟨⟨⟨hg, hmem⟩, hslot⟩, hcov⟩, hid⟩ := hb
    exact Nat.not_le.2 (ho o hm hg hmem hslot hcov) hid
  rw [exec_mwait]
  refine runSlot_joined h (check_ok.2 ⟨firstStop_all_none _ ?_, rfl⟩)
  simp only [List.mem_cons, List.not_mem_nil, or_false, forall_eq_or_imp, forall_eq]
  refine ⟨?_, stopIf_false hwait⟩
  unfold Bun.checksumStop
  exact congrArg _ hsum

/-- Settles O40: each instruction joins its bundle where its checks pass, and a wait's checks are met by an answer that is no fault. -/
theorem barriersAndWaits : Obligations.BarriersAndWaits := by
  intro d a b c queue fn space texp cond sz masked all tag st gen s s1 w q t va v m parts sent n mask met covers taken
  exact ⟨span_meets, barrive_enters, fun h hn hs ha hw => bwait_answered hn hs h ha hw, fun h hn hs ha hw => wait_answered hn hs h ha hw, mwait_takes⟩

end Sys2Proof.Proofs
end

section
/-! MATRIX_CHOOSE, COPY_COMPLETE, WALK_HOP and ROUTE1_CHUNK_APPLY (R161, R164, R197, R198, R218, R255, R391). -/
namespace Sys2Proof.Proofs
open Sys2Proof Sys2Proof.Machine Sys2Proof.Laws

variable {s s1 : State} {c n id rec_ : Nat} {o : MatrixOp} {y y1 : CopyOp} {w w1 : Walk} {fault : Option (Nat × Nat)} {k : CollChunk}
  {rest : List CollChunk}

/-! ### MATRIX_CHOOSE -/

theorem put_of_find? {α : Type} {m : Map α} {k : Nat} {v : α} (hr : Tab.rising m = true) (h : Tab.find? m k = some v) : Tab.put m k v = m := by
  induction m with
  | nil => cases h
  | cons e r ih =>
    obtain ⟨j, u⟩ := e
    obtain ⟨ha, hr⟩ := rising_cons.1 hr
    rw [Tab.find?] at h
    split at h
    next hj =>
      obtain rfl := Option.some.inj h
      rw [Tab.put, if_neg (by omega), if_pos hj, hj]
    next hj =>
      have hk : j < k := ha _ (mem_of_find? h)
      rw [Tab.put, if_neg (by omega), if_neg hj, ih hr h]

/-- Setting a core that is not as at reset to what it is changes nothing. -/
theorem setCore_same (hr : Tab.rising s.cores = true) (hne : s.core c ≠ {}) : s.setCore c (s.core c) = s := by
  have hf : Tab.find? s.cores c = some (s.core c) := by
    unfold State.core Tab.get at hne ⊢
    cases hc : Tab.find? s.cores c with
    | none => rw [hc] at hne; exact absurd rfl hne
    | some k => rfl
  unfold State.setCore Tab.set
  rw [if_neg hne, put_of_find? hr hf]

/-- With no operation running there is none to suspend. -/
theorem stopOp_idle (hr : Tab.rising s.cores = true) (hq : (s.core c).mq ≠ []) (hi : ∀ e ∈ (s.core c).mq, e.running = false) : s.stopOp c = s := by
  have hmap : (s.core c).mq.map (fun o => if o.running && !s.mayRunOp c o then { o with running := false, since := (s.core c).cycle } else o) = (s.core c).mq :=
    (List.map_congr_left fun o ho => by rw [hi o ho]; rfl).trans (List.map_id _)
  unfold State.stopOp State.mapCore
  dsimp only
  rw [hmap]
  exact setCore_same hr (core_ne_reset hq)

/-- The operation as the engine starts it (R161, R167). -/
def startedOp (k : Core) (o : MatrixOp) : MatrixOp :=
  { o with running := true, kept := false, eff := k.effective o, saved := none, before := if o.started then o.before else k.found o }

theorem matrixChoose_starts (hi : ∀ e ∈ (s.core c).mq, e.running = false) (hb : s.bestOp c = some o) (hr : Tab.rising s.cores = true) :
    ∃ t, exec (.matrixChoose c) s = .next t ∧ (t.core c).mq = (s.core c).mq.map (fun e => if e.id = o.id then startedOp (s.core c) o else e) := by
  have hq : (s.core c).mq ≠ [] := by
    intro hnil
    unfold State.bestOp at hb
    dsimp only at hb
    rw [hnil] at hb
    cases hb
  have hidle : (s.core c).mq.any (·.running) = false := List.any_eq_false.2 fun e he => by rw [hi e he]; exact Bool.false_ne_true
  have hnone : (s.core c).mq.find? (·.running) = none := List.find?_eq_none.2 fun e he => by rw [hi e he]; exact Bool.false_ne_true
  have hchoose : s.chooseOp c = s.setCore c ((s.core c).putOp (startedOp (s.core c) o)) := by
    unfold State.chooseOp
    dsimp only
    rw [stopOp_idle hr hq hi, hb]
    dsimp only
    rw [hnone]
    rfl
  refine ⟨_, exec_matrixChoose c s, ?_⟩
  rw [hidle, if_neg Bool.false_ne_true, hchoose, core_setCore hr, if_pos rfl]
  rfl

/-! ### COPY_COMPLETE -/

/-- The first copy of a span is the first of that span that may be made, where it may be. -/
theorem find?_ready (hf : (s.core c).copies.find? (fun z => z.span == n) = some y) (hr : s.copyReady c y = true) :
    (s.core c).copies.find? (fun z => z.span == n && s.copyReady c z) = some y := by
  obtain ⟨hs, l, r, hl, hn⟩ := List.find?_eq_some_iff_append.1 hf
  refine List.find?_eq_some_iff_append.2 ⟨by rw [hs, hr]; rfl, l, r, hl, fun z hz => ?_⟩
  rw [Bool.not_and, hn z hz, Bool.true_or]

/-- The gang share once the span of a copy is free (R55, R255). -/
def freedShare (n : Nat) (y : CopyOp) (h : Share) : Share :=
  if y.freed then h else { h with spans := Tab.set h.spans {} n { Tab.get h.spans {} n with live := false } }

theorem freeSpan_eq (hy : y.span = n) (hn : n < 8) (k : Core) : k.freeSpan y = { k with share := freedShare n y k.share } := by
  subst hy
  unfold Core.freeSpan freedShare
  rw [decide_eq_true hn, Bool.true_and]
  cases y.freed <;> rfl

section
variable (hf : (s.core c).copies.find? (fun z => z.span == n) = some y) (hr : s.copyReady c y = true) (hn : n < 8) (hy : y1.span = n)
include hf hr hn hy

theorem copyComplete_made (hc : s.copyRuns c y ((List.range y.runs).drop y.made) = (s1, y1, .made)) :
    exec (.copyComplete c n) s = .next (s1.mapCore c (fun k =>
      { k with copies := k.copies.filter (fun z => z.id != y1.id), share := freedShare n y1 k.share })) := by
  rw [exec_copyComplete, execCopyComplete, find?_ready hf hr]
  dsimp only
  rw [hc]
  dsimp only
  unfold Core.endCopy
  simp only [freeSpan_eq hy hn]

theorem copyComplete_faults {sub a : Nat} {dside : Bool} (hc : s.copyRuns c y ((List.range y.runs).drop y.made) = (s1, y1, .fault sub a dside)) :
    exec (.copyComplete c n) s = .next (s1.mapCore c (fun k =>
      { k with
        copies := k.copies.filter (fun z => z.id != y1.id), share := freedShare n y1 k.share,
        copyFaults := insertFault
          { id := y1.id, gang := y1.gang, member := y1.member, slot := y1.slot, sub := sub,
            addr := BitVec.ofNat 64 a, runs := y1.made, dside := dside, span := n } k.copyFaults })) := by
  rw [exec_copyComplete, execCopyComplete, find?_ready hf hr]
  dsimp only
  rw [hc]
  dsimp only
  unfold Core.endCopy
  simp only [freeSpan_eq hy hn, hy, Nat.mod_eq_of_lt hn]

theorem copyComplete_asks (hc : s.copyRuns c y ((List.range y.runs).drop y.made) = (s1, y1, .asks)) :
    exec (.copyComplete c n) s = .next (if y1.sourceRead then
      (s1.mapCore c (fun k => { k with share := freedShare n y1 k.share })).keepCopy c { y1 with freed := true } else s1.keepCopy c y1) := by
  rw [exec_copyComplete, execCopyComplete, find?_ready hf hr]
  dsimp only
  rw [hc]
  simp only [freeSpan_eq hy hn]

end

/-! ### WALK_HOP -/

/-- A walk stored back, or dropped where it has finished (R197). -/
def walkKept (s : State) (id : Nat) (w : Walk) : State :=
  if w.finished then { s with walks := Tab.erase s.walks id } else { s with walks := Tab.put s.walks id w }

theorem walkKept_eq (s : State) (id : Nat) (w : Walk) :
    walkKept s id w = { s with walks := if w.finished then Tab.erase s.walks id else Tab.put s.walks id w } := by
  unfold walkKept
  split <;> rfl

/-- The fault that ends a walk logged (R391). -/
def walkNoted (s s1 : State) (id : Nat) (w w1 : Walk) (fault : Option (Nat × Nat)) : State :=
  match fault with
  | some e => s1.log (w1.stack / 2) (0x200 + 32 * (w1.stack % 2) + id % 32) 5 7 (s.gangOwner w.gang) (BitVec.ofNat 64 e.2) (BitVec.ofNat 64 (w.walkid ||| (e.1 <<< 32)))
  | none => s1

theorem walkHop_delivers {s2 : State} {unit : List Word} (hf : Tab.find? s.walks id = some w) (hg : (s.gang w.gang).isSome = true) (hw : w.finished = false)
    (he : s.engineRuns w.gang w.member w.slot = true) (hd : s.walkMayDeliver id w = true)
    (hp : s.priorStoresDone id w.gang w.member w.slot (fun r _ => r.published) = true) (hs : s.walkStep w = (s1, rec_, w1, fault))
    (h2 : (if w1.finished then (walkNoted s s1 id w w1 fault).walkFlags w1 else walkNoted s s1 id w w1 fault) = s2)
    (hu : w1.unit ++ [BitVec.ofNat 64 rec_] = unit) :
    exec (.walkHop id) s = .next (if !w.toRing then walkKept (s2.walkToStream w1 rec_) id w1
      else if w1.finished then walkKept (s2.walkToRing w1 (unit ++ List.replicate (8 - unit.length) (BitVec.allOnes 64))) id w1
      else if unit.length = 8 then walkKept (s2.walkToRing w1 unit) id { w1 with unit := [] }
      else walkKept s2 id { w1 with unit := unit }) := by
  rw [exec_walkHop, execWalkHop, hf]
  dsimp only
  rw [Option.isNone_eq_false_iff.2 hg, hw, he, hd, hp, hs]
  subst h2 hu
  cases fault <;> rfl

/-! ### ROUTE1_CHUNK_APPLY -/

theorem route1ChunkApply_requests {strand : Option Strand} {away : Bool} {taken : State} (hq : (s.core c).collq = k :: rest)
    (hx : (s.locate k.gang k.member k.slot).bind (fun x => s.strand x.1 x.2) = strand)
    (hr : strand.all (fun t => !t.resumed) = true) (he : s.engineRuns k.gang k.member k.slot = true)
    (ht : s.mapCore c (fun k => { k with collq := rest }) = taken)
    (ha : (match taken.place k.addr with
      | .remote _ _ => true
      | _ => false) = away) :
    exec (.route1ChunkApply c) s = .next { taken with
      reqs := Tab.put taken.reqs k.id
        { core := c, ctx := k.ctx, gang := k.gang, member := k.member, slot := k.slot, queue := 0,
          kind := .chunk k.comb (k.addr % 4), space := 3, parts := k.parts, remote := away, orphan := strand.isNone, slotOwner := k.slotOwner } } := by
  have hn : (strand.map (·.resumed)).getD false = false := by
    cases strand with
    | none => rfl
    | some t => simpa using hr
  rw [exec_route1ChunkApply, execRoute1ChunkApply, hq]
  dsimp only
  rw [hx, hn, he, ht, ← ha]
  rfl

/-- Settles O44: each event is one path of its engine, and the engine's choice finds nothing to suspend where none runs. -/
theorem enginesAct : Obligations.EnginesAct := by
  intro c n id rec_ o y y1 w w1 fault k rest f s s1 start span freed ends kept goes noted ended goesOn unit taken strand away
  refine ⟨matrixChoose_starts, fun hf hr hn hc hy => ?_, fun hf hg hw he hd hp hs => ?_, fun hq hx he => route1ChunkApply_requests hq rfl hx he rfl rfl⟩
  · cases f with
    | made => exact copyComplete_made hf hr hn hy hc
    | fault sub a dside => exact copyComplete_faults hf hr hn hy hc
    | asks => exact copyComplete_asks hf hr hn hy hc
  · have hhop := walkHop_delivers hf hg hw he hd hp hs rfl rfl
    refine ⟨fun hr => hhop.trans (congrArg _ ((if_pos (by rw [hr]; rfl)).trans (walkKept_eq ..))), fun hr hend => ?_, fun hr hend hu => ?_, fun hr hend hu => ?_⟩
    all_goals
      have hring : ¬ (!w.toRing) = true := by rw [hr]; exact Bool.false_ne_true
      refine hhop.trans (congrArg _ ((if_neg hring).trans ?_))
    · exact (if_pos hend).trans (walkKept_eq ..)
    · exact (if_neg (Bool.eq_false_iff.1 hend)).trans ((if_pos hu).trans (walkKept_eq ..))
    · exact (if_neg (Bool.eq_false_iff.1 hend)).trans ((if_neg hu).trans (walkKept_eq ..))

end Sys2Proof.Proofs
end

section
/-! The checks and the requests of the memory slots, and VLD and VST (R176, R182, R194, R202, R217, R220, R239 to R243, R335, R349). -/
namespace Sys2Proof.Proofs
open Sys2Proof Sys2Proof.Machine Sys2Proof.Laws

/-! ### Modifiers and addresses of a memory slot -/

section
variable {q : Bun} {a : BitVec 4} {ea : Word} {space size align : Nat}

/-- Raising SN only adds to what the bundle writes (R220). -/
theorem narrow_eq (q : Bun) : ∃ ws, q.narrow = { q with cur := { q.cur with writes := ws } } := by
  unfold Bun.narrow Bun.raise
  split
  · exact ⟨q.cur.writes, rfl⟩
  · exact ⟨_, rfl⟩

theorem narrow_request (q : Bun) (queue : Nat) (kind : ReqKind) (parts : List Part) (m : Mods) :
    q.narrow.request queue kind parts m = q.request queue kind parts m := by
  obtain ⟨ws, h⟩ := narrow_eq q
  rw [h]
  rfl

theorem narrow_streamQueue (q : Bun) (d : BitVec 6) : q.narrow.streamQueue d = q.streamQueue d := by
  obtain ⟨ws, h⟩ := narrow_eq q
  rw [h]
  rfl

theorem clipped_of_ne (h : q.mods.space ≠ 2) : q.clipped = q.mods := if_neg h
theorem clipped_window (h : q.mods.space = 2) : q.clipped = { q.mods with scope := min q.mods.scope 2 } := if_pos h

theorem clipped_space (h : q.mods.space = 2) : { q.clipped with space := 2 } = q.clipped := by
  rw [clipped_window h, ← h]

theorem own_of_le (h : q.mods.space ≤ 1) : q.mods.own = true := by
  unfold Mods.own
  simp only [bne_iff_ne]
  omega

/-- An access in a space it may name, with an ORDER and an OFLAG that it accepts (R77, R240). -/
theorem accessStops_none {spaces : List Nat} {acquire release oflag : Bool} (hs : spaces.contains q.mods.space = true)
    (ha : q.mods.order = 1 → acquire = true) (hr : q.mods.order = 2 → release = true) (hf : q.mods.oflag = true → oflag = true) :
    ∀ x ∈ q.accessStops spaces acquire release oflag, x = none := by
  have horder : q.orderStop acquire release oflag = none := by
    refine stopIf_false (Bool.eq_false_iff.2 fun h => ?_)
    simp only [Bool.or_eq_true, Bool.and_eq_true, beq_iff_eq, Bool.not_eq_true'] at h
    rcases h with (⟨ho, hn⟩ | ⟨ho, hn⟩) | ⟨ho, hn⟩
    · rw [ha ho] at hn; cases hn
    · rw [hr ho] at hn; cases hn
    · rw [hf ho] at hn; cases hn
  unfold Bun.accessStops
  simp only [List.mem_cons, List.not_mem_nil, or_false, forall_eq_or_imp, forall_eq]
  exact ⟨horder, stopIf_false (by rw [hs, Bool.not_true, Bool.and_false])⟩

/-- An access with neither ORDER nor OFLAG, in a space it may name (R77, R240). -/
theorem accessStops_plain {spaces : List Nat} (hs : spaces.contains q.mods.space = true) (ho : q.mods.order = 0) (hf : q.mods.oflag = false)
    (acquire release oflag : Bool) : ∀ x ∈ q.accessStops spaces acquire release oflag, x = none :=
  accessStops_none hs (fun h => by rw [ho] at h; cases h) (fun h => by rw [ho] at h; cases h) (fun h => by rw [hf] at h; cases h)

theorem spaceStop_global : q.spaceStop 0 size ea = none := rfl

/-- The own scratchpad refuses no address whose bytes all lie in it (R176). -/
theorem spaceStop_own (h : ea.toNat + size ≤ q.core.spadSize) (hz : 0 < size) : q.spaceStop 1 size ea = none := by
  have hc : q.core.spadSize ≤ 1572864 := Nat.sub_le ..
  have hmod : ea.toNat % 2 ^ 56 = ea.toNat := Nat.mod_eq_of_lt (by omega)
  unfold Bun.spaceStop
  dsimp only
  rw [hmod, if_pos rfl]
  exact stopIf_false (by simp; omega)

/-- The cluster window refuses no address of its 192 scratchpads (R176). -/
theorem spaceStop_window (h : ea.toNat < 2 ^ 29) (hs : ea.toNat / 2 ^ 21 ≤ 191) : q.spaceStop 2 size ea = none := by
  have hmod : ea.toNat % 2 ^ 56 = ea.toNat := Nat.mod_eq_of_lt (by omega)
  have hbits : bits ea.toNat 28 21 = ea.toNat / 2 ^ 21 := by
    unfold bits
    rw [Nat.shiftRight_eq_div_pow]
    exact Nat.mod_eq_of_lt (by omega)
  unfold Bun.spaceStop
  dsimp only
  rw [hmod, hbits, if_neg (by decide), if_pos rfl]
  exact stopIf_false (by simp; omega)

theorem addrStop_none (hr : ea.toNat < 2 ^ 56) (hal : ea.toNat % align = 0) (hs : q.spaceStop space size ea = none) :
    q.addrStop space size align ea = none := by
  unfold Bun.addrStop
  rw [hs, stopIf_false (decide_eq_false (Nat.not_le.2 hr)), stopIf_false (by simp [hal])]
  rfl

/-- An address register that may be read as one, and an address that its space takes, stop nothing (R39, R239, R335, R349). -/
theorem memStop_none (hv : (q.val (areg a)).toNat < 2 ^ 56) (hb : q.badReg (areg a) = false) (h : q.addrStop space size align ea = none) :
    q.memStop a space size align ea = none := by
  unfold Bun.memStop Bun.addrResidue
  rw [h, stopIf_false (decide_eq_false (Nat.not_le.2 hv)), stopIf_false hb]
  rfl

theorem firstUnit_none {l : List (Option Stop)} (h : ∀ x ∈ l, x = none) : firstUnit l = none :=
  List.findSome?_eq_none_iff.2 h

theorem check_none {f : Bun → Bun} {l : List (Option Stop)} (h : ∀ x ∈ l, x = none) : q.check l f = .ok (f q) :=
  check_ok.2 ⟨firstStop_all_none _ h, rfl⟩

end

/-! ### The units of VLD and VST -/

section
variable {q : Bun} {a : BitVec 4} {k : BitVec 3} {reg : BitVec 1} {ea stride : Word} {c d : BitVec 6} {off : BitVec 12} {simm : BitVec 9} {s : State}

theorem foldl_max_le {n : Nat} {f : Nat → Nat} {l : List Nat} {b : Nat} (hb : b ≤ n) (h : ∀ i ∈ l, f i ≤ n) :
    l.foldl (fun m i => max m (f i)) b ≤ n := by
  induction l generalizing b with
  | nil => exact hb
  | cons x r ih => exact ih (max_le hb (h x List.mem_cons_self)) fun i hi => h i (List.mem_cons_of_mem _ hi)

/-- Where no bank serves more units with an active lane than one and `n`, the banks cost no more than `n` cycles (R182). -/
theorem bankCycles_le {p : Pred} {n : Nat}
    (h : ∀ bank < 32, (List.range 32).countP (fun u =>
      decide (p.extractLsb' (4 * u) 4 ≠ 0#4 ∧ (ea + BitVec.ofNat 64 u * stride).toNat / 16 % 32 = bank)) ≤ 1 + n) :
    bankCycles p ea stride ≤ n := by
  refine foldl_max_le (Nat.zero_le n) fun bank hb => ?_
  have hcount := h bank (List.mem_range.1 hb)
  rw [← List.countP_eq_length_filter, List.countP_filterMap]
  refine Nat.sub_le_iff_le_add.2 ((List.countP_congr fun u _ => ?_).trans_le (hcount.trans_eq (Nat.add_comm 1 n)))
  by_cases hp : p.extractLsb' (4 * u) 4 = 0#4 <;> simp [hp]

/-- What VLD and VST both check passes for an access with neither ORDER nor OFLAG whose address, stride and units are sound (R39, R243). -/
theorem unitStops_none (hs : q.mods.space ≤ 2) (ho : q.mods.order = 0) (hf : q.mods.oflag = false) (hv : (q.val (areg a)).toNat < 2 ^ 56)
    (hb : q.badReg (areg a) = false) (hst : reg = 1#1 → stride.toNat % 16 = 0) (hbank : space = 1 → bankCycles (q.pred k) ea stride ≤ q.strand.bankSince.elim 0 (q.core.cycle - ·))
    (hu : ∀ u < 32, q.addrStop space 16 16 (ea + BitVec.ofNat 64 u * stride) = none) : ∀ x ∈ q.unitStops a k reg space ea stride, x = none := by
  intro x hx
  unfold Bun.unitStops at hx
  simp only [List.mem_append, List.mem_cons, List.not_mem_nil, or_false] at hx
  rcases hx with (hx | hx) | rfl | rfl | rfl | rfl
  · split at hx
    next h1 => exact (List.mem_singleton.1 hx).trans (stopIf_false (decide_eq_false (Nat.not_lt.2 (hbank h1))))
    · cases hx
  · exact accessStops_plain (by simp; omega) ho hf _ _ _ x hx
  · exact stopIf_false (decide_eq_false (Nat.not_le.2 hv))
  · exact stopIf_false hb
  · refine stopIf_false ?_
    by_cases hr : reg = 1#1
    · simp [hst hr]
    · simp [hr]
  · refine firstUnit_none fun y hy => ?_
    obtain ⟨u, hm, rfl⟩ := List.mem_map.1 hy
    exact hu u (List.mem_range.1 hm)

/-- A load of the own scratchpad that meets no uncorrectable word takes its bytes when its bundle issues (R202). -/
theorem spadLoad_good {b : Bun} {dst : Dest} {field : Nat} {old : BitVec 4096} {bytes : List (Nat × Nat)} (hd : dst ≠ .reg 0)
    (h : ∀ e ∈ bytes, b.badWord e.2 1 = none) :
    b.spadLoad dst field old bytes = { b with cur := { b.cur with loads := b.cur.loads ++ [{ slot := b.cur.slot, dst := dst, old := old, bytes := bytes }] } } := by
  unfold Bun.spadLoad
  rw [List.findSome?_eq_none_iff.2 h]
  exact if_neg hd

/-- A load of the cluster window with no ORDER has its request entered as the bundle stands (R241). -/
theorem sendLoad_window {parts : List Part} {m : Mods} {sectors : Bool} {unit : Nat} (ho : m.order = 0) (hs : m.space = 2) :
    q.narrow.sendLoad d .load parts m sectors unit =
      q.narrow.enter { q.request (q.streamQueue d) .load parts m with stream := some (d.toNat % 8), secOnly := sectors, unit := unit } := by
  unfold Bun.sendLoad
  simp only [ho, hs, ne_eq, not_true, decide_false, Bool.or_false, if_false, decide_true, if_true, narrow_request, narrow_streamQueue]

/-- A VLD or VST of the own scratchpad with neither ORDER nor OFLAG. -/
def PlainOwn (q : Bun) : Prop := q.mods.space ≤ 1 ∧ q.mods.order = 0 ∧ q.mods.oflag = false

/-- The units of a VLD or VST of the own scratchpad are aligned and inside it, and its bundle has waited for its banks (R182, R243). -/
def UnitsFit (q : Bun) (a : BitVec 4) (k : BitVec 3) (reg : BitVec 1) (ea stride : Word) : Prop :=
  let unit := fun (u : Nat) => (ea + BitVec.ofNat 64 u * stride).toNat
  (q.val (areg a)).toNat < 2 ^ 56 ∧ q.badReg (areg a) = false ∧ (reg = 1#1 → stride.toNat % 16 = 0) ∧
    (∀ u < 32, unit u % 16 = 0 ∧ unit u + 16 ≤ q.core.spadSize) ∧
    ∀ bank < 32, ((List.range 32).countP (fun u => decide ((q.pred k).extractLsb' (4 * u) 4 ≠ 0#4 ∧ unit u / 16 % 32 = bank))) ≤
      1 + q.strand.bankSince.elim 0 (q.core.cycle - ·)

/-- A VLD or VST of the cluster window with neither ORDER nor OFLAG, its units aligned and inside it (R176, R243). -/
def UnitsInWindow (q : Bun) (a : BitVec 4) (reg : BitVec 1) (ea stride : Word) : Prop :=
  let unit := fun (u : Nat) => (ea + BitVec.ofNat 64 u * stride).toNat
  q.mods.space = 2 ∧ q.mods.order = 0 ∧ q.mods.oflag = false ∧ (q.val (areg a)).toNat < 2 ^ 56 ∧ q.badReg (areg a) = false ∧
    (reg = 1#1 → stride.toNat % 16 = 0) ∧ ∀ u < 32, unit u % 16 = 0 ∧ unit u < 2 ^ 29 ∧ unit u / 2 ^ 21 ≤ 191

theorem unitStops_own (hp : PlainOwn q) (hf : UnitsFit q a k reg ea stride) : ∀ x ∈ q.unitStops a k reg 1 ea stride, x = none := by
  obtain ⟨hs, ho, hfl⟩ := hp
  obtain ⟨hv, hb, hst, hu, hbank⟩ := hf
  refine unitStops_none (by omega) ho hfl hv hb hst (fun _ => bankCycles_le hbank) fun u hlt => ?_
  obtain ⟨hal, hin⟩ : (ea + BitVec.ofNat 64 u * stride).toNat % 16 = 0 ∧ (ea + BitVec.ofNat 64 u * stride).toNat + 16 ≤ q.core.spadSize := hu u hlt
  have hc : q.core.spadSize ≤ 1572864 := Nat.sub_le ..
  exact addrStop_none (by omega) hal (spaceStop_own hin (by decide))

theorem unitStops_window (hw : UnitsInWindow q a reg ea stride) : ∀ x ∈ q.unitStops a k reg 2 ea stride, x = none := by
  obtain ⟨hs, ho, hfl, hv, hb, hst, hu⟩ := hw
  refine unitStops_none (by omega) ho hfl hv hb hst nofun fun u hlt => ?_
  obtain ⟨hal, hin, hpad⟩ := hu u hlt
  exact addrStop_none (hin.trans (by decide)) hal (spaceStop_window hin hpad)

theorem vld_own (h : s.AtSlot (.vld d a k off c reg simm) q) (hp : PlainOwn q) (hf : UnitsFit q a k reg (q.ea a off) (q.stride c reg simm)) :
    let bytes := unitBytes (q.pred k) (q.ea a off) (q.stride c reg simm)
    (∀ e ∈ bytes, q.badWord e.2 1 = none) → exec (.vld d a k off c reg simm) s = .next (q.joined (.vld d a k off c reg simm)
      { q.narrow with cur := { q.narrow.cur with loads := q.cur.loads ++ [{ slot := q.cur.slot, dst := .vec d.toNat, old := q.vec d, bytes := bytes }] } }) := by
  intro bytes hg
  obtain ⟨ws, hn⟩ := narrow_eq q
  have hload : q.narrow.spadLoad (.vec d.toNat) d.toNat (q.vec d) bytes = { q.narrow with cur := { q.narrow.cur with
      loads := q.cur.loads ++ [{ slot := q.cur.slot, dst := .vec d.toNat, old := q.vec d, bytes := bytes }] } } := by
    rw [hn]
    exact spadLoad_good nofun hg
  rw [exec_vld, ← hload]
  refine runSlot_joined h ?_
  dsimp only
  rw [clipped_of_ne (by have := hp.1; omega), own_of_le hp.1]
  refine check_none fun x hx => ?_
  rcases List.mem_append.1 hx with hx | hx
  · exact unitStops_own hp hf x hx
  · exact List.mem_singleton.1 hx

theorem vst_own (h : s.AtSlot (.vst d a k off c reg simm) q) (hp : PlainOwn q) (hf : UnitsFit q a k reg (q.ea a off) (q.stride c reg simm))
    (hc : q.core.copies = []) (hr : q.vecResidue d (fun l => (q.pred k).getLsbD l) = none) :
    exec (.vst d a k off c reg simm) s = .next (q.joined (.vst d a k off c reg simm) { q.narrow with cur := { q.narrow.cur with
      stores := q.cur.stores ++ (unitBytes (q.pred k) (q.ea a off) (q.stride c reg simm)).map (fun e => (q.cur.slot, e.2, byteOf (q.vec d).toNat e.1)) } }) := by
  obtain ⟨ws, hn⟩ := narrow_eq q
  have hlive : ∀ addr, q.copyStop 1 addr 32 = none := fun addr => by
    unfold Bun.copyStop
    rw [hc]
    rfl
  rw [exec_vst]
  refine runSlot_joined h ?_
  dsimp only
  rw [clipped_of_ne (by have := hp.1; omega), own_of_le hp.1]
  refine (check_none fun x hx => ?_).trans ?_
  · simp only [List.mem_append, List.mem_cons, List.not_mem_nil, or_false] at hx
    rcases hx with hx | rfl | rfl | rfl
    · exact unitStops_own hp hf x hx
    · exact hr
    · refine firstUnit_none fun y hy => ?_
      obtain ⟨p, -, rfl⟩ := List.mem_map.1 hy
      exact hlive _
    · rfl
  · rw [hn]
    unfold Bun.spadStore
    rw [if_pos rfl, List.map_map]
    rfl

theorem vld_window (h : s.AtSlot (.vld d a k off c reg simm) q) (hw : UnitsInWindow q a reg (q.ea a off) (q.stride c reg simm)) :
    let m : Mods := { q.mods with scope := min q.mods.scope 2 }
    let read := loadParts ((unitBytes (q.pred k) (q.ea a off) (q.stride c reg simm)).map (fun e => (e.2, e.1)))
    q.targetStop d 2 m read.length = none → exec (.vld d a k off c reg simm) s = .next (q.joined (.vld d a k off c reg simm)
      (q.narrow.enter { q.request (q.streamQueue d) .load read m with stream := some (d.toNat % 8), unit := 16 })) := by
  intro m read ht
  have hs : q.mods.space = 2 := hw.1
  rw [exec_vld]
  refine runSlot_joined h ?_
  dsimp only
  rw [clipped_space hs, clipped_window hs, show Mods.own m = false from bne_eq_false_iff_eq.2 hs]
  refine (check_none fun x hx => ?_).trans ?_
  · rcases List.mem_append.1 hx with hx | hx
    · exact unitStops_window hw x hx
    · exact (List.mem_singleton.1 hx).trans ht
  · exact congrArg Except.ok (sendLoad_window hw.2.1 hs)

theorem vst_window (h : s.AtSlot (.vst d a k off c reg simm) q) (hw : UnitsInWindow q a reg (q.ea a off) (q.stride c reg simm)) :
    let m : Mods := { q.mods with scope := min q.mods.scope 2 }
    let written := storeParts ((unitBytes (q.pred k) (q.ea a off) (q.stride c reg simm)).map (fun e => (e.2, byteOf (q.vec d).toNat e.1)))
    q.vecResidue d (fun l => (q.pred k).getLsbD l) = none → (∀ p ∈ written, q.copyStop 2 p.addr 32 = none) → q.creditStop m.queue written.length = none →
    exec (.vst d a k off c reg simm) s = .next (q.joined (.vst d a k off c reg simm)
      (if written = [] then q.narrow else q.narrow.enter (q.request m.queue .store written m))) := by
  intro m written hr hc hq
  have hs : q.mods.space = 2 := hw.1
  rw [exec_vst]
  refine runSlot_joined h ?_
  dsimp only
  rw [clipped_space hs, clipped_window hs, show Mods.own m = false from bne_eq_false_iff_eq.2 hs]
  refine (check_none fun x hx => ?_).trans ?_
  · simp only [List.mem_append, List.mem_cons, List.not_mem_nil, or_false] at hx
    rcases hx with hx | rfl | rfl | rfl
    · exact unitStops_window hw x hx
    · exact hr
    · refine firstUnit_none fun y hy => ?_
      obtain ⟨p, hp, rfl⟩ := List.mem_map.1 hy
      exact hc p hp
    · exact hq
  · rw [if_neg Bool.false_ne_true, narrow_request]
    simp only [List.isEmpty_iff]
    rfl

/-- Settles O19: the checks shared by both instructions pass, and in either space the slot joins its bundle with its bytes. -/
theorem scratchpadVectors : Obligations.ScratchpadVectors := by
  intro d a k off c reg simm s q ea stride unit bytes load stored plain fits m window read written
  exact ⟨vld_window, vst_window, vld_own, vst_own⟩

end

end Sys2Proof.Proofs
end

section
/-! LDQ, LDSEC, GATHERQ and PREF as slots of a bundle (R194, R203, R204, R220, R241, R244, R245, R248). -/
namespace Sys2Proof.Proofs
open Sys2Proof Sys2Proof.Machine Sys2Proof.Laws

/-! ### The records sent before an immediate access -/

section
variable {s : State} {b : Bun} {m : Mods} {parts : List Part}

/-- Where no record of the phase buffer is picked, none is sent (R204). -/
theorem publish_nothing {c x : Nat} {p : BufRec → Bool} (h : ∀ r, p r = false) : s.publish c x p = (s, true) := by
  unfold State.publish
  split
  · rfl
  next t _ =>
    rw [List.filter_eq_nil_iff.2 fun r _ => by rw [h r]; exact Bool.false_ne_true]
    rfl

theorem flushSectors_nil : b.flushSectors [] = (b.st, none) := flush_done (publish_nothing fun _ => rfl)

/-- An access that names no global sector, and is no release, has nothing sent before it (R204, R208). -/
theorem beforeImmediate_nil (h : m.order ≠ 2) : b.beforeImmediate [] m = b := by
  unfold Bun.beforeImmediate
  simp only [h, decide_false, Bool.false_and, Bool.false_eq_true, if_false, flushSectors_nil]
  rfl

theorem flushed_global (h : m.space = 0) : m.flushed parts = parts := if_pos h
theorem flushed_window (h : m.space = 2) : m.flushed parts = [] := if_neg (by omega)

end

/-! ### What a queued load enters -/

section
variable {q : Bun} {d : BitVec 6} {a : BitVec 4} {sz : BitVec 2} {off : BitVec 12} {c : BitVec 6} {shift : BitVec 2} {k : BitVec 3} {ext : BitVec 2}
  {s : State} {m : Mods} {parts : List Part} {sectors : Bool} {unit n elemSz : Nat}

/-- A load of global memory with no ORDER has the strand's own buffered stores laid over it (R203). -/
theorem sendLoad_overlaid (ho : m.order = 0) (hs : m.space = 0) :
    q.sendLoad d .load parts m sectors unit =
      q.enter { q.request (q.streamQueue d) .load (q.overlaid parts) m with stream := some (d.toNat % 8), secOnly := sectors, unit := unit } := by
  unfold Bun.sendLoad
  simp [ho, hs]

/-- An acquire load of global memory is sent after the records of its sectors, with nothing laid over it (R204). -/
theorem sendLoad_acquire (ho : m.order = 1) (hs : m.space = 0) :
    q.sendLoad d .load parts m sectors unit = (q.beforeImmediate parts m).enter { (q.beforeImmediate parts m).request
      ((q.beforeImmediate parts m).streamQueue d) .load parts m with stream := some (d.toNat % 8), secOnly := sectors, unit := unit } := by
  unfold Bun.sendLoad
  simp [ho, hs, flushed_global]

/-- A load of the cluster window, acquire or not, has its request entered as the bundle stands (R241). -/
theorem sendLoad_window_acquire (ho : m.order ≤ 1) (hs : m.space = 2) :
    q.narrow.sendLoad d .load parts m sectors unit =
      q.narrow.enter { q.request (q.streamQueue d) .load parts m with stream := some (d.toNat % 8), secOnly := sectors, unit := unit } := by
  by_cases h0 : m.order = 0
  · exact sendLoad_window h0 hs
  · unfold Bun.sendLoad
    simp only [h0, hs, ne_eq, not_false_eq_true, decide_true, Bool.or_true, if_true, flushed_window,
      beforeImmediate_nil (show m.order ≠ 2 by omega), narrow_request, narrow_streamQueue]

/-- LDQ and LDSEC send their load where their checks pass (R241, R244). -/
theorem queuedLoad_sends (hs : q.mods.space = 0 ∨ q.mods.space = 2) (ho : q.mods.order ≤ 1) (hf : q.mods.oflag = false) (hm : q.clipped = m)
    (hp : loadParts (loadRun (q.ea a off).toNat 0 n) = parts) (ha : q.memStop a m.space n n (q.ea a off) = none)
    (ht : (q.prepared parts m).targetStop d elemSz m 1 = none) (hr : m.order ≠ 0 → ∀ x ∈ q.immediateStops (m.flushed parts) m, x = none) :
    q.queuedLoad d a off n elemSz sectors = .ok ((if m.space = 2 then q.narrow else q).sendLoad d .load parts m sectors n) := by
  unfold Bun.queuedLoad
  dsimp only
  rw [hm, hp]
  refine check_none fun x hx => ?_
  simp only [List.mem_append, List.mem_cons, List.not_mem_nil, or_false] at hx
  rcases hx with (hx | rfl | rfl) | hx
  · exact accessStops_none (by rcases hs with hs | hs <;> rw [hs] <;> rfl) (fun _ => rfl) (fun h2 => by omega) (fun h => by rw [hf] at h; cases h) x hx
  · exact ha
  · exact ht
  · split at hx
    · cases hx
    next h0 => exact hr h0 x hx

theorem queuedLoad_plain (hs : q.mods.space = 0) (ho : q.mods.order = 0) (hf : q.mods.oflag = false)
    (hp : loadParts (loadRun (q.ea a off).toNat 0 n) = parts) (ha : q.memStop a 0 n n (q.ea a off) = none) (ht : q.targetStop d elemSz q.mods 1 = none) :
    q.queuedLoad d a off n elemSz sectors = .ok (q.enter { q.request (q.streamQueue d) .load (q.overlaid parts) q.mods with
      stream := some (d.toNat % 8), secOnly := sectors, unit := n }) := by
  rw [queuedLoad_sends (.inl hs) (by omega) hf (clipped_of_ne (by omega)) hp (by rw [hs]; exact ha) (by rw [Bun.prepared, if_pos ho]; exact ht)
    (absurd ho), if_neg (by omega), sendLoad_overlaid ho hs]

theorem queuedLoad_acquire (hs : q.mods.space = 0) (ho : q.mods.order = 1) (hf : q.mods.oflag = false)
    (hp : loadParts (loadRun (q.ea a off).toNat 0 n) = parts) (ha : q.memStop a 0 n n (q.ea a off) = none) (hr : (q.flushSectors parts).2 = none)
    (ht : (q.beforeImmediate parts q.mods).targetStop d elemSz q.mods 1 = none) :
    q.queuedLoad d a off n elemSz sectors = .ok ((q.beforeImmediate parts q.mods).enter { (q.beforeImmediate parts q.mods).request
      ((q.beforeImmediate parts q.mods).streamQueue d) .load parts q.mods with stream := some (d.toNat % 8), secOnly := sectors, unit := n }) := by
  have hprep : q.prepared parts q.mods = q.beforeImmediate parts q.mods := by
    rw [Bun.prepared, if_neg (by omega), flushed_global hs]
  rw [queuedLoad_sends (.inl hs) (by omega) hf (clipped_of_ne (by omega)) hp (by rw [hs]; exact ha) (by rw [hprep]; exact ht) ?_,
    if_neg (by omega), sendLoad_acquire ho hs]
  intro _ x hx
  rw [flushed_global hs, Bun.immediateStops, if_neg (by omega)] at hx
  exact (List.mem_singleton.1 hx).trans hr

theorem queuedLoad_window (hs : q.mods.space = 2) (ho : q.mods.order ≤ 1) (hf : q.mods.oflag = false)
    (hp : loadParts (loadRun (q.ea a off).toNat 0 n) = parts) (ha : q.memStop a 2 n n (q.ea a off) = none)
    (hm : { q.mods with scope := min q.mods.scope 2 } = m) (ht : q.targetStop d elemSz m 1 = none) :
    q.queuedLoad d a off n elemSz sectors = .ok (q.narrow.enter { q.request (q.streamQueue d) .load parts m with
      stream := some (d.toNat % 8), secOnly := sectors, unit := n }) := by
  obtain ⟨hms, hmo⟩ : m.space = 2 ∧ m.order ≤ 1 := by
    rw [← hm]
    exact ⟨hs, ho⟩
  have hprep : q.prepared parts m = q := by
    rw [Bun.prepared, flushed_window hms, beforeImmediate_nil (by omega), ite_self]
  rw [queuedLoad_sends (.inr hs) ho hf ((clipped_window hs).trans hm) hp (by rw [hms]; exact ha) (by rw [hprep]; exact ht) ?_, if_pos hms,
    sendLoad_window_acquire hmo hms]
  intro _ x hx
  rw [flushed_window hms, Bun.immediateStops, if_neg (by omega), flushSectors_nil] at hx
  exact List.mem_singleton.1 hx

theorem gatherq_joined (h : s.AtSlot (.gatherq d a sz off c shift k) q) (hs : q.mods.space = 0) (ho : q.mods.order = 0) (hf : q.mods.oflag = false)
    (hv : (q.val (areg a)).toNat < 2 ^ 56) (hb : q.badReg (areg a) = false) :
    let lanes := q.laneAddrs (q.ea a off) c sz shift k
    let gathered := loadParts (lanes.flatMap (fun e => loadRun e.2.toNat (laneOffset sz e.1) (laneBytes sz)))
    (∀ e ∈ lanes, e.2.toNat < 2 ^ 56 ∧ e.2.toNat % laneBytes sz = 0) → q.targetStop d 2 q.mods gathered.length = none →
    exec (.gatherq d a sz off c shift k) s = .next (q.joined (.gatherq d a sz off c shift k) (q.enter
      { q.request (q.streamQueue d) .load (q.overlaid gathered) q.mods with stream := some (d.toNat % 8), secOnly := true, unit := laneBytes sz })) := by
  intro lanes gathered hl ht
  rw [exec_gatherq]
  refine runSlot_joined h ?_
  dsimp only
  rw [clipped_of_ne (by omega), ← sendLoad_overlaid ho hs]
  refine check_none fun x hx => ?_
  simp only [List.mem_append, List.mem_cons, List.not_mem_nil, or_false] at hx
  rcases hx with hx | rfl | rfl | rfl | rfl
  · exact accessStops_plain (by rw [hs]; rfl) ho hf _ _ _ x hx
  · exact stopIf_false (decide_eq_false (Nat.not_le.2 hv))
  · exact stopIf_false hb
  · refine firstUnit_none fun y hy => ?_
    obtain ⟨e, he, rfl⟩ := List.mem_map.1 hy
    exact addrStop_none (hl e he).1 (hl e he).2 spaceStop_global
  · exact ht

/-- The sectors PREF asks for: those of the line, or the one (R248). -/
def prefetched (ext : BitVec 2) (ea : Nat) : List Part :=
  if ext = 1#2 then (List.range 4).map (fun i => { addr := ea / 128 * 128 + 32 * i, mask := 0xFFFFFFFF#32 }) else [{ addr := ea / 32 * 32, mask := 0xFFFFFFFF#32 }]

theorem pref_joined (h : s.AtSlot (.pref a ext off) q) (hs : q.mods.space = 0) (ho : q.mods.order = 0) (hf : q.mods.oflag = false)
    (ha : q.memStop a 0 1 1 (q.ea a off) = none) (hq : q.creditStop q.mods.queue (if ext = 1#2 then 4 else 1) = none) :
    exec (.pref a ext off) s = .next (q.joined (.pref a ext off) (q.enter (q.request q.mods.queue .pref (prefetched ext (q.ea a off).toNat) q.mods))) := by
  have hp : (List.range (if ext = 1#2 then 4 else 1)).map (fun i =>
      ({ addr := (if ext = 1#2 then (q.ea a off).toNat / 128 * 128 else (q.ea a off).toNat / 32 * 32) + 32 * i, mask := 0xFFFFFFFF#32 } : Part)) =
      prefetched ext (q.ea a off).toNat := by
    unfold prefetched
    split <;> rfl
  rw [exec_pref]
  refine runSlot_joined h ?_
  dsimp only
  rw [clipped_of_ne (by omega), hp]
  refine check_none fun x hx => ?_
  simp only [List.mem_append, List.mem_cons, List.not_mem_nil, or_false] at hx
  rcases hx with hx | rfl | rfl
  · exact accessStops_plain (by rw [hs]; rfl) ho hf _ _ _ x hx
  · rw [hs]; exact ha
  · rw [← hp, List.length_map, List.length_range]; exact hq

/-- Settles O21: each load is sent as its space and ORDER say, and GATHERQ and PREF enter their sectors as one request. -/
theorem queuedLoads : Obligations.QueuedLoads := by
  intro d a sz off c shift k ext s q m ea n plain based load parts sent lanes sector mw window gathered
  have global : ∀ {size}, based → ea.toNat < 2 ^ 56 → ea.toNat % size = 0 → q.memStop a 0 size size ea = none :=
    fun hb hr hal => memStop_none hb.1 hb.2 (addrStop_none hr hal spaceStop_global)
  refine ⟨fun h hp hb hr hal ht => ?_, fun h hs ho hf hb hr hal hfl ht => ?_, fun h hs ho hf hb hr hal hfl ht => ?_, fun hw => ?_,
    fun h hp hb hr hal ht => ?_, fun h hp hb hl ht => ?_, fun h hp hb hr hq => ?_⟩
  · obtain ⟨hs, ho, hf⟩ := hp
    exact (exec_ldq ..).trans (runSlot_joined h (queuedLoad_plain hs ho hf rfl (global hb hr hal) ht))
  · exact (exec_ldq ..).trans (runSlot_joined h (queuedLoad_acquire hs ho hf rfl (global hb hr hal) hfl ht))
  · exact (exec_ldsec ..).trans (runSlot_joined h (queuedLoad_acquire hs ho hf rfl (global hb hr hal) hfl ht))
  · obtain ⟨hs, ho, hf, hb, hin, hpad⟩ := hw
    have inWindow : ∀ {size}, ea.toNat % size = 0 → q.memStop a 2 size size ea = none :=
      fun hal => memStop_none hb.1 hb.2 (addrStop_none (hin.trans (by decide)) hal (spaceStop_window hin hpad))
    exact ⟨fun h hal ht => (exec_ldq ..).trans (runSlot_joined h (queuedLoad_window hs ho hf rfl (inWindow hal) rfl ht)),
      fun h hal ht => (exec_ldsec ..).trans (runSlot_joined h (queuedLoad_window hs ho hf rfl (inWindow hal) rfl ht))⟩
  · obtain ⟨hs, ho, hf⟩ := hp
    exact (exec_ldsec ..).trans (runSlot_joined h (queuedLoad_plain hs ho hf rfl (global hb hr hal) ht))
  · obtain ⟨hs, ho, hf⟩ := hp
    exact gatherq_joined h hs ho hf hb.1 hb.2 hl ht
  · obtain ⟨hs, ho, hf⟩ := hp
    exact pref_joined h hs ho hf (global hb hr (Nat.mod_one _)) hq

end

end Sys2Proof.Proofs
end

section
/-! HOME_REQUEST, SET_WAIT_RETRY, BARRIER_ARRIVAL and L2_FILL (R178, R183, R184, R188, R190, R192, R212, R213, R235, R259, R335, R359, R367, R383). -/
namespace Sys2Proof.Proofs
open Sys2Proof Sys2Proof.Machine Sys2Proof.Laws

variable {req i off pa d m status : Nat} {data : BitVec 256} {r : Request} {p : Part} {e : TlbEntry} {s s1 : State}

/-! ### Which sector a turn performs -/

/-- The next sector of a request may be performed. -/
def NextSector (s : State) (req i : Nat) (r : Request) (p : Part) : Prop :=
  r.next = some i ∧ r.parts[i]? = some p ∧ r.setWait = false ∧ s.mayPerform req r p = true

/-- A sector of a sound request that is not sent yet and whose translation is known. -/
def Paged (s : State) (r : Request) (p : Part) (e : TlbEntry) : Prop :=
  r.bad = false ∧ p.sent = false ∧ s.hitFor r p.addr = some e

section
variable (hf : Tab.find? s.reqs req = some r) (hn : NextSector s req i r p)
include hf hn

/-- What the record's soundness and the space of a request make of its turn. -/
theorem homeRequest_turn : exec (.homeRequest req status data) s = .next (
    if r.bad && !p.sent then s.faultPart req r i 6 (!r.isStore)
    else if r.space = 2 then s.performWindow req r i p
    else if r.space = 1 then s.performOwn req r i p
    else s.performGlobal req r i p status data.toNat) := by
  obtain ⟨hnext, hpart, hwait, hmay⟩ := hn
  rw [exec_homeRequest, execHomeRequest, hf]
  dsimp only
  rw [hnext]
  dsimp only
  rw [hpart]
  dsimp only
  rw [hwait, hmay]
  rfl

theorem homeRequest_global (hb : r.bad = false ∨ p.sent = true) (hs : r.space = 0) :
    exec (.homeRequest req status data) s = .next (s.performGlobal req r i p status data.toNat) := by
  have hsound : (r.bad && !p.sent) = false := by
    rcases hb with hb | hb <;> simp [hb]
  rw [homeRequest_turn hf hn, hsound, hs]
  rfl

/-- A request whose record has an uncorrectable word faults (R359). -/
theorem homeRequest_bad (hb : r.bad = true) (hsent : p.sent = false) :
    exec (.homeRequest req status data) s = .next (s.faultPart req r i 6 (!r.isStore)) := by
  rw [homeRequest_turn hf hn, hb, hsent]
  rfl

/-- An access through the window to a scratchpad whose owner admits it and that holds no uncorrectable word (R176, R183). -/
theorem homeRequest_window (hb : r.bad = false) (hs : r.space = 2) :
    let wp := windowPlace r.core p.addr
    s.windowFault wp.1 r.slotOwner wp.2 32 = none → (∀ x ∈ s.badSpad, x.1 ≠ wp.1) → exec (.homeRequest req status data) s =
      .next (if r.isStore then (s.spadWrite wp.1 wp.2 32 p.mask.toNat p.data.toNat).donePart req r i 0
        else s.donePart req r i (s.spadRead wp.1 wp.2 32)) := by
  intro wp hw hbad
  have hwords : (List.range 4).filter (fun w => bits p.mask.toNat (8 * w + 7) (8 * w) ≠ 0 && s.badSpad.contains (wp.1, wp.2 / 8 + w)) = [] := by
    refine List.filter_eq_nil_iff.2 fun w _ hc => ?_
    simp only [Bool.and_eq_true, List.contains_iff_mem] at hc
    exact hbad _ hc.2 rfl
  rw [homeRequest_turn hf hn, hb, hs]
  refine congrArg _ ?_
  rw [Bool.false_and, if_neg Bool.false_ne_true, if_pos rfl]
  unfold State.performWindow
  dsimp only
  rw [hw]
  dsimp only
  rw [hwords]
  rfl

end

/-! ### A sector of global memory -/

section
variable (hp : Paged s r p e) (hs : r.space = 0) (ha : e.allows r.need = true)
include hp hs ha

theorem performGlobal_local (hx : s.place (e.ppage + (p.addr - e.vpage)) = .local_ off) (hk : ∀ op v, r.kind ≠ .barrive op v) :
    s.performGlobal req r i p status d = s.performLocal req r i p off := by
  obtain ⟨-, hsent, hhit⟩ := hp
  unfold State.performGlobal
  rw [if_neg (by rw [hsent]; exact Bool.false_ne_true), if_neg (by omega), hhit]
  dsimp only
  rw [if_neg (by rw [ha]; exact Bool.false_ne_true), hx]
  dsimp only
  split
  next op v h => exact absurd h (hk op v)
  · rfl

/-- A request for another module is sent, where it is no access that a counter page refuses (R192, R335). -/
theorem performGlobal_remote (hx : s.place (e.ppage + (p.addr - e.vpage)) = .remote m off) (hk : r.kind ≠ .pref) :
    s.performGlobal req r i p status d =
      if counterOffset off && (r.kind != .load || !counterRead p.mask.toNat r.unit) then s.faultPart req r i e.counterFault true
      else s.sendMerged req r i p m off := by
  obtain ⟨-, hsent, hhit⟩ := hp
  unfold State.performGlobal
  rw [if_neg (by rw [hsent]; exact Bool.false_ne_true), if_neg (by omega), hhit]
  dsimp only
  rw [if_neg (by rw [ha]; exact Bool.false_ne_true), hx]
  dsimp only
  rw [if_neg (by simpa using hk)]

end

/-! ### A sector performed at a home on this module -/

section

/-- What the L1 holds of the sector, where the access may take it from there (R184). -/
def l1Sector (s : State) (r : Request) (off : Nat) : Option Nat :=
  if r.kind == .load && r.order == .none && r.cache = 0 then (s.core r.core).l1Find (off / 128) (off % 128 / 32) else none

theorem l1Sector_load (h : r.kind = .load) (hc : r.order = .none ∧ r.cache = 0) :
    l1Sector s r off = (s.core r.core).l1Find (off / 128) (off % 128 / 32) := by
  unfold l1Sector
  rw [h, hc.1, hc.2]
  rfl

theorem l1Sector_missed (h : r.order = .none ∧ r.cache = 0 → (s.core r.core).l1Find (off / 128) (off % 128 / 32) = none) : l1Sector s r off = none := by
  unfold l1Sector
  split
  next hc =>
    simp only [Bool.and_eq_true, beq_iff_eq, decide_eq_true_eq] at hc
    exact h ⟨hc.1.2, hc.2⟩
  · rfl

theorem l1Sector_other (h : r.kind ≠ .load) : l1Sector s r off = none := by
  unfold l1Sector
  rw [show (r.kind == .load) = false by simpa using h]
  rfl

theorem performLocal_l1 (h : l1Sector s r off = some d) : s.performLocal req r i p off =
    if (s.core r.core).l1Torn (off / 128) (off % 128 / 32) p.mask.toNat then s.faultPart req r i 6 true
    else (s.mapCore r.core (·.l1Touch (off / 128))).donePart req r i d := by
  unfold State.performLocal
  dsimp only
  unfold l1Sector at h
  rw [h]

/-- Whether an access reads alone: a load or a prefetch. -/
def readsOnly (r : Request) : Bool := r.kind == .load || r.kind == .pref

theorem readsOnly_iff : readsOnly r = true ↔ r.kind = .load ∨ r.kind = .pref := by
  simp [readsOnly]

/-- The combined access of merged requests and the divergences of their merges, in the order of their identities (R213, R235). -/
def mergedAll (s : State) (req : Nat) (r : Request) (p : Part) : ReqKind × List Split :=
  s.mergedKind r.core (((s.mergedWith req r p ++ [(req, r)]).mergeSort (fun a b => a.1 ≤ b.1)).map (·.2.kind))
/-- The access that the home performs: the request's own, or that of the requests that a router merged with it (R212, R235). -/
def mergedAccess (s : State) (req : Nat) (r : Request) (p : Part) : ReqKind := if (s.mergedWith req r p).isEmpty then r.kind else (mergedAll s req r p).1
/-- The divergences of the routers' merges. -/
def mergedSplits (s : State) (req : Nat) (r : Request) (p : Part) : List Split := if (s.mergedWith req r p).isEmpty then [] else (mergedAll s req r p).2
/-- The machine as the home performs the access. -/
def mergedStart (s : State) (req : Nat) (r : Request) (p : Part) : State := if (s.mergedWith req r p).isEmpty then s else { s with free := s.free + 1 }

/-- What a load of policy L1 allocate, or a published store, leaves in the L1 once it is performed (R184). -/
def l1After (s : State) (r : Request) (p : Part) (off d : Nat) : State :=
  if readsOnly r && r.cache = 0 && r.order == .none && !r.noL1 then s.mapCore r.core (fun k => k.l1Put (off / 128) (off % 128 / 32) d)
  else if r.published then s.mapCore r.core (fun k => k.l1Update (off / 128) (off % 128 / 32) p.mask.toNat p.data.toNat)
  else s

/-- What is left of an access to a sector that its L1 does not answer, once the sector's set is free and a read finds its
sector held: the home performs it (R178). -/
theorem performLocal_home (h : l1Sector s r off = none) (hbad : readsOnly r = true → s.badRead off (s.slotKey r.slotOwner) p.mask.toNat = false)
    (hset : readsOnly r = true ∨ s.setHeld req (off / 128) = false)
    (hheld : readsOnly r = true → s.holds (off / 128) (s.slotKey r.slotOwner) (1 <<< (off % 128 / 32)) = true)
    (hd : (mergedStart s req r p).atHome (mergedAccess s req r p) off (s.slotKey r.slotOwner) p.mask.toNat p.data.toNat (r.cache == 3) (some r.core) = .done s1 d) :
    s.performLocal req r i p off =
      let s2 := if readsOnly r && r.cache = 2 && r.filled.contains (off / 128) then s else s1.mergedDone (s.mergedWith req r p)
      let s3 := if readsOnly r && r.cache = 3 then s2.markNocomp (off / 128)
        else (mergedStart s req r p).drawShadow s2 req r (mergedAccess s req r p) (mergedSplits s req r p) p d
      (l1After s3 r p off d).donePart req r i d := by
  have hb : (readsOnly r && s.badRead off (s.slotKey r.slotOwner) p.mask.toNat) = false := by
    cases hr : readsOnly r
    · rfl
    · exact hbad hr
  have hs : (!(readsOnly r && s.holds (off / 128) (s.slotKey r.slotOwner) (1 <<< (off % 128 / 32))) && s.setHeld req (off / 128)) = false := by
    cases hr : readsOnly r
    · rw [hset.resolve_left (by rw [hr]; exact Bool.false_ne_true), Bool.and_false]
    · rw [hheld hr]; rfl
  have hf : (readsOnly r && !s.holds (off / 128) (s.slotKey r.slotOwner) (1 <<< (off % 128 / 32))) = false := by
    cases hr : readsOnly r
    · rfl
    · rw [hheld hr]; rfl
  unfold l1Sector at h
  unfold mergedStart mergedAccess mergedAll at hd
  unfold readsOnly at hb hs hf
  unfold State.performLocal
  dsimp only
  rw [h]
  dsimp only
  rw [hb, hs, hf, if_neg Bool.false_ne_true, if_neg Bool.false_ne_true, if_neg Bool.false_ne_true, hd]
  rfl

/-- Under a write that waits for a line of the set, no other access to it that is not of a held sector is performed (R367). -/
theorem performLocal_setHeld (h : l1Sector s r off = none) (hr : readsOnly r = false) (hs : s.setHeld req (off / 128) = true) :
    s.performLocal req r i p off = s := by
  unfold l1Sector at h
  unfold readsOnly at hr
  unfold State.performLocal
  dsimp only
  rw [h]
  dsimp only
  rw [hr, hs]
  rfl

/-- A load of a sector that is not held has it filled from HBM4 (R188). -/
theorem performLocal_fills (h : l1Sector s r off = none) (hr : readsOnly r = true) (hbad : s.badRead off (s.slotKey r.slotOwner) p.mask.toNat = false)
    (hh : s.holds (off / 128) (s.slotKey r.slotOwner) (1 <<< (off % 128 / 32)) = false) (hs : s.setHeld req (off / 128) = false) :
    s.performLocal req r i p off = s.startFill req r p off (s.slotKey r.slotOwner) := by
  unfold l1Sector at h
  unfold readsOnly at hr
  unfold State.performLocal
  dsimp only
  rw [h]
  dsimp only
  rw [hr, hbad, hh, hs]
  rfl

/-- Only atomics without a stream are merged by a router (R212, R235). -/
theorem mergedWith_nil (h : r.merges = false) : s.mergedWith req r p = [] := by
  unfold State.mergedWith
  rw [h]
  rfl

theorem merges_load (h : r.kind = .load) : r.merges = false := by
  unfold Request.merges
  rw [h]
  exact Bool.and_false _
theorem merges_store (h : r.kind = .store) : r.merges = false := by
  unfold Request.merges
  rw [h]
  exact Bool.and_false _
theorem merges_barrive {op v : Nat} (h : r.kind = .barrive op v) : r.merges = false := by
  unfold Request.merges
  rw [h]
  exact Bool.and_false _

/-- A load takes a sector that its L2 slice holds (R188, R190). -/
theorem performLocal_load (h : l1Sector s r off = none) (hk : r.kind = .load) (hpub : r.published = false) (hc : r.cache ≠ 3)
    (hbad : s.badRead off (s.slotKey r.slotOwner) p.mask.toNat = false)
    (hh : s.holds (off / 128) (s.slotKey r.slotOwner) (1 <<< (off % 128 / 32)) = true) :
    let old := s.peek off 32 (s.slotKey r.slotOwner)
    let s2 := if r.cache = 2 ∧ r.filled.contains (off / 128) = true then s else s.touchLine (off / 128)
    s.performLocal req r i p off = (if r.order = .none ∧ r.cache = 0 ∧ r.noL1 = false
      then s2.mapCore r.core (fun k => k.l1Put (off / 128) (off % 128 / 32) old) else s2).donePart req r i old := by
  intro old s2
  have hmates : s.mergedWith req r p = [] := mergedWith_nil (merges_load hk)
  have hr : readsOnly r = true := readsOnly_iff.2 (.inl hk)
  have hstart : mergedStart s req r p = s := by rw [mergedStart, hmates]; rfl
  have hkind : mergedAccess s req r p = .load := by rw [mergedAccess, hmates]; exact hk
  have hd : (mergedStart s req r p).atHome (mergedAccess s req r p) off (s.slotKey r.slotOwner) p.mask.toNat p.data.toNat (r.cache == 3) (some r.core) =
      .done (s.touchLine (off / 128)) old := by
    rw [hstart, hkind]
    unfold State.atHome
    dsimp only
    rw [hbad]
    rfl
  rw [performLocal_home h (fun _ => hbad) (.inl hr) (fun _ => hh) hd]
  dsimp only
  rw [hr, hmates, hkind, if_neg (by simpa using hc)]
  unfold l1After
  rw [hr, hpub]
  simp only [Bool.true_and, Bool.and_eq_true, decide_eq_true_eq, beq_iff_eq, Bool.not_eq_true', Bool.false_eq_true, if_false,
    and_assoc, and_left_comm (a := r.cache = 0)]
  rfl

/-- An access other than a load or prefetch is performed at its home, merged requests with it (R178, R212, R213). -/
theorem performLocal_writes (hr : readsOnly r = false) (hs : s.setHeld req (off / 128) = false)
    (hd : (mergedStart s req r p).atHome (mergedAccess s req r p) off (s.slotKey r.slotOwner) p.mask.toNat p.data.toNat (r.cache == 3) (some r.core) = .done s1 d) :
    let s2 := (mergedStart s req r p).drawShadow (s1.mergedDone (s.mergedWith req r p)) req r (mergedAccess s req r p) (mergedSplits s req r p) p d
    s.performLocal req r i p off =
      (if r.published then s2.mapCore r.core (fun k => k.l1Update (off / 128) (off % 128 / 32) p.mask.toNat p.data.toNat) else s2).donePart req r i d := by
  have hread : ¬ readsOnly r = true := Bool.eq_false_iff.1 hr
  have hk : r.kind ≠ .load := fun hk => hread (readsOnly_iff.2 (.inl hk))
  rw [performLocal_home (l1Sector_other hk) (fun h => absurd h hread) (.inr hs) (fun h => absurd h hread) hd]
  unfold l1After
  rw [hr]
  rfl

/-- A write that no router merges with another, and that is no draw (R178). -/
theorem performLocal_alone {k : ReqKind} (hkind : r.kind = k) (hm : r.merges = false) (hr : readsOnly r = false) (hs : s.setHeld req (off / 128) = false)
    (hdraw : ∀ (t t1 : State) (l : List Split), t.drawShadow t1 req r k l p d = t1)
    (hd : s.atHome k off (s.slotKey r.slotOwner) p.mask.toNat p.data.toNat (r.cache == 3) (some r.core) = .done s1 d) :
    s.performLocal req r i p off =
      (if r.published then s1.mapCore r.core (fun k => k.l1Update (off / 128) (off % 128 / 32) p.mask.toNat p.data.toNat) else s1).donePart req r i d := by
  have hmates : s.mergedWith req r p = [] := mergedWith_nil hm
  have hstart : mergedStart s req r p = s := by rw [mergedStart, hmates]; rfl
  have haccess : mergedAccess s req r p = k := by rw [mergedAccess, hmates]; exact hkind
  rw [performLocal_writes hr hs (by rw [hstart, haccess]; exact hd), haccess, hdraw, hmates]
  rfl

end

/-! ### The events -/

section
variable (hf : Tab.find? s.reqs req = some r)
include hf

/-- The answer of another module finishes the sector, of a multicast store the last of its members' (R383, R385). -/
theorem homeRequest_answered (hn : NextSector s req i r p) (hs : r.space = 0) (hsent : p.sent = true) :
    let answers := r.answerer p data.toNat
    let answered : State := { s with router := { s.router with modules := Tab.put s.router.modules answers .reachable } }
    exec (.homeRequest req 0 data) s = .next (if (p.awaits.erase answers).isEmpty then answered.donePart req r i data.toNat
      else answered.setPart req r i (fun p => { p with awaits := p.awaits.erase answers })) := by
  rw [homeRequest_global hf hn (.inr hsent) hs]
  unfold State.performGlobal
  rw [hsent]
  rfl

theorem setWaitRetry_performs (hnext : r.next = some i) (hpart : r.parts[i]? = some p) (hw : r.setWait = true) (hp : s.partPlace r p = (0, pa)) :
    exec (.setWaitRetry req) s = .next (s.performLocal req r i p (pa % 2 ^ 44)) := by
  rw [exec_setWaitRetry, execSetWaitRetry, hf]
  dsimp only
  rw [hw, hnext]
  dsimp only
  rw [hpart]
  dsimp only
  rw [hp]
  rfl

theorem barrierArrival_performs {op v : Nat} (hk : r.kind = .barrive op v) (hpart : r.parts[0]? = some p) (hfin : r.finished = false)
    (hm : s.mayPerform req r p = true) (hp : Paged s r p e) (ha : e.allows .atomic = true)
    (hx : s.place (e.ppage + (p.addr - e.vpage)) = .local_ off) : exec (.barrierArrival req) s = .next (s.performLocal req r 0 p off) := by
  obtain ⟨-, hsent, hhit⟩ := hp
  rw [exec_barrierArrival, execBarrierArrival, hf]
  dsimp only
  rw [hk, hpart]
  dsimp only
  rw [hfin, hsent, hm, hhit]
  dsimp only
  rw [ha, hx]
  rfl

end

/-- Settles O42: a turn performs one sector, by the L1, the L2 slice, the home, a scratchpad or another module. -/
theorem requestsPerformed : Obligations.RequestsPerformed := by
  intro req i off pa data r p e s s1 hf turn next paged place global key line sector old hit cached filled updated wp mates all out kind start reads
    barrives first answers answered
  have atLocal : global → place = .local_ off → (∀ op v, r.kind ≠ .barrive op v) → turn = .next (s.performLocal req r i p off) := by
    rintro ⟨hn, hp, hs, ha⟩ hx hk
    rw [← performGlobal_local hp hs ha hx hk]
    exact homeRequest_global hf hn (.inl hp.1) hs
  have notReads : ¬ reads → readsOnly r = false := fun h => Bool.eq_false_iff.2 fun hr => h (readsOnly_iff.1 hr)
  have notBarrive : barrives = false → ∀ op v, r.kind ≠ .barrive op v := fun h op v hk => by
    have hb : barrives = true := by simp only [barrives, hk]
    rw [h] at hb
    cases hb
  refine ⟨fun d hg hx hk hc hh => ?_, fun hg hx hk hpub hc hmiss hbad => ⟨fun hh => ?_, fun hh hset => ?_⟩, fun hg hx hr hb => ⟨fun hset => ?_, fun hset hd => ?_⟩,
    fun hn hb hsent => homeRequest_bad hf hn hb hsent, fun hn hb hs hw hbad => homeRequest_window hf hn hb hs hw hbad, fun m hg hx hk => ?_,
    fun hn hs hsent => homeRequest_answered hf hn hs hsent, fun hnext hpart hw hp hoff hset hk hbad hd => ?_,
    fun op v hk hpart hfin hm hp ha hx hbad hpub hset hd => ?_, fun f hfill hd => ?_⟩
  · rw [atLocal hg hx (by simp [hk]), performLocal_l1 ((l1Sector_load hk hc).trans hh)]
  · rw [atLocal hg hx (by simp [hk]), performLocal_load (l1Sector_missed hmiss) hk hpub hc hbad hh]
  · rw [atLocal hg hx (by simp [hk]), performLocal_fills (l1Sector_missed hmiss) (readsOnly_iff.2 (.inl hk)) hbad hh hset]
  · rw [atLocal hg hx (notBarrive hb), performLocal_setHeld (l1Sector_other (fun hk => hr (.inl hk))) (notReads hr) hset]
  · rw [atLocal hg hx (notBarrive hb), performLocal_writes (notReads hr) hset hd]
    rfl
  · obtain ⟨hn, hp, hs, ha⟩ := hg
    have hsent := (homeRequest_global (status := 0) (data := data) hf hn (.inl hp.1) hs).trans (congrArg _ (performGlobal_remote hp hs ha hx hk))
    refine ⟨fun hc => ?_, fun hc hl hw => ?_, fun hc hor => ?_⟩
    · exact hsent.trans (by rw [hc]; rfl)
    · exact hsent.trans (by rw [hl, hw, hc]; rfl)
    · refine hsent.trans (congrArg _ (if_pos ?_))
      rcases hor with hl | hw
      · simp [hc, hl]
      · simp [hc, hw]
  · subst hoff
    have hr : readsOnly r = false := notReads (by rintro (h | h) <;> rw [hk] at h <;> cases h)
    have hhome : s.atHome .store (pa % 2 ^ 44) key p.mask.toNat p.data.toNat (r.cache == 3) (some r.core) = .done s1 old := by
      unfold State.atHome
      dsimp only
      rw [hbad, hd]
      rfl
    rw [setWaitRetry_performs hf hnext hpart hw hp, performLocal_alone hk (merges_store hk) hr hset (fun _ _ _ => rfl) hhome]
  · have hr : readsOnly r = false := notReads (by rintro (h | h) <;> rw [hk] at h <;> cases h)
    have hhome : s.atHome (.barrive op v) off key p.mask.toNat p.data.toNat (r.cache == 3) (some r.core) = .done s1 old := by
      unfold State.atHome
      dsimp only
      rw [hbad, hd]
      rfl
    rw [barrierArrival_performs hf hk hpart hfin hm hp ha hx, performLocal_alone hk (merges_barrive hk) hr hset (fun _ _ _ => rfl) hhome, hpub]
    rfl
  · rw [exec_l2Fill, execL2Fill, hfill]
    dsimp only
    rw [hd]
    rfl

end Sys2Proof.Proofs
end

section
/-! ELEMENT_LAND, STORE_ACK, WAIT_TIMEOUT and PAGE_WALK (R179, R180, R194, R201, R209, R253, R260, R288, R297, R318, R320, R321, R363, R365, R373). -/
namespace Sys2Proof.Proofs
open Sys2Proof Sys2Proof.Machine Sys2Proof.Laws

variable {req i w n : Nat} {r : Request} {p : Part} {st : Stream} {entry : TlbEntry} {s s1 : State}

/-! ### Elements -/

/-- The element that a finished request delivers: its bytes, or the mark of the fault of its lowest lane (R194, R320). -/
def landedElement (req : Nat) (r : Request) : Element :=
  { req := req, data := if r.elementFault.isSome then 0 else BitVec.ofNat 4096 r.element, fault := r.elementFault, origin := req, again := some r,
    maker := some (r.member, r.slot) }

section
variable (hf : Tab.find? s.reqs req = some r) (hfin : r.finished = true)
include hf hfin

theorem elementLand_appends (hw : r.stream = some w) (hr : r.resend = false) (hl : s.landsFirst req r w = true)
    (hg : (s.core r.core).gang = some r.gang) (hst : Tab.find? (s.core r.core).share.streams w = some st) :
    let landed := (s.dropReq req).mapCore r.core (fun k =>
      { k with share := { k.share with streams := Tab.put k.share.streams w { st with elems := st.elems ++ [landedElement req r] } } })
    exec (.elementLand req) s = .next (if r.order = .acquire ∧ r.elementFault = none then landed.readerHalf r.core r.scope else landed) := by
  intro landed
  have hcore : (s.dropReq req).core r.core = s.core r.core := rfl
  rw [exec_elementLand, execElementLand, hf]
  dsimp only
  rw [hw]
  dsimp only
  rw [hfin, hr, hl, hcore, hg, hst]
  simp only [Bool.not_true, Bool.or_true, Bool.or_false, bne_self_eq_false, Bool.false_eq_true, if_false, Bool.and_eq_true, beq_iff_eq,
    Option.isNone_iff_eq_none]
  rfl

/-- A finished load whose strand has halted with its gang ends with nothing (R318). -/
theorem elementLand_orphan (hw : r.stream = none) (ho : r.orphan = true) (hc : r.changes = false) :
    exec (.elementLand req) s = .next (s.dropReq req) := by
  rw [exec_elementLand, execElementLand, hf]
  dsimp only
  rw [hw]
  dsimp only
  rw [ho, hc, hfin]
  rfl

end

/-! ### Acknowledged stores -/

/-- A write of no engine: neither a copy's nor a collective operation's. -/
def OwnStore (r : Request) : Prop := (∀ copy, r.kind ≠ .copyWrite copy) ∧ ∀ graph step op, r.kind ≠ .collWrite graph step op

section
variable (hf : Tab.find? s.reqs req = some r) (hs : r.isStore = true) (hh : r.held = false) (he : OwnStore r)
include hf hs hh he

/-- What the end of a store of no engine comes to, by the halt of its strand, its fault and its path (R201, R321). -/
theorem storeAck_own : exec (.storeAck req) s = .next (
    if r.orphan && r.settled then s.retireStore req
    else if r.faultOf.isSome then
      { s with reqs := Tab.put s.reqs req { r with held := true, parts := if r.space = 3 then r.parts.filter (·.fault.isSome) else r.parts } }.mapCore r.core (fun k =>
        { k with frozen := Tab.set k.frozen [] r.queue (s.insertHeld req r (Tab.get k.frozen [] r.queue)) })
    else if !r.finished then s
    else if r.counted then (s.retireStore req).mapCore r.core (fun k =>
      { k with paths := Tab.set k.paths 0 (4 * r.queue + r.path) (min (Tab.get k.paths 0 (4 * r.queue + r.path) + 1) 65535) })
    else s.retireStore req) := by
  rw [exec_storeAck, execStoreAck, hf]
  dsimp only
  split
  next copy hk => exact absurd hk (he.1 copy)
  next graph step op hk => exact absurd hk (he.2 graph step op)
  · rw [hs, hh]
    rfl

theorem storeAck_orphan (ho : r.orphan = true) (hset : r.settled = true) : exec (.storeAck req) s = .next (s.retireStore req) := by
  rw [storeAck_own hf hs hh he, ho, hset]
  rfl

/-- A performed store is removed, and counted against its path where its kind is (R201, R288, R297). -/
theorem storeAck_performed (ho : r.orphan = false) (hset : r.settled = true) (hfault : r.faultOf = none) : exec (.storeAck req) s = .next (
    if r.counted then (s.retireStore req).mapCore r.core (fun k =>
      { k with paths := Tab.set k.paths 0 (4 * r.queue + r.path) (min (Tab.get k.paths 0 (4 * r.queue + r.path) + 1) 65535) })
    else s.retireStore req) := by
  have hfin : r.finished = true := by
    unfold Request.settled at hset
    rwa [hfault, Option.isSome_none, Bool.and_false, Bool.or_false] at hset
  rw [storeAck_own hf hs hh he, ho, hfault, hfin]
  rfl

/-- A faulted store freezes its queue (R321, R370). -/
theorem storeAck_faulted (ho : r.orphan = false) (hfault : r.faultOf.isSome = true) : exec (.storeAck req) s = .next (
    { s with reqs := Tab.put s.reqs req { r with held := true, parts := if r.space = 3 then r.parts.filter (·.fault.isSome) else r.parts } }.mapCore r.core (fun k =>
      { k with frozen := Tab.set k.frozen [] r.queue (s.insertHeld req r (Tab.get k.frozen [] r.queue)) })) := by
  rw [storeAck_own hf hs hh he, ho, hfault]
  rfl

end

/-! ### Walks -/

/-- What is picked of a table with rising keys where only one key's value gives anything. -/
theorem filterMap_single {α β : Type} {m : Map α} {f : Nat × α → Option β} {k : Nat} {v : α} {y : β} (hm : Tab.rising m = true)
    (hk : Tab.find? m k = some v) (hv : f (k, v) = some y) (ho : ∀ e ∈ m, e.1 ≠ k → f e = none) : m.filterMap f = [y] := by
  induction m with
  | nil => cases hk
  | cons e t ih =>
    obtain ⟨j, x⟩ := e
    obtain ⟨habove, ht⟩ := rising_cons.1 hm
    by_cases hj : j = k
    · subst hj
      obtain rfl : x = v := by simpa [Tab.find?] using hk
      rw [List.filterMap_cons_some hv, List.filterMap_eq_nil_iff.2 fun e he => ho e (List.mem_cons_of_mem _ he) (Nat.ne_of_gt (habove e he))]
    · rw [List.filterMap_cons_none (ho (j, x) List.mem_cons_self hj)]
      exact ih ht (by simpa [Tab.find?, hj] using hk) fun e he => ho e (List.mem_cons_of_mem _ he)

/-- The requests that a walk for a sector answers: those of the same owner slot and cluster that miss in its 64 KiB (R179, R363). -/
def walkJoins (s : State) (r : Request) (p : Part) (e : Nat × Request) : Option (Nat × Nat) :=
  let q := e.2
  match q.next with
  | none => none
  | some i => match q.parts[i]? with
    | none => none
    | some o =>
      if q.space = 0 && coreCluster q.core == coreCluster r.core && q.slotOwner == r.slotOwner && o.addr / 65536 == p.addr / 65536 &&
          (s.hitFor q o.addr).isNone && !o.sent && s.mayPerform e.1 q o
      then some (e.1, i) else none

/-- A walk that faults faults the sector that waits for it (R179). -/
def walkFaults (sub : Nat) (s : State) (e : Nat × Nat) : State :=
  match Tab.find? s.reqs e.1 with
  | some q => s.faultPart e.1 q e.2 sub true
  | none => s

/-- A walk's entry goes to the request that waits for it, and into the TLBs where none hits (R180, R363). -/
def walkAnswers (entry : TlbEntry) (va : Nat) (s : State) (e : Nat × Nat) : State :=
  match Tab.find? s.reqs e.1 with
  | some q =>
    let s2 : State := { s with reqs := Tab.put s.reqs e.1 { q with entry := some entry } }
    if (s.tlbHit q.core q.slotOwner va).isSome then s2 else s2.tlbInstall q.core entry
  | none => s

section
variable (hf : Tab.find? s.reqs req = some r) (hnext : r.next = some i) (hpart : r.parts[i]? = some p) (hs : r.space = 0) (hsent : p.sent = false)
  (hmiss : s.hitFor r p.addr = none) (hmay : s.mayPerform req r p = true)
  (halone : ∀ e ∈ s.reqs, e.1 ≠ req → e.2.slotOwner ≠ r.slotOwner ∨ coreCluster e.2.core ≠ coreCluster r.core) (hrise : Tab.rising s.reqs = true)
include hf hnext hpart hs hsent hmiss hmay halone hrise

theorem walkJoins_alone : s.reqs.filterMap (walkJoins s r p) = [(req, i)] := by
  refine filterMap_single hrise hf ?_ fun e he hne => ?_
  · unfold walkJoins
    dsimp only
    rw [hnext]
    dsimp only
    rw [hpart]
    dsimp only
    rw [hs, hmiss, hsent, hmay]
    simp
  · unfold walkJoins
    dsimp only
    split
    · rfl
    · split
      · rfl
      · refine if_neg fun hc => ?_
        simp only [Bool.and_eq_true, beq_iff_eq] at hc
        obtain ⟨⟨⟨⟨⟨⟨-, hcluster⟩, howner⟩, -⟩, -⟩, -⟩, -⟩ := hc
        exact (halone e he hne).elim (absurd howner) (absurd hcluster)

/-- The walk's answer reaches the one request that misses there. -/
theorem pageWalk_alone : exec (.pageWalk req) s = .next (match s.walk r.slotOwner p.addr with
    | (s1, .error sub) => walkFaults sub s1 (req, i)
    | (s1, .ok entry) => if !entry.allows r.need then walkFaults 2 s1 (req, i) else walkAnswers entry p.addr s1 (req, i)) := by
  have hjoined : ∀ (f : State → Nat × Nat → State) (t : State), (s.reqs.filterMap (walkJoins s r p)).foldl f t = f t (req, i) := fun f t => by
    rw [walkJoins_alone hf hnext hpart hs hsent hmiss hmay halone hrise]
    rfl
  have hwalk : exec (.pageWalk req) s = .next (match s.walk r.slotOwner p.addr with
      | (s1, .error sub) => (s.reqs.filterMap (walkJoins s r p)).foldl (walkFaults sub) s1
      | (s1, .ok entry) => if !entry.allows r.need then (s.reqs.filterMap (walkJoins s r p)).foldl (walkFaults 2) s1
        else (s.reqs.filterMap (walkJoins s r p)).foldl (walkAnswers entry p.addr) s1) := by
    rw [exec_pageWalk, execPageWalk, hf]
    dsimp only
    rw [hnext, Option.bind_some, hpart]
    dsimp only
    rw [if_neg (by simp [hs, hsent, hmiss, hmay])]
    rfl
  rw [hwalk]
  simp only [hjoined]

theorem pageWalk_installs (hw : s.walk r.slotOwner p.addr = (s1, .ok entry)) (ha : entry.allows r.need = true) (hr : s1.reqs = s.reqs)
    (ht : s1.tlbHit r.core r.slotOwner p.addr = none) :
    exec (.pageWalk req) s = .next ({ s1 with reqs := Tab.put s1.reqs req { r with entry := some entry } }.tlbInstall r.core entry) := by
  rw [pageWalk_alone hf hnext hpart hs hsent hmiss hmay halone hrise, hw]
  dsimp only
  rw [ha]
  unfold walkAnswers
  dsimp only
  rw [hr, hf]
  dsimp only
  rw [← hr, ht]
  rfl

theorem pageWalk_faults (hw : s.walk r.slotOwner p.addr = (s1, .error n)) (hr : s1.reqs = s.reqs) :
    exec (.pageWalk req) s = .next (s1.faultPart req r i n true) := by
  rw [pageWalk_alone hf hnext hpart hs hsent hmiss hmay halone hrise, hw]
  unfold walkFaults
  dsimp only
  rw [hr, hf]

end

/-! ### The statement -/

theorem waitTimeout_answers {core ctx : Nat} {v : Waiter} (hf : s.waiters.find? (fun w => w.core == core && w.ctx == ctx && w.asker.isNone) = some v)
    (hd : v.deadline = some n) (hn : n ≤ s.now) : exec (.waitTimeout core ctx) s = .next
      ((if v.sent then { s with outbox := s.outbox ++ (v.module.map (OutMsg.withdraw · v.seq)).toList } else s).answer v 1 (match v.barrier with
        | some g => if v.module.isNone then s.peek (v.addr / 16 * 16) 2 (s.slotKey v.slotOwner) else g
        | none => 0)) := by
  rw [exec_waitTimeout, execWaitTimeout, hf]
  dsimp only
  rw [hd]
  dsimp only
  rewrite [if_neg (Nat.not_lt.2 hn)]
  rfl

/-- Settles O43: a finished request ends by its element, its acknowledgement or its fault, and a walk answers the one request that misses. -/
theorem requestsFinished : Obligations.RequestsFinished := by
  intro req i w core ctx n r p st v entry s s1 fault element landed at_ counted counts engines frozen alone walks
  refine ⟨fun hf hw hfin hr hl hg hst => elementLand_appends hf hfin hw hr hl hg hst, fun hf hw ho hc hfin => elementLand_orphan hf hfin hw ho hc,
    fun hf hs hh hset he => ?_, waitTimeout_answers, fun hf hw => ?_⟩
  · have hown : OwnStore r := by
      refine ⟨fun copy hk => ?_, fun graph step op hk => ?_⟩
      · have : engines = true := by simp only [engines, hk]
        rw [he] at this
        cases this
      · have : engines = true := by simp only [engines, hk]
        rw [he] at this
        cases this
    refine ⟨fun ho => storeAck_orphan hf hs hh hown ho hset, fun ho hfault => ?_, fun ho hfault => storeAck_faulted hf hs hh hown ho hfault⟩
    have hdone := storeAck_performed hf hs hh hown ho hset hfault
    exact ⟨fun hc => hdone.trans (congrArg _ (if_pos hc)), fun hc => hdone.trans (congrArg _ (if_neg (Bool.eq_false_iff.1 hc)))⟩
  · obtain ⟨hnext, hpart, hs, hsent, hmiss, hmay, halone, hrise⟩ := hw
    exact ⟨pageWalk_installs hf hnext hpart hs hsent hmiss hmay halone hrise, pageWalk_faults hf hnext hpart hs hsent hmiss hmay halone hrise⟩

end Sys2Proof.Proofs
end

section
/-! What a log entry and the common trigger change (R325 to R328), and what events that change one part of the state leave. -/
namespace Sys2Proof.Proofs
open Sys2Proof Sys2Proof.Machine Sys2Proof.Laws

/-- A part of the state that every step of a fold keeps is kept by the fold. -/
theorem foldl_keeps {α β : Type} {f : State → α → State} (part : State → β) (hf : ∀ s x, part (f s x) = part s) (l : List α) (s : State) :
    part (l.foldl f s) = part s := by
  induction l generalizing s with
  | nil => rfl
  | cons x r ih => exact (ih _).trans (hf s x)

/-! ### Log entries -/

/-- The registers that a log entry may write: those of the trigger and the snapshots (R328, R441). -/
def LogRegister (a : Nat) : Prop := a = 0x4100 ∨ a = 0x4110 ∨ a = 0x4118 ∨ 0x200000 ≤ a

/-- From `s` to `t` nothing changed but the clusters, the free values and registers that a log entry may write. -/
structure Logged (s t : State) : Prop where
  rest : t = { s with host := t.host, clusters := t.clusters, free := t.free }
  rising : Tab.rising s.host = true → Tab.rising t.host = true
  hreg : Tab.rising s.host = true → ∀ a, ¬ LogRegister a → t.hreg a = s.hreg a

variable {s t u : State}

theorem Logged.refl (s : State) : Logged s s := ⟨rfl, id, fun _ _ _ => rfl⟩
theorem Logged.trans (h : Logged s t) (k : Logged t u) : Logged s u :=
  ⟨k.rest.trans (by rw [h.rest]), fun hr => k.rising (h.rising hr), fun hr a ha => (k.hreg (h.rising hr) a ha).trans (h.hreg hr a ha)⟩

theorem Logged.mem (h : Logged s t) : t.mem = s.mem := by rw [h.rest]
theorem Logged.router (h : Logged s t) : t.router = s.router := by rw [h.rest]

theorem logged_setHreg {a : Nat} (ha : LogRegister a) (v : Word) : Logged s (s.setHreg a v) :=
  ⟨rfl, rising_set, fun hr b hb => by rw [hreg_setHreg hr, if_neg (by rintro rfl; exact hb ha)]⟩
theorem logged_setCluster (c : Nat) (k : Cluster) : Logged s (s.setCluster c k) := ⟨rfl, id, fun _ _ _ => rfl⟩
theorem logged_foldl {α : Type} {f : State → α → State} (hf : ∀ s x, Logged s (f s x)) (l : List α) (s : State) : Logged s (l.foldl f s) := by
  induction l generalizing s with
  | nil => exact Logged.refl s
  | cons x r ih => exact (hf s x).trans (ih _)

theorem logRegister_snapshot {a : Nat} (h : 0x200000 ≤ a) : LogRegister a := .inr (.inr (.inr h))

theorem logged_latch (s : State) : Logged s s.latch := by
  have snap : ∀ (s : State) (a : Nat) (v : Word), 0x200000 ≤ a → Logged s (s.setHreg a v) := fun _ _ v h => logged_setHreg (logRegister_snapshot h) v
  unfold State.latch
  extract_lets s1 s2 s3 s4 s5
  have h1 : Logged s s1 := logged_foldl (fun s e =>
    (logged_foldl (fun s x => (snap s _ _ (by omega)).trans (snap _ _ _ (by omega))) (List.range 4) s).trans (snap _ _ _ (by omega))) _ s
  have h2 : Logged s1 s2 := logged_foldl (fun s c => logged_foldl (fun s x => snap s _ _ (by omega)) (List.range 15) s) _ s1
  have h3 : Logged s2 s3 := logged_foldl (fun s p => by dsimp only; split <;> exact snap s _ _ (by omega)) _ s2
  have h4 : Logged s3 s4 := logged_foldl (fun s x => snap s _ _ (by omega)) _ s3
  have h5 : Logged s4 s5 := logged_foldl (fun s x => snap s _ _ (by omega)) _ s4
  clear_value s1 s2 s3 s4 s5
  have h6 : Logged s5 { s5 with free := s5.free + 1 } := ⟨rfl, id, fun _ _ _ => rfl⟩
  refine h1.trans (h2.trans (h3.trans (h4.trans (h5.trans (h6.trans (logged_foldl (fun s g => ?_) _ _))))))
  dsimp only
  split <;> exact snap s _ _ (by omega)

theorem logged_pushLog (s : State) (c : Nat) (e : LogEntry) : Logged s (s.pushLog c e) := logged_setCluster ..

theorem logged_fire (s : State) (source : Nat) : Logged s (s.fire source) := by
  unfold State.fire
  dsimp only
  split
  · exact ((logged_setHreg (.inl rfl) _).trans (logged_setHreg (.inr (.inr (.inl rfl))) _)).trans ((logged_latch _).trans (logged_pushLog ..))
  · exact logged_setHreg (.inr (.inl rfl)) _

theorem logged_log (s : State) (c source cls code owner : Nat) (addr detail : Word) : Logged s (s.log c source cls code owner addr detail) := by
  unfold State.log State.logEntry
  dsimp only
  split
  · exact (logged_pushLog ..).trans (logged_fire ..)
  · exact logged_pushLog ..

end Sys2Proof.Proofs
end

section
/-! REMOTE_REQUEST and the events of links, paths and other modules (R188, R285, R353, R380 to R384, R392, R408, R442). -/
namespace Sys2Proof.Proofs
open Sys2Proof Sys2Proof.Machine Sys2Proof.Laws

variable {s s1 : State} {msg : RemoteMsg} {q off d module link req since addr : Nat} {kind : ReqKind} {r : Request} {paths : List (List Nat)}

/-! ### Requests of other modules -/

/-- A request of another module arrives where the router is on, in time, and is no withdrawal (R373, R381, R384). -/
def Arrives (s : State) (msg : RemoteMsg) : Prop := s.router.off = false ∧ s.now ≤ msg.sentAt + 2 ^ 19 ∧ msg.kind ≠ .withdraw

/-- The answer kept of a request that was performed before (R381). -/
def seenAnswer (s : State) (msg : RemoteMsg) : Option (Nat × Nat × Nat × Nat × BitVec 256) :=
  s.router.seen.find? (fun e => e.1 == msg.source && e.2.1 == msg.queue && e.2.2.1 == msg.seq)

section
variable (h : Arrives s msg)
include h

/-- A request that arrives is looked for among those answered before (R381). -/
theorem arrives_taken : (s.router.off || decide (msg.sentAt + 2 ^ 19 < s.now)) = false ∧ ¬ (msg.kind == .withdraw) = true := by
  obtain ⟨hoff, hnow, hk⟩ := h
  rw [hoff, decide_eq_false (Nat.not_lt.2 hnow)]
  exact ⟨rfl, by simpa using hk⟩

theorem remoteRequest_repeated {e : Nat × Nat × Nat × Nat × BitVec 256} (he : seenAnswer s msg = some e) :
    exec (.remoteRequest msg) s = .next { s with outbox := s.outbox ++ [.answer msg.source msg.seq e.2.2.2.1 e.2.2.2.2] } := by
  obtain ⟨htaken, hk⟩ := arrives_taken h
  unfold seenAnswer at he
  rw [exec_remoteRequest, execRemoteRequest, htaken, if_neg Bool.false_ne_true, if_neg hk, he]

/-- An owner without a slot here is answered NO_PERMISSION (R380). -/
theorem remoteRequest_unowned (hs : seenAnswer s msg = none) (hh : s.answersHibernating msg.owner = false) (ho : s.slotOf msg.owner = none) :
    exec (.remoteRequest msg) s = .next (s.answerRemote msg 3 0) := by
  obtain ⟨htaken, hk⟩ := arrives_taken h
  unfold seenAnswer at hs
  rw [exec_remoteRequest, execRemoteRequest, htaken, if_neg Bool.false_ne_true, if_neg hk, hs]
  dsimp only
  rw [hh, if_neg Bool.false_ne_true, ho]

theorem remoteRequest_owned (hs : seenAnswer s msg = none) (hh : s.answersHibernating msg.owner = false) (ho : s.slotOf msg.owner = some q) :
    exec (.remoteRequest msg) s = .next (s.performRemote q msg) := by
  obtain ⟨htaken, hk⟩ := arrives_taken h
  unfold seenAnswer at hs
  rw [exec_remoteRequest, execRemoteRequest, htaken, if_neg Bool.false_ne_true, if_neg hk, hs]
  dsimp only
  rw [hh, if_neg Bool.false_ne_true, ho]

end

/-- The machine as a remote access finds it: a load brings its line in first (R188). -/
def remoteBefore (s : State) (q off : Nat) (msg : RemoteMsg) (kind : ReqKind) : State :=
  if kind == .load then (s.homeRead (off / 32 * 32) 32 (s.slotKey q) msg.full).1 else s

theorem performRemote_done (hp : s.place (s.modnum * 2 ^ 44 + msg.addr) = .local_ off) (hk : remoteKind msg.kind = some kind)
    (hd : (remoteBefore s q off msg kind).atHomeNow kind (off / 32 * 32) (s.slotKey q) msg.mask.toNat msg.data.toNat = .done s1 d) :
    s.performRemote q msg = (remoteBefore s q off msg kind).answerDone s1 msg kind (Config.cores + homeCluster off) d := by
  -- unfolded as a function: applied, the kernel would evaluate the place of its address
  generalize hf : @State.performRemote = f
  delta State.performRemote at hf
  subst hf
  beta_reduce
  rw [hp]
  dsimp only
  split
  next hw => rw [hw] at hk; cases hk
  next hw => rw [hw] at hk; cases hk
  next hw => rw [hw] at hk; cases hk
  · rw [hk]
    dsimp only
    unfold remoteBefore at hd ⊢
    rw [hd]

/-- Whether a kind of remote request is a draw. -/
def RemoteKind.draws (k : RemoteKind) : Bool := match k with
  | .draw _ _ _ _ _ _ _ => true
  | _ => false

theorem answerDone_plain (hk : remoteKind msg.kind = some kind) (hd : RemoteKind.draws msg.kind = false) (unit old : Nat) :
    s.answerDone s1 msg kind unit old = s1.answerRemote msg 0 old := by
  unfold State.answerDone
  split
  next =>
    cases hm : msg.kind <;> rw [hm] at hk hd <;> cases hk
    cases hd
  · rfl

theorem answerDone_draw (hk : remoteKind msg.kind = some kind) (hd : RemoteKind.draws msg.kind = true) (unit old : Nat) :
    let split := splitAnswer (s.drawSplits unit kind msg.mask.toNat old)
    s.answerDone s1 msg kind unit old = (s1.spend unit 3 (· == 128)).answerRemote msg split.1 (if split.1 = 0 then old else split.2) := by
  cases hm : msg.kind <;> rw [hm] at hk hd <;> cases hk <;> cases hd
  rfl

theorem splitAnswer_status_ne {l : List Split} (h : l ≠ []) : (splitAnswer l).1 ≠ 0 := by
  unfold splitAnswer
  dsimp only
  rw [if_neg (by simpa using h)]
  omega

/-! ### Links -/

theorem reroute_linksDown (t : Router) (port free : Nat) : (t.reroute port free).linksDown = t.linksDown := by
  unfold Router.reroute
  dsimp only
  split <;> rfl

theorem takeDown_logged (s : State) (link : Nat) :
    ∃ t : State, Logged t (s.takeDown link) ∧ t.mem = s.mem ∧ t.host = s.host ∧ t.router.linksDown = s.router.linksDown ++ [link] :=
  ⟨_, logged_log .., rfl, rfl, reroute_linksDown ..⟩

theorem linkRetry_counts (hl : link < 36) (hd : link ∉ s.router.linksDown) (hr : Tab.rising s.host = true) : ∃ t, exec (.linkRetry link) s = .next t ∧
    t.hreg (0x5900 + 8 * link) = s.hreg (0x5900 + 8 * link) + 1 ∧ t.mem = s.mem ∧
    (link ∈ t.router.linksDown ↔ Config.freeChoice s.free 40 = false ∧ 15 ≤ Tab.get s.router.failed 0 link) := by
  let s0 : State := { s with free := s.free + 1 }
  let s1 := s0.setHreg (0x5900 + 8 * link) (s.hreg (0x5900 + 8 * link) + 1)
  let n := if Config.freeChoice s.free 40 then 0 else Tab.get s.router.failed 0 link + 1
  have hcount : s1.hreg (0x5900 + 8 * link) = s.hreg (0x5900 + 8 * link) + 1 := by
    rw [hreg_setHreg (s := s0) hr, if_pos rfl]
  have hn : 16 ≤ n ↔ Config.freeChoice s.free 40 = false ∧ 15 ≤ Tab.get s.router.failed 0 link := by
    simp only [n]
    split <;> simp [*]
  have hexec : exec (.linkRetry link) s =
      .next (if 16 ≤ n then s1.takeDown link else { s1 with router := { s1.router with failed := Tab.set s1.router.failed 0 link n } }) := by
    rw [exec_linkRetry, execLinkRetry, if_neg (by simp [hd]; omega)]
  refine ⟨_, hexec, ?_⟩
  rw [← hn]
  split
  next h16 =>
    obtain ⟨t, ht, hmem, hhost, hdown⟩ := takeDown_logged s1 link
    have hreg : t.hreg (0x5900 + 8 * link) = s1.hreg (0x5900 + 8 * link) := by
      unfold State.hreg
      rw [hhost]
    have hrise : Tab.rising t.host = true := hhost ▸ rising_set hr
    have hno : ¬ LogRegister (0x5900 + 8 * link) := by
      unfold LogRegister
      omega
    refine ⟨(ht.hreg hrise _ hno).trans (hreg.trans hcount), ht.mem.trans hmem, fun _ => h16, fun _ => ?_⟩
    rw [ht.router, hdown]
    exact List.mem_append_right _ List.mem_cons_self
  next h16 => exact ⟨hcount, rfl, fun h => absurd h hd, fun h => absurd h h16⟩

theorem linkDown_logs (hd : link ∉ s.router.linksDown) : ∃ t, exec (.linkDown link) s = .next t ∧ link ∈ t.router.linksDown ∧
    (36 ≤ link → t = { s with router := { s.router with linksDown := s.router.linksDown ++ [link] } }) := by
  rw [exec_linkDown, execLinkDown, if_neg (by simpa using hd)]
  refine ⟨_, rfl, ?_⟩
  split
  · exact ⟨List.mem_append_right _ List.mem_cons_self, fun _ => rfl⟩
  next hl =>
    obtain ⟨t, ht, -, -, hdown⟩ := takeDown_logged s link
    refine ⟨?_, fun h => absurd h hl⟩
    rw [ht.router, hdown]
    exact List.mem_append_right _ List.mem_cons_self

/-! ### Paths -/

theorem notePaths_router (s : State) : s.notePaths.router = s.router := foldl_keeps State.router (fun _ _ => setHreg_router ..) _ s

theorem find?_foldl_keep {m : Map Nat} {l : List Nat} {v k : Nat} (h : (Tab.find? m k).isSome = true ∨ k ∈ l) :
    (Tab.find? (l.foldl (fun (m : Map Nat) k => if (Tab.find? m k).isSome then m else Tab.put m k v) m) k).isSome = true := by
  induction l generalizing m with
  | nil => exact h.resolve_right List.not_mem_nil
  | cons x l ih =>
    refine ih ?_
    beta_reduce
    by_cases hx : (Tab.find? m x).isSome = true
    · rw [if_pos hx]
      rcases h with h | h
      · exact .inl h
      · rcases List.mem_cons.1 h with rfl | h
        · exact .inl hx
        · exact .inr h
    · rw [if_neg hx, find?_put]
      split
      · exact .inl rfl
      next hne =>
        rcases h with h | h
        · exact .inl h
        · exact .inr ((List.mem_cons.1 h).resolve_left (Ne.symm hne))

theorem routeRemove_drops (hd : link ∈ s.router.linksDown) : ∃ t, exec (.routeRemove link) s = .next t ∧
    (∀ e ∈ t.router.paths, e.2 ≠ [] ∧ ∀ p ∈ e.2, link ∉ p.2) ∧
    (∀ e ∈ s.router.paths, (∀ p ∈ e.2, link ∈ p.2) → (Tab.find? t.router.pathless e.1).isSome = true) := by
  rw [exec_routeRemove, execRouteRemove, if_neg (by simpa using hd)]
  refine ⟨_, rfl, ?_⟩
  rw [notePaths_router]
  refine ⟨fun e he => ?_, fun e he hall => find?_foldl_keep (.inr ?_)⟩
  · obtain ⟨he, hne⟩ := List.mem_filter.1 he
    obtain ⟨e0, -, rfl⟩ := List.mem_map.1 he
    refine ⟨by simpa using hne, fun p hp => ?_⟩
    simpa using (List.mem_filter.1 hp).2
  · refine List.mem_map.2 ⟨(e.1, e.2.filter (fun p => !p.2.contains link)), List.mem_filter.2 ⟨List.mem_map_of_mem he, ?_⟩, rfl⟩
    rw [List.isEmpty_iff, List.filter_eq_nil_iff]
    intro p hp
    simpa using hall p hp

theorem numberPaths_paths (l : List (List Nat)) : (numberPaths l).map (·.2) = ([1, 2, 3].flatMap (fun n => l.filter (fun p => p.length == n))).take 4 := by
  unfold numberPaths
  rw [List.map_map]
  exact List.zipIdx_map_fst 0 _

theorem pathRestored_keeps (hp : paths ≠ []) (hg : ∀ p ∈ paths, 1 ≤ p.length ∧ p.length ≤ 3 ∧ p.headD 0 < 36) (hm : module < 3072) (ho : module ≠ s.modnum) :
    ∃ t, exec (.pathRestored module paths) s = .next t ∧ Tab.find? t.router.modules module = some .reachable ∧
      (Tab.get t.router.paths [] module).map (·.2) = ([1, 2, 3].flatMap (fun n => paths.filter (fun p => p.length == n))).take 4 := by
  have hgood : paths.all pathGood = true := by
    refine List.all_eq_true.2 fun p hmem => ?_
    obtain ⟨h1, h3, hport⟩ := hg p hmem
    unfold pathGood
    rw [decide_eq_true h3, decide_eq_true hport, Bool.and_true, Bool.and_true, Bool.not_eq_true', List.isEmpty_eq_false_iff]
    exact List.ne_nil_of_length_pos h1
  rw [exec_pathRestored, execPathRestored, if_neg (by simp [hp, hgood, ho]; omega)]
  refine ⟨_, rfl, ?_⟩
  rw [notePaths_router]
  exact ⟨by rw [find?_put, if_pos rfl], by rw [Tab.get, find?_put, if_pos rfl]; exact numberPaths_paths paths⟩

/-! ### Modules that hibernate, are lost or do not answer -/

theorem sendAbort_router (s : State) (m : AbortMsg) : (s.sendAbort m).router = s.router := by
  unfold State.sendAbort
  split <;> rfl

theorem failReplay_router (s : State) (y : Replay) (m : AbortMsg) : (s.failReplay y m).router = s.router := by
  unfold State.failReplay
  split
  · rfl
  · exact sendAbort_router ..

theorem failPeers_router (s : State) (m status : Nat) : (s.failPeers m status).router = s.router := by
  refine foldl_keeps State.router (fun s y => ?_) _ s
  dsimp only
  split
  · exact failReplay_router ..
  · rfl

theorem setPart_router (s : State) (id : Nat) (r : Request) (i : Nat) (f : Part → Part) : (s.setPart id r i f).router = s.router := by
  unfold State.setPart
  dsimp only
  split <;> rfl

theorem failAway_router (s : State) (id sub : Nat) (gone : Nat → Bool) : (s.failAway id sub gone).router = s.router := by
  unfold State.failAway
  split
  · rfl
  · refine foldl_keeps State.router (fun s i => ?_) _ s
    split
    · rfl
    · split
      · split
        · exact setPart_router ..
        · rfl
      · rfl

theorem hibernatingAnswer_knows (h : s.moduleState module ≠ .lost) :
    ∃ t, exec (.hibernatingAnswer module) s = .next t ∧ Tab.find? t.router.modules module = some .hibernating := by
  rw [exec_hibernatingAnswer, execHibernatingAnswer, if_neg (by simpa using h)]
  refine ⟨_, rfl, ?_⟩
  rw [failPeers_router, find?_put, if_pos rfl]

theorem moduleLost_knows (h : Tab.find? s.router.pathless module = some since) (hn : since + 100000 ≤ s.now) :
    ∃ t, exec (.moduleLost module) s = .next t ∧ Tab.find? t.router.modules module = some .lost := by
  rw [exec_moduleLost, execModuleLost, h]
  dsimp only
  rw [if_neg (Nat.not_lt.2 hn)]
  refine ⟨_, rfl, ?_⟩
  rw [failPeers_router, foldl_keeps State.router (fun _ _ => failAway_router ..), (logged_log ..).router, find?_put, if_pos rfl]

theorem remoteNoAnswer_logs (hf : Tab.find? s.reqs req = some r) (ht : r.sentAt = some since) (hn : since + 2 ^ 20 ≤ s.now) :
    let silent := fun (m : Nat) => Tab.get s.router.modules .lost m == .reachable
    r.parts.findSome? (fun p => ((r.awaited p).find? silent).map (·, p.firstByte)) = some (module, addr) → exec (.remoteNoAnswer req) s =
      .next ((s.failAway req 5 silent).log 0 0x0400 5 3 (s.gangOwner r.gang) (BitVec.ofNat 64 addr) (BitVec.ofNat 64 module)) := by
  intro silent hp
  rw [exec_remoteNoAnswer, execRemoteNoAnswer, hf]
  dsimp only
  rw [ht]
  dsimp only
  rw [hp]
  dsimp only
  rw [if_neg (Nat.not_lt.2 hn)]

/-- Settles O45: a request of another module is performed once and answered as its kind is, and each event of the fabric makes its one
change to the router. -/
theorem fabricEvents : Obligations.FabricEvents := by
  intro msg q off d module link req since addr kind paths r s s1 taken fresh silent draws knows
  refine ⟨fun ⟨ha, hs, hh⟩ ho hp hk => ?_, fun e ht he => remoteRequest_repeated ht he, fun ⟨ha, hs, hh⟩ ho => remoteRequest_unowned ha hs hh ho,
    hibernatingAnswer_knows, remoteNoAnswer_logs, linkRetry_counts, linkDown_logs, routeRemove_drops, moduleLost_knows, pathRestored_keeps, fun h => ?_⟩
  · intro before unit splits hd
    have hbefore : remoteBefore s q off msg kind = before := by simp only [remoteBefore, before, beq_iff_eq]
    have hdone := (remoteRequest_owned ha hs hh ho).trans (congrArg _ (performRemote_done hp hk (by rw [hbefore]; exact hd)))
    rw [hbefore] at hdone
    refine ⟨fun hdr => hdone.trans (congrArg _ (answerDone_plain hk hdr _ _)), fun hdr hs => ?_, fun hdr hs => ?_⟩
    · refine hdone.trans (congrArg _ ((answerDone_draw hk hdr _ _).trans ?_))
      rw [show before.drawSplits (Config.cores + homeCluster off) kind msg.mask.toNat d = [] from hs]
      rfl
    · refine hdone.trans (congrArg _ ((answerDone_draw hk hdr _ _).trans ?_))
      rw [if_neg (splitAnswer_status_ne hs)]
  · rw [exec_routerOff, execRouterOff, if_pos h]

end Sys2Proof.Proofs
end


section
/-! O50: its clause of TERMINATE assumes rising keys of the host's registers alone. Where the table of sources has its keys out
of order, what the command leaves of a source is put under a second entry of it, and the entry that was there keeps the
owner's nest. -/
namespace Sys2Proof.Proofs
open Sys2Proof Sys2Proof.Machine Sys2Proof.Laws

/-- A nest of an owner that waits at a source. -/
def waitingOf (owner : Nat) : Waiting := { rec_ := nestRecord 0, owner := owner, since := 0 }

/-- A READY module whose slot 0 is owner 1's; its table of sources lists source 5 before source 3, which holds a nest of
owner 1 and one of owner 2. -/
def sourcesAstray : State :=
  let s := (State.reset.setHreg 0x1000 6).setSlotReg 0 0 (2 ^ 63 + 1)
  { s with launch := { s.launch with sources := [(5, [waitingOf 2]), (3, [waitingOf 1, waitingOf 2])] } }

theorem rising_sourcesAstray : Tab.rising sourcesAstray.host = true := by decide

theorem accepting_sourcesAstray : sourcesAstray.hreg 0x3830 = 0 ∧ sourcesAstray.hostWrites = true := by decide

theorem commanded_sourcesAstray : sourcesAstray.ready = true ∧ 0 < 32 ∧ sourcesAstray.slotValid 0 = true ∧
    sourcesAstray.slotReg 0 0x38 ≠ 2 ∧ sourcesAstray.slotReg 0 0x38 ≠ 4 := by decide

theorem slotOwner_sourcesAstray : sourcesAstray.slotOwner 0 = 1 := by decide

/-- What TERMINATE does first: the gangs of the slot's owner, its nests and its replays end. -/
def endOwnerNests (slot : Nat) (s : State) : State :=
  let owner := s.slotOwner slot
  let ended := (s.ownerGangs owner).foldl (fun (s : State) g => s.endGang g 4) (s.setSlotReg slot 0x38 4)
  ((ended.abortNests owner).abortWaiting owner).abortReplays owner

theorem sources_removeVitrine (s : State) (i : Nat) : (s.removeVitrine i).launch.sources = s.launch.sources := by
  unfold State.removeVitrine
  cases Tab.find? s.vitrines i with
  | none => rfl
  | some v => rfl

theorem sources_setPower (s : State) (p : Power) : ({ s with power := p } : State).launch.sources = s.launch.sources := rfl

theorem sources_settleRestore (s : State) : s.settleRestore.launch.sources = s.launch.sources := by
  unfold State.settleRestore
  split
  · rfl
  · rfl

theorem sources_endTerminate (s : State) (slot : Nat) : (s.endTerminate slot).launch.sources = s.launch.sources := by
  unfold State.endTerminate
  split
  · rfl
  · rfl

/-- TERMINATE clears ENABLE of a queue of the owner. -/
theorem sources_dropQueue (s : State) (owner q : Nat) :
    (if s.queueOwner q = owner && s.queueEnabled q then s.setQueueReg q 8 (s.queueReg q 8 - 32768) else s).launch.sources = s.launch.sources := by
  split
  · exact congrArg Launch.sources (setHreg_launch ..)
  · rfl

/-- A command of a slot that takes one is carried out. -/
theorem ownerCommand_commanded {s : State} {slot cmd : Nat} {f : State → State} (hidle : s.hreg 0x3830 = 0) (hwrites : s.hostWrites = true)
    (hready : s.ready = true) (hslot : slot < 32) (hvalid : s.slotValid slot = true) (hsuspending : s.slotReg slot 0x38 ≠ 2)
    (hending : s.slotReg slot 0x38 ≠ 4) : s.ownerCommand slot cmd f = f s := by
  unfold State.ownerCommand
  rw [hostWrite_accepted hidle hwrites hready, if_neg]
  simp [hslot, hvalid, hsuspending, hending]

/-- What TERMINATE does after its owner's nests leaves the sources as they are. -/
theorem terminate_sources {s : State} {slot : Nat} (hidle : s.hreg 0x3830 = 0) (hwrites : s.hostWrites = true)
    (hready : s.ready = true) (hslot : slot < 32) (hvalid : s.slotValid slot = true) (hsuspending : s.slotReg slot 0x38 ≠ 2)
    (hending : s.slotReg slot 0x38 ≠ 4) :
    ∃ u, exec (.terminate slot) s = .next u ∧ u.launch.sources = (endOwnerNests slot s).launch.sources := by
  rw [exec_terminate, execTerminate, ownerCommand_commanded hidle hwrites hready hslot hvalid hsuspending hending]
  unfold endOwnerNests
  generalize List.range 2048 = queues
  dsimp only
  refine ⟨_, rfl, ?_⟩
  rw [sources_endTerminate, sources_settleRestore]
  refine (sources_setPower ..).trans ?_
  refine (foldl_keeps (fun s : State => s.launch.sources) (fun s (v : Nat × Vitrine) => sources_removeVitrine s v.1) _ _).trans ?_
  exact foldl_keeps (fun s : State => s.launch.sources) (fun t q => sources_dropQueue t (s.slotOwner slot) q) _ _

/-- Owner 1's nest still waits, at the second entry of source 3, when TERMINATE has ended what its owner had. -/
theorem waits_endOwnerNests_sourcesAstray :
    (endOwnerNests 0 sourcesAstray).launch.sources.any (fun e => e.2.any (fun w => w.owner == 1)) = true := by decide +kernel

/-- Refutes O50: the clause of TERMINATE says that no nest of the owner waits at a source afterwards, of every state whose host
registers have rising keys. In `sourcesAstray` the table of sources has not: source 3 stands behind source 5, so that the list
that TERMINATE keeps of source 3 becomes a new entry before both, and the entry with owner 1's nest stays. With rising keys of
`launch.sources` as a premise this counterexample is gone. -/
theorem not_hostEvents : ¬ Obligations.HostEvents := by
  unfold Obligations.HostEvents
  rintro ⟨-, hcmd⟩
  obtain ⟨-, -, -, -, -, -, -, -, haccepted⟩ := hcmd 0 0 0 0 0 0 0 0 0 0 { front := 0, shadow := 0, length := 0, owner := 0 }
    (sourcesAstray.graphOf 0) 0 [] sourcesAstray sourcesAstray rising_sourcesAstray
  obtain ⟨-, -, -, -, hterminate, -⟩ := haccepted accepting_sourcesAstray.1 accepting_sourcesAstray.2
  obtain ⟨u, hu, -, -, hnone⟩ := hterminate commanded_sourcesAstray
  obtain ⟨hready, hslot, hvalid, hsuspending, hending⟩ := commanded_sourcesAstray
  obtain ⟨u', hu', hsources⟩ := terminate_sources accepting_sourcesAstray.1 accepting_sourcesAstray.2 hready hslot hvalid hsuspending hending
  obtain rfl : u' = u := Host.Outcome.next.inj (hu'.symm.trans hu)
  rw [slotOwner_sourcesAstray, hsources] at hnone
  obtain ⟨e, he, hwaits⟩ := List.any_eq_true.1 waits_endOwnerNests_sourcesAstray
  obtain ⟨w, hw, howner⟩ := List.any_eq_true.1 hwaits
  exact hnone e he w hw (eq_of_beq howner)

end Sys2Proof.Proofs
end


section
/-! O51: what reads of the device leave unchanged, and checkpoints received and sealed (R416 to R419). -/
namespace Sys2Proof.Proofs
open Sys2Proof Sys2Proof.Machine Sys2Proof.Laws

variable {s t s1 s2 : State} {ck : Checkpoint} {off : Nat}

/-! ### Reads of the device -/

/-- Only L2 lines' use differs. -/
def LinesTouched (s t : State) : Prop := ∃ c, t = { s with clusters := c }

theorem LinesTouched.refl (s : State) : LinesTouched s s := ⟨s.clusters, rfl⟩

theorem LinesTouched.trans {u : State} (hst : LinesTouched s t) (htu : LinesTouched t u) : LinesTouched s u := by
  obtain ⟨c, rfl⟩ := hst
  obtain ⟨d, rfl⟩ := htu
  exact ⟨d, rfl⟩

theorem LinesTouched.eq {α : Type} (h : LinesTouched s t) (part : State → α) (hpart : ∀ c, part { s with clusters := c } = part s) : part t = part s := by
  obtain ⟨c, rfl⟩ := h
  exact hpart c

theorem linesTouched_foldl {α : Type} {f : State → α → State} (hf : ∀ s x, LinesTouched s (f s x)) (l : List α) (s : State) :
    LinesTouched s (l.foldl f s) := by
  induction l generalizing s with
  | nil => exact .refl s
  | cons x r ih => exact (hf s x).trans (ih _)

theorem linesTouched_touchLine (s : State) (line : Nat) : LinesTouched s (s.touchLine line) := by
  unfold State.touchLine
  dsimp only
  cases (s.cluster (homeCluster (line * 128))).find line with
  | none => exact .refl s
  | some l => exact ⟨_, rfl⟩

theorem linesTouched_deviceSeen (s : State) (off n : Nat) : LinesTouched s (s.deviceSeen off n) := by
  refine linesTouched_foldl (fun s run => ?_) _ _
  split
  · exact linesTouched_touchLine ..
  · exact .refl s

theorem linesTouched_catalogueSeen (s : State) (off : Nat) : LinesTouched s (s.catalogueSeen off) := by
  unfold State.catalogueSeen
  split
  · exact linesTouched_deviceSeen ..
  · exact .refl s

/-! ### Shards (R418) -/

theorem shardReceive_appends {source : Nat} {bytes : List Byte} (hon : s.router.off = false) (hh : s.answersHibernating (source / 4096) = false)
    (hslot : source / 4096 = 0 ∨ (s.slotOf (source / 4096)).isSome = true) (ha : s.appendArea bytes = (s1, some off)) :
    exec (.shardReceive source bytes) s = .next { s1 with outbox := s1.outbox ++ [.answer (source % 4096) 0 0 (BitVec.ofNat 256 off)] } := by
  have hserved : ¬(decide (source / 4096 ≠ 0) && (s.slotOf (source / 4096)).isNone) = true := by
    rcases hslot with h | h
    · simp [h]
    · simp [Option.isNone_eq_false_iff.2 h]
  rw [exec_shardReceive, execShardReceive]
  dsimp only
  rw [if_neg (by simp [hon]), if_neg (by simp [hh]), if_neg hserved, ha]

theorem shardReceive_refuses {source : Nat} {bytes : List Byte} (hon : s.router.off = false) (hh : s.answersHibernating (source / 4096) = false)
    (howner : source / 4096 ≠ 0) (hslot : s.slotOf (source / 4096) = none) :
    exec (.shardReceive source bytes) s = .next { s with outbox := s.outbox ++ [.answer (source % 4096) 0 3 0] } := by
  have hrefused : (decide (source / 4096 ≠ 0) && (s.slotOf (source / 4096)).isNone) = true := by simp [howner, hslot]
  rw [exec_shardReceive, execShardReceive]
  dsimp only
  rewrite [if_neg (by simp [hon]), if_neg (by simp [hh]), if_pos hrefused]
  rfl

/-! ### Sealing (R419) -/

/-- The Catalogue of a checkpoint before it is signed. -/
def sealOf (s : State) (ck : Checkpoint) (es : List Shard) (modnum : Nat) : Catalogue :=
  { kind := 2, slot := 0, seq := s.lastSeq + 1, tWarn := ck.t, tSeal := s.now, prev := if ck.diff then (s.power.chain.getLast?).elim 0 (fun c => Config.sha384 (c.bytes modnum)) else 0,
    selftest := s.hreg 0x1018, feat := s.hreg 0x020, energy := 0, regions := ck.regions, steps := s.graphSteps, shards := es }

/-- The machine with a Catalogue of a checkpoint appended, sent to the other members, and the checkpoint ended. -/
def sealedWith (s : State) (ck : Checkpoint) (c : Catalogue) (off modnum : Nat) : State :=
  let chained : State := { s with
    outbox := s.outbox ++ (ck.members.filter (· ≠ modnum)).map (fun m => OutMsg.shard m (c.bytes modnum) 0)
    power := { s.power with chain := (if ck.diff then s.power.chain else []) ++ [{ c with addr := off }] } }
  ({ chained with power := { chained.power with checkpoint := none } }).setCkstat chained.lastSeq 2

theorem checkpointSeal_appends {answers : List Nat} {es : List Shard} {c : Catalogue} (hck : s.power.checkpoint = some ck)
    (hstill : s.memoryStill = false) (hall : (ck.shards.filter (fun e => e.1 != ck.own)).length ≤ answers.length) (hanswers : ∀ a ∈ answers, a < 2 ^ 44)
    (hplaced : s.placeEntries ck.members ck.own answers ck.shards = (s1, some es)) (hc : c = (sealOf s1 ck es s.modnum).signed s.modnum)
    (happend : s1.appendArea (c.bytes s.modnum) = (s2, some off)) :
    exec (.checkpointSeal answers) s = .next (sealedWith s2 ck c off s.modnum) := by
  have hnone : answers.any (fun a => decide (2 ^ 44 < a)) = false := by
    refine List.any_eq_false.2 (fun a ha => ?_)
    have := hanswers a ha
    simp
    omega
  have hroom : answers.any (fun a => a == 2 ^ 44) = false := by
    refine List.any_eq_false.2 (fun a ha => ?_)
    have := hanswers a ha
    simp
    omega
  rw [sealOf] at hc
  rw [exec_checkpointSeal, execCheckpointSeal, hck]
  dsimp only
  rw [if_neg (by simp [hstill]; omega), hnone, hroom, hplaced]
  dsimp only
  rewrite [← hc, happend, sealedWith]
  rfl

end Sys2Proof.Proofs
end


section
/-! O51: the host's writes of the accession list, RESUME and the checkpoints' registers. -/
namespace Sys2Proof.Proofs
open Sys2Proof Sys2Proof.Machine Sys2Proof.Laws

variable {s t s1 s2 : State} {ck : Checkpoint} {off at_ addr : Nat}

theorem hostWrite_early {owner : Nat} {w : Word} {f : State → State} (hidle : s.hreg 0x3830 = 0) (hwrites : s.hostWrites = true) :
    s.hostWrite addr owner w true f = f s := by
  unfold State.hostWrite
  rw [if_neg (fun h => h hidle), hwrites, if_neg (by simp)]

theorem LinesTouched.hreg (h : LinesTouched s t) (a : Nat) : t.hreg a = s.hreg a := h.eq (·.hreg a) (fun _ => rfl)
theorem LinesTouched.stackServes (h : LinesTouched s t) (k : Nat) : t.stackServes k = s.stackServes k := h.eq (·.stackServes k) (fun _ => rfl)
theorem LinesTouched.power (h : LinesTouched s t) : t.power = s.power := h.eq (·.power) (fun _ => rfl)
theorem LinesTouched.now (h : LinesTouched s t) : t.now = s.now := h.eq (·.now) (fun _ => rfl)
theorem LinesTouched.lastSeq (h : LinesTouched s t) : t.lastSeq = s.lastSeq := h.eq (·.lastSeq) (fun _ => rfl)
theorem LinesTouched.modnum (h : LinesTouched s t) : t.modnum = s.modnum := h.eq (·.modnum) (fun _ => rfl)

/-! ### The accession list (R394, R401) -/

/-- An entry of an accession list: its owner, its first byte, its word [47:32] and its granules of 64 KiB. -/
abbrev ListEntry : Type := Nat × Nat × Nat × Nat
/-- The first byte behind an entry. -/
def listEnd (e : ListEntry) : Nat := e.2.1 + 65536 * e.2.2.2
/-- Two entries have no byte in common. -/
def Apart (e f : ListEntry) : Prop := listEnd f ≤ e.2.1 ∨ listEnd e ≤ f.2.1
/-- The list of the entries in memory. -/
def accessionList (entries : List (Nat × Nat)) : List ListEntry :=
  entries.map (fun e => (bits e.1 63 48, e.1 % 2 ^ 44, bits e.2 63 32, e.2 % 2 ^ 32))
/-- The area of region 0 as an entry. -/
def saveEntry (s : State) : ListEntry := (0, (s.hreg 0x2040).toNat, 0, ((s.hreg 0x2048).toNat + 65535) / 65536)

theorem Apart.meets {e f : ListEntry} (h : Apart e f) : (decide (e.2.1 < f.2.1 + 65536 * f.2.2.2) && decide (f.2.1 < e.2.1 + 65536 * e.2.2.2)) = false := by
  unfold Apart listEnd at h
  simp only [Bool.and_eq_false_iff, decide_eq_false_iff_not]
  omega

theorem zipIdx_overlaps_eq_false {list : List ListEntry} {save : ListEntry} (hsave : ∀ e ∈ list, Apart e save) (hpair : list.Pairwise Apart) :
    list.zipIdx.any (fun (a : ListEntry × Nat) => (decide (a.1.2.1 < save.2.1 + 65536 * save.2.2.2) && decide (save.2.1 < a.1.2.1 + 65536 * a.1.2.2.2)) ||
      list.zipIdx.any (fun (b : ListEntry × Nat) => decide (a.2 < b.2) && (decide (a.1.2.1 < b.1.2.1 + 65536 * b.1.2.2.2) && decide (b.1.2.1 < a.1.2.1 + 65536 * a.1.2.2.2)))) = false := by
  refine List.any_eq_false.2 (fun a ha => ?_)
  obtain ⟨hi, hget⟩ := List.mem_zipIdx' ha
  have hbeside : ∀ b ∈ list.zipIdx, (decide (a.2 < b.2) && (decide (a.1.2.1 < b.1.2.1 + 65536 * b.1.2.2.2) && decide (b.1.2.1 < a.1.2.1 + 65536 * a.1.2.2.2))) = false := by
    intro b hb
    obtain ⟨hj, hget'⟩ := List.mem_zipIdx' hb
    by_cases hlt : a.2 < b.2
    · have hapart := List.pairwise_iff_getElem.1 hpair a.2 b.2 hi hj hlt
      rw [← hget, ← hget'] at hapart
      rw [hapart.meets, Bool.and_false]
    · simp [hlt]
  have hmem : a.1 ∈ list := hget ▸ List.getElem_mem hi
  rw [(hsave _ hmem).meets, Bool.false_or, List.any_eq_false.2 (fun b hb => Bool.eq_false_iff.1 (hbeside b hb))]
  decide

/-- A list is mapped where each stack that an entry reaches serves. -/
theorem mapped_all {list : List ListEntry} (hserves : ∀ e ∈ list, ∀ h < 8, s.stackServes h = true ∨ listEnd e ≤ h * 2 ^ 36 ∨ (h + 1) * 2 ^ 36 ≤ e.2.1)
    (hlast : ∀ e ∈ list, listEnd e ≤ 2 ^ 39) :
    list.all (fun (e : ListEntry) => decide (e.2.1 + 65536 * e.2.2.2 ≤ 2 ^ 39) &&
      (List.range 8).all (fun h => s.stackServes h || decide (e.2.1 + 65536 * e.2.2.2 ≤ h * 2 ^ 36) || decide ((h + 1) * 2 ^ 36 ≤ e.2.1))) = true := by
  refine List.all_eq_true.2 (fun e he => ?_)
  refine Bool.and_eq_true_iff.2 ⟨decide_eq_true (hlast e he), List.all_eq_true.2 (fun h hh => ?_)⟩
  rcases hserves e he h (List.mem_range.1 hh) with hs | hs | hs
  · rw [hs, Bool.true_or, Bool.true_or]
  · rw [decide_eq_true (show e.2.1 + 65536 * e.2.2.2 ≤ h * 2 ^ 36 from hs), Bool.or_true, Bool.true_or]
  · rw [decide_eq_true hs, Bool.or_true]

theorem acclist_takes (hidle : s.hreg 0x3830 = 0) (hwrites : s.hostWrites = true) {entries : List (Nat × Nat)} {list : List ListEntry}
    (hat : at_ = bits addr 55 6 * 64) (hentries : entries = s.listEntries at_ (List.range 1024)) (hlist : list = accessionList entries)
    (hmapped : s.hbmRange at_ 16 = true) (hreserved : ∀ e ∈ entries, bits e.1 47 44 = 0 ∧ bits e.1 15 0 = 0)
    (hserves : ∀ e ∈ list, ∀ h < 8, s.stackServes h = true ∨ listEnd e ≤ h * 2 ^ 36 ∨ (h + 1) * 2 ^ 36 ≤ e.2.1)
    (hlast : ∀ e ∈ list, listEnd e ≤ 2 ^ 39) (hlen : list.length ≤ 1023) (htotal : list.foldl (fun n e => n + e.2.2.2) 0 ≤ 500 * 16384)
    (hsave : ∀ e ∈ list, Apart e (saveEntry s)) (hpair : list.Pairwise Apart) :
    exec (.acclist addr) s = .next (({ s.deviceSeen at_ (16 * min 1024 (entries.length + 1)) with power := { s.power with list := list } }.setHreg 0x2078
      (BitVec.ofNat 64 (warnLevel list))).setHreg 0x2018 (BitVec.ofNat 64 (list.length <<< 32))) := by
  subst hat
  have hl := linesTouched_deviceSeen s (bits addr 55 6 * 64) (16 * min 1024 (entries.length + 1))
  have hplain : entries.any (fun (e : Nat × Nat) => bits e.1 47 44 != 0 || bits e.1 15 0 != 0) = false := by
    refine List.any_eq_false.2 (fun e he => ?_)
    simp [hreserved e he]
  have hlarge : ¬(decide (1023 < list.length) || decide (500 * 16384 < list.foldl (fun n e => n + e.2.2.2) 0)) = true := by
    simp only [Bool.or_eq_true, decide_eq_true_eq]
    omega
  have hall := mapped_all hserves hlast
  have hnone := zipIdx_overlaps_eq_false hsave hpair
  rw [exec_acclist, execAcclist]
  dsimp only
  rw [hostWrite_early hidle hwrites, if_neg (by simp [hmapped]), ← hentries]
  simp only [hl.hreg, hl.stackServes, hl.power]
  rw [accessionList] at hlist
  rw [← hlist, hplain, hall, if_neg (by decide), if_neg hlarge]
  rw [saveEntry] at hnone
  rw [hnone, if_neg (by decide), Nat.or_zero]

/-! ### RESUME (R411) -/

theorem restoreResume_resumes {index : Nat} (hidle : s.hreg 0x3830 = 0) (hwrites : s.hostWrites = true) (hready : s.ready = true) (hrestoring : s.supply = 7) :
    exec (.restoreResume index) s =
      .next ((s.power.unresumed.filter (fun k => index % 65536 = 0xFFFF || k = index % 65536)).foldl (fun u k => u.resumeOwner k) s) := by
  rw [exec_restoreResume, execRestoreResume, hostWrite_accepted hidle hwrites hready, if_neg (not_not.2 hrestoring)]

end Sys2Proof.Proofs
end


section
/-! O51: CKREQ and CKRESTORE (R417 to R419), and the statement. -/
namespace Sys2Proof.Proofs
open Sys2Proof Sys2Proof.Machine Sys2Proof.Laws

variable {s t s1 : State} {at_ addr : Nat}

/-- A field that lies in the low bits of a number is that of those bits. -/
theorem bits_mod_two_pow {n : Nat} (v hi lo : Nat) (hhi : hi < n) : bits (v % 2 ^ n) hi lo = bits v hi lo := by
  refine Nat.eq_of_testBit_eq (fun i => ?_)
  simp only [bits, Nat.testBit_mod_two_pow, Nat.testBit_shiftRight]
  by_cases hi' : i < hi + 1 - lo
  · simp [hi', show lo + i < n by omega]
  · simp [hi']

/-! ### CKREQ (R417, R418) -/

/-- The modules that a checkpoint request of 64 bytes names. -/
def membersNamed (w : Nat) : List Nat := (List.range (bits w 51 48 + 1)).map (fun k => bits w (64 + 12 * k + 11) (64 + 12 * k))

/-- A request that names its own module and others in the layout of R418. -/
structure RequestGood (w modnum : Nat) : Prop where
  format : bits w 63 56 = 1
  size : 3 ≤ bits w 51 48 + 1
  own : bits w 47 40 < bits w 51 48 + 1
  reserved : bits w 55 52 = 0
  reserved' : bits w 39 1 = 0
  unused : bits w 255 (64 + 12 * (bits w 51 48 + 1)) = 0
  rest : bits w 511 256 = 0
  self : (membersNamed w).getD (bits w 47 40) 4096 = modnum
  modules : ∀ m ∈ membersNamed w, m < 3072
  distinct : (membersNamed w).Nodup

theorem RequestGood.accepted {w modnum : Nat} (h : RequestGood w modnum) :
    (bits w 63 56 == 1 && decide (3 ≤ bits w 51 48 + 1) && decide (bits w 47 40 < bits w 51 48 + 1) && bits w 55 52 == 0 && bits w 39 1 == 0 &&
      bits w (64 + 191) (64 + 12 * (bits w 51 48 + 1)) == 0 && bits w 511 256 == 0 && (membersNamed w).getD (bits w 47 40) 4096 == modnum &&
      (membersNamed w).all (fun m => decide (m < 3072)) && decide ((membersNamed w).dedup.length = bits w 51 48 + 1)) = true := by
  have hall : (membersNamed w).all (fun m => decide (m < 3072)) = true := List.all_eq_true.2 (fun m hm => decide_eq_true (h.modules m hm))
  have hcount : (membersNamed w).dedup.length = bits w 51 48 + 1 := by
    rw [h.distinct.dedup, membersNamed, List.length_map, List.length_range]
  simp only [Bool.and_eq_true, beq_iff_eq, decide_eq_true_eq]
  exact ⟨⟨⟨⟨⟨⟨⟨⟨⟨h.format, h.size⟩, h.own⟩, h.reserved⟩, h.reserved'⟩, h.unused⟩, h.rest⟩, h.self⟩, hall⟩, hcount⟩

/-- What the capture of a request gives: the shards to the other members are sent, and the checkpoint is in progress. -/
def captured (s1 : State) (stream : List Byte) (regions : List Region) (w now : Nat) : State :=
  let group := bits w 51 48 + 1
  let own := bits w 47 40
  let placed := placeShards group own (shardsOf stream)
  { s1 with
    outbox := s1.outbox ++ (placed.filter (fun e => e.1 != own)).map
      (fun e => OutMsg.shard ((membersNamed w).getD e.1 0) e.2.2.2 (shardOwner regions group e.2.1 e.2.2.1))
    power := { s1.power with checkpoint := some { members := membersNamed w, own := own, diff := w.testBit 0, t := now, regions := regions, shards := placed } } }

theorem ckreq_captures {w : Nat} {stream : List Byte} {regions : List Region} (hidle : s.hreg 0x3830 = 0) (hwrites : s.hostWrites = true)
    (hnone : s.power.checkpoint = none) (hmapped : s.hbmRange (bits addr 55 6 * 64) 64 = true) (hw : w = s.deviceRead (bits addr 55 6 * 64) 64)
    (hgood : RequestGood w s.modnum) (hcap : (s.deviceSeen (bits addr 55 6 * 64) 64).captureRegions (w.testBit 0) = (s1, stream, regions)) :
    exec (.ckreq addr) s = .next ((captured s1 stream regions w s.now).setCkstat s.lastSeq 1) := by
  have hl := linesTouched_deviceSeen s (bits addr 55 6 * 64) 64
  have haccepted := hgood.accepted
  rw [membersNamed] at haccepted
  have hbit : (w % 2 ^ 64).testBit 0 = w.testBit 0 := by simp
  rw [exec_ckreq, execCkreq, hostWrite_early hidle hwrites]
  dsimp only
  rw [if_pos hmapped, ← hw, hl.power, hnone, hl.modnum, hl.now, hl.lastSeq]
  simp only [bits_mod_two_pow (n := 64) w 63 56 (by decide), bits_mod_two_pow (n := 64) w 51 48 (by decide), bits_mod_two_pow (n := 64) w 47 40 (by decide),
    bits_mod_two_pow (n := 64) w 55 52 (by decide), bits_mod_two_pow (n := 64) w 39 1 (by decide), hbit, haccepted, hcap]
  rewrite [if_neg (by decide), if_neg (by decide)]
  rfl

theorem ckreq_refuses (hidle : s.hreg 0x3830 = 0) (hwrites : s.hostWrites = true) (hnone : s.power.checkpoint = none)
    (hmapped : s.hbmRange (bits addr 55 6 * 64) 64 = false) :
    exec (.ckreq addr) s = .next ((s.deviceSeen (bits addr 55 6 * 64) 64).setCkstat s.lastSeq 5) := by
  have hl := linesTouched_deviceSeen s (bits addr 55 6 * 64) 64
  rw [exec_ckreq, execCkreq, hostWrite_early hidle hwrites]
  dsimp only
  rw [hmapped, hl.power, hnone, hl.lastSeq, if_neg Bool.false_ne_true, if_neg (by simp), if_pos (by simp [bits])]

/-! ### CKRESTORE (R419) -/

/-- Whether a Catalogue's address is on another module. -/
def restoreAway (s : State) (at_ : Nat) : Bool := decide (2 ^ 44 ≤ at_) && at_ / 2 ^ 44 != s.modnum
/-- The bytes of the Catalogue that a restore names. -/
def restoreImage (s : State) (at_ : Nat) (shards : List (List Byte)) : List Byte :=
  if restoreAway s at_ then shards.headD [] else s.catalogueAt (at_ % 2 ^ 44)
/-- What the members return besides. -/
def restoreParts (s : State) (at_ : Nat) (shards : List (List Byte)) : List (List Byte) := if restoreAway s at_ then shards.drop 1 else shards
/-- The chain that ends at the Catalogue. -/
def restoreChain (s : State) (at_ : Nat) (shards : List (List Byte)) : Option (List Catalogue) :=
  (parseCatalogue (restoreImage s at_ shards)).bind
    (s.chainOf (restoreParts s at_ shards) ((s.hreg 0x2068).toNat / 32 + (restoreParts s at_ shards).length + 1))
/-- The machine after the read of the Catalogue. -/
def restoreRead (s : State) (at_ : Nat) : State := if restoreAway s at_ then s else s.catalogueSeen (at_ % 2 ^ 44)
/-- The machine after the reads of the chain's earlier Catalogues. -/
def chainRead (s : State) (chain : List Catalogue) : State :=
  chain.foldl (fun (s : State) c => if c.prev = 0 then s else (s.ownCatalogue c.prev).elim s s.catalogueSeen) s
/-- One Catalogue of the chain applied, and its regions that are lost. -/
def applyStep (a : State × List (List Byte) × List Nat) (c : Catalogue) : State × List (List Byte) × List Nat :=
  let r := a.1.applyCheckpoint c (a.2.1.take c.shards.length)
  (r.1, a.2.1.drop c.shards.length, a.2.2 ++ r.2)

theorem linesTouched_restoreRead (s : State) (at_ : Nat) : LinesTouched s (restoreRead s at_) := by
  unfold restoreRead
  split
  · exact .refl s
  · exact linesTouched_catalogueSeen ..

theorem linesTouched_chainRead (s : State) (chain : List Catalogue) : LinesTouched s (chainRead s chain) := by
  refine linesTouched_foldl (fun s c => ?_) _ _
  split
  · exact .refl s
  · cases s.ownCatalogue c.prev with
    | none => exact .refl s
    | some o => exact linesTouched_catalogueSeen ..

theorem ckrestore_malformed {shards : List (List Byte)} (hidle : s.hreg 0x3830 = 0) (hwrites : s.hostWrites = true)
    (hchain : restoreChain s (bits addr 55 6 * 64) shards = none) :
    exec (.ckrestore addr shards) s = .next ((restoreRead s (bits addr 55 6 * 64)).setCkstat s.lastSeq 5) := by
  have hl := linesTouched_restoreRead s (bits addr 55 6 * 64)
  rw [← hl.lastSeq]
  unfold restoreChain restoreImage restoreParts restoreAway at hchain
  unfold restoreRead restoreAway
  rw [exec_ckrestore, execCkrestore, hostWrite_early hidle hwrites]
  dsimp only
  split_ifs at hchain ⊢ with haway
  · rw [hchain]
  · rw [hchain]

theorem ckrestore_applies {shards lost : List (List Byte)} {chain : List Catalogue} {k : Catalogue} (hidle : s.hreg 0x3830 = 0)
    (hwrites : s.hostWrites = true) (hnone : s.power.checkpoint = none) (hchain : restoreChain s (bits addr 55 6 * 64) shards = some chain)
    (hlast : chain.getLast? = some k) (happly : chain.foldl applyStep (chainRead (restoreRead s (bits addr 55 6 * 64)) chain,
      chainShards chain (restoreParts s (bits addr 55 6 * 64) shards), []) = (s1, lost, [])) :
    exec (.ckrestore addr shards) s =
      .next ((k.regions.zipIdx.foldl (fun (s : State) (e : Region × Nat) => s.logRegion e.1 (e.2 + 1) 0) s1).setCkstat k.seq 2) := by
  have hidleRead : (chainRead (restoreRead s (bits addr 55 6 * 64)) chain).power.checkpoint = none := by
    rw [(linesTouched_chainRead ..).power, (linesTouched_restoreRead ..).power, hnone]
  unfold restoreChain restoreImage at hchain
  unfold restoreParts at hchain happly
  unfold restoreRead at hidleRead happly
  unfold restoreAway at hchain happly hidleRead
  unfold chainRead at hidleRead happly
  unfold applyStep at happly
  rw [exec_ckrestore, execCkrestore, hostWrite_early hidle hwrites]
  dsimp only at happly ⊢
  split_ifs at hchain happly hidleRead ⊢ with haway
  all_goals
    dsimp only
    rw [hchain]
    dsimp only
    rw [hidleRead, happly, hlast, if_neg (by decide)]
    simp only [List.contains_nil, Bool.false_eq_true, if_false, if_true, Option.elim]

/-! ### The statement -/

theorem sealedWith_mem (s : State) (ck : Checkpoint) (c : Catalogue) (off m : Nat) : (sealedWith s ck c off m).mem = s.mem := rfl

theorem sealedWith_power (s : State) (ck : Checkpoint) (c : Catalogue) (off m : Nat) : (sealedWith s ck c off m).power =
    { s.power with chain := (if ck.diff then s.power.chain else []) ++ [{ c with addr := off }], checkpoint := none } := rfl

theorem sealedWith_outbox (s : State) (ck : Checkpoint) (c : Catalogue) (off m : Nat) : (sealedWith s ck c off m).outbox =
    s.outbox ++ (ck.members.filter (· ≠ m)).map (fun k => OutMsg.shard k (c.bytes m) 0) := rfl

/-- Settles O51: the host's writes are taken up where they are accepted, and reads of the device touch lines alone, so that a
premise about the machine before them holds after them. -/
theorem checkpointEvents : Obligations.CheckpointEvents := by
  intro addr index off source bytes shards lost answers members c k chain ck stream regions es s s1 s2 _ at_ entries list first last apart save o owner
    w seen listed group own named placed sent taken prev sealed away image parts found read searched apply note
  refine ⟨shardReceive_appends, shardReceive_refuses, fun hck hstill hall hanswers hplaced hc happend => ?_, fun hidle hwrites => ?_⟩
  · refine ⟨_, checkpointSeal_appends hck hstill hall hanswers hplaced hc happend, ?_, ?_, sealedWith_mem .., sealedWith_outbox ..⟩
    · rw [sealedWith_power]
    · rw [sealedWith_power]
      exact List.getLast?_concat
  refine ⟨fun hmapped hreserved hserves hlast hlen htotal hsave hpair => ?_, fun hready hrestoring => restoreResume_resumes hidle hwrites hready hrestoring,
    fun hnone hmapped hformat hsize hown hreserved hreserved' hunused hrest hnamed hself hmodules hdistinct hcap => ?_,
    fun hnone hmapped => ckreq_refuses hidle hwrites hnone hmapped, fun hnone hfound hlast happly => ?_, fun hfound => ckrestore_malformed hidle hwrites hfound⟩
  · exact acclist_takes hidle hwrites rfl rfl rfl hmapped hreserved hserves hlast hlen htotal hsave hpair
  · subst hnamed
    exact ckreq_captures hidle hwrites hnone hmapped rfl
      ⟨hformat, hsize, hown, hreserved, hreserved', hunused, hrest, hself, hmodules, hdistinct⟩ hcap
  · exact ckrestore_applies hidle hwrites hnone hfound hlast happly

end Sys2Proof.Proofs
end


section
/-! LD and ST as slots of a bundle (R202, R220, R239, R242, R335). -/
namespace Sys2Proof.Proofs
open Sys2Proof Sys2Proof.Machine Sys2Proof.Laws

variable {q : Bun} {d : BitVec 6} {a : BitVec 4} {sz : BitVec 2} {off : BitVec 12} {s : State} {ea : Word} {space size align : Nat}

/-! ### A misaligned address -/

/-- Checks that pass stand in the way of none after them. -/
theorem firstStop_append_of_none {l m : List (Option Stop)} (h : ∀ x ∈ l, x = none) : firstStop (l ++ m) = firstStop m := by
  induction l with
  | nil => rfl
  | cons x r ih =>
    obtain rfl := h x List.mem_cons_self
    exact ih fun y hy => h y (List.mem_cons_of_mem _ hy)

/-- What a space refuses of an address comes after its misalignment (R176, R316). -/
theorem spaceStop_after_align {u : TrapInfo} (h : some (.trap u) = q.spaceStop space size ea) : 6 < u.cause := by
  unfold Bun.spaceStop at h
  dsimp only at h
  split_ifs at h
  · exact cause_of_stopIf h (by simp)
  · exact cause_of_stopIf h (by simp)

theorem addrStop_crooked (hr : ea.toNat < 2 ^ 56) (hal : ea.toNat % align ≠ 0) : q.addrStop space size align ea = some (trapAlign ea) := by
  unfold Bun.addrStop
  rw [stopIf_false (decide_eq_false (Nat.not_le.2 hr)), firstStop_cons_none, decide_eq_true hal]
  refine firstStop_trap_cons fun u hu => not_before_of_cause (t := { cause := 6, addr := ea }) ?_
  exact spaceStop_after_align (List.mem_singleton.1 hu)

/-- Of the checks of an address that stands in a register of 56 bits, misalignment is reported first (R316, R335). -/
theorem memStop_crooked (hv : (q.val (areg a)).toNat < 2 ^ 56) (hr : ea.toNat < 2 ^ 56) (hal : ea.toNat % align ≠ 0) :
    q.memStop a space size align ea = some (trapAlign ea) := by
  unfold Bun.memStop
  rw [stopIf_false (decide_eq_false (Nat.not_le.2 hv)), firstStop_cons_none, addrStop_crooked hr hal]
  refine firstStop_trap_cons fun u hu => not_before_of_cause (t := { cause := 6, addr := ea }) ?_
  exact cause_of_stopIf (List.mem_singleton.1 hu) (by simp)

theorem accessStops_own (hp : PlainOwn q) : ∀ x ∈ q.accessStops [0, 1, 2] false false false, x = none :=
  accessStops_plain (by have := hp.1; simp; omega) hp.2.1 hp.2.2 _ _ _

/-- An access of the own scratchpad at a misaligned address traps so, where no later check of the slot traps before it (R316). -/
theorem crooked_traps {l : List (Option Stop)} {f : Bun → Bun} (hp : PlainOwn q) (hm : q.memStop a space size align ea = some (trapAlign ea))
    (hl : ∀ u, some (.trap u) ∈ l → 6 < u.cause) :
    q.check (q.accessStops [0, 1, 2] false false false ++ q.memStop a space size align ea :: l) f = .error (trapAlign ea) := by
  refine check_error ?_
  rw [firstStop_append_of_none (accessStops_own hp), hm]
  exact firstStop_trap_cons fun u hu => not_before_of_cause (t := { cause := 6, addr := ea }) (hl u hu)

theorem ld_crooked (h : s.AtSlot (.ld d a sz off) q) (hp : PlainOwn q) (hv : (q.val (areg a)).toNat < 2 ^ 56) (hr : (q.ea a off).toNat < 2 ^ 56)
    (hal : (q.ea a off).toNat % Machine.sizeOf sz ≠ 0) (hd : isDest d = true) : exec (.ld d a sz off) s = s.trapped { cause := 6, addr := q.ea a off } := by
  rw [exec_ld]
  refine runSlot_trapped h ?_
  dsimp only
  rw [clipped_of_ne (by have := hp.1; omega), own_of_le hp.1, if_pos rfl, if_pos rfl]
  refine crooked_traps hp (memStop_crooked hv hr hal) fun u hu => ?_
  rw [hd] at hu
  cases List.mem_singleton.1 hu

theorem st_crooked (h : s.AtSlot (.st d a sz off) q) (hp : PlainOwn q) (hv : (q.val (areg a)).toNat < 2 ^ 56) (hr : (q.ea a off).toNat < 2 ^ 56)
    (hal : (q.ea a off).toNat % Machine.sizeOf sz ≠ 0) : exec (.st d a sz off) s = s.trapped { cause := 6, addr := q.ea a off } := by
  rw [exec_st]
  refine runSlot_trapped h ?_
  dsimp only
  rw [clipped_of_ne (by have := hp.1; omega), own_of_le hp.1, if_pos rfl, if_pos rfl]
  refine crooked_traps hp (memStop_crooked hv hr hal) fun u hu => ?_
  simp only [List.mem_cons, List.not_mem_nil, or_false] at hu
  rcases hu with hres | hlive | hnone
  · exact cause_of_stopIf hres (by simp)
  · cases stop_of_stopIf hlive
  · cases hnone

/-! ### The own scratchpad and the cluster window -/

/-- An LD or ST of the own scratchpad that is aligned and inside it (R176, R239). -/
def RunFits (q : Bun) (a : BitVec 4) (n : Nat) (ea : Word) : Prop :=
  (q.val (areg a)).toNat < 2 ^ 56 ∧ q.badReg (areg a) = false ∧ ea.toNat % n = 0 ∧ ea.toNat + n ≤ q.core.spadSize

/-- An LD or ST of the cluster window, aligned and inside it (R176, R239). -/
def RunInWindow (q : Bun) (a : BitVec 4) (n : Nat) (ea : Word) : Prop :=
  q.mods.space = 2 ∧ q.mods.order = 0 ∧ q.mods.oflag = false ∧ (q.val (areg a)).toNat < 2 ^ 56 ∧ q.badReg (areg a) = false ∧
    ea.toNat % n = 0 ∧ ea.toNat < 2 ^ 29 ∧ ea.toNat / 2 ^ 21 ≤ 191

theorem sizeOf_pos (sz : BitVec 2) : 0 < Machine.sizeOf sz := Nat.two_pow_pos _

theorem memStop_own (hf : RunFits q a (Machine.sizeOf sz) ea) : q.memStop a 1 (Machine.sizeOf sz) (Machine.sizeOf sz) ea = none := by
  obtain ⟨hv, hb, hal, hin⟩ := hf
  have hc : q.core.spadSize ≤ 1572864 := Nat.sub_le ..
  exact memStop_none hv hb (addrStop_none (by omega) hal (spaceStop_own hin (sizeOf_pos sz)))

theorem memStop_window (hw : RunInWindow q a size ea) : q.memStop a 2 size size ea = none := by
  obtain ⟨-, -, -, hv, hb, hal, hin, hpad⟩ := hw
  exact memStop_none hv hb (addrStop_none (hin.trans (by decide)) hal (spaceStop_window hin hpad))

theorem accessStops_window (hw : RunInWindow q a size ea) : ∀ x ∈ q.accessStops [0, 1, 2] false false false, x = none := by
  obtain ⟨hs, ho, hf, -⟩ := hw
  exact accessStops_plain (by rw [hs]; rfl) ho hf _ _ _

/-- A load of the own scratchpad into s0 takes nothing (R38). -/
theorem spadLoad_s0 {b : Bun} {field : Nat} {old : BitVec 4096} {bytes : List (Nat × Nat)} (h : ∀ e ∈ bytes, b.badWord e.2 1 = none) :
    b.spadLoad (.reg 0) field old bytes = b := by
  unfold Bun.spadLoad
  rw [List.findSome?_eq_none_iff.2 h]
  exact if_pos rfl

theorem loadRun_from_zero (o n : Nat) : loadRun 0 o n = (List.range n).map (fun i => (i, o + i)) := by
  unfold loadRun
  simp only [Nat.zero_add]

theorem ld_own (h : s.AtSlot (.ld d a sz off) q) (hp : PlainOwn q) (hf : RunFits q a (Machine.sizeOf sz) (q.ea a off)) (hd : isDest d = true)
    (hg : ∀ i < Machine.sizeOf sz, q.badWord ((q.ea a off).toNat + i) 1 = none) :
    exec (.ld d a sz off) s = .next (q.joined (.ld d a sz off) (if d = 0#6 then q.narrow else { q.narrow with cur := { q.narrow.cur with
      loads := q.cur.loads ++ [{ slot := q.cur.slot, dst := .reg d.toNat, old := 0, bytes :=
        (List.range (Machine.sizeOf sz)).map (fun i => (i, (q.ea a off).toNat + i)) }] } })) := by
  obtain ⟨ws, hn⟩ := narrow_eq q
  have hgood : ∀ e ∈ (List.range (Machine.sizeOf sz)).map (fun i => (i, (q.ea a off).toNat + i)), q.narrow.badWord e.2 1 = none := by
    intro e he
    obtain ⟨i, hi, rfl⟩ := List.mem_map.1 he
    rw [hn]
    exact hg i (List.mem_range.1 hi)
  rw [exec_ld]
  refine runSlot_joined h ?_
  dsimp only
  rw [clipped_of_ne (by have := hp.1; omega), own_of_le hp.1, if_pos rfl, if_pos rfl]
  refine (check_none fun x hx => ?_).trans (congrArg Except.ok ?_)
  · simp only [List.mem_append, List.mem_cons, List.not_mem_nil, or_false] at hx
    rcases hx with hx | rfl | rfl
    · exact accessStops_own hp x hx
    · exact memStop_own hf
    · exact stopIf_false (by rw [hd]; rfl)
  · rw [if_pos rfl, loadRun_from_zero]
    split_ifs with h0
    · subst h0
      exact spadLoad_s0 hgood
    · refine (spadLoad_good (fun hz => h0 (BitVec.eq_of_toNat_eq (Dest.reg.inj hz))) hgood).trans ?_
      rw [hn]

theorem st_own (h : s.AtSlot (.st d a sz off) q) (hp : PlainOwn q) (hf : RunFits q a (Machine.sizeOf sz) (q.ea a off)) (hd : q.badReg d = false)
    (hc : q.copyStop 1 (q.ea a off).toNat (Machine.sizeOf sz) = none) :
    exec (.st d a sz off) s = .next (q.joined (.st d a sz off) { q.narrow with cur := { q.narrow.cur with
      stores := q.cur.stores ++ (List.range (Machine.sizeOf sz)).map (fun i => (q.cur.slot, (q.ea a off).toNat + i, byteOf (q.val d).toNat i)) } }) := by
  obtain ⟨ws, hn⟩ := narrow_eq q
  rw [exec_st]
  refine runSlot_joined h ?_
  dsimp only
  rw [clipped_of_ne (by have := hp.1; omega), own_of_le hp.1, if_pos rfl, if_pos rfl]
  refine (check_none fun x hx => ?_).trans (congrArg Except.ok ?_)
  · simp only [List.mem_append, List.mem_cons, List.not_mem_nil, or_false] at hx
    rcases hx with hx | rfl | rfl | rfl | rfl
    · exact accessStops_own hp x hx
    · exact memStop_own hf
    · exact stopIf_false hd
    · exact hc
    · rfl
  · rw [hn]
    unfold Bun.spadStore storeRun
    rw [if_pos rfl, List.map_map]
    rfl

theorem ld_window (h : s.AtSlot (.ld d a sz off) q) (hw : RunInWindow q a (Machine.sizeOf sz) (q.ea a off)) :
    let m : Mods := { q.mods with scope := min q.mods.scope 2 }
    q.targetStop d 0 m 1 = none → exec (.ld d a sz off) s = .next (q.joined (.ld d a sz off) (q.narrow.enter
      { q.request (q.streamQueue d) .load (loadParts (loadRun (q.ea a off).toNat 0 (Machine.sizeOf sz))) m with
        stream := some (d.toNat % 8), unit := Machine.sizeOf sz })) := by
  intro m ht
  have hs : q.mods.space = 2 := hw.1
  rw [exec_ld]
  refine runSlot_joined h ?_
  dsimp only
  rw [clipped_space hs, clipped_window hs, show Mods.own m = false from bne_eq_false_iff_eq.2 hs]
  refine (check_none fun x hx => ?_).trans (congrArg Except.ok (sendLoad_window hw.2.1 hs))
  simp only [List.mem_append, List.mem_cons, List.not_mem_nil, or_false] at hx
  rcases hx with hx | rfl | rfl
  · exact accessStops_window hw x hx
  · exact memStop_window hw
  · exact ht

theorem st_window (h : s.AtSlot (.st d a sz off) q) (hw : RunInWindow q a (Machine.sizeOf sz) (q.ea a off)) (hd : q.badReg d = false)
    (hc : q.copyStop 2 (q.ea a off).toNat (Machine.sizeOf sz) = none) :
    let m : Mods := { q.mods with scope := min q.mods.scope 2 }
    q.creditStop m.queue 1 = none → exec (.st d a sz off) s = .next (q.joined (.st d a sz off) (q.narrow.enter
      (q.request m.queue .store (storeParts (storeRun (q.ea a off).toNat (Machine.sizeOf sz) (q.val d).toNat)) m))) := by
  intro m hq
  have hs : q.mods.space = 2 := hw.1
  rw [exec_st]
  refine runSlot_joined h ?_
  dsimp only
  rw [clipped_space hs, clipped_window hs, show Mods.own m = false from bne_eq_false_iff_eq.2 hs]
  refine (check_none fun x hx => ?_).trans (congrArg Except.ok ?_)
  · simp only [List.mem_append, List.mem_cons, List.not_mem_nil, or_false] at hx
    rcases hx with hx | rfl | rfl | rfl | rfl
    · exact accessStops_window hw x hx
    · exact memStop_window hw
    · exact stopIf_false hd
    · exact hc
    · exact hq
  · rw [if_neg Bool.false_ne_true, narrow_request]

/-- Settles O18: in either space the checks pass and the slot joins its bundle; of a misaligned address the checks give that trap
before any other. -/
theorem scratchpadLoadStore : Obligations.ScratchpadLoadStore := by
  intro d a sz off s q ea n plain fits load bytes m window crooked
  exact ⟨ld_own, st_own, ld_window, st_window, fun h ⟨hp, hv, hr, hal⟩ => ld_crooked h hp hv hr hal,
    fun h ⟨hp, hv, hr, hal⟩ => st_crooked h hp hv hr hal⟩

end Sys2Proof.Proofs
end


section
/-! The scratchpad accesses of a bundle that issues (R202, R261). -/
namespace Sys2Proof.Proofs
open Sys2Proof Sys2Proof.Machine Sys2Proof.Laws

variable {s : State} {c : Nat}

/-! ### What an answered wait leaves -/

/-- From `s` to `t` every scratchpad stays, and the keys of the cores rise. -/
structure KeepsSpads (s t : State) : Prop where
  rising : Tab.rising t.cores = true
  spad : ∀ c, (t.core c).spad = (s.core c).spad

theorem keepsSpads_mapStrand (h : Tab.rising s.cores = true) (c x : Nat) (f : Strand → Strand) : KeepsSpads s (s.mapStrand c x f) := by
  unfold State.mapStrand
  split
  next t _ =>
    refine ⟨rising_mapCore h .., fun e => ?_⟩
    unfold State.setStrand
    rw [core_mapCore h]
    split
    next he => rw [← he]; rfl
    next => rfl
  next => exact ⟨h, fun _ => rfl⟩

theorem keepsSpads_answer (h : Tab.rising s.cores = true) (w : Waiter) (status gen : Nat) : KeepsSpads s (s.answer w status gen) := by
  unfold State.answer
  split
  next => exact ⟨h, fun _ => rfl⟩
  next =>
    obtain ⟨hr, hs⟩ := keepsSpads_mapStrand h w.core w.ctx (fun t => { t with answer := some (status, gen) })
    exact ⟨hr, hs⟩

theorem keepsSpads_testSpad (h : Tab.rising s.cores = true) (c off n : Nat) : KeepsSpads s (s.testSpad c off n) := by
  unfold State.testSpad
  refine List.foldlRecOn (motive := KeepsSpads s) _ _ ⟨h, fun _ => rfl⟩ fun t ht w _ => ?_
  obtain ⟨hr, hs⟩ := ht
  split_ifs
  · obtain ⟨hr', hs'⟩ := keepsSpads_answer hr w 0 0
    exact ⟨hr', fun e => (hs' e).trans (hs e)⟩
  · exact ⟨hr, hs⟩
  · exact ⟨hr, hs⟩

/-! ### The bytes stored -/

/-- The scratchpad with every byte stored at these offsets. -/
def storedSpad (s : State) (stores : List (Nat × Nat × Byte)) (offs : List Nat) (m : List Host.Cell) : List Host.Cell :=
  offs.foldl (fun m o => match s.storedByte stores o with
    | some b => Tab.set m 0#8 o b
    | none => m) m

theorem spadByte_testSpad (h : Tab.rising s.cores = true) (c off n e o : Nat) : (s.testSpad c off n).spadByte e o = s.spadByte e o :=
  congrArg (Tab.get · 0#8 o) ((keepsSpads_testSpad h c off n).spad e)

theorem performSpad_spadByte (h : Tab.rising s.cores = true) (loads : List SpadLoad) (stores : List (Nat × Nat × Byte)) (id o : Nat) :
    (s.performSpad c loads stores id).1.spadByte c o = Tab.get (storedSpad s stores (stores.map (·.2.1)) (s.core c).spad) 0#8 o := by
  have hset : (s.setCore c { s.core c with spad := storedSpad s stores (stores.map (·.2.1)) (s.core c).spad }).spadByte c o =
      Tab.get (storedSpad s stores (stores.map (·.2.1)) (s.core c).spad) 0#8 o := by
    unfold State.spadByte
    rw [core_setCore h, if_pos rfl]
  refine Eq.trans ?_ hset
  unfold State.performSpad
  dsimp only
  split_ifs
  · rfl
  · exact (spadByte_testSpad (h := rising_set h) ..).trans rfl

section
variable {stores : List (Nat × Nat × Byte)} {offs : List Nat} {m : List Host.Cell} {o : Nat}

theorem storedSpad_cons (s : State) (stores : List (Nat × Nat × Byte)) (p : Nat) (offs : List Nat) (m : List Host.Cell) :
    storedSpad s stores (p :: offs) m = storedSpad s stores offs ((s.storedByte stores p).elim m (Tab.set m 0#8 p)) := by
  unfold storedSpad
  rw [List.foldl_cons]
  cases s.storedByte stores p <;> rfl

theorem rising_storedStep (hm : Tab.rising m = true) (b : Option Byte) (p : Nat) : Tab.rising (b.elim m (Tab.set m 0#8 p)) = true := by
  cases b with
  | none => exact hm
  | some v => exact rising_set hm

theorem storedSpad_other (hm : Tab.rising m = true) (ho : o ∉ offs) : Tab.get (storedSpad s stores offs m) 0#8 o = Tab.get m 0#8 o := by
  induction offs generalizing m with
  | nil => rfl
  | cons p r ih =>
    obtain ⟨hne, hr⟩ := not_or.1 (mt List.mem_cons.2 ho)
    rw [storedSpad_cons, ih (rising_storedStep hm _ p) hr]
    cases s.storedByte stores p with
    | none => rfl
    | some v => exact get_set_other hm _ v (Ne.symm hne)

theorem storedSpad_stored {v : Byte} (hm : Tab.rising m = true) (ho : o ∈ offs) (hv : s.storedByte stores o = some v) :
    Tab.get (storedSpad s stores offs m) 0#8 o = v := by
  induction offs generalizing m with
  | nil => cases ho
  | cons p r ih =>
    rw [storedSpad_cons]
    by_cases hr : o ∈ r
    · exact ih (rising_storedStep hm _ p) hr
    · obtain rfl : o = p := (List.mem_cons.1 ho).resolve_right hr
      rw [storedSpad_other (rising_storedStep hm _ o) hr, hv]
      exact get_set_same hm _ o v

end

/-- The last byte that a slot stores at an offset. -/
def lastStore (stores : List (Nat × Nat × Byte)) (off slot : Nat) : Option Byte :=
  ((stores.filter (fun e => e.1 == slot && e.2.1 == off)).getLast?).map (·.2.2)

theorem storedByte_two {stores : List (Nat × Nat × Byte)} {o : Nat} {v : Byte} (h2 : lastStore stores o 2 = some v) (h3 : lastStore stores o 3 = none) :
    s.storedByte stores o = some v := by
  unfold lastStore at h2 h3
  unfold State.storedByte
  dsimp only
  rw [h2, h3]

theorem storedByte_three {stores : List (Nat × Nat × Byte)} {o : Nat} {v : Byte} (h2 : lastStore stores o 2 = none) (h3 : lastStore stores o 3 = some v) :
    s.storedByte stores o = some v := by
  unfold lastStore at h2 h3
  unfold State.storedByte
  dsimp only
  rw [h2, h3]

section
variable {pre post : List (Nat × Nat × Byte)} {slot o n : Nat} {v : Byte} (hpost : ∀ e ∈ post, e.2.1 ≠ o)
include hpost

theorem lastStore_same : lastStore (pre ++ (slot, o, v) :: post) o slot = some v := by
  have hnone : post.filter (fun e => e.1 == slot && e.2.1 == o) = [] :=
    List.filter_eq_nil_iff.2 fun e he => by simp [hpost e he]
  unfold lastStore
  rw [List.filter_append, List.filter_cons_of_pos (by simp), hnone, List.getLast?_append]
  rfl

theorem lastStore_other (hpre : ∀ e ∈ pre, e.1 ≠ slot → e.2.1 ≠ o) (hn : n ≠ slot) : lastStore (pre ++ (slot, o, v) :: post) o n = none := by
  have hnone : (pre ++ (slot, o, v) :: post).filter (fun e => e.1 == n && e.2.1 == o) = [] := by
    refine List.filter_eq_nil_iff.2 fun e he hp => ?_
    obtain ⟨hslot, hoff⟩ : e.1 = n ∧ e.2.1 = o := by simpa using hp
    rcases List.mem_append.1 he with he | he
    · exact hpre e he (by omega) hoff
    · rcases List.mem_cons.1 he with rfl | he
      · exact hn hslot.symm
      · exact hpost e he hoff
  unfold lastStore
  rw [hnone]
  rfl

theorem storedByte_alone (hslot : slot = 2 ∨ slot = 3) (hpre : ∀ e ∈ pre, e.1 ≠ slot → e.2.1 ≠ o) :
    s.storedByte (pre ++ (slot, o, v) :: post) o = some v := by
  rcases hslot with rfl | rfl
  · exact storedByte_two (lastStore_same hpost) (lastStore_other hpost hpre (by decide))
  · exact storedByte_three (lastStore_other hpost hpre (by decide)) (lastStore_same hpost)

end

/-! ### The bytes loaded -/

/-- A load whose bytes no other slot of the bundle stores takes them from the scratchpad (R202). -/
theorem resolveLoadBytes_unstored {stores : List (Nat × Nat × Byte)} {l : SpadLoad} (h : ∀ e ∈ l.bytes, ∀ x ∈ stores, x.1 ≠ l.slot → x.2.1 ≠ e.2) :
    s.resolveLoadBytes c stores l = BitVec.ofNat 4096 (l.bytes.foldl (fun v e => setBits v (8 * e.1) 8 (s.spadByte c e.2).toNat) l.old.toNat) := by
  unfold State.resolveLoadBytes
  refine congrArg (BitVec.ofNat 4096) (List.foldl_ext _ _ _ fun v e he => ?_)
  have hnone : stores.filter (fun x => x.1 != l.slot && x.2.1 == e.2) = [] :=
    List.filter_eq_nil_iff.2 fun x hx hp => by
      obtain ⟨hslot, hoff⟩ : x.1 ≠ l.slot ∧ x.2.1 = e.2 := by simpa using hp
      exact h e he x hx hslot hoff
  rw [hnone]
  rfl

/-- Settles O20: each offset stored is set to what its slots leave there, as often as they name it, and the loads read the scratchpad
as it was before. -/
theorem scratchpadIssue : Obligations.ScratchpadIssue := by
  intro s c id loads stores hcores hspad after
  refine ⟨fun o ho => ?_, fun pre slot o v post hst hslot hpost hpre => ?_, fun l hl hother => ?_⟩
  · rw [performSpad_spadByte hcores]
    refine storedSpad_other hspad fun hm => ?_
    obtain ⟨e, he, heo⟩ := List.mem_map.1 hm
    exact ho e he heo
  · subst hst
    rw [performSpad_spadByte hcores]
    exact storedSpad_stored hspad (by simp) (storedByte_alone hpost hslot hpre)
  · obtain ⟨i, hi, rfl⟩ := List.mem_iff_getElem.1 hl
    exact ⟨_, List.mem_mapIdx.2 ⟨i, hi, rfl⟩, rfl, rfl, resolveLoadBytes_unstored hother⟩

end Sys2Proof.Proofs
end


section
/-! STQ, SCATTERQ and STF as slots of a bundle (R201, R204, R208, R210, R220, R244, R245). -/
namespace Sys2Proof.Proofs
open Sys2Proof Sys2Proof.Machine Sys2Proof.Laws

variable {q : Bun} {d : BitVec 6} {a : BitVec 4} {sz : BitVec 2} {off : BitVec 12} {c : BitVec 6} {shift : BitVec 2} {k : BitVec 3}
  {s : State} {m : Mods} {parts : List Part} {ea : Word} {n : Nat} {immediate remote flag : Bool}

/-! ### The checks of a queued store -/

/-- What STQ and STF check of their operands passes, `m` being the modifiers as clipped for the window (R217, R220, R239, R349). -/
structure StoreReady (q : Bun) (a : BitVec 4) (d : BitVec 6) (n : Nat) (ea : Word) (m : Mods) : Prop where
  space : q.mods.space = 0 ∨ q.mods.space = 2
  clipped : q.clipped = m
  addr : q.memStop a m.space n n ea = none
  data : q.badReg d = false
  live : q.copyStop m.space ea.toNat n = none

theorem storeReady_global (hs : q.mods.space = 0) (hv : (q.val (areg a)).toNat < 2 ^ 56) (hb : q.badReg (areg a) = false) (hr : ea.toNat < 2 ^ 56)
    (hal : ea.toNat % n = 0) (hd : q.badReg d = false) (hc : q.copyStop 0 ea.toNat n = none) : StoreReady q a d n ea q.mods where
  space := .inl hs
  clipped := clipped_of_ne (by omega)
  addr := by rw [hs]; exact memStop_none hv hb (addrStop_none hr hal spaceStop_global)
  data := hd
  live := by rw [hs]; exact hc

theorem storeReady_window (hs : q.mods.space = 2) (hv : (q.val (areg a)).toNat < 2 ^ 56) (hb : q.badReg (areg a) = false) (hin : ea.toNat < 2 ^ 29)
    (hpad : ea.toNat / 2 ^ 21 ≤ 191) (hal : ea.toNat % n = 0) (hd : q.badReg d = false) (hc : q.copyStop 2 ea.toNat n = none) :
    StoreReady q a d n ea { q.mods with scope := min q.mods.scope 2 } where
  space := .inr hs
  clipped := clipped_window hs
  addr := by
    refine memStop_none hv hb ?_
    dsimp only
    rw [hs]
    exact addrStop_none (hin.trans (by decide)) hal (spaceStop_window hin hpad)
  data := hd
  live := by
    dsimp only
    rw [hs]
    exact hc

theorem clipped_order (q : Bun) : q.clipped.order = q.mods.order := by
  unfold Bun.clipped
  split <;> rfl

theorem StoreReady.order (hr : StoreReady q a d n ea m) : m.order = q.mods.order := by rw [← hr.clipped, clipped_order]

/-- The checks of STQ and STF pass, where those of what is sent before them and of their queue do. -/
theorem StoreReady.stops_none {l : List (Option Stop)} {x : Option Stop} (hr : StoreReady q a d n ea m) (ho : m.order = 0 ∨ m.order = 2)
    (hf : q.mods.oflag = true → flag = true) (hl : ∀ y ∈ l, y = none) (hx : x = none) :
    ∀ y ∈ q.accessStops [0, 2] false true flag ++ [q.memStop a m.space n n ea, q.dataResidue d, q.copyStop m.space ea.toNat n] ++ l ++ [x], y = none := by
  have horder := hr.order
  intro y hy
  simp only [List.mem_append, List.mem_cons, List.not_mem_nil, or_false] at hy
  rcases hy with ((hy | rfl | rfl | rfl) | hy) | rfl
  · exact accessStops_none (by rcases hr.space with hs | hs <;> rw [hs] <;> rfl) (fun h1 => by omega) (fun _ => rfl) hf y hy
  · exact hr.addr
  · exact stopIf_false hr.data
  · exact hr.live
  · exact hl y hy
  · exact hx

/-! ### STQ and STF -/

theorem stq_buffers (h : s.AtSlot (.stq d a sz off) q) (hr : StoreReady q a d (Machine.sizeOf sz) (q.ea a off) m) (hs : m.space = 0) (ho : m.order = 0)
    (hf : q.mods.oflag = false) (hp : storeParts (storeRun (q.ea a off).toNat (Machine.sizeOf sz) (q.val d).toNat) = parts)
    (hl : q.remoteModule (q.ea a off).toNat = none) (hb : q.bufferStop parts m = none) :
    exec (.stq d a sz off) s = .next (q.joined (.stq d a sz off) (q.buffered parts m)) := by
  have hdirect : (decide (m.order ≠ 0) || decide (m.space = 2) || (decide (m.space = 0) && (q.remoteModule (q.ea a off).toNat).isSome)) = false := by
    rw [hl, hs, ho]
    rfl
  rw [exec_stq]
  refine runSlot_joined h ?_
  dsimp only
  rw [hr.clipped, hp, hdirect, if_neg Bool.false_ne_true]
  refine check_none (hr.stops_none (.inl ho) (fun h1 => by rw [hf] at h1; cases h1) (fun y hy => ?_) hb)
  rw [if_neg (by simp [ho])] at hy
  cases hy

/-- An STQ that is no store of the module's own memory, or that has an ORDER, is sent at once (R201, R208, R244). -/
theorem stq_sends {b : Bun} (h : s.AtSlot (.stq d a sz off) q) (hr : StoreReady q a d (Machine.sizeOf sz) (q.ea a off) m) (ho : m.order = 0 ∨ m.order = 2)
    (hf : q.mods.oflag = false) (hp : storeParts (storeRun (q.ea a off).toNat (Machine.sizeOf sz) (q.val d).toNat) = parts)
    (hl : (decide (m.space = 0) && (q.remoteModule (q.ea a off).toNat).isSome) = remote) (hd : m.order ≠ 0 ∨ m.space = 2 ∨ remote = true)
    (hi : m.order ≠ 0 → ∀ x ∈ q.immediateStops (m.flushed parts) m, x = none) (hc : (q.prepared parts m).creditStop m.queue 1 = none)
    (hb : q.sendStore parts m (m.order ≠ 0) remote false = b) : exec (.stq d a sz off) s = .next (q.joined (.stq d a sz off) b) := by
  have hdirect : (decide (m.order ≠ 0) || decide (m.space = 2) || remote) = true := by simpa [or_assoc] using hd
  rw [exec_stq]
  refine runSlot_joined h ?_
  dsimp only
  rw [hr.clipped, hp, hl, hdirect, if_pos rfl, ← hb]
  refine check_none (hr.stops_none ho (fun h1 => by rw [hf] at h1; cases h1) (fun y hy => ?_) hc)
  split at hy
  next h0 => exact hi h0 y hy
  · cases hy

theorem stf_sends {b : Bun} (h : s.AtSlot (.stf d a sz off) q) (hr : StoreReady q a d (Machine.sizeOf sz) (q.ea a off) m) (ho : m.order = 0 ∨ m.order = 2)
    (hp : storeParts (storeRun (q.ea a off).toNat (Machine.sizeOf sz) (q.val d).toNat) = parts)
    (hl : (decide (m.space = 0) && (q.remoteModule (q.ea a off).toNat).isSome) = remote)
    (hi : ∀ x ∈ q.immediateStops (m.flushed parts) m, x = none) (hc : (q.beforeImmediate (m.flushed parts) m).creditStop m.queue 1 = none)
    (hb : q.sendStore parts m true remote true = b) : exec (.stf d a sz off) s = .next (q.joined (.stf d a sz off) b) := by
  rw [exec_stf]
  refine runSlot_joined h ?_
  dsimp only
  rw [hr.clipped, hp, hl, ← hb]
  exact check_none (hr.stops_none ho (fun _ => rfl) hi hc)

/-! ### What is sent -/

/-- An immediate store of global memory goes after the buffered records of its sectors (R204). -/
theorem sendStore_immediate (hs : m.space = 0) : q.sendStore parts m true remote flag = (q.beforeImmediate parts m).enter
    { (q.beforeImmediate parts m).request m.queue .store parts m with remote := remote, immediate := true, flag := flag } := by
  unfold Bun.sendStore
  simp [hs]

/-- A store to another module's memory goes as the bundle stands (R201). -/
theorem sendStore_remote (hs : m.space = 0) (ho : m.order = 0) : q.sendStore parts m false remote flag =
    q.enter { q.request m.queue .store parts m with remote := remote, immediate := false, flag := flag } := by
  unfold Bun.sendStore
  simp [hs, ho]

/-- A store of the cluster window flushes no sector; under release it goes after the writer half of PHASE (R208, R210). -/
theorem sendStore_window (hs : m.space = 2) : q.sendStore parts m immediate remote flag = (q.narrow.beforeImmediate [] m).enter
    { (q.narrow.beforeImmediate [] m).request m.queue .store parts m with remote := remote, immediate := immediate, flag := flag } := by
  have hb : (if m.order = 2 then q.narrow.beforeImmediate [] m else q.narrow) = q.narrow.beforeImmediate [] m := by
    split_ifs with ho
    · rfl
    · exact (beforeImmediate_nil ho).symm
  unfold Bun.sendStore
  simp only [hs, if_true, hb, OfNat.ofNat_ne_zero, decide_false, Bool.and_false, Bool.false_eq_true, if_false]

theorem prepared_none (ho : m.order = 0) : q.prepared parts m = q := if_pos ho
theorem prepared_ordered (ho : m.order ≠ 0) : q.prepared parts m = q.beforeImmediate (m.flushed parts) m := if_neg ho

/-! ### SCATTERQ -/

/-- No store of a core on which no copy is under way meets a copy's source (R217). -/
theorem copyStop_idle (hc : q.core.copies = []) (space addr n : Nat) : q.copyStop space addr n = none := by
  unfold Bun.copyStop
  rw [hc]
  rfl

theorem scatterq_joined (h : s.AtSlot (.scatterq d a sz off c shift k) q) (hs : q.mods.space = 0) (ho : q.mods.order = 0) (hf : q.mods.oflag = false)
    (hv : (q.val (areg a)).toNat < 2 ^ 56) (hb : q.badReg (areg a) = false) (hc : q.core.copies = []) :
    let lanes := q.laneAddrs (q.ea a off) c sz shift k
    let scattered := storeParts (lanes.flatMap (fun e => (List.range (laneBytes sz)).map (fun i =>
      (e.2.toNat + i, byteOf (q.vec d).toNat (laneOffset sz e.1 + i)))))
    let away := q.remoteParts scattered
    let home := q.localParts scattered
    q.vecResidue d (fun l => if sz = 3#2 then (q.pred k).getLsbD (l / 8) else (q.pred k).getLsbD l) = none →
    (∀ e ∈ lanes, e.2.toNat < 2 ^ 56 ∧ e.2.toNat % laneBytes sz = 0) →
    (away ≠ [] → q.creditStop q.mods.queue away.length = none) → (home ≠ [] → (q.sendParts away q.mods).bufferStop home q.mods = none) →
    exec (.scatterq d a sz off c shift k) s = .next (q.joined (.scatterq d a sz off c shift k)
      (if home = [] then q.sendParts away q.mods else (q.sendParts away q.mods).buffered home q.mods)) := by
  intro lanes scattered away home hres hl haway hhome
  rw [exec_scatterq]
  refine runSlot_joined h ?_
  dsimp only
  rw [clipped_of_ne (by omega)]
  refine (check_none fun x hx => ?_).trans (congrArg Except.ok ?_)
  · simp only [List.mem_append, List.mem_cons, List.not_mem_nil, or_false] at hx
    rcases hx with hx | rfl | rfl | rfl | rfl | rfl | rfl | rfl
    · exact accessStops_plain (by rw [hs]; rfl) ho hf _ _ _ x hx
    · exact stopIf_false (decide_eq_false (Nat.not_le.2 hv))
    · exact stopIf_false hb
    · refine firstUnit_none fun y hy => ?_
      obtain ⟨e, he, rfl⟩ := List.mem_map.1 hy
      exact addrStop_none (hl e he).1 (hl e he).2 spaceStop_global
    · exact hres
    · refine firstUnit_none fun y hy => ?_
      obtain ⟨p, -, rfl⟩ := List.mem_map.1 hy
      exact copyStop_idle hc ..
    · split_ifs with h0
      · rfl
      · exact haway (fun he => h0 (List.isEmpty_iff.2 he))
    · split_ifs with h0
      · rfl
      · exact hhome (fun he => h0 (List.isEmpty_iff.2 he))
  · simp only [List.isEmpty_iff]
    rfl

/-- Settles O22: where the checks of a store pass it is buffered or sent as its space, its home and its ORDER say. -/
theorem queuedStores : Obligations.QueuedStores := by
  intro d a sz off c shift k s q m ea n parts fits mw window ready lanes scattered away home active
  have hglobal : fits → m.space = 0 ∧ StoreReady q a d n ea m := fun ⟨hs, hv, hb, hr, hal, hd, hc⟩ => ⟨hs, storeReady_global hs hv hb hr hal hd hc⟩
  have hwindow : window → StoreReady q a d n ea mw := fun ⟨hs, hv, hb, hin, hpad, hal, hd, hc⟩ => storeReady_window hs hv hb hin hpad hal hd hc
  have hfar : m.space = 0 → (decide (m.space = 0) && (q.remoteModule ea.toNat).isSome) = (q.remoteModule ea.toNat).isSome := fun hs => by
    rw [decide_eq_true hs, Bool.true_and]
  refine ⟨fun h hfit ho hf hl hb => ?_, fun h hfit ho hf hl hc => ?_, fun h hfit ho hf hi hc => ?_, fun h hfit ho hi hc => ?_, fun hw => ?_,
    fun h hs ho hf hv hb hc hres hl haway hhome => scatterq_joined h hs ho hf hv hb hc hres hl haway hhome⟩
  · obtain ⟨hs, hr⟩ := hglobal hfit
    exact stq_buffers h hr hs ho hf rfl hl hb
  · obtain ⟨hs, hr⟩ := hglobal hfit
    refine stq_sends (parts := parts) (remote := true) h hr (.inl ho) hf rfl ((hfar hs).trans hl) (.inr (.inr rfl)) (absurd ho) ?_ ?_
    · rw [prepared_none ho]; exact hc
    · rw [decide_eq_false (not_not.2 ho)]; exact sendStore_remote hs ho
  · obtain ⟨hs, hr⟩ := hglobal hfit
    have ho0 : m.order ≠ 0 := by omega
    refine stq_sends (parts := parts) h hr (.inr ho) hf rfl (hfar hs) (.inl ho0) (fun _ => ?_) ?_ ?_
    · rw [flushed_global hs]; exact hi
    · rw [prepared_ordered ho0, flushed_global hs]; exact hc
    · rw [decide_eq_true ho0]; exact sendStore_immediate hs
  · obtain ⟨hs, hr⟩ := hglobal hfit
    refine stf_sends (parts := parts) h hr ho rfl (hfar hs) ?_ ?_ (sendStore_immediate hs)
    · rw [flushed_global hs]; exact hi
    · rw [flushed_global hs]; exact hc
  · have hr := hwindow hw
    have hs : mw.space = 2 := hw.1
    have hnear : (decide (mw.space = 0) && (q.remoteModule ea.toNat).isSome) = false := by rw [hs]; rfl
    refine ⟨fun h (ho : mw.order = 0) hf hc => ?_, fun h (ho : mw.order = 2) hf hi hc => ?_, fun h ho hi hc => ?_⟩
    · refine stq_sends (parts := parts) h hr (.inl ho) hf rfl hnear (.inr (.inl hs)) (absurd ho) ?_ ?_
      · rw [prepared_none ho]; exact hc
      · rw [decide_eq_false (not_not.2 ho), sendStore_window hs, beforeImmediate_nil (by omega), narrow_request]
        rfl
    · have ho0 : mw.order ≠ 0 := by omega
      refine stq_sends (parts := parts) h hr (.inr ho) hf rfl hnear (.inl ho0) (fun _ => ?_) ?_ ?_
      · rw [flushed_window hs]; exact hi
      · rw [prepared_ordered ho0, flushed_window hs]; exact hc
      · rw [decide_eq_true ho0]; exact sendStore_window hs
    · refine stf_sends (parts := parts) h hr ho rfl hnear ?_ ?_ (sendStore_window hs)
      · rw [flushed_window hs]; exact hi
      · rw [flushed_window hs]; exact hc

end Sys2Proof.Proofs
end


section
/-! O53: its clause of TRET's restore is of every strand, also of one whose table of registers lists a register twice. Of such a
register the frame's 0 takes away the first entry, and the second stands. -/
namespace Sys2Proof.Proofs
open Sys2Proof Sys2Proof.Machine Sys2Proof.Laws

/-- The machine with one strand, all of whose registers read 0. -/
def zeroStrand : State := State.reset.setStrand 0 0 {}

/-- A strand whose table of registers lists s24 twice. -/
def twiceListed : Strand := { regs := [(24, 1), (24, 1)] }

/-- The frame that a TRAP of the strand of `zeroStrand` writes (R314, Table 1). -/
def zeroFrame : Nat := trapFrame ({} : Strand).settleAll { cause := 0x0C } 0 0 zeroStrand.now

theorem rising_zeroStrand : Tab.rising zeroStrand.cores = true := by decide

theorem strand_zeroStrand : zeroStrand.strand 0 0 = some {} := by
  unfold zeroStrand
  rw [strand_setStrand rfl, if_pos ⟨rfl, rfl⟩]

theorem settled_reads_zero : ({} : Strand).settleAll.reg 24 = 0 := by decide

theorem twiceListed_keeps_second : (twiceListed.restoreFrame zeroFrame).reg 24 = 1 := by decide +kernel

/-- Refutes O53: the statement says of every strand that TRET's restore gives back s24, with no premise on its table of registers.
`twiceListed` lists s24 twice with value 1; the frame's s24 is 0, which `Strand.setReg` keeps by taking the register's first entry
out of the table, so that s24 reads 1 from the second. With rising keys of the strand's registers as a premise this
counterexample is gone. -/
theorem not_trapEntry : ¬ Obligations.TrapEntry := by
  unfold Obligations.TrapEntry
  intro h
  obtain ⟨-, -, -, -, -, hrestore⟩ := h zeroStrand 0 0 { cause := 0x0C } 0 0 {}
    { slot := 0, vpage := 0, size := 0, ppage := 0, r := true, w := true, x := true } 0 rising_zeroStrand strand_zeroStrand
  obtain ⟨-, hregs, -⟩ := hrestore twiceListed
  have hs24 : (twiceListed.restoreFrame zeroFrame).reg 24 = ({} : Strand).settleAll.reg 24 := hregs 24 (by decide) (by decide)
  rw [twiceListed_keeps_second, settled_reads_zero] at hs24
  exact absurd hs24 (by decide)

end Sys2Proof.Proofs
end


section
/-! DMERGE, DSCALE, VDRAW and the atomics as slots of a bundle (R227, R229, R231 to R234, R246, R247, R351). -/
namespace Sys2Proof.Proofs
open Sys2Proof Sys2Proof.Machine Sys2Proof.Laws

/-! ### The scalar draws -/

/-- Where nothing strikes, the draw unit and its shadow make the same triple (log 48). -/
theorem mainTriple_unstruck {q : Bun} (h : q.st.strikes = []) (place lane : Nat) (t : Triple) : q.mainTriple place lane t = (t, []) := by
  unfold Bun.mainTriple State.mainTriple
  rw [mainResult_unstruck h, mainResult_unstruck h]
  rfl

/-- The upper word of a register is what its lower 32 bits leave. -/
theorem bits_upper (v : Word) : bits v.toNat 63 32 = v.toNat / 2 ^ 32 := by
  unfold bits
  rw [Nat.shiftRight_eq_div_pow]
  exact Nat.mod_eq_of_lt (Nat.div_lt_of_lt_mul v.isLt)

/-- Settles O9: each of the two is its unit's triple joined to the bundle, DSCALE's index being the upper word of its source. -/
theorem scalarDraws : Obligations.ScalarDraws := by
  intro d a b c mode s q merged m x leaf l
  refine ⟨fun h => (exec_dmerge ..).trans (scalar_joined h), fun h => ?_, fun h => mainTriple_unstruck h⟩
  rw [exec_dscale, execDscale, scalar_joined h]
  dsimp only
  rw [bits_upper]
  rfl

/-! ### VDRAW -/

/-- What a tree of merges keeps, `r`, with the flags and the divergences of the leaves or groups that it merges. -/
def withParts (parts : List (Triple × Flags × List Split)) (r : Triple × Flags × List Split) : Triple × Flags × List Split :=
  (r.1, parts.foldl (fun f x => f ||| x.2.1) r.2.1, parts.flatMap (·.2.2) ++ r.2.2)

section
variable (q : Bun) (d : BitVec 6) (bound : Nat) (p : Nat → Bool)

/-- A drawn triple written to a register pair, with its flags, ZM and its divergences at the places that `p` picks (R224, R229, R353). -/
def writeDraw (r : Triple × Flags × List Split) : Bun :=
  ((q.writePair d r.1.canonical bound).raiseZm r.2.1 r.1.zero bound).shadowed 3 d.toNat p r.2.2

theorem writeDraw_withParts (parts : List (Triple × Flags × List Split)) (r : Triple × Flags × List Split) :
    writeDraw q d bound p (withParts parts r) =
      (((q.writeReg d (BitVec.ofNat 64 r.1.canonical.high) bound).writeReg (d + 1) (BitVec.ofNat 64 r.1.canonical.i) bound).raiseZm
        (parts.foldl (fun f x => f ||| x.2.1) r.2.1) r.1.zero bound).shadowed 3 d.toNat p (parts.flatMap (·.2.2) ++ r.2.2) := rfl

/-- Where the parts are draws themselves, their own parts are merged with them. -/
theorem writeDraw_nested (parts : Nat → List (Triple × Flags × List Split)) (tree : Nat → Triple × Flags × List Split)
    (top : List Triple → Triple × Flags × List Split) (l : List Nat) :
    let groups := l.map fun i => withParts (parts i) (tree i)
    let r := top (l.map fun i => (tree i).1)
    writeDraw q d bound p (withParts groups (top (groups.map (·.1)))) =
      (((q.writeReg d (BitVec.ofNat 64 r.1.canonical.high) bound).writeReg (d + 1) (BitVec.ofNat 64 r.1.canonical.i) bound).raiseZm
        (l.foldl (fun f i => f ||| (parts i).foldl (fun f x => f ||| x.2.1) (tree i).2.1) r.2.1) r.1.zero bound).shadowed 3 d.toNat p
        (l.flatMap (fun i => (parts i).flatMap (·.2.2) ++ (tree i).2.2) ++ r.2.2) := by
  intro groups r
  rw [writeDraw_withParts, List.foldl_map, List.flatMap_map, List.map_map]
  rfl

end

/-- The draw over group `i`: the tree over its 16 leaves (R227, R231). -/
def groupDraw (q : Bun) (weight : Bool) (v : Vec) (k : BitVec 3) (t tag seq i : Nat) : Triple × Flags × List Split :=
  withParts (q.leaves v k weight t i) (q.drawTree (greedyTemp weight t) tag seq (16 * i) 4 ((q.leaves v k weight t i).map (·.1)))

section
variable {d a : BitVec 6} {g k : BitVec 3} {c : BitVec 6} {tag : BitVec 8} {mode : BitVec 1} {s : State} {q : Bun}

theorem vdraw_group (h : s.AtSlot (.vdraw d a g k c tag mode 0#1) q) :
    let t := bits (q.val c).toNat 63 32
    let weight := mode == 1#1
    exec (.vdraw d a g k c tag mode 0#1) s = .next (q.joined (.vdraw d a g k c tag mode 0#1)
      (writeDraw q d 6 (fun x => x % 128 / 16 == g.toNat)
        (groupDraw q weight (q.vec a) k t tag.toNat ((q.val c).toNat % 2 ^ 32) g.toNat))) := by
  rw [exec_vdraw, execVdraw, scalar_joined h, if_neg (by decide)]
  rfl

theorem vdraw_all (h : s.AtSlot (.vdraw d a g k c tag mode 1#1) q) :
    let t := bits (q.val c).toNat 63 32
    let n := (q.val c).toNat % 2 ^ 32
    let weight := mode == 1#1
    let groups := (List.range 8).map (groupDraw q weight (q.vec a) k t tag.toNat n)
    exec (.vdraw d a g k c tag mode 1#1) s = .next (q.joined (.vdraw d a g k c tag mode 1#1)
      (writeDraw q d 12 (fun _ => true) (withParts groups (q.drawTree (greedyTemp weight t) tag.toNat n 128 3 (groups.map (·.1)))))) := by
  intro t n weight groups
  rw [exec_vdraw, execVdraw, scalar_joined h, if_pos rfl, writeDraw_withParts]
  rfl

end

/-- Settles O30: a draw writes its tree's triple, with what the parts of the tree raise and report; over all groups each part is the
draw over one group. -/
theorem vectorDraw : Obligations.VectorDraw := by
  intro d a g k c tag mode s q t n weight greedy leaves flags splits tree top wrote
  refine ⟨fun h => (vdraw_group h).trans ?_, fun h => (vdraw_all h).trans ?_⟩
  · exact congrArg (fun b => Host.Outcome.next (q.joined _ b)) (writeDraw_withParts q d 6 _ (leaves g.toNat) (tree g.toNat))
  · exact congrArg (fun b => Host.Outcome.next (q.joined _ b))
      (writeDraw_nested q d 12 _ leaves tree (q.drawTree greedy tag.toNat n 128 3) (List.range 8))

/-! ### Atomics -/

variable {q : Bun} {d c newv : BitVec 6} {a fn : BitVec 4} {off : BitVec 12} {ret sgn : BitVec 1} {sz : BitVec 2} {tag : BitVec 8}
  {greedy : BitVec 1} {s : State} {ea : Word} {n : Nat}

/-- What AMO and AMO.draw check of their address passes: global memory, aligned, and no source of a live copy (R217, R234, R246). -/
structure AtomicReady (q : Bun) (a : BitVec 4) (n : Nat) (ea : Word) : Prop where
  space : q.mods.space = 0
  oflag : q.mods.oflag = false
  value : (q.val (areg a)).toNat < 2 ^ 56
  sound : q.badReg (areg a) = false
  range : ea.toNat < 2 ^ 56
  aligned : ea.toNat % n = 0
  live : q.copyStop 0 ea.toNat n = none

theorem AtomicReady.clipped (hr : AtomicReady q a n ea) : q.clipped = q.mods := clipped_of_ne (by rw [hr.space]; decide)

theorem AtomicReady.addr (hr : AtomicReady q a n ea) : q.memStop a q.mods.space n n ea = none := by
  rw [hr.space]
  exact memStop_none hr.value hr.sound (addrStop_none hr.range hr.aligned spaceStop_global)

/-- The checks of an atomic pass, where those of its two data operands, of what is sent before it and of its target do. -/
theorem AtomicReady.stops_none {acquire : Bool} {x y target : Option Stop} {l : List (Option Stop)} (hr : AtomicReady q a n ea)
    (ha : q.mods.order = 1 → acquire = true) (hx : x = none) (hy : y = none) (hl : ∀ z ∈ l, z = none) (ht : target = none) :
    ∀ z ∈ q.accessStops [0] acquire true false ++ [q.memStop a q.mods.space n n ea, x, y, q.copyStop 0 ea.toNat n] ++ l ++ [target],
      z = none := by
  intro z hz
  simp only [List.mem_append, List.mem_cons, List.not_mem_nil, or_false] at hz
  rcases hz with ((hz | rfl | rfl | rfl | rfl) | hz) | rfl
  · exact accessStops_none (by rw [hr.space]; rfl) ha (fun _ => rfl) (fun h => by rw [hr.oflag] at h; cases h) z hz
  · exact hr.addr
  · exact hx
  · exact hy
  · exact hr.live
  · exact hl z hz
  · exact ht

theorem amo_joined (h : s.AtSlot (.amo d a fn off c ret sgn sz newv) q) (hr : AtomicReady q a (Machine.sizeOf sz) (q.ea a off))
    (hc : q.badReg c = false) (hn : fn = 7#4 → q.badReg newv = false) (ha : q.mods.order = 1 → ret = 1#1) :
    let m := q.mods
    let parts := loadParts (loadRun (q.ea a off).toNat 0 (Machine.sizeOf sz))
    let kind := ReqKind.amo fn.toNat (Machine.sizeOf sz) (sgn == 1#1) (q.val c) (q.val newv)
    let sent := q.beforeImmediate parts m
    (∀ x ∈ q.immediateStops parts m, x = none) → (if ret = 1#1 then sent.targetStop d 0 m 1 else sent.creditStop m.queue 1) = none →
    exec (.amo d a fn off c ret sgn sz newv) s = .next (q.joined (.amo d a fn off c ret sgn sz newv)
      (if ret = 1#1 then sent.enter { q.request (q.streamQueue d) kind parts m with stream := some (d.toNat % 8) }
        else sent.enter (sent.request m.queue kind parts m))) := by
  intro m parts kind sent hi ht
  rw [exec_amo]
  refine runSlot_joined h ?_
  dsimp only
  rw [hr.clipped]
  refine check_none (hr.stops_none (fun ho => beq_iff_eq.2 (ha ho)) (stopIf_false hc) ?_ hi ht)
  split_ifs with h7
  · exact stopIf_false (hn h7)
  · rfl

theorem amoDraw_joined (h : s.AtSlot (.amoDraw a off c tag greedy) q) (hr : AtomicReady q a 16 (q.ea a off)) (hc : q.badReg c = false)
    (hc' : q.badReg (c + 1) = false) (ha : q.mods.order ≠ 1) :
    let m := q.mods
    let cell := loadParts (loadRun (q.ea a off).toNat 0 16)
    let t := q.pair c
    let draw := ReqKind.draw tag.toNat (greedy == 1#1) q.share.dseed (BitVec.ofNat 32 t.m) (BitVec.ofNat 32 t.w) (BitVec.ofNat 32 t.i) 1
    let drawn := q.beforeImmediate cell m
    (∀ x ∈ q.immediateStops cell m, x = none) → drawn.creditStop m.queue 1 = none →
    exec (.amoDraw a off c tag greedy) s = .next (q.joined (.amoDraw a off c tag greedy)
      ((drawn.enter (drawn.request m.queue draw cell m)).raiseZm 0 t.zero 1)) := by
  intro m cell t draw drawn hi ht
  rw [exec_amoDraw]
  refine runSlot_joined h ?_
  dsimp only
  rw [hr.clipped]
  exact check_none (hr.stops_none (fun ho => absurd ho ha) (stopIf_false hc) (stopIf_false hc') hi ht)

/-- Settles O23: where the checks of an atomic pass, its one request is entered after the records that go before it; a returning AMO
may also acquire. -/
theorem atomics : Obligations.Atomics := by
  intro d a fn off c ret sgn sz newv tag greedy s q m ea n plain parts cell kind t draw sent drawn
  have ready : ∀ {n}, plain → ea.toNat % n = 0 → q.copyStop 0 ea.toNat n = none → AtomicReady q a n ea :=
    fun ⟨hs, hf, hv, hb, hr⟩ hal hc => ⟨hs, hf, hv, hb, hr, hal, hc⟩
  refine ⟨fun h hp hal hc hn hl hi => ⟨fun hret _ ht => ?_, fun hret ho ht => ?_⟩, fun h hp hal hc hc' ho hl hi ht => ?_⟩
  · have hj := amo_joined h (ready hp hal hl) hc hn (fun _ => hret) hi
    rw [if_pos hret, if_pos hret] at hj
    exact hj ht
  · have hret' : ret ≠ 1#1 := by rw [hret]; decide
    have hj := amo_joined h (ready hp hal hl) hc hn (fun h1 : m.order = 1 => by omega) hi
    rw [if_neg hret', if_neg hret'] at hj
    exact hj ht
  · exact amoDraw_joined h (ready hp hal hl) hc hc' (fun h1 : m.order = 1 => by omega) hi ht

end Sys2Proof.Proofs
end

section
/-! Collective graphs (R266, R291, R293 to R296, R359, R380, R386 to R390): what each event does with the replay of its step. -/
namespace Sys2Proof.Proofs
open Sys2Proof Sys2Proof.Machine Sys2Proof.Laws

variable {s s1 : State} {c x graph step table op i since issued : Nat} {bundle key : Word} {holds : List Hold} {o : CollOp}
  {chunk : ChunkMsg} {msg : AbortMsg} {r : Replay} {t : Strand}

/-! ### The hand-off -/

/-- A COLL that may be handed over: its stores are published, no trap of its bundle is due, an engine has room, and the module is
not halted (R266, R294, R399). -/
structure Handover (c x graph table issued : Nat) (bundle : Word) (t : Strand) (s s1 : State) : Prop where
  strand : s.strand c x = some t
  holds : ∃ rest, t.holds = .coll graph table bundle issued :: rest
  published : s.writerHalf c x 3 = (s1, true)
  untrapped : s1.heldTrap c ((s1.strand c x).getD t) (List.range 4) false = none
  room : s1.coll.replays.length < 64
  supplied : s1.supply < 3

/-- The replay that a COLL hands over, on DSEED at the root and elsewhere on the key that came before it, if any (R293, R294). -/
def handedReplay (s : State) (t : Strand) (c x graph table issued : Nat) : Replay :=
  let step := Tab.get s.coll.steps 0 graph + 1
  { graph := graph, step := step, owner := s.gangSlot t.gang, ownerNum := s.gangOwner t.gang,
    key := if (s.graphOf graph).root = s.modnum then some (s.core c).share.dseed
      else (s.coll.starts.find? (fun e => e.1 == graph && e.2.1 == step)).map (·.2.2),
    bases := (List.range 8).map (fun i => BitVec.ofNat 64 (s.spadRead c (table + 8 * i) 8)), counts := [],
    loose := (s.graphOf graph).loose && s.featOf t.gang 5, strand := (c, x), tStart := issued }

/-- A replay handed over: the strand's hold is over, the step and the replay are the engine's, and what waited for its step is
taken (R266, R293, R294). -/
def handOver (s : State) (c x : Nat) (r : Replay) : State :=
  let mine := fun (graph step : Nat) => graph == r.graph && step == r.step
  { s.release c x with coll := { s.coll with
      steps := Tab.set s.coll.steps 0 r.graph r.step, replays := s.coll.replays ++ [r],
      held := s.coll.held.filter (fun m => !mine m.graph m.step),
      starts := s.coll.starts.filter (fun e => !mine e.1 e.2.1),
      aborts := s.coll.aborts.filter (fun m => !mine m.graph m.step) } }

/-- With no chunk held and no abort flit that came before its replay a hand-off takes a start flit alone. -/
theorem handOver_unheld (hheld : s.coll.held = []) (haborts : s.coll.aborts = []) (r : Replay) :
    handOver s c x r = { s.release c x with coll := { s.coll with
      steps := Tab.set s.coll.steps 0 r.graph r.step, replays := s.coll.replays ++ [r],
      starts := s.coll.starts.filter (fun e => !(e.1 == r.graph && e.2.1 == r.step)) } } := by
  unfold handOver
  simp only [hheld, haborts, List.filter_nil]

theorem release_host (s : State) (c x : Nat) : (s.release c x).host = s.host := mapStrand_host ..

theorem supply_handOver (s : State) (c x : Nat) (r : Replay) : (handOver s c x r).supply = s.supply := by
  unfold State.supply State.hreg
  rw [show (handOver s c x r).host = s.host from release_host ..]

/-- A COLL that may be handed over is at its table and DSEED. -/
theorem Handover.passes (h : Handover c x graph table issued bundle t s s1) :
    (!true || (s1.heldTrap c ((s1.strand c x).getD t) (List.range 4) false).isSome || decide (64 ≤ s1.coll.replays.length) ||
      decide (s1.supply = 4) || decide (s1.supply = 5)) = false := by
  have hroom := h.room
  have hsup := h.supplied
  rw [h.untrapped, decide_eq_false (by omega), decide_eq_false (by omega), decide_eq_false (by omega)]
  rfl

theorem collHandoff_starts (h : Handover c x graph table issued bundle t s s1) (hheld : s1.coll.held = []) (haborts : s1.coll.aborts = [])
    (hseed : (s1.core c).share.bad.contains 7 = false) (hbad : s1.badWord c table 64 = none) :
    let r := handedReplay s1 t c x graph table issued
    exec (.collHandoff c x) s = .next (((if (s1.graphOf graph).root = s1.modnum
      then (handOver s1 c x r).sendStarts graph r.step (s1.core c).share.dseed else handOver s1 c x r).runGraph graph).settleEnding t.gang) := by
  intro r
  obtain ⟨rest, hholds⟩ := h.holds
  rw [exec_collHandoff, execCollHandoff, h.strand]
  dsimp -zeta only
  rw [hholds]
  dsimp -zeta only
  rw [h.published]
  dsimp -zeta only
  rw [h.passes, if_neg Bool.false_ne_true, hbad]
  dsimp -zeta only
  rw [hseed, if_neg Bool.false_ne_true]
  extract_lets u1 step g bases dseed root cl key replay mine src u2 u3 u4 u5 u6
  have hu4 : u4 = u3 := by simp only [u4, cl, u1, hheld, List.filter_nil, List.foldl_nil]
  have hu5 : u5 = u4 := by simp only [u5, cl, u1, haborts, List.find?_nil]
  have hsupply : u3.supply = s1.supply := by
    simp only [u3]
    split
    · exact supply_handOver s1 c x r
    · exact supply_handOver s1 c x r
  have hu6 : u6 = u3 := by
    have hlow := h.supplied
    simp only [u6]
    rw [hu5, hu4, if_neg (by rw [hsupply, decide_eq_false (by omega), decide_eq_false (by omega)]; exact Bool.false_ne_true)]
  rw [hu6]
  rfl

theorem collHandoff_torn (h : Handover c x graph table issued bundle t s s1) {w : Nat} (hbad : s1.badWord c table 64 = some w) :
    exec (.collHandoff c x) s = .next (((s1.release c x).mapStrand c x (fun t =>
      { t with due := t.due ++ [{ cause := 0x0D, slot := 7, bundle := some bundle, addr := BitVec.ofNat 64 w }] })).settleEnding t.gang) := by
  obtain ⟨rest, hholds⟩ := h.holds
  rw [exec_collHandoff, execCollHandoff, h.strand]
  dsimp only
  rw [hholds]
  dsimp only
  rw [h.published]
  dsimp only
  rw [h.passes, if_neg Bool.false_ne_true, hbad]

/-! ### Start flits -/

theorem replayOf_sendStarts (s : State) (graph step : Nat) (key : Word) (g n : Nat) : (s.sendStarts graph step key).replayOf g n = s.replayOf g n := rfl
theorem coll_sendStarts (s : State) (graph step : Nat) (key : Word) : (s.sendStarts graph step key).coll = s.coll := rfl

/-- A start flit is passed on whatever its replay has come to (R293). -/
theorem startFlit_passes (haway : s.engineAway = false) : exec (.startFlit graph step key.toNat) s = .next (
    match s.replayOf graph step with
    | some r => if r.key.isSome then s.sendStarts graph step key
      else ((s.sendStarts graph step key).setReplay { r with key := some key }).runGraph graph
    | none => if step ≤ Tab.get s.coll.steps 0 graph || s.coll.starts.any (fun e => e.1 == graph && e.2.1 == step) then s.sendStarts graph step key
      else { s.sendStarts graph step key with coll := { s.coll with starts := s.coll.starts ++ [(graph, step, key)] } }) := by
  rw [exec_startFlit, execStartFlit, haway, if_neg Bool.false_ne_true, BitVec.ofNat_toNat, BitVec.setWidth_eq]
  rfl

/-! ### Chunks -/

/-- A chunk that the router takes: its sender's owner has a slot here, and the module answers for its memory (R380, R395). -/
def Takes (s : State) (chunk : ChunkMsg) : Prop :=
  s.router.off = false ∧ s.answersHibernating chunk.owner = false ∧ (s.slotOf chunk.owner).isSome = true

theorem takeChunk_takes (h : Takes s chunk) (take : State → State) : s.takeChunk chunk take = take s := by
  obtain ⟨hoff, hawake, hslot⟩ := h
  unfold State.takeChunk
  rw [hoff, if_neg Bool.false_ne_true, hawake, if_neg Bool.false_ne_true, if_neg (by rw [Option.isNone_iff_eq_none]; exact Option.isSome_iff_ne_none.1 hslot)]

theorem takeChunk_unowned (hoff : s.router.off = false) (hawake : s.answersHibernating chunk.owner = false) (hslot : s.slotOf chunk.owner = none)
    (take : State → State) : s.takeChunk chunk take =
      { s with outbox := s.outbox ++ [.answer chunk.source 0 3 (BitVec.ofNat 256 (graphWord chunk.graph chunk.step))] } := by
  unfold State.takeChunk
  rw [hoff, if_neg Bool.false_ne_true, hawake, if_neg Bool.false_ne_true, hslot]
  rfl

section
variable (hgraph : (Tab.find? s.coll.graphs chunk.graph).isSome = true) (h : Takes s chunk)
include hgraph h

theorem chunkArrival_delivered (hr : s.replayOf chunk.graph chunk.step = some r) (hstatus : r.status = 0) :
    exec (.chunkArrival chunk) s = .next ((s.deliver r chunk).runGraph chunk.graph) := by
  rw [exec_chunkArrival, execChunkArrival, takeChunk_takes h, if_neg (by simp [Option.isSome_iff_ne_none.1 hgraph]), hr]
  dsimp only
  rw [if_neg (not_not.2 hstatus)]

theorem chunkArrival_held (hr : s.replayOf chunk.graph chunk.step = none) (hahead : Tab.get s.coll.steps 0 chunk.graph < chunk.step)
    (hnear : chunk.step ≤ Tab.get s.coll.steps 0 chunk.graph + 2) :
    exec (.chunkArrival chunk) s = .next { s with coll := { s.coll with held := s.coll.held ++ [chunk] } } := by
  rw [exec_chunkArrival, execChunkArrival, takeChunk_takes h, if_neg (by simp [Option.isSome_iff_ne_none.1 hgraph]), hr]
  dsimp only
  rw [if_neg (Nat.not_le.2 hahead), if_pos hnear]

theorem chunkArrival_stale (hr : s.replayOf chunk.graph chunk.step = none) (hpast : chunk.step ≤ Tab.get s.coll.steps 0 chunk.graph)
    (hflushed : (chunk.graph, chunk.step, chunk.op) ∉ s.coll.flushed) :
    exec (.chunkArrival chunk) s = .next (s.log 0 0x0401 5 4 0 0 (BitVec.ofNat 64 (graphWord chunk.graph chunk.step))) := by
  rw [exec_chunkArrival, execChunkArrival, takeChunk_takes h, if_neg (by simp [Option.isSome_iff_ne_none.1 hgraph]), hr]
  dsimp only
  rw [if_pos hpast, if_neg (by simpa using hflushed)]

end

/-! ### Stragglers -/

theorem looseFlush_runs (hr : s.replayOf graph step = some r) (ho : (s.graphOf graph).ops[op]? = some o) (hkind : o.kind = 1)
    (hsince : Tab.find? r.since op = some since) (hloose : r.loose = true) (hruns : s.replayRuns r = true) (hran : op ∉ r.ran)
    (hnow : since + 2 ^ (s.graphOf graph).texp ≤ s.now) (hcomb : (s.graphOf graph).comb ≠ 7) :
    exec (.looseFlush graph step op) s = .next ((s.runReduce r (s.graphOf graph) op o).runGraph graph) := by
  rw [exec_looseFlush, execLooseFlush, hr]
  dsimp only
  rw [ho, hsince]
  dsimp only
  rw [if_neg (by simp [hloose, hruns, hkind, hran, hnow, hcomb])]

theorem rootReleaseTimeout_releases (hr : s.replayOf graph step = some r) (hheld : r.rootHeld = some (i, since))
    (hnow : since + 2 ^ ((s.graphOf graph).texp + 2) ≤ s.now) (hruns : s.replayRuns r = true) :
    exec (.rootReleaseTimeout graph step) s = .next ((s.setReplay { r.release (s.graphOf graph) i with rootHeld := none }).runGraph graph) := by
  rw [exec_rootReleaseTimeout, execRootReleaseTimeout, hr]
  dsimp only
  rw [hheld]
  dsimp only
  rw [if_neg (by simp [hnow, hruns])]

/-! ### Failures -/

theorem replayOf_graph_step (h : s.replayOf graph step = some r) : r.graph = graph ∧ r.step = step := by
  simpa using List.find?_some h

theorem sendAbort_forwarded (h : (msg.graph, msg.step) ∈ s.coll.forwarded) : s.sendAbort msg = s := if_pos (by simpa using h)
theorem sendAbort_new (h : (msg.graph, msg.step) ∉ s.coll.forwarded) : s.sendAbort msg =
    { s with coll := { s.coll with forwarded := s.coll.forwarded ++ [(msg.graph, msg.step)] },
             outbox := s.outbox ++ (s.graphModules (s.graphOf msg.graph)).map (fun k => OutMsg.abort k msg) } := if_neg (by simpa using h)

/-- The replays of a replay's step are that replay once it is set. -/
theorem mem_setReplay {y z : Replay} (hz : z ∈ (s.setReplay y).coll.replays) (hg : z.graph = y.graph) (hs : z.step = y.step) : z = y := by
  obtain ⟨w, -, hw⟩ := List.mem_map.1 hz
  split at hw
  · exact hw.symm
  next hne =>
    subst hw
    exact absurd (by simp [hg, hs]) hne

/-- A replay that an abort flit ends (R386). -/
def endedBy (r : Replay) (m : AbortMsg) : Replay :=
  { r with status := m.status, origin := m.origin, module := m.module, opIndex := m.op, addr := m.addr, sub := m.sub, dside := m.dside }

theorem failReplay_ends (hstatus : r.status = 0) (hclosing : r.closing = false) :
    s.failReplay r msg = (s.setReplay (endedBy r msg)).sendAbort msg := by
  unfold State.failReplay
  rw [if_neg (by simp [hstatus, hclosing])]
  rfl

/-- An abort flit ends the replay of its step, which passes it on; passed on once, it is not passed on again (R386). -/
theorem abortFlit_ends (haway : s.engineAway = false) (hr : s.replayOf msg.graph msg.step = some r) (hstatus : r.status = 0)
    (hclosing : r.closing = false) (hnew : (msg.graph, msg.step) ∉ s.coll.forwarded) : ∃ u, exec (.abortFlit msg) s = .next u ∧
      (∀ z ∈ u.coll.replays, z.graph = r.graph → z.step = r.step → z.status = msg.status) ∧
      u.outbox = s.outbox ++ (s.graphModules (s.graphOf r.graph)).map (fun k => OutMsg.abort k msg) := by
  have hsent : (s.setReplay (endedBy r msg)).sendAbort msg = _ := sendAbort_new hnew
  rw [exec_abortFlit, execAbortFlit, haway, if_neg Bool.false_ne_true, hr]
  dsimp only
  rw [failReplay_ends hstatus hclosing, sendAbort_forwarded (by rw [hsent]; exact List.mem_append_right _ List.mem_cons_self), hsent]
  obtain ⟨hgraph, -⟩ := replayOf_graph_step hr
  refine ⟨_, rfl, fun z hz hg hs => ?_, ?_⟩
  · exact congrArg Replay.status (mem_setReplay (y := endedBy r msg) hz hg hs)
  · rw [hgraph]
    rfl

/-! ### Completion -/

/-- The first replay of its graph, on a module that is not halted, with no write of its own unanswered (R294, R296, R399). -/
structure MayComplete (s : State) (graph step : Nat) (r : Replay) : Prop where
  held : s.replayOf graph step = some r
  first : (s.coll.replays.find? (fun x => x.graph == graph)).map (·.step) = some step
  supplied : s.supply < 3
  answered : s.replayWrites graph step = false

theorem replayComplete_ends (h : MayComplete s graph step r)
    (hend : r.status ≠ 0 ∨ r.closing = true ∨
      (s.graphOf graph).ops.length ≤ r.ran.length ∧ r.rootHeld = none ∧ (s.graphOf graph).vit = none) :
    exec (.replayComplete graph step) s = .next (s.endReplay r) := by
  rw [exec_replayComplete, execReplayComplete, h.held]
  dsimp only
  rw [if_neg (by simp [h.first, h.supplied, h.answered])]
  by_cases hfailed : r.closing = true ∨ r.status ≠ 0
  · rw [if_pos (by simpa using hfailed)]
  · obtain ⟨hran, hroot, hvit⟩ : (s.graphOf graph).ops.length ≤ r.ran.length ∧ r.rootHeld = none ∧ (s.graphOf graph).vit = none := by tauto
    rw [if_neg (by simpa using hfailed), if_neg (by simp [hran, hroot]), hvit]
    rfl

theorem replayComplete_goes_on (h : MayComplete s graph step r) (hstatus : r.status = 0) (hclosing : r.closing = false)
    (hleft : r.ran.length < (s.graphOf graph).ops.length ∨ r.rootHeld.isSome = true) :
    exec (.replayComplete graph step) s = .next (s.runGraph graph) := by
  rw [exec_replayComplete, execReplayComplete, h.held]
  dsimp only
  rw [if_neg (by simp [h.first, h.supplied, h.answered]), if_neg (by simp [hstatus, hclosing]), if_pos (by simpa using hleft)]

/-- Settles O46: each event by its lemma above. -/
theorem collectiveEvents : Obligations.CollectiveEvents := by
  intro c x graph step table op i since issued bundle key holds o chunk msg r t s s1 g held now root dseed found bases replay engine started
    takes chunkKnown reached
  refine ⟨fun ht hholds hw htrap hroom hsup hheld haborts hseed => ?_, fun haway => ⟨fun hr hk => ?_, fun hr hk => ?_, fun hr hpast => ?_, fun hr hahead hnone => ?_⟩,
    fun ⟨hg, ht⟩ => chunkArrival_delivered hg ht, fun ⟨hg, ht⟩ => chunkArrival_held hg ht, fun ⟨hg, ht⟩ => chunkArrival_stale hg ht,
    looseFlush_runs, fun ht => ?_, rootReleaseTimeout_releases, fun hoff hawake hslot => ?_, abortFlit_ends,
    fun hr hfirst hsup hw => replayComplete_ends ⟨hr, hfirst, hsup, hw⟩, fun hr hfirst hsup hw => replayComplete_goes_on ⟨hr, hfirst, hsup, hw⟩⟩
  · have h : Handover c x graph table issued bundle t s s1 := ⟨ht, ⟨holds, hholds⟩, hw, htrap, hroom, hsup⟩
    refine ⟨fun hbad => ?_, fun w => collHandoff_torn h⟩
    have hstarts := collHandoff_starts h hheld haborts hseed hbad
    dsimp only at hstarts
    rw [handOver_unheld hheld haborts] at hstarts
    exact hstarts
  · rw [startFlit_passes haway, hr]
    dsimp only
    rw [hk]
    rfl
  · rw [startFlit_passes haway, hr]
    dsimp only
    rw [if_pos (Option.isSome_iff_ne_none.2 hk)]
  · rw [startFlit_passes haway, hr]
    dsimp only
    rw [if_pos (by simp [hpast])]
  · have hnever : s.coll.starts.any (fun e => e.1 == graph && e.2.1 == step) = false := by
      refine List.any_eq_false.2 fun e he => ?_
      have := hnone e he
      simp only [Bool.and_eq_true, beq_iff_eq]
      tauto
    rw [startFlit_passes haway, hr]
    dsimp only
    rw [hnever, decide_eq_false (Nat.not_le.2 hahead)]
    rfl
  · rw [exec_lateAddend, execLateAddend, takeChunk_takes ht]
  · rw [exec_chunkArrival, execChunkArrival, takeChunk_unowned hoff hawake hslot]

end Sys2Proof.Proofs
end

section
/-! The supply state, warnings and halts, and brown-out (R393 to R399, R407, R413). -/
namespace Sys2Proof.Proofs
open Sys2Proof Sys2Proof.Machine Sys2Proof.Laws

variable {s t u : State} {c x n sensor addr reserve groups since : Nat} {k : Strand}

/-! ### The reserve and the supply state -/

theorem hreg_setReserve (hr : Tab.rising s.host = true) (uj a : Nat) :
    (s.setReserve uj).hreg a = if a = 0x2008 then BitVec.ofNat 64 (min uj Config.reserveLimit) else s.hreg a := by
  unfold State.setReserve
  dsimp only
  rw [hreg_setHreg (by exact hr)]
  simp only [eq_comm (a := 0x2008)]
  rfl

theorem supply_of_hreg (h : t.hreg 0x2000 = s.hreg 0x2000) : t.supply = s.supply := by
  unfold State.supply
  rw [h]

theorem supply_setReserve (hr : Tab.rising s.host = true) (uj : Nat) : (s.setReserve uj).supply = s.supply :=
  supply_of_hreg ((hreg_setReserve hr ..).trans (if_neg (by omega)))

theorem supply_setHreg (hr : Tab.rising s.host = true) (v : Word) : (s.setHreg 0x2000 v).supply = v.toNat % 8 := by
  unfold State.supply
  rw [hreg_setHreg hr, if_pos rfl]

/-! ### Sensors and the scrubber -/

theorem sensorRetired_logs (hs : sensor < 128) (hnew : sensor ∉ s.power.retired) (hfails : s.sensorFails sensor = true) :
    exec (.sensorRetired sensor) s = .next
      ({ s with power := { s.power with retired := s.power.retired ++ [sensor] } }.log (sensor / 32) 0x0102 3 4 0 0 (BitVec.ofNat 64 sensor)) := by
  rw [exec_sensorRetired, execSensorRetired, if_neg (by simp [hs, hnew, hfails])]

theorem patrolScrub_uncorrectable (hhbm : inHbm addr = true) (hdrain : s.supply ≠ 4) (hhib : s.supply ≠ 5) (hon : s.power.off = false)
    (hnew : addr / 8 ∉ s.bad) : exec (.patrolScrub addr 2) s = .next ({ s with bad := s.bad ++ [addr / 8] }.log (homeCluster addr)
      (0x0240 + addr / 2 ^ 36 % 2) 2 4 0 (BitVec.ofNat 64 (8 * (addr / 8))) 3) := by
  rw [exec_patrolScrub, execPatrolScrub]
  dsimp only
  rw [if_neg (by simp [hhbm, hdrain, hhib, hon]), if_neg (by decide), if_pos rfl, show s.bad.contains (addr / 8) = false by simpa using hnew]
  rfl

/-! ### Warnings and halts -/

theorem supplyWarning_warns {input : Bool} (hwarned : s.supply ≠ 3) (hdrain : s.supply ≠ 4) (hhib : s.supply ≠ 5)
    (hcause : input = true ∨ reserve < s.eWarn) :
    let held := s.setReserve reserve
    exec (.supplyWarning input reserve) s = .next
      (({ held.setSupply 3 with power := { held.power with warnedAt := s.now, inputBack := false, inputSince := if input then none else s.power.inputSince, regions := [], charge := 0, off := false } } : State).log
        0 0x0102 6 1 0 0 (BitVec.ofNat 64 (b2n input))).stopReplays := by
  intro held
  have hwarns : (input || decide (reserve < s.eWarn)) = true := by simpa using hcause
  rw [exec_supplyWarning, execSupplyWarning, hwarns]
  dsimp only
  rw [if_neg (by simp [hwarned, hdrain, hhib])]
  rfl

/-- A strand at its boundary in a supply or thermal halt, no trap of it due (R396, R413). -/
structure MeetsSupply (s : State) (c x : Nat) (k : Strand) : Prop where
  halting : s.supply = 3 ∨ s.supply = 6
  strand : s.strand c x = some k
  boundary : k.atBoundary = true
  untrapped : s.dueTrap c x true = none

theorem supplyTrap_halting (h : s.supply = 3 ∨ s.supply = 6) : exec (.supplyTrap c x) s = .next (s.meetSupply c x) := by
  rw [exec_supplyTrap, execSupplyTrap, if_pos (by simpa using h)]

theorem meetSupply_due {i : TrapInfo} (hs : s.strand c x = some k) (hb : k.atBoundary = true) (hd : s.dueTrap c x true = some i) :
    s.meetSupply c x = s.enterDue c x true := by
  unfold State.meetSupply
  rw [hs]
  dsimp only
  rw [hb, if_neg (by decide), hd]
  rfl

section
variable (h : MeetsSupply s c x k)
include h

/-- What the supply trap does where no other is due (R396, R397). -/
theorem MeetsSupply.meetSupply_eq : s.meetSupply c x =
    if k.saved then (s.haltStrand c x).noteHalted k.gang
    else if k.overrun s.now then ((s.haltStrand c x).noteHalted k.gang).log (coreCluster c) 0x0102 6 2 (s.gangOwner k.gang) k.pc (BitVec.ofNat 64 ((x <<< 10) ||| c))
    else if (k.supplyBy.isSome && !k.resumed) || !s.gangTurn k.gang then s
    else if k.resumed || s.inHandler (s.gangSlot k.gang) k.pc.toNat || !(s.slotReg (s.gangSlot k.gang) 0).testBit 62 then (s.haltStrand c x).noteHalted k.gang
    else (s.takeTrap c x { cause := 0x10 } 0 k.pc).mapStrand c x (fun t => { t with supplyBy := some 0 }) := by
  unfold State.meetSupply
  rw [h.strand]
  dsimp only
  rw [h.boundary, if_neg (by decide), h.untrapped, if_neg (by decide)]

theorem supplyTrap_saved (hsaved : k.saved = true) : exec (.supplyTrap c x) s = .next ((s.haltStrand c x).noteHalted k.gang) := by
  rw [supplyTrap_halting h.halting, h.meetSupply_eq, if_pos hsaved]

/-- A strand outside its handlers enters the supply handler where its owner enables it, and halts where not (R396). -/
theorem supplyTrap_enters_or_halts (hturn : s.gangTurn k.gang = true) (hby : k.supplyBy = none) (hsaved : k.saved = false)
    (hresumed : k.resumed = false) (hout : s.inHandler (s.gangSlot k.gang) k.pc.toNat = false) :
    exec (.supplyTrap c x) s = .next (if (s.slotReg (s.gangSlot k.gang) 0).testBit 62
      then (s.takeTrap c x { cause := 0x10 } 0 k.pc).mapStrand c x (fun t => { t with supplyBy := some 0 })
      else (s.haltStrand c x).noteHalted k.gang) := by
  have hover : k.overrun s.now = false := by simp [Strand.overrun, hby]
  rw [supplyTrap_halting h.halting, h.meetSupply_eq, hsaved, if_neg Bool.false_ne_true, hover, if_neg Bool.false_ne_true, hby, hturn, hresumed, hout]
  cases (s.slotReg (s.gangSlot k.gang) 0).testBit 62 <;> rfl

/-- A supply handler whose time is over halts its strand (R397). -/
theorem handlerOverrun_halts (hsaved : k.saved = false) (hby : k.supplyBy = some since) (hset : 0 < since) (hover : since ≤ s.now)
    (hresumed : k.resumed = false) : exec (.handlerOverrun c x) s = .next (((s.haltStrand c x).noteHalted k.gang).log
      (coreCluster c) 0x0102 6 2 (s.gangOwner k.gang) k.pc (BitVec.ofNat 64 ((x <<< 10) ||| c))) := by
  have hoverrun : k.overrun s.now = true := by simp [Strand.overrun, hby, hresumed, hover]; omega
  rw [exec_handlerOverrun, execHandlerOverrun, if_pos (by simpa [h.strand, hoverrun] using h.halting), h.meetSupply_eq, hsaved,
    if_neg Bool.false_ne_true, if_pos hoverrun]

end

theorem saveComplete_drains (hdone : s.saveDone = true) (hwarned : s.supply = 3) :
    exec (.saveComplete groups) s = .next ((s.sealHalted.dismissWaiters.setSupply 4).drain groups) := by
  rw [exec_saveComplete, execSaveComplete, hdone, if_neg (by decide), if_pos hwarned]

theorem inputReturn_notes (h : s.supply = 3 ∨ s.supply = 4 ∨ s.supply = 5) : exec .inputReturn s =
    .next { s with power := { s.power with inputBack := true, inputSince := some (s.power.inputSince.getD s.now) } } := by
  rw [exec_inputReturn, execInputReturn, if_pos (by simpa [or_assoc] using h)]

theorem thermal_starts (hwarned : s.supply ≠ 3) (hdrain : s.supply ≠ 4) (hhib : s.supply ≠ 5) (hthermal : s.supply ≠ 6)
    (hhot : (List.range 128).find? (fun k => k % 4 != 3 && decide (110000 ≤ s.sensor k)) = some sensor) :
    exec .thermal s = .next (({ s.setSupply 6 with power := { s.power with warnedAt := s.now, regions := [], off := false } } : State).log
      0 0x0102 6 7 0 0 (BitVec.ofNat 64 ((1 <<< 56) ||| sensor))).stopReplays := by
  rw [exec_thermal, execThermal, if_neg (by simp [hwarned, hdrain, hhib, hthermal]), hhot]
  rfl

/-! ### Brown-out -/

theorem enterSag_after_drop (hst : s.supply = 0) (hdrop : ∃ since, s.power.dropSince = some since ∧ since + 20000 ≤ s.now) :
    exec .enterSag s = .next { s.setSupply 1 with power := { s.power with sagSince := s.now } } := by
  obtain ⟨since, hsince, hnow⟩ := hdrop
  rw [exec_enterSag, execEnterSag, if_pos (by simp [hst, hsince, hnow])]

theorem enterShed_sheds (hst : s.supply = 1) (hlow : reserve < 3000000000 ∨ s.power.sagSince + 500000000 ≤ s.now) :
    let held := s.setReserve reserve
    exec (.enterShed reserve) s = .next { held.setSupply 2 with power := { held.power with shedAt := 0 } } := by
  intro held
  rw [exec_enterShed, execEnterShed, if_pos (by simpa [hst] using hlow)]
  rfl

theorem clusterRestore_serves {rest : List Nat} (hlevel : 3500000000 ≤ reserve) (hcharging : (s.setReserve reserve).power.charging = true)
    (horder : s.power.shedOrder = n :: rest) :
    let held := s.setReserve reserve
    exec (.clusterRestore reserve) s = .next { held.setCluster n { held.cluster n with shed := false } with power := { held.power with shedOrder := rest } } := by
  intro held
  have horder' : held.power.shedOrder = n :: rest := horder
  rw [exec_clusterRestore, execClusterRestore]
  dsimp only
  rw [if_neg (by simp [hcharging, hlevel]), horder']
  rfl

theorem returnNormal_normal (hr : Tab.rising s.host = true) (hst : s.supply = 1 ∨ s.supply = 2) (hlevel : 3500000000 ≤ reserve)
    (hcharging : (s.setReserve reserve).power.charging = true) :
    exec (.returnNormal reserve) s = .next (s.setReserve reserve).enterNormal := by
  rw [exec_returnNormal, execReturnNormal]
  dsimp only
  rw [supply_setReserve hr, hcharging, decide_eq_true hlevel, if_pos (by simpa using hst)]

/-! ### Shedding a cluster -/

/-- Reading after a write of a value that the table lists. -/
theorem get_set_listed {α : Type} [DecidableEq α] (m : Map α) {d v : α} (hv : v ≠ d) (a b : Nat) :
    Tab.get (Tab.set m d a v) d b = if a = b then v else Tab.get m d b := by
  unfold Tab.get Tab.set
  rw [if_neg hv, find?_put]
  split <;> rfl

theorem insertLog_ne_nil (e : LogEntry) (l : List LogEntry) : insertLog e l ≠ [] := by
  cases l with
  | nil => exact List.cons_ne_nil _ _
  | cons y r =>
    unfold insertLog
    split <;> exact List.cons_ne_nil _ _

theorem pushLog_shed (s : State) (d : Nat) (e : LogEntry) (cl : Nat) : ((s.pushLog d e).cluster cl).shed = (s.cluster cl).shed := by
  have hlisted : ({ s.cluster d with logged := insertLog e (s.cluster d).logged } : Cluster) ≠ {} :=
    fun h => insertLog_ne_nil e _ (congrArg Cluster.logged h)
  have hread := get_set_listed s.clusters hlisted d cl
  rw [show (s.pushLog d e).cluster cl = _ from hread]
  split
  next hd => rw [← hd]
  · rfl

theorem setCluster_shed (s : State) (cl : Nat) (k : Cluster) : ((s.setCluster cl { k with shed := true }).cluster cl).shed = true := by
  have hlisted : ({ k with shed := true } : Cluster) ≠ {} := fun h => Bool.noConfusion (congrArg Cluster.shed h)
  rw [show (s.setCluster cl { k with shed := true }).cluster cl = _ from get_set_listed s.clusters hlisted cl cl, if_pos rfl]

theorem latch_clusters (s : State) : s.latch.clusters = s.clusters := by
  unfold State.latch
  extract_lets s1 s2 s3 s4 s5
  have h1 : s1.clusters = s.clusters := foldl_keeps State.clusters (fun s e => (setHreg_clusters ..).trans
    (foldl_keeps State.clusters (fun _ _ => (setHreg_clusters ..).trans (setHreg_clusters ..)) (List.range 4) s)) _ s
  have h2 : s2.clusters = s1.clusters := foldl_keeps State.clusters (fun s _ => foldl_keeps State.clusters (fun _ _ => setHreg_clusters ..) (List.range 15) s) _ s1
  have h3 : s3.clusters = s2.clusters := foldl_keeps State.clusters (fun s p => by dsimp only; split <;> rw [setHreg_clusters]) _ s2
  have h4 : s4.clusters = s3.clusters := foldl_keeps State.clusters (fun _ _ => setHreg_clusters ..) _ s3
  have h5 : s5.clusters = s4.clusters := foldl_keeps State.clusters (fun _ _ => setHreg_clusters ..) _ s4
  clear_value s1 s2 s3 s4 s5
  refine (foldl_keeps State.clusters (fun s g => ?_) _ _).trans (h5.trans (h4.trans (h3.trans (h2.trans h1))))
  dsimp only
  split <;> rw [setHreg_clusters]

theorem cluster_of_clusters (h : t.clusters = s.clusters) (cl : Nat) : t.cluster cl = s.cluster cl := by
  unfold State.cluster
  rw [h]

theorem fire_shed (s : State) (source cl : Nat) : ((s.fire source).cluster cl).shed = (s.cluster cl).shed := by
  unfold State.fire
  dsimp only
  split
  · rw [pushLog_shed, cluster_of_clusters (latch_clusters _)]
    rfl
  · rfl

/-- A log entry sheds no cluster and restores none. -/
theorem log_shed (s : State) (d source cls code owner : Nat) (addr detail : Word) (cl : Nat) :
    ((s.log d source cls code owner addr detail).cluster cl).shed = (s.cluster cl).shed := by
  unfold State.log State.logEntry
  dsimp only
  split
  · rw [fire_shed, pushLog_shed]
  · rw [pushLog_shed]

theorem Logged.power (h : Logged s t) : t.power = s.power := by rw [h.rest]
theorem Logged.islands (h : Logged s t) : t.islands = s.islands := by rw [h.rest]

theorem requestPreempt_power (s : State) (g why : Nat) : (s.requestPreempt g why).power = s.power := by
  unfold State.requestPreempt
  split
  · split <;> rfl
  · rfl

theorem requestPreemptIn_power (cl : Nat) (s : State) (e : Nat × Gang) : (if e.2.cluster = cl then s.requestPreempt e.1 2 else s).power = s.power := by
  split
  · exact requestPreempt_power ..
  · rfl

/-- In SHED the first cluster of SHEDORD that serves is shed, one each 100 ms (R407). -/
theorem shed_sheds (hr : Tab.rising s.host = true) (hst : s.supply = 2) (hdrop : (s.setReserve reserve).power.dropSince.isSome = true)
    (hwait : s.power.shedAt = 0 ∨ s.power.shedAt + 100000000 ≤ s.now)
    (hnext : ((List.range 4).map (fun i => bits (s.hreg 0x2038).toNat (2 * i + 1) (2 * i))).find? (fun c => !(s.cluster c).shed) = some n) :
    ∃ u, exec (.shed reserve) s = .next u ∧ (u.cluster n).shed = true ∧ u.power.shedOrder = n :: s.power.shedOrder := by
  have hord : (s.setReserve reserve).hreg 0x2038 = s.hreg 0x2038 := (hreg_setReserve hr ..).trans (if_neg (by omega))
  have hat : (s.setReserve reserve).power.shedAt = s.power.shedAt := rfl
  have hnow : (s.setReserve reserve).now = s.now := rfl
  have hcl : (s.setReserve reserve).cluster = s.cluster := rfl
  rw [exec_shed, execShed]
  extract_lets held ord
  rw [if_neg (by simp [held, supply_setReserve hr, hst, Option.isSome_iff_ne_none.1 hdrop, hat, hnow]; omega)]
  simp only [ord, held, hord, hcl, hnext]
  refine ⟨_, rfl, ?_, ?_⟩
  · rw [log_shed]
    exact setCluster_shed ..
  · rw [(logged_log ..).power]
    dsimp only
    rw [setCluster_power, foldl_keeps State.power (requestPreemptIn_power n)]
    rfl

end Sys2Proof.Proofs
end

section
/-! Operating points, energy, the seal of a Catalogue, restart and the time stamp counter (R281 to R284, R362, R405 to R414, R427,
R442, R443). -/
namespace Sys2Proof.Proofs
open Sys2Proof Sys2Proof.Machine Sys2Proof.Laws

variable {s t u : State} {n j reserve energy master modnum since : Nat} {k : Catalogue}

/-! ### Operating points -/

/-- The points that throttles demand, by reason (R282). -/
def demandTable (f : Nat → Nat) (n : Nat) : Map Nat := (List.range n).foldl (fun m r => Tab.set m 0 r (f r)) []

theorem erase_behind {m : Map Nat} {n : Nat} (h : ∀ e ∈ m, e.1 < n) : Tab.erase m n = m := by
  induction m with
  | nil => rfl
  | cons e r ih =>
    have he := h e List.mem_cons_self
    rw [Tab.erase, if_neg (by omega), ih fun y hy => h y (List.mem_cons_of_mem _ hy)]

theorem put_behind {m : Map Nat} {n : Nat} (h : ∀ e ∈ m, e.1 < n) (v : Nat) : Tab.put m n v = m ++ [(n, v)] := by
  induction m with
  | nil => rfl
  | cons e r ih =>
    have he := h e List.mem_cons_self
    rw [Tab.put, if_neg (by omega), if_neg (by omega), ih fun y hy => h y (List.mem_cons_of_mem _ hy)]
    rfl

theorem demandTable_succ (f : Nat → Nat) (n : Nat) : demandTable f (n + 1) = Tab.set (demandTable f n) 0 n (f n) := by
  unfold demandTable
  rw [List.range_succ, List.foldl_append]
  rfl

theorem demandTable_lt (f : Nat → Nat) (n : Nat) : ∀ e ∈ demandTable f n, e.1 < n := by
  induction n with
  | zero => exact fun e he => absurd he List.not_mem_nil
  | succ n ih =>
    intro e he
    rw [demandTable_succ] at he
    rcases mem_set he with rfl | he
    · exact Nat.lt_succ_self n
    · exact Nat.lt_succ_of_lt (ih e he)

/-- A demand of 0 is not listed, and raises no point. -/
theorem foldl_max_demandTable (f : Nat → Nat) (b n : Nat) :
    (Tab.vals (demandTable f n)).foldl max b = (List.range n).foldl (fun p r => max p (f r)) b := by
  induction n with
  | zero => rfl
  | succ n ih =>
    rw [List.range_succ, List.foldl_append, ← ih, demandTable_succ, Tab.set]
    split
    next h => rw [erase_behind (demandTable_lt f n), List.foldl_cons, List.foldl_nil, h, Nat.max_zero]
    · rw [put_behind (demandTable_lt f n), Tab.vals, List.map_append, List.foldl_append]
      rfl

theorem operatingPointChange_point (hi : Tab.rising s.islands = true) (l : List Nat) :
    ∃ u, exec (.operatingPointChange n l) s = .next u ∧ (Tab.get u.islands {} (n % 32)).point =
      (List.range 4).foldl (fun p r => max p (s.demand (n % 32) r (l.getD r 0))) (s.basePoint (n % 32)) := by
  rw [exec_operatingPointChange, execOperatingPointChange]
  extract_lets j caps point reg old changing s1
  have hpoint : (Tab.get s1.islands {} j).point = (List.range 4).foldl (fun p r => max p (s.demand j r (l.getD r 0))) (s.basePoint j) := by
    rw [show Tab.get s1.islands {} j = _ from get_set_same hi {} j _]
    exact foldl_max_demandTable (fun r => s.demand j r (l.getD r 0)) (s.basePoint j) 4
  refine ⟨_, rfl, ?_⟩
  split
  · exact hpoint
  · rw [State.logThrottle, (logged_log ..).islands]
    exact hpoint

/-! ### Energy -/

/-- From `s` to `t` memory and what the input has given are as they were, and the host's registers stay a table. -/
structure Metered (s t : State) : Prop where
  mem : t.mem = s.mem
  sum : t.power.inputSum = s.power.inputSum
  ticks : t.power.inputTicks = s.power.inputTicks
  rising : Tab.rising s.host = true → Tab.rising t.host = true

theorem Metered.refl (s : State) : Metered s s := ⟨rfl, rfl, rfl, id⟩
theorem Metered.trans (h : Metered s t) (g : Metered t u) : Metered s u :=
  ⟨g.mem.trans h.mem, g.sum.trans h.sum, g.ticks.trans h.ticks, fun hr => g.rising (h.rising hr)⟩
theorem metered_foldl {α : Type} {f : State → α → State} (hf : ∀ s x, Metered s (f s x)) (l : List α) (s : State) : Metered s (l.foldl f s) := by
  induction l generalizing s with
  | nil => exact Metered.refl s
  | cons x r ih => exact (hf s x).trans (ih _)
theorem metered_setHreg (s : State) (a : Nat) (v : Word) : Metered s (s.setHreg a v) := ⟨rfl, rfl, rfl, rising_set⟩

theorem metered_islandTick (s : State) (j nj : Nat) : Metered s (s.islandTick j nj) := by
  unfold State.islandTick
  extract_lets gs shares idle i s1 s2
  have h2 : Metered s s2 := ⟨rfl, rfl, rfl, fun hr => rising_set (rising_set hr)⟩
  refine h2.trans (metered_foldl (fun s e => ?_) _ _)
  split
  · exact ⟨rfl, rfl, rfl, id⟩
  · exact Metered.refl s

theorem metered_noteSensor (s : State) (i raw : Nat) : Metered s (s.noteSensor i raw) := ⟨rfl, rfl, rfl, id⟩

theorem energyTick_measures (hr : Tab.rising s.host = true) (l rest : List Nat) :
    ∃ u, exec (.energyTick l rest energy reserve) s = .next u ∧ u.hreg 0x2008 = BitVec.ofNat 64 (min reserve Config.reserveLimit) ∧ u.mem = s.mem ∧
      (999 ≤ s.power.inputTicks → u.hreg 0x5208 = BitVec.ofNat 64 ((s.power.inputSum + min energy Config.inputLimit) / 1000)) := by
  rw [exec_energyTick, execEnergyTick]
  extract_lets s1 raw s3 cool drawn nj sum whole src s4 s5
  have h1 : Metered s s1 := metered_foldl (fun s j => metered_islandTick s j (l.getD j 0)) (List.range 32) s
  have h3 : Metered s s3 := by
    refine h1.trans (metered_foldl (fun s k => ?_) (List.range 128) s1)
    exact (metered_setHreg ..).trans (metered_noteSensor ..)
  clear_value s1 s3
  have hr5 : Tab.rising s5.host = true := rising_set (h3.rising hr)
  have hr6 : Tab.rising (if whole then s5.setHreg 0x5208 (BitVec.ofNat 64 (sum / 1000)) else s5).host = true := by
    split
    · exact rising_set hr5
    · exact hr5
  refine ⟨_, rfl, (hreg_setReserve hr6 ..).trans (if_pos rfl), ?_, fun hticks => ?_⟩
  · refine Eq.trans ?_ h3.mem
    cases whole <;> rfl
  · have hwhole : whole = true := decide_eq_true (h3.ticks ▸ hticks)
    rw [hreg_setReserve hr6, if_neg (by omega), if_pos hwhole, hreg_setHreg hr5, if_pos rfl]
    exact congrArg (fun p => BitVec.ofNat 64 ((p + drawn) / 1000)) h3.sum

/-! ### The seal of a Catalogue -/

theorem find?_of_mem_slotsBySeq {e : Nat × Catalogue} (he : e ∈ s.slotsBySeq) : e.1 < 2 ∧ Tab.find? s.power.catalogues e.1 = some e.2 := by
  unfold State.slotsBySeq at he
  split at he
  next a b ha hb =>
    split at he <;> rcases List.mem_pair.1 he with rfl | rfl <;> simp [ha, hb]
  next a ha hb => rw [List.mem_singleton.1 he]; exact ⟨Nat.zero_lt_two, ha⟩
  next b ha hb => rw [List.mem_singleton.1 he]; exact ⟨Nat.one_lt_two, hb⟩
  · exact absurd he List.not_mem_nil

theorem sealSlot_lt (s : State) : s.sealSlot < 2 := by
  unfold State.sealSlot
  split <;> omega

/-- The seal takes the slot that does not hold the newest valid Catalogue (R405). -/
theorem sealSlot_ne {e : Nat × Catalogue} (h : s.slotsBySeq.find? (fun e => e.2.valid s.modnum) = some e) : s.sealSlot ≠ e.1 := by
  have := (find?_of_mem_slotsBySeq (List.mem_of_find?_eq_some h)).1
  unfold State.sealSlot
  rw [h]
  dsimp only [Option.map_some]
  omega

theorem logged_logUncorr (s : State) (r : Region) (index : Nat) : Logged s (s.logUncorr r index) := by
  unfold State.logUncorr
  split
  · exact Logged.refl s
  · exact logged_log ..

theorem logged_logStatus (s : State) (r : Region) (index status : Nat) : Logged s (s.logStatus r index status) := by
  unfold State.logStatus
  split
  · exact Logged.refl s
  · exact logged_log ..

theorem sealed_hibernates (hr : Tab.rising s.host = true) (hst : s.supply = 4) : ∃ u slot, exec (.sealed energy) s = .next u ∧ slot < 2 ∧ u.supply = 5 ∧
    (∃ k, Tab.find? u.power.catalogues slot = some k ∧ k.kind = 0 ∧ k.seq = s.lastSeq + 1 ∧ k.regions = s.power.regions ∧ k.steps = s.graphSteps) ∧
    (∀ m d, s.slotsBySeq.find? (fun e => e.2.valid s.modnum) = some (m, d) → m ≠ slot ∧ Tab.find? u.power.catalogues m = some d) := by
  rw [exec_sealed, execSealed]
  extract_lets thermal slot budget c src s1 s2 s3
  rw [if_neg (by simp [hst]), if_neg (by simp [thermal, hst])]
  have hlogged : Logged s1 s2 := (logged_foldl (fun _ _ => (logged_logUncorr ..).trans (logged_logStatus ..)) _ _).trans (logged_log ..)
  have hcat : (s2.setHreg 0x2000 0x105).power.catalogues = Tab.put s.power.catalogues slot (c.signed s.modnum) := congrArg Power.catalogues hlogged.power
  refine ⟨_, slot, rfl, sealSlot_lt s, supply_setHreg (hlogged.rising hr) _, ⟨c.signed s.modnum, ?_, ?_, rfl, rfl, rfl⟩, fun m d h => ?_⟩
  · rw [hcat, find?_put, if_pos rfl]
  · exact if_neg (by simp [thermal, hst])
  · have hne : slot ≠ m := sealSlot_ne h
    rw [hcat, find?_put, if_neg hne]
    exact ⟨hne.symm, (find?_of_mem_slotsBySeq (List.mem_of_find?_eq_some h)).2⟩

/-! ### Thermal emergencies and restart -/

/-- What a thermal emergency that is over starts with: its end is logged, and the newer Catalogue where it does not verify (R409, R413). -/
def cooling (s : State) : State :=
  (({ s with power := { s.power with off := false, regions := [] } } : State).log 0 0x0102 6 7 0 0 0).logBadSlot

/-- Power has been off in a thermal emergency, and every sensor cool for 1 s (R413). -/
structure Cooled (s : State) : Prop where
  thermal : s.supply = 6
  off : s.power.off = true
  cool : ∃ since, s.power.coolSince = some since ∧ since + 1000000000 ≤ s.now

theorem thermalEnd_restores (h : Cooled s) (hk : (cooling s).newestValid = some k) (hkind : k.kind = 1) : exec .thermalEnd s =
    .next (((cooling s).replayCatalogue k).power.unresumed.foldl (fun s o => s.resumeOwner o) ((cooling s).replayCatalogue k)) := by
  obtain ⟨since, hcool, hnow⟩ := h.cool
  unfold cooling at hk ⊢
  rw [exec_thermalEnd, execThermalEnd, hcool]
  dsimp only
  rw [if_neg (by simp [h.thermal, h.off, hnow]), hk]
  dsimp only
  rw [if_neg (not_not.2 hkind)]

theorem thermalEnd_empties (h : Cooled s) (hk : (cooling s).newestValid = none) : exec .thermalEnd s = .next (cooling s).emptied.enterNormal := by
  obtain ⟨since, hcool, hnow⟩ := h.cool
  unfold cooling at hk ⊢
  rw [exec_thermalEnd, execThermalEnd, hcool]
  dsimp only
  rw [if_neg (by simp [h.thermal, h.off, hnow])]
  simp only [hk]

/-- Bring-up is at its restore, with the input held for 1 s and the reserve 1,000 J over E_WARN (R409, R427). -/
structure MayRestore (s : State) (reserve : Nat) : Prop where
  phase : s.hreg 0x1000 = 3
  level : s.eWarn + 1000000000 ≤ reserve
  input : ∃ since, s.power.inputSince = some since ∧ since + 1000000000 ≤ s.now

section
variable (h : MayRestore s reserve)
include h

theorem MayRestore.passes : ¬ (decide (s.hreg 0x1000 ≠ 3) || decide (reserve < s.eWarn + 1000000000) ||
    !s.power.inputSince.any (fun t => decide (t + 1000000000 ≤ s.now))) = true := by
  obtain ⟨since, hsince, hnow⟩ := h.input
  have hphase : decide (s.hreg 0x1000 ≠ 3) = false := decide_eq_false (not_not.2 h.phase)
  have hlevel : decide (reserve < s.eWarn + 1000000000) = false := decide_eq_false (Nat.not_lt.2 h.level)
  rw [hphase, hlevel, hsince, Option.any_some, decide_eq_true hnow]
  decide

theorem restoreBegin_replays :
    let resumed := ((s.setReserve reserve).enterPhase 4).logBadSlot
    resumed.catalogueDue = true → resumed.newestValid = some k → exec (.restoreBegin reserve) s = .next (resumed.replayCatalogue k) := by
  intro resumed hdue hk
  rw [exec_restoreBegin, execRestoreBegin, if_neg h.passes]
  dsimp only
  rw [if_pos hdue]
  simp only [resumed] at hk
  simp only [hk, resumed]

theorem restoreBegin_normal :
    let resumed := ((s.setReserve reserve).enterPhase 4).logBadSlot
    resumed.catalogueDue = false ∨ resumed.newestValid = none →
      exec (.restoreBegin reserve) s = .next (resumed.markLost (fun _ => false)).enterNormal := by
  intro resumed hnone
  have hfound : (if resumed.catalogueDue then resumed.newestValid else none) = none := by
    rcases hnone with hdue | hk
    · rw [hdue, if_neg Bool.false_ne_true]
    · rw [hk, ite_self]
  rw [exec_restoreBegin, execRestoreBegin, if_neg h.passes]
  simp only [resumed] at hfound
  simp only [hfound, resumed]

end

/-! ### Power-on -/

/-- From `s` to `t` nothing changed but the host's registers, the clusters, free values and whether a phase is fresh. -/
structure BootOnly (s t : State) : Prop where
  rest : t = { s with host := t.host, clusters := t.clusters, free := t.free, power := { s.power with phaseFresh := t.power.phaseFresh } }

theorem BootOnly.refl (s : State) : BootOnly s s := ⟨rfl⟩
theorem BootOnly.trans (h : BootOnly s t) (g : BootOnly t u) : BootOnly s u := ⟨g.rest.trans (by rw [h.rest])⟩
theorem bootOnly_foldl {α : Type} {f : State → α → State} (hf : ∀ s x, BootOnly s (f s x)) (l : List α) (s : State) : BootOnly s (l.foldl f s) := by
  induction l generalizing s with
  | nil => exact BootOnly.refl s
  | cons x r ih => exact (hf s x).trans (ih _)
theorem bootOnly_setHreg (s : State) (a : Nat) (v : Word) : BootOnly s (s.setHreg a v) := ⟨rfl⟩
theorem Logged.bootOnly (h : Logged s t) : BootOnly s t := ⟨by rw [h.power]; exact h.rest⟩

theorem BootOnly.cores (h : BootOnly s t) : t.cores = s.cores := by rw [h.rest]
theorem BootOnly.mem (h : BootOnly s t) : t.mem = s.mem := by rw [h.rest]
theorem BootOnly.keys (h : BootOnly s t) : t.keys = s.keys := by rw [h.rest]
theorem BootOnly.now (h : BootOnly s t) : t.now = s.now := by rw [h.rest]
theorem BootOnly.router (h : BootOnly s t) : t.router = s.router := by rw [h.rest]
theorem BootOnly.catalogues (h : BootOnly s t) : t.power.catalogues = s.power.catalogues := by rw [h.rest]

theorem bootOnly_logSelftest (s : State) : BootOnly s s.logSelftest := by
  unfold State.logSelftest
  dsimp only
  split
  · exact BootOnly.refl s
  · exact (logged_log ..).bootOnly

theorem bootOnly_bringUp (s : State) : BootOnly s s.bringUp := by
  unfold State.bringUp
  dsimp only
  refine BootOnly.trans (t := s.enterPhase 1) ⟨rfl⟩ (BootOnly.trans ?_ (bootOnly_logSelftest _))
  split <;> exact bootOnly_setHreg ..

theorem bootOnly_notePaths (s : State) : BootOnly s s.notePaths := bootOnly_foldl (fun _ _ => bootOnly_setHreg ..) (List.range 3) s

/-- What a power cycle keeps: what SCM holds, the time base and what the model numbers (R400, R427). -/
def cycled (s : State) : State :=
  { power := { catalogues := s.power.catalogues, chain := s.power.chain, inputSince := some (s.power.inputSince.getD s.now) },
    now := s.now, nextReq := s.nextReq, agenda := s.agenda, turnNo := s.turnNo, free := s.free, outbox := s.outbox }

theorem bootOnly_powerCycle (s : State) (selftest : Word) (logs : Bool) : BootOnly (cycled s) (s.powerCycle selftest logs) := by
  unfold State.powerCycle
  extract_lets p s1 s2 s3
  have h2 : BootOnly s1 s2 := by
    simp only [s2]
    split
    · exact BootOnly.refl s1
    · refine bootOnly_foldl (fun s e => ?_) s.clusters s1
      exact ⟨rfl⟩
  have h3 : BootOnly s2 s3 := by
    simp only [s3]
    split
    · exact BootOnly.refl s2
    · exact bootOnly_foldl (fun _ _ => bootOnly_setHreg ..) (List.range 8) s2
  clear_value s2 s3
  exact h2.trans (h3.trans (((bootOnly_setHreg ..).trans (bootOnly_setHreg ..)).trans (bootOnly_setHreg ..)))

/-- The paths that Curator finds: those of each other module with a good one (R285, R383). -/
def addRoute (modnum : Nat) (m : Map (Map (List Nat))) (r : Route) : Map (Map (List Nat)) :=
  let paths := r.paths.filter pathGood
  if paths.isEmpty || 3072 ≤ r.module || r.module = modnum % 3072 then m else Tab.put m r.module (numberPaths paths)

theorem find?_addRoute_keeps {m : Map (Map (List Nat))} {r : Route} {i : Nat} (h : (Tab.find? m i).isSome = true) :
    (Tab.find? (addRoute modnum m r) i).isSome = true := by
  unfold addRoute
  dsimp only
  split
  · exact h
  · rw [find?_put]
    split
    · rfl
    · exact h

theorem find?_addRoute_same (m : Map (Map (List Nat))) {r : Route} (hgood : r.paths.filter pathGood ≠ []) (hm : r.module < 3072)
    (ho : r.module ≠ modnum % 3072) : (Tab.find? (addRoute modnum m r) r.module).isSome = true := by
  unfold addRoute
  dsimp only
  rw [if_neg, find?_put, if_pos rfl]
  · rfl
  · simp only [Bool.or_eq_true, List.isEmpty_iff, decide_eq_true_eq]
    rintro ((h | h) | h)
    · exact hgood h
    · omega
    · exact ho h

theorem find?_routes {routes : List Route} {r : Route} (hr : r ∈ routes) (hgood : r.paths.filter pathGood ≠ []) (hm : r.module < 3072)
    (ho : r.module ≠ modnum % 3072) (m : Map (Map (List Nat))) : (Tab.find? (routes.foldl (addRoute modnum) m) r.module).isSome = true := by
  have keeps : ∀ (l : List Route) (m : Map (Map (List Nat))), (Tab.find? m r.module).isSome = true →
      (Tab.find? (l.foldl (addRoute modnum) m) r.module).isSome = true := by
    intro l
    induction l with
    | nil => exact fun _ h => h
    | cons y l ih => exact fun m h => ih _ (find?_addRoute_keeps h)
  induction routes generalizing m with
  | nil => exact absurd hr List.not_mem_nil
  | cons y l ih =>
    rcases List.mem_cons.1 hr with rfl | hr
    · exact keeps l _ (find?_addRoute_same m hgood hm ho)
    · exact ih hr _

theorem find?_map_const {α β : Type} (m : Map α) (b : β) (i : Nat) : Tab.find? (m.map (fun e => (e.1, b))) i = (Tab.find? m i).map (fun _ => b) := by
  induction m with
  | nil => rfl
  | cons e r ih =>
    rw [List.map_cons, Tab.find?, Tab.find?]
    split
    · rfl
    · exact ih

theorem powerOn_starts (hst : s.supply = 0) (hphase : s.hreg 0x1000 = 0) (selftest : Word) (routes : List Route) :
    ∃ u, exec (.powerOn true modnum selftest routes) s = .next u ∧ u.cores = [] ∧ u.mem = [] ∧ u.keys = [] ∧
      u.power.catalogues = s.power.catalogues ∧ u.now = s.now ∧ ∀ r ∈ routes, r.paths.filter pathGood ≠ [] → r.module < 3072 → r.module ≠ modnum % 3072 →
        Tab.find? u.router.modules r.module = some .reachable := by
  let table := routes.foldl (addRoute modnum) []
  let s1 := (s.powerCycle (selftest &&& 0x07FF0FFF#64) true).setHreg 0x1008 (BitVec.ofNat 64 (modnum % 3072))
  let s2 : State := { s1 with router := { paths := table, modules := table.map (fun (e : Nat × Map (List Nat)) => (e.1, ModuleState.reachable)) } }
  have hexec : exec (.powerOn true modnum selftest routes) s = .next s2.notePaths.bringUp := by
    rw [exec_powerOn, execPowerOn, hst, hphase]
    rfl
  have h1 : BootOnly (cycled s) s1 := (bootOnly_powerCycle ..).trans (bootOnly_setHreg ..)
  have hu : BootOnly s2 s2.notePaths.bringUp := (bootOnly_notePaths s2).trans (bootOnly_bringUp _)
  clear_value s1
  refine ⟨_, hexec, ?_, ?_, ?_, ?_, ?_, fun r hr hgood hm ho => ?_⟩
  · exact hu.cores.trans h1.cores
  · exact hu.mem.trans h1.mem
  · exact hu.keys.trans h1.keys
  · exact hu.catalogues.trans h1.catalogues
  · exact hu.now.trans h1.now
  · rw [hu.router]
    refine (find?_map_const table ModuleState.reachable r.module).trans ?_
    obtain ⟨paths, hpaths⟩ := Option.isSome_iff_exists.1 (find?_routes hr hgood hm ho [])
    rw [show Tab.find? table r.module = some paths from hpaths]
    rfl

/-! ### The time stamp counter -/

theorem timeExchange_slews (error : BitVec 32) (hown : (s.hreg 0x1100).getLsbD 63 = false) (hmaster : s.moduleState master = .reachable)
    (hnone : s.power.master = none) (hon : s.hreg 0x1000 ≠ 0) :
    ∃ u, exec (.timeExchange master error) s = .next u ∧ u.now = s.now ∧ u.power.slew = -sint 32 error.toNat ∧ u.power.master = some (master, s.now) := by
  have hset : ∀ s : State, s.timeSet.now = s.now ∧ s.timeSet.power = s.power := by
    intro s
    unfold State.timeSet
    split <;> exact ⟨rfl, rfl⟩
  rw [exec_timeExchange, execTimeExchange, hnone, hown, hmaster, decide_eq_false hon]
  dsimp only
  rw [if_neg (by exact Bool.false_ne_true)]
  refine ⟨_, rfl, ?_⟩
  split
  · rw [(hset _).1, (hset _).2]
    dsimp only
    exact ⟨setHreg_now s _ _, rfl, rfl⟩
  · dsimp only
    exact ⟨setHreg_now s _ _, rfl, rfl⟩

/-- The counter is slewed by at most 1 ns for each µs, and what it is slewed by is made good (R443). -/
theorem slewed_bounds (p : Power) (d : Nat) : let a := (p.slewed d).2
    a ≤ d + (p.slewRest + d) / 1000 ∧ d ≤ a + (p.slewRest + d) / 1000 ∧ (p.slewed d).1.slew + (a : Int) = p.slew + d := by
  unfold Power.slewed
  dsimp only
  split
  next h => exact ⟨Nat.le_add_right .., Nat.le_add_right .., rfl⟩
  · split
    · refine ⟨?_, ?_, ?_⟩ <;> dsimp only <;> omega
    · refine ⟨?_, ?_, ?_⟩ <;> dsimp only <;> omega

theorem masterLost_runs_free (hmaster : s.power.master = some (master, since)) (hnow : since + 1000000 ≤ s.now) :
    exec (.masterLost master) s = .next
      { s.setHreg 0x1100 (s.hreg 0x1100 &&& ~~~(1#64 <<< 62)) with power := { s.power with master := none, slew := 0 } } := by
  rw [exec_masterLost, execMasterLost, hmaster]
  dsimp only
  rw [if_neg (by simp [hnow])]

theorem timePhaseTimeout_ends (hmaster : s.power.master = none) (hphase : s.hreg 0x1000 = 5) (hnow : s.power.phaseSince + 10000000 ≤ s.now) :
    exec .timePhaseTimeout s = .next (s.setHreg 0x1000 6) := by
  rw [exec_timePhaseTimeout, execTimePhaseTimeout, if_pos (by simp [hmaster, hnow]), State.timeSet, if_pos hphase]

/-- Settles O49: each event by its lemma above. -/
theorem supplyEvents : Obligations.SupplyEvents := by
  intro n c x reserve groups energy sensor addr modnum master since l input selftest routes error k rest t s hr hi
    j st q held warned hot halting trapped halted meets resumed cool cooled e
  have meets_of : meets → MeetsSupply s c x t := fun ⟨hh, ht, hb, hd⟩ => ⟨hh, ht, hb, hd⟩
  refine ⟨operatingPointChange_point hi l, energyTick_measures hr l rest, sensorRetired_logs, patrolScrub_uncorrectable, supplyWarning_warns,
    fun hm hturn hby hsaved hres hout => ⟨fun hen => ?_, fun hen => ?_⟩, fun hm => supplyTrap_saved (meets_of hm),
    fun i hh ht hb hd => (supplyTrap_halting hh).trans (congrArg _ (meetSupply_due ht hb hd)),
    fun hm hsaved hby hset hover hres => handlerOverrun_halts (meets_of hm) hsaved hby hset hover hres, saveComplete_drains,
    sealed_hibernates hr, enterSag_after_drop, enterShed_sheds, shed_sheds hr, clusterRestore_serves, returnNormal_normal hr,
    inputReturn_notes, thermal_starts, fun hst hoff hcool hnow => ?_, fun hst hphase => powerOn_starts hst hphase selftest routes,
    fun hphase hlevel hinput => ?_, timeExchange_slews error, slewed_bounds, masterLost_runs_free, timePhaseTimeout_ends⟩
  · rw [supplyTrap_enters_or_halts (meets_of hm) hturn hby hsaved hres hout, if_pos hen]
  · rw [supplyTrap_enters_or_halts (meets_of hm) hturn hby hsaved hres hout, if_neg (Bool.eq_false_iff.1 hen)]
  · have h : Cooled s := ⟨hst, hoff, since, hcool, hnow⟩
    exact ⟨thermalEnd_restores h, thermalEnd_empties h⟩
  · have h : MayRestore s reserve := ⟨hphase, hlevel, hinput⟩
    exact ⟨restoreBegin_normal h, restoreBegin_replays h⟩

end Sys2Proof.Proofs
end

section
/-! Decoding is inverse to encoding (R65 to R75, R153): the fields of a packed word, then the slot classes one by one. -/
namespace Sys2Proof.Proofs
open Sys2Proof Sys2Proof.Machine Sys2Proof.Laws

/-! ### Fields of packed words -/

@[simp] theorem extractLsb'_pk_low {l m n s k : Nat} (x : BitVec m) (y : BitVec n) (hn : s + k ≤ n) (hl : s + k ≤ l) :
    (pk l x y).extractLsb' s k = y.extractLsb' s k := by
  ext i hi
  have hli : s + i < l := by omega
  have hni : s + i < n := by omega
  simp [pk, BitVec.getElem_extractLsb', BitVec.getLsbD_append, hli, hni]

@[simp] theorem extractLsb'_pk_high {l m n s k : Nat} (x : BitVec m) (y : BitVec n) (hn : n ≤ s) (hl : s + k ≤ l) :
    (pk l x y).extractLsb' s k = x.extractLsb' (s - n) k := by
  ext i hi
  have hli : s + i < l := by omega
  have hni : ¬ s + i < n := by omega
  simp [pk, BitVec.getElem_extractLsb', BitVec.getLsbD_append, hli, hni, show s + i - n = s - n + i by omega]

/-- The immediate of MOVI and MOVH put together from its parcel and its word (R111). -/
@[simp] theorem pk_extractLsb'_imm (v : BitVec 30) : pk 30 (v.extractLsb' 14 16) (v.extractLsb' 0 14) = v := by
  rw [pk, BitVec.extractLsb'_append_extractLsb'_eq_extractLsb' (by decide)]
  simp

/-! ### The slot classes -/

/-- AMO of a well-formed instruction is no draw, whose function code its cell shares (R234). -/
theorem amo_fn_ne_draw {d c newv : BitVec 6} {a fn : BitVec 4} {off : BitVec 12} {ret sgn : BitVec 1} {sz : BitVec 2}
    (h : (Instr.amo d a fn off c ret sgn sz newv).WellFormed) : fn ≠ 9#4 := by
  rintro rfl
  unfold Instr.WellFormed Instr.defect Checks.defect at h
  split at h
  · cases h
  · cases h

/-- What stands in a word of the S slot is read back field by field (R74). -/
theorem readS_encode {i : Instr} {w : BitVec 32} {p : Option (BitVec 16)} (h : encodeSlot i = some ⟨.s, w, p⟩) :
    readS w (p.getD 0#16) = some ⟨i, true, none⟩ := by
  cases i
  case add | sub | mul | mulh | divs | divn | rem | and | or | xor | not | shl | shr | sar | rot | min | max | cmp |
      sel | popc | clz | ctz | pack | addi | movi | movh | bfx | bfi | fadd | fsub | fmul | ffma | fmin | fmax |
      fcmp | fcvt | dmerge | dscale =>
    cases h
    simp [readS]
  all_goals cases h

/-- What stands in a word of the B slot is read back field by field (R74). -/
theorem readB_encode {i : Instr} {w : BitVec 32} {p : Option (BitVec 16)} (h : encodeSlot i = some ⟨.b, w, p⟩) :
    readB w (p.getD 0#16) = some ⟨i, true, none⟩ := by
  cases i
  case br | brk | call | ret | loop | endl | yield | spawn | exit | trap | tret | hiber | crr | crw | nop =>
    cases h
    simp [readB]
  all_goals cases h

/-- What stands in a word of the M0 and M1 slots is read back field by field (R74). -/
theorem readM_encode {i : Instr} {w : BitVec 32} {p : Option (BitVec 16)} (hwf : i.WellFormed) (h : encodeSlot i = some ⟨.m, w, p⟩) :
    readM w (p.getD 0#16) = some ⟨i, true, none⟩ := by
  cases i
  case ld | st | vld | vst | ldq | stq | ldsec | gatherq | scatterq | stf | amoDraw | pref =>
    cases h
    simp [readM]
  case amo =>
    cases h
    simp [readM, amo_fn_ne_draw hwf]
  all_goals cases h

/-- What stands in a word of the V0 and V1 slots is read back field by field (R74). -/
theorem readV_encode {i : Instr} {w : BitVec 32} {p : Option (BitVec 16)} (h : encodeSlot i = some ⟨.v, w, p⟩) :
    readV w (p.getD 0#16) = some ⟨i, true, none⟩ := by
  cases i
  case vadd | vsub | vmul | vfma | vmin | vmax | vabs | vneg | vand | vor | vxor | vnot | vshl | vshr | vcmp | vsel |
      vcvt | vquant | vdeq | vred | vscan | vexp2 | vlog2 | vrcp | vrsq | vsqrt | vtanh | vsig | vsin | vcos |
      vdraw =>
    cases h
    simp [readV]
  all_goals cases h

/-- What stands in a word of the X slot is read back field by field (R74). -/
theorem readX_encode {i : Instr} {w : BitVec 32} {p : Option (BitVec 16)} (h : encodeSlot i = some ⟨.x, w, p⟩) :
    readX w (p.getD 0#16) = some ⟨i, true, none⟩ := by
  cases i
  case shuf | patld | patsw | xcopy | xbcast | mcall | mpset | accrd | accwr | accz =>
    cases h
    simp [readX]
  all_goals cases h

/-- What stands in a word of the E slot is read back field by field (R74). -/
theorem readE_encode {i : Instr} {w : BitVec 32} {p : Option (BitVec 16)} (h : encodeSlot i = some ⟨.e, w, p⟩) :
    readE w (p.getD 0#16) = some ⟨i, true, none⟩ := by
  cases i
  case phase | publish | vwait | fence | copy | drain | span | barrive | bwait | wait | mwait | sbind | sunbind |
      ringp | ringa | walk | coll | lprobe | tsread =>
    cases h
    simp [readE]
  all_goals cases h

/-- A slot word whose fields read well decodes to what it stands for (R330). -/
theorem decodeSlot_of_readSlot {c : SlotClass} {w : BitVec 32} {p : BitVec 16} {i : Instr} (h : readSlot c w p = some ⟨i, true, none⟩) :
    decodeSlot c w p = .ok i := by
  unfold decodeSlot
  rw [h]
  rfl

theorem decodeSlot_encodeSlot {i : Instr} {e : SlotCode} (hwf : i.WellFormed) (h : encodeSlot i = some e) :
    decodeSlot e.cls e.word (e.parcel.getD 0#16) = .ok i := by
  obtain ⟨c, w, p⟩ := e
  apply decodeSlot_of_readSlot
  cases c with
  | s => exact readS_encode h
  | b => exact readB_encode h
  | m => exact readM_encode hwf h
  | v => exact readV_encode h
  | x => exact readX_encode h
  | e => exact readE_encode h

/-! ### Micro-words -/

theorem decodeMicro_encodeMicro {i : Instr} {w : BitVec 64} (h : encodeMicro i = some w) : decodeMicro w = .ok i := by
  cases i
  case kzero | kstep | kloop | kendl | kepi | krows | ksum | kend =>
    cases h
    simp [decodeMicro]
  all_goals cases h

/-- Settles O55: the fields of a packed word are read back one by one, in each slot class and in micro-words. -/
theorem decodeInvertsEncode : Obligations.DecodeInvertsEncode :=
  ⟨fun _ _ hwf h => decodeSlot_encodeSlot hwf h, fun _ _ _ h => decodeMicro_encodeMicro h⟩

end Sys2Proof.Proofs
end

section
/-! Words that the spec writes out, and opcode 0 (R74, R75, R153). -/
namespace Sys2Proof.Proofs
open Sys2Proof Sys2Proof.Machine Sys2Proof.Laws

/-- Opcode 0 is reserved in every map (R75). -/
theorem readSlot_opcode_zero {w : BitVec 32} (h : w.extractLsb' 26 6 = 0#6) (c : SlotClass) (p : BitVec 16) : readSlot c w p = none := by
  cases c with
  | s => rw [readSlot, readS, h]; rfl
  | b => rw [readSlot, readB, h]; rfl
  | m => rw [readSlot, readM, h]; rfl
  | v => rw [readSlot, readV, h]; rfl
  | x => rw [readSlot, readX, h]; rfl
  | e => rw [readSlot, readE, h]; rfl

/-- Settles O56: each word is read as it stands, and no map has a cell for opcode 0. -/
theorem decodeWords : Obligations.DecodeWords :=
  ⟨rfl, rfl, rfl, rfl, rfl, rfl, rfl, rfl, rfl, fun c _ p h => readSlot_opcode_zero h c p⟩

end Sys2Proof.Proofs
end

section
/-! Changes of flow and hardware loops (R64, R117 to R120, R337, R348). -/
namespace Sys2Proof.Proofs
open Sys2Proof Sys2Proof.Machine Sys2Proof.Laws

/-! ### The check of a target -/

theorem targetStop_untaken (t : Word) : targetStop false t = none := rfl

theorem targetStop_reached {t : Word} (h : t.toNat < 2 ^ 48) (taken : Bool) : targetStop taken t = none :=
  stopIf_false (by rw [decide_eq_false (Nat.not_le.2 h), Bool.and_false])

theorem targetStop_beyond {t : Word} (h : 2 ^ 48 ≤ t.toNat) : targetStop true t = some (trapRange t) := by
  rw [targetStop, decide_eq_true h]
  rfl

theorem check_beyond {q : Bun} {t : Word} {f : Bun → Bun} (h : 2 ^ 48 ≤ t.toNat) : q.check [targetStop true t] f = .error (trapRange t) :=
  check_error (congrArg (fun x => firstStop [x]) (targetStop_beyond h))

theorem jump_taken (b : Bun) (t : Word) : b.jump true t = { b with cur := { b.cur with flow := .jump t } } := rfl

theorem jump_untaken (b : Bun) (t : Word) : b.jump false t = b := rfl

/-! ### BR and BRK -/

theorem brTaken_iff {zs : BitVec 1} {v : Word} : brTaken zs v = true ↔ if zs = 1#1 then v = 0 else v ≠ 0 := by
  unfold brTaken
  split <;> simp

theorem brkTaken_iff_pred {cond : BitVec 3} {k : Pred} : brkTaken cond k = true ↔ match cond.toNat with
    | 0 => k ≠ 0
    | 1 => k = BitVec.allOnes 128
    | 2 => k = 0
    | _ => k ≠ BitVec.allOnes 128 := by
  unfold brkTaken
  generalize cond.toNat = n
  match n with
  | 0 => exact bne_iff_ne
  | 1 => exact beq_iff_eq
  | 2 => exact beq_iff_eq
  | _ + 3 => exact bne_iff_ne

/-- A branch whose slot nothing stops: it goes to its target where it is taken, traps where that lies beyond the code space, and
does nothing where it is not taken. -/
theorem branch_outcomes {s : State} {i : Instr} {q : Bun} {off : BitVec 20} {p : Prop} (taken : Bun → Bool)
    (he : exec i s = s.runSlot i (fun b => b.check [targetStop (taken b) (b.target off)] (fun b => b.jump (taken b) (b.target off))))
    (hp : taken q = true ↔ p) (h : s.AtSlot i q) :
    (p → (q.target off).toNat < 2 ^ 48 → exec i s = .next (q.joined i { q with cur := { q.cur with flow := .jump (q.target off) } })) ∧
    (p → 2 ^ 48 ≤ (q.target off).toNat → exec i s = s.trapped { cause := 5, addr := q.target off }) ∧
    (¬ p → exec i s = .next (q.joined i q)) := by
  rw [he]
  refine ⟨fun htaken hin => ?_, fun htaken hout => ?_, fun hnot => ?_⟩
  · rw [runSlot_joined h (check_one (targetStop_reached hin _)), hp.2 htaken, jump_taken]
  · exact runSlot_trapped h (by rw [hp.2 htaken]; exact check_beyond hout)
  · have huntaken : taken q = false := Bool.eq_false_iff.2 (fun ht => hnot (hp.1 ht))
    rw [runSlot_joined h (check_one (by rw [huntaken, targetStop_untaken])), huntaken, jump_untaken]

/-- Settles O10: of each branch its slot's one check is that of its target, made where the branch is taken. -/
theorem branches : Obligations.Branches := fun zs r k cond _ _ _ =>
  ⟨branch_outcomes (fun b => brTaken zs (b.val (r.setWidth 6))) (exec_br ..) brTaken_iff,
    branch_outcomes (fun b => brkTaken cond (b.pred k)) (exec_brk ..) brkTaken_iff_pred⟩

/-! ### CALL and RET -/

/-- Settles O11: CALL checks its target, and RET that its register holds an even address of the code space. -/
theorem callAndReturn : Obligations.CallAndReturn := fun r off s q =>
  ⟨fun h hin => (exec_call ..).trans (runSlot_joined h (check_one (targetStop_reached hin true))),
    fun h hout => (exec_call ..).trans (runSlot_trapped h (check_beyond hout)),
    fun h hin heven => (exec_ret ..).trans (runSlot_joined h (check_one (stopIf_false
      (by rw [heven, Bool.or_false, decide_eq_false (Nat.not_le.2 hin)])))),
    fun h hbad => (exec_ret ..).trans (runSlot_trapped h (check_error (by
      rw [stopIf, if_pos (by simpa using hbad)]; rfl)))⟩

/-! ### LOOP and ENDL -/

section
variable {s : State} {q : Bun} {n : BitVec 2} {off : BitVec 20}

/-- The count of a LOOP, an immediate or a register's value (R119). -/
def loopCount (q : Bun) (c : BitVec 6) (imm : BitVec 1) (cnt : BitVec 9) : Word := if imm = 1#1 then cnt.setWidth 64 else q.val c

/-- The bundle that enters a loop of count `v`, whose residue is `r`: the counter takes the count less 1 (R119, R348). -/
def entersLoop (q : Bun) (n : BitVec 2) (v : Word) (r : Nat) : Bun :=
  q.writeLc n ((v - 1).setWidth 32) (some (predictSub r 1 v.toNat 1))

/-- The residue of a LOOP's count. -/
def loopResidue (q : Bun) (c : BitVec 6) (imm : BitVec 1) (v : Word) : Nat := if imm = 1#1 then res v.toNat else q.residueOf c

section Loop
variable {c : BitVec 6} {imm : BitVec 1} {cnt : BitVec 9} (h : s.AtSlot (.loop n off c imm cnt) q)
include h

/-- A LOOP whose count fits its register joins the bundle where it enters the loop, or leaves it to a target in the code space. -/
theorem loop_joined (hfits : (loopCount q c imm cnt).toNat < 2 ^ 32) (hin : loopCount q c imm cnt = 0 → (q.target off).toNat < 2 ^ 48) :
    exec (.loop n off c imm cnt) s = .next (q.joined (.loop n off c imm cnt)
      (if loopCount q c imm cnt == 0 then (q.writeLc n 0 none).jump true (q.target off)
        else entersLoop q n (loopCount q c imm cnt) (loopResidue q c imm (loopCount q c imm cnt)))) := by
  refine (exec_loop ..).trans (runSlot_joined h (check_none fun x hx => ?_))
  rcases List.mem_pair.1 hx with rfl | rfl
  · exact stopIf_false (decide_eq_false (Nat.not_le.2 hfits))
  · by_cases hzero : loopCount q c imm cnt = 0
    · exact targetStop_reached (hin hzero) _
    · exact (congrArg (targetStop · _) (beq_eq_false_iff_ne.2 hzero)).trans (targetStop_untaken _)

theorem loop_enters (hne : loopCount q c imm cnt ≠ 0) (hfits : (loopCount q c imm cnt).toNat < 2 ^ 32) :
    exec (.loop n off c imm cnt) s = .next (q.joined (.loop n off c imm cnt)
      (entersLoop q n (loopCount q c imm cnt) (loopResidue q c imm (loopCount q c imm cnt)))) := by
  rw [loop_joined h hfits (fun hzero => absurd hzero hne), if_neg (by simpa using hne)]

theorem loop_leaves (hzero : loopCount q c imm cnt = 0) (hin : (q.target off).toNat < 2 ^ 48) :
    exec (.loop n off c imm cnt) s = .next (q.joined (.loop n off c imm cnt) ((q.writeLc n 0 none).jump true (q.target off))) := by
  rw [loop_joined h (by rw [hzero]; decide) (fun _ => hin), if_pos (by simpa using hzero)]

theorem loop_beyond (hzero : loopCount q c imm cnt = 0) (hout : 2 ^ 48 ≤ (q.target off).toNat) :
    exec (.loop n off c imm cnt) s = s.trapped { cause := 5, addr := q.target off } := by
  refine (exec_loop ..).trans (runSlot_trapped h (check_error ?_))
  change firstStop [stopIf (2 ^ 32 ≤ (loopCount q c imm cnt).toNat) trapOperand, targetStop (loopCount q c imm cnt == 0) _] = _
  rw [hzero]
  exact congrArg (fun x => firstStop [none, x]) (targetStop_beyond hout)

theorem loop_overflows (hbig : 2 ^ 32 ≤ (loopCount q c imm cnt).toNat) : exec (.loop n off c imm cnt) s = s.trapped { cause := 3 } := by
  have hne : loopCount q c imm cnt ≠ 0 := by
    intro hzero
    rw [hzero] at hbig
    exact absurd hbig (by decide)
  refine (exec_loop ..).trans (runSlot_trapped h (check_error ?_))
  change firstStop [stopIf (2 ^ 32 ≤ (loopCount q c imm cnt).toNat) trapOperand, targetStop (loopCount q c imm cnt == 0) _] = _
  rw [beq_eq_false_iff_ne.2 hne, decide_eq_true hbig]
  rfl
end Loop

/-- The residue beside a loop counter as ENDL reads it: of the value where a result is on its way to it (R348). -/
def lcResidue (q : Bun) (n : BitVec 2) (lc : BitVec 32) : Nat :=
  if q.strand.inflight.all (fun l => l.dst != .lc n.toNat) then q.strand.residueAt (48 + n.toNat) lc.toNat else res lc.toNat

section Endl
variable (h : s.AtSlot (.endl n off) q)
include h

theorem endl_goes_back (hne : q.strand.readLc n.toNat ≠ 0) (hin : (q.target off).toNat < 2 ^ 48) :
    exec (.endl n off) s = .next (q.joined (.endl n off)
      ((q.writeLc n (q.strand.readLc n.toNat - 1) (some (predictSub (lcResidue q n (q.strand.readLc n.toNat)) 1 (q.strand.readLc n.toNat).toNat 1))).jump
        true (q.target off))) :=
  (exec_endl ..).trans (runSlot_joined h ((check_one (targetStop_reached hin _)).trans (congrArg Except.ok (if_pos (bne_iff_ne.2 hne)))))

theorem endl_beyond (hne : q.strand.readLc n.toNat ≠ 0) (hout : 2 ^ 48 ≤ (q.target off).toNat) :
    exec (.endl n off) s = s.trapped { cause := 5, addr := q.target off } := by
  refine (exec_endl ..).trans (runSlot_trapped h ?_)
  dsimp only
  rw [bne_iff_ne.2 hne]
  exact check_beyond hout

theorem endl_falls_through (hzero : q.strand.readLc n.toNat = 0) : exec (.endl n off) s = .next (q.joined (.endl n off) q) := by
  refine (exec_endl ..).trans (runSlot_joined h ?_)
  dsimp only
  rw [hzero]
  rfl
end Endl
end

/-- Settles O12: LOOP checks its count and, where it leaves, its target; ENDL its target where it goes back. -/
theorem hardwareLoops : Obligations.HardwareLoops := fun _ _ _ _ _ _ _ =>
  ⟨fun h => ⟨loop_enters h, loop_leaves h, loop_beyond h, loop_overflows h⟩,
    fun h => ⟨endl_goes_back h, endl_beyond h, endl_falls_through h⟩⟩

end Sys2Proof.Proofs
end

section
/-! What a step runs: an event, a micro-op, the bundle of one slot of a core's one candidate (R60, R62, R153, R157, R433). -/
namespace Sys2Proof.Proofs
open Sys2Proof Sys2Proof.Machine Sys2Proof.Laws

/-! ### The head of the agenda -/

section
variable {s : State} {t : Turn} {rest : List Turn} (h : s.agenda = t :: rest)
include h

theorem step_takes (hfree : t.isHostWrite = false ∨ s.hreg 0x3830 = 0) : step s = ({ s with agenda := rest } : State).take t := by
  unfold step State.turn
  rw [h]
  exact if_neg (by rcases hfree with hw | hi <;> simp [*])

theorem step_invalidates_first (hwrite : t.isHostWrite = true) (hbusy : s.hreg 0x3830 ≠ 0) : step s = s.take (.event .invalidationComplete) := by
  unfold step State.turn
  rw [h]
  exact if_pos (by simpa [hwrite] using hbusy)

/-- A turn that the host does not make gives the step its outcome, and time passes. -/
theorem step_next {u : State} (hmine : t.isHostWrite = false) (hrun : t.run { s with agenda := rest } = .next u) :
    step s = .next (u.tick s.outbox.length) := by
  rw [step_takes h (.inl hmine), State.take, hrun]
  rfl
end

/-! ### The turn of a matrix engine -/

theorem microTurn_runs {s : State} {c : Nat} {o : MatrixOp} {w : BitVec 64} {i : Instr} (ho : (s.core c).mq.find? (·.running) = some o)
    (hw : o.words[o.at_]? = some w) (hi : decodeMicro w = .ok i) (hmay : s.mayRunOp c o = true) (htorn : o.routine ∉ (s.core c).tornWords) :
    s.microTurn c = exec i { s with cursor := some (microCursor c) } := by
  unfold State.microTurn
  simp [ho, hw, hi, hmay, htorn]

/-! ### The slots of a bundle -/

/-- The first slot of those left runs the instruction its word stands for, then the others run (R62). -/
theorem runSlots_cons {s : State} {k : Cursor} {p : Staged} {ps : List Staged} {r : Reading} (hk : s.cursor = some k)
    (hr : readSlot (slotClass p.slot) p.word p.parcel = some r) :
    s.runSlots (p :: ps) = andThen (exec r.instr { s with cursor := some (k.atSlot p r.defect) }) (fun u => u.runSlots ps) := by
  rw [State.runSlots, State.runStaged]
  simp only [hk, hr]

/-! ### The issue turn of a core -/

section
variable {s s1 s2 : State} {c x len wcnt : Nat} {t : Strand} {l : List Staged} {k : Cursor} (ht : s.strand c x = some t)
  (hf : s.fetch c t = (s1, .bundle l len wcnt)) (hrun : (s1.openBundle c x t len wcnt).runSlots l = .next s2) (hk : s2.cursor = some k)
include ht hf hrun hk

theorem examine_ready (hv : k.verdict = .go) : s.examine c x = .ready s2 k := by
  unfold State.examine
  simp only [ht, hf, hrun, hk, hv]

theorem examine_trapped {j : TrapInfo} (hv : k.verdict = .trap j) : s.examine c x = .trapped j := by
  unfold State.examine
  simp only [ht, hf, hrun, hk, hv]
end

/-- Of strands that all stand in one context, that context is chosen. -/
theorem choose_only {k : Core} {x : Nat} {l : List (Nat × Strand)} (hl : ∀ e ∈ l, e.1 = x) (hne : l ≠ []) : k.choose l = some x := by
  obtain ⟨e, r, rfl⟩ := List.exists_cons_of_ne_nil hne
  obtain ⟨he, hr⟩ := List.forall_mem_cons.1 hl
  clear hl hne
  unfold Core.choose
  rw [List.foldl_cons]
  dsimp only
  induction r generalizing e with
  | nil => exact congrArg some he
  | cons y r ih =>
    obtain ⟨hy, hr⟩ := List.forall_mem_cons.1 hr
    rw [List.foldl_cons]
    dsimp only
    split
    · exact ih y hy hr
    · exact ih e he hr

theorem examOf_alone (x y : Nat) (e : Exam) : examOf [(x, e)] y = if x = y then e else .idle := by
  by_cases h : x = y <;> simp [examOf, h]

theorem firstFailure_ready {x : Nat} {e : Exam} (hready : e.isReady = true) : firstFailure [(x, e)] = none := by
  cases e with
  | ready | trapped => rfl
  | idle | stalled | stopped | refused => cases hready

/-- The one ready strand of a core is chosen (R277). -/
theorem choose_alone {s : State} {c x : Nat} {t : Strand} {e : Exam} (ht : s.strand c x = some t) (hready : e.isReady = true) :
    (s.core c).choose ((s.core c).ctxs.filter (fun y => (examOf [(x, e)] y.1).isReady)) = some x := by
  refine choose_only (fun y hy => ?_) (List.ne_nil_of_mem (List.mem_filter.2 ⟨mem_of_find? ht, ?_⟩))
  · obtain ⟨-, hyr⟩ := List.mem_filter.1 hy
    by_contra hne
    rw [examOf_alone, if_neg (Ne.symm hne)] at hyr
    cases hyr
  · rw [examOf_alone, if_pos rfl]
    exact hready

/-- Where one strand alone is examined and is ready, the core's turn is its issue or its trap (R35, R277). -/
theorem issueTurn_alone {s s0 u : State} {c x : Nat} {t : Strand} {e : Exam} (hb : s.beginCycle c = s0) (hc : s0.candidates c = [x])
    (ht : s0.strand c x = some t) (he : s0.examine c x = e) (hready : e.isReady = true) (hu : s0.issueOne c x e = u) :
    s.issueTurn c = .next u := by
  subst hu
  unfold State.issueTurn
  simp only [hb, hc, List.map_cons, List.map_nil, he, firstFailure_ready hready, choose_alone ht hready]
  simp [examOf_alone]

/-- Settles O54: the turn at the head of the agenda is taken, and each kind of turn runs what it decodes. -/
theorem stepRunsDecoded : Obligations.StepRunsDecoded := by
  intro s s1 s2 c x len wcnt i rest o w t p ps r k j now began opened here slot alone
  have alone_runs (h : alone) : s.agenda = .issue c :: rest ∧ began.candidates c = [x] ∧ began.strand c x = some t ∧
      began.fetch c t = (s1, .bundle [p] len wcnt) ∧ opened.runSlots [p] = .next s2 ∧ s2.cursor = some k := by
    obtain ⟨hturn, hc, ht, hf, hr, rfl, hexec, hk⟩ := h
    refine ⟨hturn, hc, ht, hf, ?_, hk⟩
    rw [runSlots_cons (s := opened) (k := here) rfl hr]
    exact congrArg (andThen · _) hexec
  have hb : now.beginCycle c = began := rfl
  clear_value began
  refine ⟨fun h hfree => step_takes h hfree, fun h hwrite hbusy => step_invalidates_first h hwrite hbusy,
    fun h ho hw hi hmay htorn => ?_, fun h hv => ?_, fun h hv => ?_, fun hr => runSlots_cons rfl hr⟩
  · rw [step_takes h (.inl rfl), State.take, Turn.run, microTurn_runs (s := now) ho hw hi hmay htorn]
  · obtain ⟨hturn, hc, ht, hf, hrun, hk⟩ := alone_runs h
    have hissues : now.issueTurn c = .next (s2.commit k) := issueTurn_alone hb hc ht (examine_ready ht hf hrun hk hv) rfl rfl
    exact step_next hturn rfl hissues
  · obtain ⟨hturn, hc, ht, hf, hrun, hk⟩ := alone_runs h
    have htraps : now.issueTurn c = .next (began.trapBundle c x j) := issueTurn_alone hb hc ht (examine_trapped ht hf hrun hk hv) rfl rfl
    exact step_next hturn rfl htraps

end Sys2Proof.Proofs
end

section
/-! O52: its clause of a result of bound 1 is of every strand, also of one whose table of registers lists a register twice. A result
of 0 takes away the first entry of such a register, and the second stands. -/
namespace Sys2Proof.Proofs
open Sys2Proof Sys2Proof.Machine Sys2Proof.Laws

/-- The machine whose one strand is `twiceListed`, which lists s24 twice. -/
def twiceListedStands : State := State.reset.setStrand 0 0 twiceListed

/-- A result of 0 for s24, of bound 1. -/
def zeroResult : Landing := { dst := .reg 24, val := 0, due := 1 }

/-- A bundle of that strand that writes it and does nothing else. -/
def writesZero : Cursor := { microCursor 0 with writes := [zeroResult] }

theorem rising_twiceListedStands : Tab.rising twiceListedStands.cores = true := by decide

theorem strand_twiceListedStands : twiceListedStands.strand 0 0 = some twiceListed := by
  unfold twiceListedStands
  rw [strand_setStrand rfl, if_pos ⟨rfl, rfl⟩]

theorem zeroResult_reads_zero : zeroResult.val.setWidth 64 = (0 : Word) := BitVec.setWidth_zero ..

theorem commit_keeps_second : ((twiceListedStands.commit writesZero).strand 0 0).map (fun v => v.reg 24) = some 1 := by decide +kernel

/-- Refutes O52: the statement says of every strand that a result of bound 1 stands in its register, with no premise on its table of
registers. `twiceListed` lists s24 twice with value 1; a result of 0 for s24 takes the register's first entry out of the table, so
that s24 reads 1 from the second. With rising keys of the strand's registers as a premise this counterexample is gone. -/
theorem not_bundleFrame : ¬ Obligations.BundleFrame := by
  unfold Obligations.BundleFrame
  intro h
  obtain ⟨⟨u, hu, -, -, -, -, -, -, -, -, -, hresult⟩, -⟩ :=
    h twiceListedStands writesZero twiceListed rising_twiceListedStands (by decide) strand_twiceListedStands rfl rfl rfl rfl
  have hzero : u.reg 24 = zeroResult.val.setWidth 64 :=
    hresult [] zeroResult [] 24 rfl rfl (by decide) rfl (by decide) (by simp) (by simp [writesZero, microCursor]) (by simp [twiceListed])
  have hone : some (u.reg 24) = some 1 := (congrArg (Option.map (fun v : Strand => v.reg 24)) hu).symm.trans commit_keeps_second
  rw [Option.some.inj hone, zeroResult_reads_zero] at hzero
  exact absurd hzero (by decide)

end Sys2Proof.Proofs
end
